-- ==== Sys2Proof/Word.lean ====
section
/-!
DEFINITION. The word and byte types of the SY512's register and memory model, and their plainest arithmetic.

A register access moves one aligned 32-bit word (R28); memories are addressed by bytes.
-/

namespace Sys2Proof

/-- One register word (R28). -/
abbrev Word := BitVec 32

/-- One byte of a memory. -/
abbrev Byte := BitVec 8

/-- The word that a natural number spells, modulo 2^32. -/
def Word.ofNat (n : Nat) : Word := BitVec.ofNat 32 n

/-- `b` as the numeral 0 or 1. -/
def bit (b : Bool) : Nat := if b then 1 else 0

/-- Bit `i` of a natural number. -/
def testBit (n i : Nat) : Bool := n / 2 ^ i % 2 == 1

/-- `n` with bit `i` set to `b`. -/
def setBit (n i : Nat) (b : Bool) : Nat :=
  if b then (if testBit n i then n else n + 2 ^ i)
  else (if testBit n i then n - 2 ^ i else n)

/-- The two's complement reading of the low `w` bits of `n`. -/
def signed (w n : Nat) : Int :=
  let m := n % 2 ^ w
  if 2 * m < 2 ^ w then (m : Int) else (m : Int) - (2 ^ w : Nat)

/-- The low `w` bits of an integer, as a natural number (two's complement). -/
def unsigned (w : Nat) (i : Int) : Nat := (i % ((2 ^ w : Nat) : Int)).toNat

/-- `x` limited to the closed range from `lo` to `hi` (the clamp of spec/00, Pseudocode). -/
def clampNat (lo hi x : Nat) : Nat := if x < lo then lo else if hi < x then hi else x

/-- `x` limited to the closed range from `lo` to `hi`. -/
def clampInt (lo hi x : Int) : Int := if x < lo then lo else if hi < x then hi else x

/-- `a / b` rounded half away from zero, for a positive `b` (the round of spec/00, Pseudocode). -/
def roundDiv (a : Int) (b : Nat) : Int :=
  if 0 ≤ a then (2 * a + b) / (2 * b) else -((2 * (-a) + b) / (2 * b))

end Sys2Proof
end

