-- ==== Sys2Proof/Syntax.lean ====
section
/-!
DEFINITION. The commands of the SY512 block: one constructor per row of spec/opcode_table.json, with the operands that reach the device from outside.

A command is a register access, an event on a pin, a received cell or frame, or an instant that the device's own clocks and
self-timed stages reach. The table gives no row any bits; an operand carries what the outside world decides: an address, a
value, a payload, a measured quantity, an instant.
-/

namespace Sys2Proof.Machine

/-! ### Operands of register accesses (spec/02) -/

/-- One operation of a DAP request or of a tunnel cell (R50, R194): `op` is 1 read, 2 write, 3 fence. -/
structure AccessOp where
  op : Nat
  addr : Nat
  data : Word
  deriving DecidableEq, Repr

/-- The answer to one operation (R50): its status under R47 and, of a read, the word. -/
structure OpResult where
  status : Nat
  addr : Nat
  data : Word
  deriving DecidableEq, Repr

/-- The header of a DAP packet as it arrives, with the addresses it came from (R118) and the UDP port it is addressed to (R50). The bytes of
RETRY and STATUS and the reserved byte say nothing in a request. -/
structure DapHeader where
  srcMac : Nat
  srcIp : Nat
  udp : Nat
  magic : Nat
  version : Nat
  type : Nat
  session : Nat
  seq : Nat
  count : Nat
  target : Nat
  deriving DecidableEq, Repr

/-- A DAP packet that the device sends (R50): a response, or the reply to an open, and the addresses it goes to (R118). -/
structure DapReply where
  mac : Nat
  ip : Nat
  type : Nat
  session : Nat
  seq : Nat
  retry : Nat
  status : Nat
  target : Nat
  results : List OpResult
  deriving DecidableEq, Repr

/-! ### Cells of KorovLink (spec/07) -/

/-- The schedule of one view in a stroke marker, in µs (R190, R103). -/
structure ViewSched where
  start : Nat
  expStart : Nat
  expLen : Nat
  deriving DecidableEq, Repr

/-- A STROKE cell (R190): `accum` is in 1/16 ns. -/
structure StrokeCell where
  stroke : Nat
  tk : Nat
  accum : Nat
  length : Nat
  unchanged : Bool
  views : List ViewSched
  deriving DecidableEq, Repr

/-- A COX cell (R191). -/
structure CoxCell where
  senderId : Nat
  epoch : Nat
  stroke : Nat
  port : Nat
  relay : Bool
  deriving DecidableEq, Repr

/-- A VIDEO cell (R192): view, cell number, destination and 64 samples. -/
structure VideoCell where
  view : Nat
  index : Nat
  pos : Nat
  samples : List Nat
  deriving DecidableEq, Repr

/-- A cue entry (R106), with the fields of its 64 bytes; `data` holds the eight words at 0x10. -/
structure CueEntry where
  stroke : Nat
  action : Nat
  count : Nat
  attr : Nat
  target : Nat
  tag : Nat
  addr : Nat
  data : List Word
  deriving DecidableEq, Repr

/-- A TUNREQ cell (R194): tag, destination, and up to 15 operations. On the cross-link `chain` says which chain port it is passed on for (R339); a
cell on a chain has 0. -/
structure TunreqCell where
  tag : Nat
  pos : Nat
  bcast : Bool
  ops : List AccessOp
  chain : Nat
  deriving DecidableEq, Repr

/-- A TUNRSP cell (R194): tag, source, and the answers. -/
structure TunrspCell where
  tag : Nat
  pos : Nat
  results : List OpResult
  deriving DecidableEq, Repr

/-- An IMAGE cell (R195): `bcast` or a destination `pos`. -/
structure ImageCell where
  pos : Nat
  bcast : Bool
  xfer : Nat
  kind : Nat
  offset : Nat
  data : List Byte
  deriving DecidableEq, Repr

/-- The picture check results of a HEALTH cell (R230). -/
structure HealthCheck where
  valid : Nat
  drvFail : Nat
  drvValid : Nat
  gen : Nat
  shown : Nat
  crcs : List Word
  regions : List Nat
  deriving DecidableEq, Repr

/-- A HEALTH cell (R196). -/
structure HealthCell where
  pos : Nat
  stroke : Nat
  lastFull : Nat
  hold : Bool
  split : Bool
  coxA : Bool
  coxB : Bool
  anyFault : Bool
  commitRefused : Bool
  temp : Int
  cueFree : Nat
  epoch : Nat
  senderId : Nat
  blockAny : Nat
  check : HealthCheck
  deriving DecidableEq, Repr

/-- An ENUMR cell (R197): `pos` and `hopsB` read 0xFF for none; `rates` is the RATES byte. -/
structure EnumrCell where
  unitId : Nat
  tw : Nat
  th : Nat
  prim : Nat
  pos : Nat
  hopsB : Nat
  rates : Nat
  fwver : Nat
  deriving DecidableEq, Repr

/-- A TRAIN link cell (R198): requests and statuses for c(-1) and c(+1), READY and the lane. -/
structure TrainCell where
  reqPre : Nat
  reqPost : Nat
  statPre : Nat
  statPost : Nat
  ready : Bool
  lane : Nat
  deriving DecidableEq, Repr

/-- A CAP link cell (R198): a rate code, or 0xFF for none, in `propose` and `ack`. -/
structure CapCell where
  cap : Nat
  propose : Nat
  ack : Nat
  deriving DecidableEq, Repr

/-! ### Resets, start-up, time (spec/03, spec/04) -/

/-- The causes of a warm restart in R67. -/
inductive WarmCause where
  | software | watchdog | regatta
  deriving DecidableEq, Repr

/-- A DRAM channel as bring-up finds it (R299, R300, R305): whether it answers, its capacity in GB and die density in Gb, its
mode-register identity, and whether full training would pass its eye-margin check. -/
structure ChannelFound where
  answers : Bool
  capGb : Nat
  densGb : Nat
  ident : Nat
  eyesOk : Bool
  deriving DecidableEq, Repr

/-- A fault that a march test finds in a memory group (R388): KIND 0 row, 1 column, its bank and its address. -/
structure BistFault where
  kind : Nat
  bank : Nat
  addr : Nat
  deriving DecidableEq, Repr

/-- How the test of a memory group comes out (R388): the faults that its march finds, and whether the retest passes once spares cover them. -/
structure GroupTest where
  group : Nat
  faults : List BistFault
  retestOk : Bool
  deriving DecidableEq, Repr

/-- What the firmware meets when it brings the blocks of the role up at STAGE 5: the DRAM channels, and how the start
tests of R383 come out; a group not named passes. -/
structure StartEnv where
  channels : List ChannelFound
  tests : List GroupTest
  deriving DecidableEq, Repr

/-- A PTP message as it bears on the servo (R90, R91). An Announce carries its data set in the order of comparison of
the best master clock algorithm; a Sync, with its Follow_Up where it is two-step, carries the difference of its receive timestamp, before the
port's latency is taken into account, and the master's; a delay response the sum of the two one-way differences; a Pdelay_Req asks for an answer. -/
inductive PtpMessage where
  | announce (domain : Nat) (dataset : List Nat)
  | sync (dataset : List Nat) (raw : Int)
  | delay (dataset : List Nat) (both : Int)
  | pdelayReq
  deriving DecidableEq, Repr

/-- What composition of a stroke meets in DRAM besides the sender's own state (R315): blocks of the user space, by address, whose
read found an error that was corrected, and blocks whose read found an uncorrectable one, each with its syndrome. -/
structure ComposeEnv where
  corrected : List (Nat × Nat)
  poisoned : List (Nat × Nat)
  deriving DecidableEq, Repr

/-- What a frame received on MP is to the consumers of R129: a UDP datagram to a port, a PTP message, a frame that the MC takes
(ARP, ICMP echo, IGMP), an LLDP frame with the wake times in µs that its EEE TLV leads to, or any other frame. A PTP message is an event
message or a general one (R86). -/
inductive MpKind where
  | udp (port : Nat)
  | ptp (event : Bool)
  | mc
  | lldp (txWake rxWake : Nat)
  | other
  deriving DecidableEq, Repr

/-- The destination of a received frame (R128). -/
inductive FrameDest where
  | unicast | multicast | broadcast
  deriving DecidableEq, Repr

/-- A sample row data header with its bytes (R139). -/
structure Srd where
  row : Nat
  offset : Nat
  data : List Byte
  deriving DecidableEq, Repr

/-- A video packet as it arrives (R139): where it came in, its addresses, RTP fields, extended sequence number and SRDs, its
octets on the wire with the FCS, and whether the FCS is good. -/
structure VideoPacket where
  port : Nat
  sublink : Nat
  dst : Nat
  src : Nat
  udp : Nat
  version : Nat
  pt : Nat
  marker : Bool
  rtp : Nat
  ext : Nat
  octets : Nat
  fcsOk : Bool
  srds : List Srd
  deriving DecidableEq, Repr

/-- Whether a received cell is sound (R189). -/
inductive CellDamage where
  | none | crc | framing
  deriving DecidableEq, Repr

/-- What the checks of R288 find: VLED_SENSE in mV, the timebase phase error within 0.5 step, the reference current's deviation in 0.01 %,
VDDA_SNK within 3 % of nominal, and the spread of the eight sensors' raw readings in 1/16 °C. -/
structure CalEnv where
  vled : Nat
  phaseOk : Bool
  iset : Int
  vddaOk : Bool
  spread : Nat
  deriving DecidableEq, Repr

/-- A journal record (R326, R327): the fields of its first unit and the bytes of the following units. -/
structure JournalRec where
  kind : Nat
  init : Nat
  target : Nat
  addr : Nat
  flags : Nat
  data : Nat
  extra : List Byte
  deriving DecidableEq, Repr

/-- A PAIR cell (R321). -/
structure PairCell where
  senderId : Nat
  epoch : Nat
  stroke : Nat
  state : Nat
  xlink : Bool
  cold : Bool
  crewreq : Bool
  crewack : Bool
  prefer : Bool
  lcs : Nat
  jfmt : Nat
  split : Nat
  jseq : Nat
  crewstroke : Nat
  validto : Nat
  digests : List Word
  fwver : Nat
  config : Nat
  deriving DecidableEq, Repr

/-- A YIELD cell (R322). -/
structure YieldCell where
  senderId : Nat
  epoch : Nat
  stroke : Nat
  source : Nat
  deriving DecidableEq, Repr

/-- A cell that reaches a sender's chain port from the chain end (R332, R336). -/
inductive EndCell where
  | stroke (c : StrokeCell)
  | cox (c : CoxCell)
  deriving DecidableEq, Repr

/-- A LINK cell (R198): TRAIN, CAP, DLYREQ, or DLYRSP with its TURN in 1/16 ns. -/
inductive LinkCell where
  | train (c : TrainCell)
  | cap (c : CapCell)
  | dlyreq
  | dlyrsp (turn : Nat)
  deriving DecidableEq, Repr

/-- A cell of KorovLink with the fields of its payload (R189): `seq` is the INDEX of a LINK cell, `index` that of ENUM and ENUMR, and a JOURNAL
cell carries its FIRSTSEQ, the stroke of its first record and its records (R327). -/
inductive Cell where
  | link (seq : Nat) (c : LinkCell)
  | stroke (c : StrokeCell)
  | cox (c : CoxCell)
  | yield (c : YieldCell)
  | pair (c : PairCell)
  | journal (first stroke : Nat) (records : List JournalRec)
  | video (c : VideoCell)
  | cue (pos : Nat) (bcast : Bool) (entries : List CueEntry)
  | tunreq (c : TunreqCell)
  | tunrsp (c : TunrspCell)
  | image (c : ImageCell)
  | health (c : HealthCell)
  | enumerate (index nexp : Nat)
  | enumr (index : Nat) (c : EnumrCell)
  deriving DecidableEq, Repr

end Sys2Proof.Machine

namespace Sys2Proof

open Machine

/-- The commands, in the order of spec/opcode_table.json. -/
inductive Instr where
  /-- REGISTER_WRITE (R448). A write to a register that has no behaviour of its own stores the value in range, or the nearer limit, under the ordering of R44. -/
  | registerWrite (init addr : Nat) (data : Word)
  /-- SPI_WRITE (R49). SPI command 0x02 writes a burst of words, stopping at the first word that fails, and returns STATUS and COUNT. -/
  | spiWrite (addr : Nat) (words : List Word) (room : Nat)
  /-- SPI_READ (R49). SPI command 0x0B captures LEN words in one pass after wait bytes and returns STATUS and the words. -/
  | spiRead (addr len clocked : Nat)
  /-- SPI_QUAD_WRITE (R48). SPI command 0x32 performs a write burst with address, data and status on four lines. -/
  | spiQuadWrite (addr : Nat) (words : List Word) (room : Nat)
  /-- SPI_QUAD_READ (R48). SPI command 0x6B performs a read burst with address, data and status on four lines. -/
  | spiQuadRead (addr len clocked : Nat)
  /-- DAP_OPEN (R51). A DAP open packet assigns one of eight sessions, or is answered BUSY when all are in use. -/
  | dapOpen (header : DapHeader)
  /-- DAP_REQUEST (R53). A DAP request is checked for SEQ and queue space, then executed in order, answered from the stored response, or refused BUSY or STALE. -/
  | dapRequest (header : DapHeader) (ops : List AccessOp) (queued : Nat)
  /-- DAP_CLOSE (R50). A DAP close packet ends a session and frees it. -/
  | dapClose (header : DapHeader)
  /-- DAP_SESSION_TIMEOUT (R51). A session with no request for 10 s is closed. -/
  | dapSessionTimeout (session : Nat)
  /-- TUNNEL_TIMEOUT (R55). A tunnel operation that gets no answer within 4 ms is answered TIMEOUT. -/
  | tunnelTimeout (tag : Nat)
  /-- FENCE_WRITE (R46). A write of DEV.FENCE places a fence among the initiator's accesses. -/
  | fenceWrite (init : Nat) (data : Word)
  /-- FENCE_READ (R46). A read of DEV.FENCE places a fence and waits until every earlier write of the initiator is visible. -/
  | fenceRead (init : Nat)
  /-- FENCE_READ_COMPLETE (R46). A fence read returns its count once every earlier write of the initiator has become visible. -/
  | fenceReadComplete (init : Nat)
  /-- COMMIT_GO (R35). A write of COMMIT with GO accepts a commit, checks ranges, budgets and lateness, and sets the target stroke or refuses the commit. -/
  | commitGo (init page : Nat) (atStroke dropLate : Bool)
  /-- COMMIT_CANCEL (R39). A write of COMMIT with CANCEL discards a pending commit and returns STATE to idle. -/
  | commitCancel (init page : Nat)
  /-- BLKRESET (R39). A write of 1 to PAGE_CTRL.BLKRESET resets the block's registers, refuses any pending commit with REASON 6 and opens a masking window. -/
  | blkreset (init page : Nat)
  /-- SNAP_REQ (R41). A write of SNAP with REQ requests a capture of the page's SNP fields at the next stroke boundary. -/
  | snapReq (init page : Nat) (auto : Bool)
  /-- LATCH_INSTANT (R33). At the latch instant each pending commit for the prepared stroke is validated again and captured, with the group rule applied. -/
  | latchInstant (stroke : Nat)
  /-- PROFWDATA_WRITE (R60). A word written to DEV.PROFWDATA goes to the older slot of the profile, and WORD advances. -/
  | profwdataWrite (init : Nat) (data : Word)
  /-- PROFILE_COMMIT_SLOT (R60). PROFCMD OP 2 checks the written slot and, if valid, writes SEQ so that the slot becomes the profile. -/
  | profileCommitSlot (init prof key : Nat)
  /-- PROFILE_SWITCH_REQUEST (R64). PROFCMD OP 1 arms a switch to the named profile at a target stroke, or refuses it with a RESULT code. -/
  | profileSwitchRequest (init prof key : Nat)
  /-- PROFILE_INVALIDATE (R57). PROFCMD OP 3 invalidates both slots of the profile. -/
  | profileInvalidate (init prof key : Nat)
  /-- PROFILE_SWITCH (R65). At the target boundary the budgets are checked again, and the blocks whose fields differ are restarted with the new profile. -/
  | profileSwitch
  /-- POWER_ON (R67). VDD_AON rising through its reset level causes a full reset that selects the profile from the pins. -/
  | powerOn
  /-- RESET_N_PIN (R67). RESET_N held low for at least 1 µs causes a full reset, or ends a thermal shutdown under R375. -/
  | resetNPin
  /-- SUPPLY_RESET (R76). A rail below its reset level for 0.5 µs causes a full reset, held until every rail has recovered for 1 ms. -/
  | supplyReset (rail lowest : Nat)
  /-- RESET_RELEASE (R76). The supervisor hold ends, or RESET_N is released, and the start-up sequence begins. -/
  | resetRelease (pins vddioFr : Nat)
  /-- RSTCTL_FULL (R67). A keyed write of DEV.RSTCTL with KIND full causes a full reset from the pins or from PROF. -/
  | rstctlFull (init key : Nat) (profSrc : Bool) (prof : Nat)
  /-- RSTCTL_WARM (R67). A keyed write of DEV.RSTCTL with KIND warm causes a warm restart with the profile in force. -/
  | rstctlWarm (init key : Nat)
  /-- WARM_RESTART (R69). A warm restart resets the MC and the blocks outside the hold-through set, holds DRAM in self-refresh and runs chuck again. -/
  | warmRestart (cause : WarmCause)
  /-- MC_WATCHDOG (R67). The MC watchdog, left unserviced for 500 ms, causes a warm restart. -/
  | mcWatchdog
  /-- HOLD_THROUGH_EXPIRY (R70). A warm restart that has not reached STAGE 7 within 10 s in a tile or 2 s in a sender becomes a full reset with HTEXPIRE. -/
  | holdThroughExpiry
  /-- TAP_RESET (R67). TMS held high for 5 TCK, or TRST_N low, resets the test access port controller. -/
  | tapReset
  /-- CHUCK_BOOT (R72). At the end of a full or warm reset, chuck reads fuses and the event store, brings up the flash, and chooses, loads and verifies the image, or holds. -/
  | chuckBoot (flash : Bool) (refclk : Bool)
  /-- FLASH_NO_ANSWER (R72). If the boot flash does not answer within 100 ms, chuck holds with FAIL 4. -/
  | flashNoAnswer
  /-- FIRMWARE_START (R72). The MC starts the firmware at 400 MHz, which takes the profile, powers the blocks of the role and applies SETTINGS-CURRENT. -/
  | firmwareStart (env : StartEnv)
  /-- ENTER_SERVICE (R75). At the first qualifying catch, or at the first video cells, the unit reaches STAGE 7 and records LASTGOOD and BOOTSTAT.TIME. -/
  | enterService (ms : Nat)
  /-- SUPPLY_WARNING (R78). A rail below its warning level for 2 µs freezes lamp drive or composition and queues non-volatile writes. -/
  | supplyWarning (rail lowest : Nat)
  /-- SUPPLY_WARNING_CLEAR (R78). Once every rail has stood above its recovery level for 100 µs, the queued writes are issued and service resumes at the next boundary. -/
  | supplyWarningClear (duration : Nat)
  /-- VCORE_ADAPT_STEP (R18). Once per stroke the adaptive loop adjusts the VCORE setpoint over PMBus from the worst slack fraction. -/
  | vcoreAdaptStep (underrun : Bool) (slackNum slackDen : Nat) (answered : Bool) (vnow : Nat)
  /-- TIM_RATE_WRITE (R82). A write of TIM.RATE folds the correction into the offset and rebases the rate, clamped to ±500 ppm. -/
  | timRateWrite (init : Nat) (rate : Word)
  /-- TIM_STEP (R83). STEPCMD GO adds the signed delta to the offset, or refuses it as a jump beyond JUMPLIM. -/
  | timStep (init : Nat) (force : Bool)
  /-- TXQ_POP (R88). A write of TXQPOP removes the oldest transmit timestamp entry. -/
  | txqPop (init queue : Nat)
  /-- PTP_TX_TIMESTAMP (R88). A frame sent with a timestamp request is timestamped as it leaves and queued, or the timestamp is lost when the queue is full. -/
  | ptpTxTimestamp (queue : Nat)
  /-- PTP_MESSAGE_RX (R91). A received Sync, Announce or delay message updates master selection and the servo state. -/
  | ptpMessageRx (port octets : Nat) (dest : FrameDest) (msg : PtpMessage)
  /-- PTP_HOLDOVER (R91). No Announce or Sync for 3 announce intervals puts the servo in holdover with the last rate kept. -/
  | ptpHoldover
  /-- SENDER_CATCH (R95). At a sender's catch the generator measures err and sets the length of the coming stroke. -/
  | senderCatch
  /-- FRAMEREF_IN_EDGE (R94). An active edge of FRAMEREF_IN, or a rising edge of SHUT0, is validated as a reference for the stroke cadence. -/
  | framerefInEdge (source : Nat) (rising : Bool) (instant : Int)
  /-- REFLOST (R94). Three strokes without a valid reference edge set REFLOST, and the generator flywheels. -/
  | reflost
  /-- SHUT_EDGE (R101). An edge of SHUTn updates the averaged phase and width of its camera exposure. -/
  | shutEdge (input : Nat) (rising : Bool) (instant : Int)
  /-- SHUTLOST (R101). A SHUTn input with no edge for 3 strokes keeps its values and sets SHUTLOST. -/
  | shutlost (input : Nat)
  /-- COMPOSE_LEAD_POINT (R97). At the compose lead point the sender latches commits, layers and flow frames, checks the view schedule and starts composition. -/
  | composeLeadPoint (stroke : Nat) (env : ComposeEnv)
  /-- STROKE_MARKER_LAUNCH (R204). 200 µs before T(k) the sender launches STROKE and COX cells on every chain port in service. -/
  | strokeMarkerLaunch
  /-- STROKE_CELL_RX (R204). A tile receives a STROKE cell, adds the link delay, places its catch and forwards the cell with the residence time added. -/
  | strokeCellRx (port lane : Nat) (cell : StrokeCell) (arrival departure : Nat) (damage : CellDamage)
  /-- MARKER_MISSING (R99). When a marker has not arrived by its catch, the tile places the catch one stroke length on and counts MISSED. -/
  | markerMissing
  /-- CUE_PUSH (R108). CUE.PUSH GO checks the assembled entry and inserts it in the queue, or refuses it as full or malformed. -/
  | cuePush (init : Nat)
  /-- CUE_CANCEL (R112). CUE.CANCEL GO removes every queued cue with the given TAG and reports the number removed. -/
  | cueCancel (init tag : Nat)
  /-- CUE_EXECUTE_PREPARING (R109). In the preparing window a cue's commit, snapshot and shadow-range writes execute. -/
  | cueExecutePreparing
  /-- CUE_EXECUTE_BOUNDARY (R109). From the boundary that begins S, a cue's other writes execute, and a late cue executes whole. -/
  | cueExecuteBoundary
  /-- CUE_DISTRIBUTE (R111). A sender sends a tile-addressed cue once S is within DISTLEAD strokes and every addressed tile has a credit. -/
  | cueDistribute (tilesLatched : Nat)
  /-- CUE_CELL_RX (R111). A tile inserts the cue entries of a CUE cell from its serving port in its own queue and judges lateness. -/
  | cueCellRx (port lane pos : Nat) (bcast : Bool) (entries : List CueEntry) (damage : CellDamage)
  /-- PAUSE_FRAME_RX (R119). A received pause frame stops the sub-link's transmitter for its quanta, or resumes it with quanta 0. -/
  | pauseFrameRx (port sublink opcode quanta : Nat)
  /-- PAUSE_EXPIRE (R119). The pause count runs out and the transmitter resumes. -/
  | pauseExpire (port sublink : Nat)
  /-- MP_PAUSE_REPEAT (R120). MP repeats its pause frame every QUANTA × 256 bit times while free descriptors stay at or below XOFF. -/
  | mpPauseRepeat
  /-- LPI_ENTER (R122). After 50 µs with nothing to send, a transmitter with LPIEN set enters low-power idle. -/
  | lpiEnter (port sublink : Nat)
  /-- LLDP_TX (R123). Every 30 s, and on each change, the MC sends an LLDP frame with the EEE TLV. -/
  | lldpTx (port sublink : Nat) (partner : Option (Nat × Nat))
  /-- LPMODE_NONE (R127). MP.LPMODE MODE 0 ends low-power modes, and leaves wake-pattern-only mode when written over SPI. -/
  | lpmodeNone (init : Nat)
  /-- LPMODE_LPI (R124). MP.LPMODE MODE 1 permits low-power idle on MP. -/
  | lpmodeLpi (init : Nat)
  /-- LPMODE_WAKEONLY (R125). MP.LPMODE MODE 2 with the key enters wake-pattern-only mode, or is refused with a RESULT code. -/
  | lpmodeWakeonly (init key : Nat)
  /-- WAKE_FRAME_RX (R127). A magic packet or matching pattern frame ends wake-pattern-only mode and restarts the blocks from STAGE 5. -/
  | wakeFrameRx (frame : List Byte) (fcsOk : Bool)
  /-- MP_RX_FRAME (R129). A frame received on MP goes to DAP, PTP, the MC or the receive ring, with truncation or loss when descriptors run out. -/
  | mpRxFrame (kind : MpKind) (frame : List Byte) (fcsOk tagged : Bool)
  /-- ARP_ICMP_RX (R118). An ARP or ICMP echo request for a sub-link's address is answered by the MC. -/
  | arpIcmpRx (port sublink target srcMac srcIp octets : Nat) (dest : FrameDest)
  /-- MP_TXDOOR (R135). A write of MP.TXDOOR starts sending frames in ring order from TXNEXT. -/
  | mpTxdoor (init : Nat)
  /-- MP_TX_COMPLETE (R135). When a frame has been sent, its descriptors are returned with DONE, and TSID is written in the END descriptor. -/
  | mpTxComplete
  /-- FLOW_ENABLE (R136). Setting FLWn.CTRL.ENABLE checks the flow, joins its groups and writes its surface descriptors, or refuses it with a REASON. -/
  | flowEnable (init flow : Nat)
  /-- FLOW_DISABLE (R136). Clearing ENABLE stops the flow, leaves its groups and clears FLOWOWNED, keeping the newest frame on offer. -/
  | flowDisable (init flow : Nat)
  /-- IGMP_REPORT_REPEAT (R137). The second unsolicited IGMP report is sent 1 s after the first. -/
  | igmpReportRepeat (flow : Nat)
  /-- IGMP_QUERY_RX (R137). An IGMP query is answered, with fall-back to IGMPv1 or IGMPv2 compatibility when needed. -/
  | igmpQueryRx (port sublink version group octets : Nat) (aged : List Nat)
  /-- VIDEO_PACKET_RX (R139). An accepted ST 2110-20 packet writes its SRDs into the surface, merges ST 2022-7 legs and completes or closes frames. -/
  | videoPacketRx (packet : VideoPacket) (held : Nat)
  /-- LEG_DOWN (R141). A leg with no accepted packet for 100 ms is down, and LEGLOST sets. -/
  | legDown (flow leg : Nat)
  /-- SHED_ESCALATE (R145). Occupancy still above HIGH after ESC µs makes the next flow enter shedding. -/
  | shedEscalate (held : Nat)
  /-- SHED_END (R145). After a whole stroke below LOW, the flow that entered shedding last stops shedding. -/
  | shedEnd
  /-- MON_ENABLE (R146). Setting MON.CTRL.ENABLE starts the monitor flow, or refuses it for rate or format. -/
  | monEnable (init : Nat)
  /-- MON_FRAME_START (R146). At T(k) + 20 µs the monitor begins sending the frame of stroke k, paced as type N or W. -/
  | monFrameStart (stroke : Nat)
  /-- MON_FRAME_CUT (R147). A monitor frame not fully sent by T(k) plus one stroke length is cut, and SKIPPED advances. -/
  | monFrameCut
  /-- CMP_WINDOW_ACCESS (R151). A window access reaches DRAM, the surface table or a bank, subject to bank protection, FLOWOWNED and the address range. -/
  | cmpWindowAccess (init offset : Nat) (write : Bool) (data : Word)
  /-- VIEW_COMPOSED (R171). A view finishes composition; its slack is recorded, and table entries and RETIRE advance. -/
  | viewComposed (stroke view : Nat) (slackNs : Int)
  /-- COMPOSE_DEADLINE (R172). At the compose deadline every incomplete view is filled with background, and an underrun is recorded. -/
  | composeDeadline (stroke : Nat) (progress : List (Nat × Nat × Nat))
  /-- UNDERLAY_BUILD_GO (R163). UNDn.CMD GO starts a build of the named buffer, or refuses it. -/
  | underlayBuildGo (init view buf : Nat)
  /-- UNDERLAY_BUILD_ABORT (R164). UNDn.CMD ABORT ends a running build with REASON 5 and leaves the buffer invalid. -/
  | underlayBuildAbort (init view : Nat)
  /-- UNDERLAY_BUILD_DONE (R163). A build completes, and the buffer's VALID bit and BUILT are set. -/
  | underlayBuildDone (view : Nat)
  /-- TRAIN_CELL_RX (R177). A LINK TRAIN cell carries a tap request, status or READY, which the transmitter applies within 2 µs. -/
  | trainCellRx (port lane : Nat) (cell : TrainCell) (damage : CellDamage) (localReady : Bool) (askPre askPost : Nat)
  /-- TRAIN_TIMEOUT (R177). Training that has not reached READY on all four lane directions after 10 ms fails. -/
  | trainTimeout (port : Nat)
  /-- CAP_CELL_RX (R178). A LINK CAP cell carries a cap, rate proposal or acknowledgement for rate stepping. -/
  | capCellRx (port lane : Nat) (cell : CapCell) (damage : CellDamage)
  /-- RATE_VERIFY_DONE (R178). 2 ms of clean traffic verifies the rate, and the hop steps up or stays, or falls back and sets CAPPED. -/
  | rateVerifyDone (port : Nat) (clean : Bool)
  /-- RATE_CHANGE (R178). Both ends change rate 1 ms after the proposal is acknowledged. -/
  | rateChange (port : Nat)
  /-- HOP_RETRY (R178). A hop that is down retries from 3.125 Gb/s every 100 ms. -/
  | hopRetry (port : Nat)
  /-- CHP_RETRAIN (R178). A write of CHPn.CTRL.RETRAIN restarts the hop at 3.125 Gb/s and clears CAPPED. -/
  | chpRetrain (init port : Nat)
  /-- LANE_DOWN (R180). A lane out of alignment for 100 µs is down, and the port runs on the other lane with LANEDEGR set. -/
  | laneDown (port lane : Nat)
  /-- LANE_RETRAIN_TIMER (R180). A lane that is down is retrained at the hop's rate every 1 s. -/
  | laneRetrainTimer (port lane : Nat)
  /-- EIDLE_ENTER (R181). A transmitter that has sent only idle cells for IDLEHOLD µs in a static stroke enters electrical idle. -/
  | eidleEnter (port lane : Nat)
  /-- WAKE_BURST_RX (R181). A received wake burst makes the tile start a wake burst on the same lane of its other port. -/
  | wakeBurstRx (port lane : Nat)
  /-- MARKER_WAKE_LEAD (R181). At least 25 µs before a stroke marker, the sender starts waking its chain port. -/
  | markerWakeLead
  /-- DLY_EXCHANGE (R203). Once per stroke each port sends DLYREQ on each lane and records its departure. -/
  | dlyExchange (port lane departure : Nat)
  /-- DLYREQ_RX (R203). A neighbour receiving DLYREQ records the arrival and returns DLYRSP with the previous turnaround. -/
  | dlyreqRx (port lane arrival departure : Nat) (damage : CellDamage)
  /-- DLYRSP_RX (R203). A received DLYRSP completes a delay measurement and updates LINKDLY. -/
  | dlyrspRx (port lane turn arrival : Nat) (damage : CellDamage)
  /-- ENUM_START (R199). KLS.ENUMCMD GO, start-up or a changed hop rate makes the sender send ENUM on a port. -/
  | enumStart (port : Nat)
  /-- ENUM_CELL_RX (R199). A tile records its hop count and position from ENUM, replies with ENUMR and forwards ENUM with INDEX + 1. -/
  | enumCellRx (port lane index nexp : Nat) (damage : CellDamage)
  /-- ENUMR_CELL_RX (R199). A sender records an ENUMR record and flags position conflicts. -/
  | enumrCellRx (port lane index : Nat) (cell : EnumrCell) (damage : CellDamage)
  /-- COX_CELL_RX (R200). A tile adopts a COX with a newer epoch, updates its serving port or counts it NOTSERVING. -/
  | coxCellRx (port lane : Nat) (cell : CoxCell) (damage : CellDamage)
  /-- TILE_VIDEO_CELL_RX (R217). A VIDEO cell from the serving port writes its samples into the receiving buffer and sets its cell-map bit, or is counted BADCELL. -/
  | tileVideoCellRx (port lane : Nat) (cell : VideoCell) (damage : CellDamage)
  /-- VIDEO_CELL_DROP (R206). A video cell not begun by its deadline is dropped, and VIDLATE advances. -/
  | videoCellDrop (port : Nat)
  /-- TUNREQ_CELL_RX (R209). A tile executes the operations of a TUNREQ from the serving port and returns a TUNRSP, or answers DENIED. -/
  | tunreqCellRx (port lane : Nat) (cell : TunreqCell) (damage : CellDamage)
  /-- TUNRSP_CELL_RX (R209). A sender takes the statuses and read data of a TUNRSP and regains credit. -/
  | tunrspCellRx (port lane : Nat) (cell : TunrspCell) (damage : CellDamage)
  /-- IMAGE_CELL_RX (R210). A tile writes an IMAGE chunk into the staging area of the transfer for its KIND under the chunk rules. -/
  | imageCellRx (port lane : Nat) (cell : ImageCell) (damage : CellDamage)
  /-- HEALTH_CELL_RX (R231). A sender consumes a HEALTH cell, updates credits, witness and LASTFULL, and compares picture CRCs. -/
  | healthCellRx (port lane : Nat) (cell : HealthCell) (damage : CellDamage)
  /-- TILE_CATCH (R221). At the catch views flip or keep their buffers, commits become live, HOLD is judged, and the servo, fold, throttle and HEALTH follow. -/
  | tileCatch
  /-- TILE_LATCH (R215). At the tile's latch instant each region's completeness is recorded, and the panel temperature and set position are taken. -/
  | tileLatch
  /-- HOLD_LIMIT_EXPIRY (R226). When HOLD_LIMIT elapses, GRN converts the hold colour for every lamp of every view. -/
  | holdLimitExpiry
  /-- ROW_CONVERTED (R220). GRN completes the conversion of a pixel row into preparing drive codes. -/
  | rowConverted (view row : Nat)
  /-- REFRESH_DONE (R222). A refresh of an unflipped view completes and is counted. -/
  | refreshDone (view : Nat)
  /-- LINE_SLOT_START (R224). A line slot starts, driving its codes or filling from the point of failure when its slack is negative. -/
  | lineSlotStart (view slot : Nat) (slack : Int) (fail : Nat) (samples : List (Nat × Nat))
  /-- VIEW_SLOT_END (R229). At the end of each view slot DRV is compared with COR for each window. -/
  | viewSlotEnd (view : Nat) (upset : List (Nat × Nat))
  /-- PROBE (R258). A probe pulses row rp in a free window outside the exposure windows, or is skipped. -/
  | probe (samples : List (Nat × Nat))
  /-- LTB_LOCK_LOST (R242). Loss of the timebase lock clears LOCKED, sets LOCKLOST and turns the sinks off at the next line slot boundary. -/
  | ltbLockLost
  /-- LTB_RELOCK (R242). Once lock has held for 1 ms, LOCKED sets again and drive resumes at the next catch. -/
  | ltbRelock
  /-- REFERENCE_SOURCE_LOCK (R74). With REFSRC 1 the first lane receiver to lock becomes the reference source, and LTB and the MC relock to it. -/
  | referenceSourceLock (portA portB : Bool)
  /-- FMAPSEL_CLR (R255). A write of SNK.FMAPSEL.CLR clears every lamp flag and every count. -/
  | fmapselClr (init : Nat)
  /-- GRN_CHECK (R275). TABCMD OP 1 checks the staged table and records the first failing ERR. -/
  | grnCheck (init : Nat)
  /-- GRN_INSTALL (R278). TABCMD OP 2 checks, expands and persists the staged table into the copy not in force. -/
  | grnInstall (init key : Nat)
  /-- GRN_INSTALL_VOLATILE (R278). TABCMD OP 3 checks and expands the staged table into the copy not in force without writing flash. -/
  | grnInstallVolatile (init key : Nat)
  /-- GRN_INSTALL_DONE (R278). An install completes, and the copy's READY, and with OP 2 its PERSIST, are set. -/
  | grnInstallDone (ok : Bool)
  /-- GRN_STOP_BURNISH (R283). TABCMD OP 4 completes a running burnish as a step. -/
  | grnStopBurnish (init : Nat)
  /-- GRN_SAVE_CHECKPOINT (R271). TABCMD OP 5 saves a checkpoint of the accumulators. -/
  | grnSaveCheckpoint (init : Nat)
  /-- GRN_CLEAR_ACCUMULATORS (R284). TABCMD OP 6 with the key sets every accumulator to 0 at the next catch and saves a checkpoint. -/
  | grnClearAccumulators (init key : Nat)
  /-- CHECKPOINT_TIMER (R271). Every CKPT minutes the MC writes the accumulators into the older checkpoint slot. -/
  | checkpointTimer
  /-- GRN_XFERID_WRITE (R276). A write of GRN.XFERID opens a transfer and clears its chunk map. -/
  | grnXferidWrite (init : Nat) (data : Word)
  /-- GRN_ACCUM_WRITE (R284). A window write to an accumulator sets its whole-µC part and clears the fraction. -/
  | grnAccumWrite (init offset : Nat) (data : Word)
  /-- CAL_GO (R294). CAL.CMD GO queues a sequence of KIND, or refuses it with a REASON. -/
  | calGo (init kind : Nat) (all : Bool) (env : CalEnv)
  /-- CAL_ABORT (R294). CAL.CMD ABORT abandons the running sequence with RESULT 4. -/
  | calAbort (init : Nat)
  /-- CAL_AUTO_REQUEST (R294). The MC requests a sequence when the junction maximum has drifted by TDRIFT or PERIOD hours have passed. -/
  | calAutoRequest (kind : Nat) (env : CalEnv)
  /-- CAL_STEP (R291). A calibration step runs in a free window, with its preconditions checked before and after. -/
  | calStep (before after : CalEnv) (values : List Int)
  /-- CAL_SEQUENCE_APPLY (R296). A passed sequence writes its results into a set and recomputes and applies the values in force. -/
  | calSequenceApply (env : CalEnv)
  /-- DLY_RETRY (R293). After a DLY failure at start, the MC retries the DLY sequence every 1 s. -/
  | dlyRetry (env : CalEnv)
  /-- DRAM_OPREQ (R307). DRC.OPREQ GO checks busy, budget and training and holds, trains or switches the operating point. -/
  | dramOpreq (init op : Nat)
  /-- DRAM_OP_SWITCH (R308). All channels switch operating point together, stopping traffic for at most 10 µs. -/
  | dramOpSwitch
  /-- DRAM_TRAINING_DONE (R305). Full training of a channel ends, storing its results or failing with TRAINFAIL. -/
  | dramTrainingDone (channel ident : Nat) (ok : Bool)
  /-- GATHER_BOUND_EXCEEDED (R307). A held operating-point request is refused when a gathering runs past its bound. -/
  | gatherBoundExceeded (channel : Nat)
  /-- MR4_POLL (R309). Every 16 ms the refresh rate required by MR4 is read and applied, setting HOTDRAM at ×4. -/
  | mr4Poll (channel rate : Nat)
  /-- OSCILLATOR_SAMPLE (R306). Every OSCINT ms a channel runs its DQS interval oscillator. -/
  | oscillatorSample (channel : Nat) (ended : Bool) (drift : Int)
  /-- RETRAIN_STEP (R306). A channel re-centres its eyes when drift exceeds DRIFT or every RETRAIN minutes. -/
  | retrainStep (channel : Nat) (ended : Bool)
  /-- PATROL_SCRUB (R316). The patrol scrub reads and corrects every block once in each SCRUBH hours. -/
  | patrolScrub (addr outcome syndrome : Nat)
  /-- SRCMD_JOURNAL_RETENTION (R313). DRC.SRCMD MODE 1 puts DRAM in journal retention, or is refused. -/
  | srcmdJournalRetention (init key : Nat)
  /-- SRCMD_RETURN_SERVICE (R312). DRC.SRCMD MODE 2 returns every channel to service. -/
  | srcmdReturnService (init key : Nat)
  /-- JOURNAL_BUFFER_FLUSH (R313). When half full or after 100 ms, the on-die journal buffer is written to DC0. -/
  | journalBufferFlush
  /-- DRC_LOG_CLEAR (R317). A write of DRC.LOGSTAT.CLR empties the DRAM error log. -/
  | drcLogClear (init : Nat)
  /-- PAIR_CELL_RX (R323). A received PAIR cell drives pair formation, acknowledgements, replay, claim, digest comparison and the partner state. -/
  | pairCellRx (path lane : Nat) (cell : PairCell) (damage : CellDamage)
  /-- PAIR_FORM_TIMEOUT (R323). With no partner PAIR cell within 2 s of STAGE 5, the unit becomes active with PARTNER absent. -/
  | pairFormTimeout
  /-- JOURNAL_CELL_RX (R328). The standby applies journal records in JSEQ order. -/
  | journalCellRx (path lane first stroke : Nat) (records : List JournalRec) (damage : CellDamage)
  /-- PAIR_CREW_CHANGE (R342). PAIR.CMD OP 1 requests a crew change at stroke S, or refuses it. -/
  | pairCrewChange (init key : Nat)
  /-- PAIR_YIELD (R334). PAIR.CMD OP 2, or a yield reaction, yields control when the partner is standby ready. -/
  | pairYield (init key : Nat)
  /-- PAIR_REJOIN (R345). PAIR.CMD OP 3 clears the yielded state, requests resynchronisation and releases YIELD_OUT. -/
  | pairRejoin (init key : Nat)
  /-- RESYNC_COMPLETE (R345). The standby has applied the state image and the journal is no longer stale, so it becomes standby ready. -/
  | resyncComplete
  /-- YIELD_IN_ASSERTED (R335). YIELD_IN held for 10 µs starts a takeover in a standby. -/
  | yieldInAsserted
  /-- YIELD_CELL_RX (R335). A YIELD cell from the known active starts a takeover in a standby. -/
  | yieldCellRx (path lane : Nat) (cell : YieldCell) (damage : CellDamage)
  /-- WITNESS_LOST (R336). A stroke lost on every chain port for HOLDWIT strokes starts a takeover. -/
  | witnessLost
  /-- TAKEOVER (R337). The standby takes a new epoch, applies the journal, sends COX, video and unsent cues, and becomes active. -/
  | takeover
  /-- COLD_TAKEOVER_READY (R338). A cold standby finishes leaving retention, reloading seeds and rejoining flows, and composes its first frame. -/
  | coldTakeoverReady
  /-- CREW_HANDOVER (R343). At H the old active stops its control cells and the new active takes epoch E + 1 and sends COX. -/
  | crewHandover
  /-- CREW_PERIOD (R344). When CREWPER hours have passed since control changed, the active requests a crew change itself. -/
  | crewPeriod
  /-- CROSSLINK_LOST (R341). Both cross-link lanes down for 100 ms, or no PAIR cell for 3 strokes, sets CROSSLINK_LOST. -/
  | crosslinkLost
  /-- SPLIT_DRIVE_START (R339). After SPLITWAIT strokes without the active's COX at a port while the active lives, the standby relays on that port. -/
  | splitDriveStart (port : Nat)
  /-- SPLIT_DRIVE_END (R340). After 16 strokes with the active's COX at the port, split drive ends. -/
  | splitDriveEnd (port : Nat)
  /-- FAULT_RECOGNISED (R349). A pair reading error in two samples sets the sticky bit, logs the event and takes the reaction. -/
  | faultRecognised (index : Nat)
  /-- BROKEN_WIRE (R350). A pair reading 0b00 or 0b11 in four samples sets BROKENWIRE and the served source, then is ignored. -/
  | brokenWire (index : Nat)
  /-- BROKEN_WIRE_CLEAR (R350). A pair that has read idle for 1 ms without a break is sampled again. -/
  | brokenWireClear (index : Nat)
  /-- FLT_RELEASE (R355). FLT.CMD RELEASE with the key ends safe-dark, or is refused while a class 2 source is set. -/
  | fltRelease (init key : Nat)
  /-- FLT_PROOF (R360). FLT.CMD PROOF injects an error at PROOFIDX for two samples and records the result. -/
  | fltProof (init : Nat)
  /-- FLT_PROOF_SWEEP (R360). FLT.CMD PROOFALL injects each implemented index in turn, one every 1 µs, until a miss. -/
  | fltProofSweep (init : Nat)
  /-- FLT_PROOF_ABORT (R360). FLT.CMD ABORT stops a proof sweep. -/
  | fltProofAbort (init : Nat)
  /-- PROOF_MISS (R360). An injection not recognised within 1 µs sets RESULT 3 and PROOFMISS. -/
  | proofMiss
  /-- MASKING_WINDOW_CLOSE (R358). A masking window closes at the MASKWIN-th stroke boundary after the reset block is ready again. -/
  | maskingWindowClose (block : Nat)
  /-- FLT_LOG_CLEAR (R364). A write of FLT.LOGSTAT.CLR empties the fault event log. -/
  | fltLogClear (init : Nat)
  /-- THS_SAMPLE (R367). Every 1 ms the sensors and TEMP_EXT are read, exclusion is judged and the throttle step is evaluated. -/
  | thsSample (sensors : List Int) (vNum vDen : Nat)
  /-- THS_THRCFG_WRITE (R370). A write of THS.THRCFG with NSTEPS below s sets s at once without the dwell. -/
  | thsThrcfgWrite (init : Nat) (data : Word)
  /-- THERMAL_SHUTDOWN (R374). At the 8th sample at or above 125 °C the sequencer records the event and cuts every domain except VDD_AON. -/
  | thermalShutdown
  /-- BIST_RUN_GROUPS (R383). BST.CMD OP 1 tests the groups in GMASK, or is refused with a REASON. -/
  | bistRunGroups (init key : Nat)
  /-- BIST_RUN_ALL (R383). BST.CMD OP 2 tests every group of the role that is not start-only. -/
  | bistRunAll (init key : Nat)
  /-- BIST_ABORT (R393). BST.CMD OP 3 abandons running groups and drops waiting ones. -/
  | bistAbort (init key : Nat)
  /-- BIST_CLEAR_SOFT (R391). BST.CMD OP 4 clears every soft repair entry and FAILMASK from the next reset. -/
  | bistClearSoft (init key : Nat)
  /-- BIST_BURN_FUSES (R391). BST.CMD OP 5 copies soft repair entries into free fuse entries. -/
  | bistBurnFuses (init key : Nat)
  /-- BIST_GROUP_START (R385). A waiting group starts when a slot is free and no temperature or calibration deferral holds. -/
  | bistGroupStart
  /-- BIST_GROUP_DONE (R388). A group's test ends as pass, repaired or failed, with repairs applied and recorded. -/
  | bistGroupDone (group : Nat) (faults : List BistFault) (retestOk : Bool)
  /-- LCS_TRANSITION (R399). LCS.CMD GO checks a life-cycle transition and, if accepted, records it, blows the fuses and performs a full reset. -/
  | lcsTransition (init : Nat) (target key : Nat)
  /-- KEY_ENROL (R400). KEY.CMD ENROL checks the public key and blows the key fuses and VALID, or refuses. -/
  | keyEnrol (init key : Nat)
  /-- UPD_XFER_OPEN (R410). A write of UPD.XFER opens a firmware or settings transfer, or is refused with ERR 13. -/
  | updXferOpen (init : Nat) (data : Word)
  /-- STAGE_SECTOR_PROGRAMMED (R411). A STAGE sector whose bytes are present is erased, programmed and read back, completing the download at the last sector. -/
  | stageSectorProgrammed (sector : Nat) (ok : Bool)
  /-- UPD_VERIFY (R413). UPD.CMD OP 1 verifies STAGE and preserves KEEP. -/
  | updVerify (init key : Nat)
  /-- UPD_ARM (R414). UPD.CMD OP 2 arms a regatta for REGSTROKE and copies SETTINGS-CURRENT into SETTINGS-PRIOR. -/
  | updArm (init key : Nat)
  /-- UPD_DISARM (R414). UPD.CMD OP 3 disarms a regatta. -/
  | updDisarm (init key : Nat)
  /-- UPD_CONFIRM (R418). UPD.CMD OP 4 confirms the trial image and begins consolidation. -/
  | updConfirm (init key : Nat)
  /-- UPD_REJECT (R418). UPD.CMD OP 5 rejects the trial and performs a warm restart that falls back. -/
  | updReject (init key : Nat)
  /-- UPD_DISTRIBUTE (R412). UPD.CMD OP 6 distributes the staged bundle to the tiles of the selected ports, with repair passes. -/
  | updDistribute (init key : Nat)
  /-- UPD_DISCARD (R413). UPD.CMD OP 7 discards a verified or staged image. -/
  | updDiscard (init key : Nat)
  /-- UPD_STORE_SETTINGS (R423). UPD.CMD OP 8 checks and stores the staged settings record in CURRENT. -/
  | updStoreSettings (init key : Nat)
  /-- UPD_APPLY_SETTINGS (R423). UPD.CMD OP 9 stores the staged settings record and applies its records at once. -/
  | updApplySettings (init key : Nat)
  /-- REGATTA_ACTIVATE (R415). At the boundary that begins S an armed unit writes the trial record and performs a warm restart. -/
  | regattaActivate
  /-- AUTOCONF_EXPIRY (R418). After AUTOCONF seconds at STAGE 7 the firmware confirms the trial image itself. -/
  | autoconfExpiry
  /-- SECTOR_COPY (R419). One sector is copied for consolidation or preservation, journaled, and the copy finishes with verification. -/
  | sectorCopy (ok : Bool)
  /-- RECOVERY_START (R425). DEV.RECOVCTL START with the key begins an SPI recovery load while chuck holds. -/
  | recoveryStart (init key : Nat)
  /-- RECOVDATA_WRITE (R425). A word written to DEV.RECOVDATA is appended to the recovery image and checked under R408 at 4 KB. -/
  | recovdataWrite (init : Nat) (data : Word)
  /-- RECOVERY_GO (R425). DEV.RECOVCTL GO verifies the loaded image and runs it from MC memory. -/
  | recoveryGo (init key : Nat)
  /-- LANE_ALIGNED (R186). A lane receiver that is out of alignment finds two commas, each followed by a cell with a good CRC, and becomes aligned. -/
  | laneAligned (port lane : Nat)
  /-- SUBLINK_LINK_CHANGE (R141). A network sub-link or MP link goes down or comes up, updating STATUS.LINK and the level source LINKDOWN. -/
  | sublinkLinkChange (port sublink : Nat) (up : Bool)
  /-- CHAIN_END_COX_RX (R336). A sender's chain port receives a STROKE or COX cell from the chain end, which feeds witness judgement, standby stroke numbering, split-drive evidence and the claim rule. -/
  | chainEndCoxRx (port lane : Nat) (cell : EndCell) (damage : CellDamage)
  /-- FRAMEREF_OUT_PULSE_END (R100). FRAMEREF_OUT returns to its inactive level OUTWIDTH µs after the catch. -/
  | framerefOutPulseEnd
  /-- STAGE_VERIFY_DONE (R413). Verification of the image read back from STAGE ends, and STATE becomes verified or ERR is set. -/
  | stageVerifyDone
  /-- PRIOR_COPY_DONE (R414). The copy of SETTINGS-CURRENT into SETTINGS-PRIOR completes, and STATE reads armed. -/
  | priorCopyDone
  /-- CHECKPOINT_SAVED (R271). The flash write of an accumulator checkpoint ends, advancing CKPTS and SEQ, or sets CKPTFAIL when verification fails. -/
  | checkpointSaved (ok : Bool)
  /-- SHUTPEND_RECHECK (R375). Every 100 ms after a power-on with SHUTPEND set, chuck re-checks the sensors, and it proceeds once every sensor reads below 110 °C. -/
  | shutpendRecheck (sensors : List Int)
  deriving DecidableEq, Repr

end Sys2Proof
end

