-- ==== Sys2Proof/Decode.lean ====
section
/-!
DEFINITION. The command that a table word spells. The rows of spec/opcode_table.json give no bits: a command reaches the block as a register access, a cell, a frame, an edge of a pin or an event of its own engines, and never as a word. So no word spells one.
-/

namespace Sys2Proof

/-- The command that a word of `nbits` bits spells by the table's bits: none, for every word. -/
def decodeTableWord (_nbits _w : Nat) : Option Instr := none

end Sys2Proof
end

