-- ==== Sys2Proof/Config.lean ====
section
/-!
DEFINITION. What an implementation fixes and the values that the manual leaves open: opaque constants, so that no proof can see a value of them.

`n` is the plain counter of State (`free`) that a meaning reads and advances, so that each use is a fresh value.
-/

namespace Sys2Proof.Config

/-- The word a vendor page returns: R428 describes none of them. -/
opaque vendorWord : (addr : Nat) → Word

/-- The device's internal latency of a port type, receive and transmit, as `TIM.PORTLAT` holds it (R86 gives no number). -/
opaque portLatency : (portType : Nat) → Word

/-- The wake times of the clause of a port type, transmit in the low 16 bits and receive above them, in µs (R123 gives no number). -/
opaque wakeTime : (portType : Nat) → Nat

/-- A fresh unconstrained natural number, for a result that the manual leaves open. -/
opaque freeNat : (n : Nat) → Nat

/-- A fresh unconstrained integer, for a signed result that the manual leaves open. -/
opaque freeInt : (n : Nat) → Int

/-- The digest of FIPS 180-4 SHA-384 over a byte string, as R407 and R398 use it: an external standard. -/
opaque sha384 : List Byte → List Byte

/-- ECDSA verification over curve P-384 of a signature (R then S) over a digest with a public key (X then Y): an external standard. -/
opaque ecdsaVerify : (key digest sig : List Byte) → Bool

/-- Whether a point lies on curve P-384: an external standard. -/
opaque onCurve : (key : List Byte) → Bool

/-- How far an entry of a built-in curve, as the MC computes it in double precision, lies from the exact value: 0, 1 or 2 stand for
-1, 0 and +1 unit of its encoding (R263). -/
opaque curveSlip : (curve peak k : Nat) → Fin 3

/-- The bytes of a line of the monitor flow, as pixel groups of the format that `MON.FMT` holds, from the line's RGB words: R146 names the colorimetry,
whose coefficients and ranges are an external standard's. -/
opaque monitorLine : (fmt : Nat) → (line : List Nat) → List Nat

/-- The Omcia public keys held in chuck ROM, X then Y (R397). -/
opaque omciaKey : (index : Nat) → List Byte

end Sys2Proof.Config
end

