-- ==== Sys2Proof/Machine/RegTable.lean ====
section
/-!
DEFINITION. The register pages of R427 and every register of R430, with the fields, access codes, reset values and numeric ranges that the field tables of spec/ give them.
-/

namespace Sys2Proof.Machine

/-- The access codes of R7. -/
inductive Access where
  | rw | ro | wo | w1c | rws | snp
  deriving DecidableEq, Repr

/-- What the field's description says of a value outside its range. `clamp`: the nearer limit is stored
(R448 for an RW field, or the field's own words). `refuse`: the commit that carries it fails its range
check (R37). -/
inductive Limit where
  | free
  | clamp (lo hi : Nat)
  | refuse (lo hi : Nat)
  deriving DecidableEq, Repr

/-- One field of a register: its place, access, reset value, whether its Reset column reads "live", and its range. -/
structure FieldSpec where
  lo : Nat
  width : Nat
  access : Access
  reset : Nat
  live : Bool
  limit : Limit
  deriving DecidableEq, Repr

/-- One register, or an array of `count` by `count2` registers at `off + stride * i + stride2 * j`. -/
structure RegSpec where
  off : Nat
  stride : Nat
  count : Nat
  stride2 : Nat
  count2 : Nat
  shadowed : Bool
  fields : List FieldSpec
  deriving DecidableEq, Repr

/-- The page types of R427. -/
inductive PageType where
  | dev | tim | stk | cue | mp | ing | mon | cmp | kls | drc | pck | scn | grn | ltb | snk | cal | ths | flt | pair | bst | upd | np | flw | vw | und | plc | chp | dc | skg | lcs | key | fuse
  deriving DecidableEq, Repr

/-- Where a page answers (the Roles column of R427). `chain`: CHP0 and CHP1 in both roles, the others in a
sender. `dram`: DC0 in both roles, the others in a sender when populated. `paired`: a sender whose profile sets PAIR 1. -/
inductive PageRoles where
  | both | sender | tile | paired | chain | dram
  deriving DecidableEq, Repr

/-- One row of R427 with the block of R449. -/
structure PageInfo where
  type : PageType
  first : Nat
  count : Nat
  code : Nat
  roles : PageRoles
  shadow : Bool
  snapable : Bool
  nsrc : Nat
  block : Nat
  deriving DecidableEq, Repr

/-- The page table of R427, with the blocks of R449. -/
def pageTable : List PageInfo :=
  [⟨.dev, 0x0, 1, 0x1, .both, false, false, 6, 15⟩,
   ⟨.tim, 0x1, 1, 0x2, .both, false, false, 4, 2⟩,
   ⟨.stk, 0x2, 1, 0x3, .both, true, false, 5, 2⟩,
   ⟨.cue, 0x3, 1, 0x4, .both, false, true, 3, 3⟩,
   ⟨.mp, 0x4, 1, 0x5, .both, false, true, 4, 15⟩,
   ⟨.ing, 0x5, 1, 0x6, .sender, false, true, 2, 1⟩,
   ⟨.mon, 0x6, 1, 0x7, .sender, false, true, 1, 0⟩,
   ⟨.cmp, 0x7, 1, 0x8, .sender, true, true, 9, 4⟩,
   ⟨.kls, 0x8, 1, 0x9, .both, true, false, 2, 6⟩,
   ⟨.drc, 0x9, 1, 0xA, .both, false, true, 7, 7⟩,
   ⟨.pck, 0xA, 1, 0xB, .both, true, true, 2, 8⟩,
   ⟨.scn, 0xB, 1, 0xC, .tile, true, true, 4, 10⟩,
   ⟨.grn, 0xC, 1, 0xD, .tile, true, true, 8, 9⟩,
   ⟨.ltb, 0xD, 1, 0xE, .tile, true, false, 2, 11⟩,
   ⟨.snk, 0xE, 1, 0xF, .tile, true, true, 7, 12⟩,
   ⟨.cal, 0xF, 1, 0x10, .both, false, true, 2, 15⟩] ++
  [⟨.ths, 0x10, 1, 0x11, .both, false, true, 6, 14⟩,
   ⟨.flt, 0x11, 1, 0x12, .both, false, true, 3, 13⟩,
   ⟨.pair, 0x12, 1, 0x13, .paired, false, true, 10, 15⟩,
   ⟨.bst, 0x13, 1, 0x14, .both, false, true, 0, 15⟩,
   ⟨.upd, 0x14, 1, 0x15, .both, false, true, 0, 15⟩,
   ⟨.np, 0x100, 4, 0x20, .sender, false, true, 4, 0⟩,
   ⟨.flw, 0x110, 16, 0x21, .sender, false, true, 3, 1⟩,
   ⟨.vw, 0x120, 4, 0x22, .sender, true, false, 0, 4⟩,
   ⟨.und, 0x128, 4, 0x23, .sender, false, false, 0, 4⟩,
   ⟨.plc, 0x130, 8, 0x24, .sender, true, false, 0, 4⟩,
   ⟨.chp, 0x140, 8, 0x25, .chain, false, true, 7, 6⟩,
   ⟨.dc, 0x150, 8, 0x26, .dram, false, true, 0, 7⟩,
   ⟨.skg, 0x160, 8, 0x27, .tile, true, false, 0, 12⟩,
   ⟨.lcs, 0xE00, 1, 0x30, .both, false, false, 0, 15⟩,
   ⟨.key, 0xE01, 1, 0x31, .both, false, false, 0, 15⟩,
   ⟨.fuse, 0xE10, 4, 0x32, .both, false, false, 0, 15⟩]

/-- The registers of the common header (R31), from the field tables of spec/ (R430). -/
def hdrRegs : List RegSpec :=
  [/- PAGE_ID -/ ⟨0x000, 4096, 1, 4, 1, false,
     [⟨0, 8, .ro, 0, false, .free⟩,
      ⟨8, 8, .ro, 0, false, .free⟩,
      ⟨16, 12, .ro, 0, false, .free⟩]⟩,
   /- PAGE_CAP -/ ⟨0x004, 4096, 1, 4, 1, false,
     [⟨0, 1, .ro, 0, true, .free⟩,
      ⟨1, 1, .ro, 0, false, .free⟩,
      ⟨2, 1, .ro, 0, false, .free⟩,
      ⟨3, 1, .ro, 0, false, .free⟩,
      ⟨4, 1, .ro, 0, false, .free⟩,
      ⟨10, 6, .ro, 0, false, .free⟩]⟩,
   /- PAGE_STAT -/ ⟨0x008, 4096, 1, 4, 1, false,
     [⟨0, 1, .ro, 0, true, .free⟩,
      ⟨1, 1, .ro, 0, true, .free⟩,
      ⟨2, 1, .ro, 0, true, .free⟩,
      ⟨3, 1, .ro, 0, true, .free⟩,
      ⟨4, 1, .ro, 0, true, .free⟩,
      ⟨16, 16, .ro, 0, true, .free⟩]⟩,
   /- PAGE_CTRL -/ ⟨0x00C, 4096, 1, 4, 1, false,
     [⟨0, 1, .wo, 0, false, .free⟩,
      ⟨1, 1, .rw, 0, false, .free⟩,
      ⟨16, 16, .rw, 0, false, .free⟩]⟩,
   /- COMMIT -/ ⟨0x010, 4096, 1, 4, 1, false,
     [⟨0, 1, .wo, 0, false, .free⟩,
      ⟨1, 1, .wo, 0, false, .free⟩,
      ⟨2, 1, .wo, 0, false, .free⟩,
      ⟨3, 1, .wo, 0, false, .free⟩,
      ⟨4, 2, .ro, 0, false, .free⟩,
      ⟨6, 1, .ro, 0, false, .free⟩,
      ⟨8, 4, .ro, 0, false, .free⟩,
      ⟨16, 16, .ro, 0, false, .free⟩]⟩,
   /- COMMIT_STROKE -/ ⟨0x014, 4096, 1, 4, 1, false,
     [⟨0, 32, .rw, 0, false, .free⟩]⟩,
   /- STICKY -/ ⟨0x018, 4096, 1, 4, 1, false,
     [⟨0, 32, .w1c, 0, false, .free⟩]⟩,
   /- STICKY_MASK -/ ⟨0x01C, 4096, 1, 4, 1, false,
     [⟨0, 32, .rw, 0, false, .free⟩]⟩,
   /- SNAP -/ ⟨0x020, 4096, 1, 4, 1, false,
     [⟨0, 1, .wo, 0, false, .free⟩,
      ⟨1, 1, .rw, 0, false, .free⟩,
      ⟨2, 1, .ro, 0, false, .free⟩]⟩,
   /- SNAP_STROKE -/ ⟨0x024, 4096, 1, 4, 1, false,
     [⟨0, 32, .ro, 0, false, .free⟩]⟩]

/-- The registers of the page type DEV, from the field tables of spec/ (R430). -/
def devRegs : List RegSpec :=
  [/- FENCE -/ ⟨0x044, 4096, 1, 4, 1, false,
     [⟨0, 16, .rw, 0, false, .free⟩,
      ⟨16, 4, .ro, 0, true, .free⟩]⟩,
   /- INITIATOR -/ ⟨0x048, 4096, 1, 4, 1, false,
     [⟨0, 4, .ro, 0, true, .free⟩]⟩,
   /- DAPCFG -/ ⟨0x050, 4096, 1, 4, 1, false,
     [⟨0, 16, .rw, 0xc0a0, false, .free⟩,
      ⟨16, 1, .rw, 1, false, .free⟩]⟩,
   /- DAPSTAT -/ ⟨0x054, 4096, 1, 4, 1, false,
     [⟨0, 16, .ro, 0, false, .free⟩,
      ⟨16, 9, .ro, 0, true, .free⟩,
      ⟨25, 4, .ro, 0, true, .free⟩]⟩,
   /- ROLESTAT -/ ⟨0x060, 4096, 1, 4, 1, false,
     [⟨0, 2, .ro, 0, true, .free⟩,
      ⟨2, 2, .ro, 0, true, .free⟩,
      ⟨4, 2, .ro, 0, true, .free⟩,
      ⟨16, 16, .ro, 0, true, .free⟩]⟩,
   /- MODESTAT -/ ⟨0x064, 4096, 1, 4, 1, false,
     [⟨0, 2, .ro, 0, true, .free⟩,
      ⟨2, 1, .ro, 0, true, .free⟩,
      ⟨3, 1, .ro, 0, true, .free⟩,
      ⟨4, 1, .ro, 0, true, .free⟩,
      ⟨5, 1, .ro, 0, true, .free⟩,
      ⟨6, 1, .ro, 0, true, .free⟩,
      ⟨7, 4, .ro, 0, true, .free⟩,
      ⟨11, 3, .ro, 0, true, .free⟩,
      ⟨14, 3, .ro, 0, true, .free⟩,
      ⟨17, 1, .ro, 0, true, .free⟩,
      ⟨18, 1, .ro, 0, true, .free⟩]⟩,
   /- VCORECTL -/ ⟨0x068, 4096, 1, 4, 1, false,
     [⟨0, 1, .rw, 0, false, .free⟩,
      ⟨1, 1, .ro, 0, true, .free⟩,
      ⟨8, 8, .rw, 0x46, false, (.clamp 70 255)⟩,
      ⟨16, 8, .rw, 0x5a, false, (.clamp 0 0x5A)⟩,
      ⟨24, 8, .ro, 0, true, .free⟩]⟩,
   /- RSTCTL -/ ⟨0x070, 4096, 1, 4, 1, false,
     [⟨0, 2, .wo, 0, false, .free⟩,
      ⟨2, 1, .wo, 0, false, .free⟩,
      ⟨3, 2, .wo, 0, false, .free⟩,
      ⟨16, 16, .wo, 0, false, .free⟩]⟩,
   /- RSTCAUSE -/ ⟨0x074, 4096, 1, 4, 1, false,
     [⟨0, 10, .w1c, 0, false, .free⟩,
      ⟨16, 8, .ro, 0, false, .free⟩]⟩,
   /- PROFCMD -/ ⟨0x078, 4096, 1, 4, 1, false,
     [⟨0, 2, .wo, 0, false, .free⟩,
      ⟨2, 2, .wo, 0, false, .free⟩,
      ⟨16, 16, .wo, 0, false, .free⟩]⟩,
   /- PROFSTROKE -/ ⟨0x07C, 4096, 1, 4, 1, false,
     [⟨0, 32, .rw, 0, false, .free⟩]⟩,
   /- PROFSTAT -/ ⟨0x080, 4096, 1, 4, 1, false,
     [⟨0, 2, .ro, 0, true, .free⟩,
      ⟨2, 4, .ro, 0, true, .free⟩,
      ⟨6, 3, .ro, 0, false, .free⟩,
      ⟨9, 1, .ro, 0, false, .free⟩,
      ⟨10, 2, .ro, 0, true, .free⟩]⟩,
   /- PROFWADDR -/ ⟨0x084, 4096, 1, 4, 1, false,
     [⟨0, 2, .rw, 0, false, .free⟩,
      ⟨2, 11, .rw, 0, false, .free⟩]⟩,
   /- PROFWDATA -/ ⟨0x088, 4096, 1, 4, 1, false,
     [⟨0, 32, .wo, 0, false, .free⟩]⟩,
   /- BOOTSTAT -/ ⟨0x08C, 4096, 1, 4, 1, false,
     [⟨0, 4, .ro, 0, true, .free⟩,
      ⟨4, 2, .ro, 0, true, .free⟩,
      ⟨8, 8, .ro, 0, false, .free⟩,
      ⟨16, 16, .ro, 0, false, .free⟩]⟩,
   /- RECOVCTL -/ ⟨0x090, 4096, 1, 4, 1, false,
     [⟨0, 1, .wo, 0, false, .free⟩,
      ⟨1, 1, .wo, 0, false, .free⟩,
      ⟨16, 16, .wo, 0, false, .free⟩]⟩,
   /- RECOVDATA -/ ⟨0x094, 4096, 1, 4, 1, false,
     [⟨0, 32, .wo, 0, false, .free⟩]⟩,
   /- RECOVSTAT -/ ⟨0x098, 4096, 1, 4, 1, false,
     [⟨0, 22, .ro, 0, false, .free⟩,
      ⟨22, 2, .ro, 0, false, .free⟩,
      ⟨24, 4, .ro, 0, false, .free⟩]⟩]

/-- The registers of the page type TIM, from the field tables of spec/ (R430). -/
def timRegs : List RegSpec :=
  [/- NOW -/ ⟨0x040, 4096, 1, 4, 1, false,
     [⟨0, 32, .ro, 0, true, .free⟩]⟩,
   /- RATE -/ ⟨0x044, 4096, 1, 4, 1, false,
     [⟨0, 32, .rw, 0, false, .free⟩]⟩,
   /- STEPLO -/ ⟨0x048, 4096, 1, 4, 1, false,
     [⟨0, 32, .rw, 0, false, .free⟩]⟩,
   /- STEPHI -/ ⟨0x04C, 4096, 1, 4, 1, false,
     [⟨0, 32, .rw, 0, false, .free⟩]⟩,
   /- STEPCMD -/ ⟨0x050, 4096, 1, 4, 1, false,
     [⟨0, 1, .wo, 0, false, .free⟩,
      ⟨1, 1, .wo, 0, false, .free⟩]⟩,
   /- STEPSTAT -/ ⟨0x054, 4096, 1, 4, 1, false,
     [⟨0, 8, .ro, 0, false, .free⟩,
      ⟨8, 2, .ro, 0, false, .free⟩,
      ⟨16, 16, .ro, 0, false, .free⟩]⟩,
   /- JUMPLIM -/ ⟨0x058, 4096, 1, 4, 1, false,
     [⟨0, 32, .rw, 0xf4240, false, .free⟩]⟩,
   /- PTPCFG -/ ⟨0x05C, 4096, 1, 4, 1, false,
     [⟨0, 2, .rw, 3, false, .free⟩,
      ⟨2, 2, .rw, 0, false, .free⟩,
      ⟨4, 7, .rw, 0x7f, false, .free⟩,
      ⟨11, 1, .rw, 0, false, .free⟩]⟩,
   /- PTPSTAT -/ ⟨0x060, 4096, 1, 4, 1, false,
     [⟨0, 3, .ro, 0, false, .free⟩]⟩,
   /- PTPOFFSET -/ ⟨0x064, 4096, 1, 4, 1, false,
     [⟨0, 32, .ro, 0, true, .free⟩]⟩,
   /- PTPDELAY -/ ⟨0x068, 4096, 1, 4, 1, false,
     [⟨0, 32, .ro, 0, true, .free⟩]⟩,
   /- PORTLAT -/ ⟨0x080, 4, 5, 4, 1, false,
     [⟨0, 16, .rw, 0, false, .free⟩,
      ⟨16, 16, .rw, 0, false, .free⟩]⟩,
   /- TXQSTAT -/ ⟨0x100, 16, 5, 4, 1, false,
     [⟨0, 7, .ro, 0, true, .free⟩,
      ⟨16, 16, .ro, 0, false, .free⟩]⟩,
   /- TXQID -/ ⟨0x104, 16, 5, 4, 1, false,
     [⟨0, 16, .ro, 0, true, .free⟩,
      ⟨16, 4, .ro, 0, true, .free⟩,
      ⟨31, 1, .ro, 0, true, .free⟩]⟩,
   /- TXQNS -/ ⟨0x108, 16, 5, 4, 1, false,
     [⟨0, 32, .ro, 0, true, .free⟩]⟩,
   /- TXQPOP -/ ⟨0x10C, 16, 5, 4, 1, false,
     [⟨0, 1, .wo, 0, false, .free⟩]⟩]

/-- The registers of the page type STK, from the field tables of spec/ (R430). -/
def stkRegs : List RegSpec :=
  [/- NOW -/ ⟨0x040, 4096, 1, 4, 1, false,
     [⟨0, 32, .ro, 0, true, .free⟩]⟩,
   /- CTRL -/ ⟨0x044, 4096, 1, 4, 1, true,
     [⟨0, 2, .rws, 1, false, (.refuse 1 2)⟩,
      ⟨8, 8, .rws, 2, false, (.refuse 0 50)⟩,
      ⟨16, 8, .rws, 0x14, false, .free⟩]⟩,
   /- PHASE -/ ⟨0x048, 4096, 1, 4, 1, true,
     [⟨0, 32, .rws, 0, false, .free⟩]⟩,
   /- REFIO -/ ⟨0x04C, 4096, 1, 4, 1, false,
     [⟨0, 1, .rw, 0, false, .free⟩,
      ⟨1, 1, .rw, 0, false, .free⟩,
      ⟨2, 1, .rw, 0, false, .free⟩,
      ⟨8, 8, .rw, 0xa, false, (.clamp 1 255)⟩]⟩,
   /- STAT -/ ⟨0x050, 4096, 1, 4, 1, false,
     [⟨0, 2, .ro, 0, true, .free⟩,
      ⟨2, 2, .ro, 0, true, .free⟩,
      ⟨4, 1, .ro, 0, true, .free⟩,
      ⟨16, 16, .ro, 0, true, .free⟩]⟩,
   /- PHERR -/ ⟨0x054, 4096, 1, 4, 1, false,
     [⟨0, 32, .ro, 0, true, .free⟩]⟩,
   /- LEN -/ ⟨0x058, 4096, 1, 4, 1, false,
     [⟨0, 32, .ro, 0, true, .free⟩]⟩,
   /- NUMSKEW -/ ⟨0x05C, 4096, 1, 4, 1, false,
     [⟨0, 32, .ro, 0, false, .free⟩]⟩,
   /- MARKER -/ ⟨0x060, 4096, 1, 4, 1, false,
     [⟨0, 16, .ro, 0, false, .free⟩]⟩,
   /- ACCUM -/ ⟨0x064, 4096, 1, 4, 1, false,
     [⟨0, 32, .ro, 0, true, .free⟩]⟩,
   /- VIEWCFG -/ ⟨0x080, 16, 4, 4, 1, true,
     [⟨0, 3, .rws, 0, false, (.refuse 0 4)⟩,
      ⟨16, 16, .rws, 0, false, .free⟩]⟩,
   /- VIEWEXP -/ ⟨0x084, 16, 4, 4, 1, true,
     [⟨0, 16, .rws, 0, false, .free⟩,
      ⟨16, 16, .rws, 0, false, .free⟩]⟩,
   /- VIEWSTAT -/ ⟨0x088, 16, 4, 4, 1, false,
     [⟨0, 16, .ro, 0, true, .free⟩,
      ⟨16, 16, .ro, 0, true, .free⟩]⟩,
   /- VIEWMEAS -/ ⟨0x08C, 16, 4, 4, 1, false,
     [⟨0, 16, .ro, 0, true, .free⟩,
      ⟨16, 16, .ro, 0, true, .free⟩]⟩]

/-- The registers of the page type CUE, from the field tables of spec/ (R430). -/
def cueRegs : List RegSpec :=
  [/- STAT -/ ⟨0x040, 4096, 1, 4, 1, false,
     [⟨0, 18, .ro, 0, true, .free⟩]⟩,
   /- CFG -/ ⟨0x044, 4096, 1, 4, 1, false,
     [⟨0, 7, .rw, 8, false, (.clamp 2 64)⟩]⟩,
   /- PUSH -/ ⟨0x048, 4096, 1, 4, 1, false,
     [⟨0, 1, .wo, 0, false, .free⟩,
      ⟨1, 3, .ro, 0, false, .free⟩,
      ⟨16, 16, .ro, 0, false, .free⟩]⟩,
   /- CANCEL -/ ⟨0x04C, 4096, 1, 4, 1, false,
     [⟨0, 16, .wo, 0, false, .free⟩,
      ⟨16, 1, .wo, 0, false, .free⟩]⟩,
   /- CANCELN -/ ⟨0x050, 4096, 1, 4, 1, false,
     [⟨0, 18, .ro, 0, false, .free⟩]⟩,
   /- EXECCNT -/ ⟨0x054, 4096, 1, 4, 1, false,
     [⟨0, 32, .snp, 0, false, .free⟩]⟩,
   /- LATECNT -/ ⟨0x058, 4096, 1, 4, 1, false,
     [⟨0, 32, .snp, 0, false, .free⟩]⟩,
   /- DROPCNT -/ ⟨0x05C, 4096, 1, 4, 1, false,
     [⟨0, 32, .snp, 0, false, .free⟩]⟩,
   /- ERRCNT -/ ⟨0x060, 4096, 1, 4, 1, false,
     [⟨0, 32, .snp, 0, false, .free⟩]⟩,
   /- HELDCNT -/ ⟨0x064, 4096, 1, 4, 1, false,
     [⟨0, 32, .snp, 0, false, .free⟩]⟩,
   /- LASTERR -/ ⟨0x068, 4096, 1, 4, 1, false,
     [⟨0, 16, .ro, 0, false, .free⟩,
      ⟨16, 8, .ro, 0, false, .free⟩,
      ⟨24, 8, .ro, 0, false, .free⟩]⟩,
   /- IN -/ ⟨0x100, 4, 16, 4, 1, false,
     [⟨0, 32, .rw, 0, false, .free⟩]⟩]

/-- The registers of the page type MP, from the field tables of spec/ (R430). -/
def mpRegs : List RegSpec :=
  [/- CTRL -/ ⟨0x040, 4096, 1, 4, 1, false,
     [⟨0, 1, .rw, 0, false, .free⟩,
      ⟨1, 1, .rw, 0, false, .free⟩,
      ⟨2, 1, .rw, 1, false, .free⟩,
      ⟨3, 1, .rw, 0, false, .free⟩,
      ⟨4, 1, .rw, 0, false, .free⟩,
      ⟨5, 1, .rw, 0, false, .free⟩,
      ⟨16, 12, .rw, 0, false, .free⟩]⟩,
   /- STATUS -/ ⟨0x044, 4096, 1, 4, 1, false,
     [⟨0, 4, .ro, 0, true, .free⟩,
      ⟨4, 4, .ro, 0, true, .free⟩,
      ⟨8, 4, .ro, 0, true, .free⟩,
      ⟨12, 1, .ro, 0, true, .free⟩,
      ⟨16, 4, .ro, 0, true, .free⟩]⟩,
   /- MACLO -/ ⟨0x048, 4096, 1, 4, 1, false,
     [⟨0, 32, .rw, 0, false, .free⟩]⟩,
   /- MACHI -/ ⟨0x04C, 4096, 1, 4, 1, false,
     [⟨0, 16, .rw, 0, false, .free⟩]⟩,
   /- IPADDR -/ ⟨0x050, 4096, 1, 4, 1, false,
     [⟨0, 32, .rw, 0, false, .free⟩]⟩,
   /- LPIWAKE -/ ⟨0x060, 4096, 1, 4, 1, false,
     [⟨0, 16, .ro, 0, true, .free⟩,
      ⟨16, 16, .ro, 0, true, .free⟩]⟩,
   /- STATHALF -/ ⟨0x064, 4096, 1, 4, 1, false,
     [⟨0, 24, .w1c, 0, false, .free⟩]⟩,
   /- RXRING -/ ⟨0x070, 4096, 1, 4, 1, false,
     [⟨0, 18, .rw, 0, false, .free⟩,
      ⟨20, 4, .rw, 3, false, (.clamp 3 10)⟩]⟩,
   /- TXRING -/ ⟨0x074, 4096, 1, 4, 1, false,
     [⟨0, 18, .rw, 0, false, .free⟩,
      ⟨20, 4, .rw, 3, false, (.clamp 3 10)⟩]⟩,
   /- RINGSTAT -/ ⟨0x078, 4096, 1, 4, 1, false,
     [⟨0, 10, .ro, 0, false, .free⟩,
      ⟨16, 10, .ro, 0, false, .free⟩]⟩,
   /- TXDOOR -/ ⟨0x07C, 4096, 1, 4, 1, false,
     [⟨0, 32, .wo, 0, false, .free⟩]⟩,
   /- PAUSECFG -/ ⟨0x080, 4096, 1, 4, 1, false,
     [⟨0, 10, .rw, 8, false, .free⟩,
      ⟨16, 16, .rw, 0xffff, false, .free⟩]⟩,
   /- WINBASE -/ ⟨0x084, 4096, 1, 4, 1, false,
     [⟨0, 18, .rw, 0, false, .free⟩]⟩,
   /- LPMODE -/ ⟨0x088, 4096, 1, 4, 1, false,
     [⟨0, 2, .rw, 0, false, .free⟩,
      ⟨2, 3, .ro, 0, false, .free⟩,
      ⟨16, 16, .wo, 0, false, .free⟩]⟩,
   /- WAKECFG -/ ⟨0x08C, 4096, 1, 4, 1, false,
     [⟨0, 1, .rw, 1, false, .free⟩,
      ⟨1, 4, .rw, 0, false, .free⟩]⟩,
   /- WAKESTAT -/ ⟨0x090, 4096, 1, 4, 1, false,
     [⟨0, 1, .w1c, 0, false, .free⟩,
      ⟨1, 4, .w1c, 0, false, .free⟩]⟩,
   /- WAKELEN -/ ⟨0x0A0, 32, 4, 4, 1, false,
     [⟨0, 8, .rw, 0, false, (.clamp 0 128)⟩]⟩,
   /- WAKEMASK -/ ⟨0x0A4, 32, 4, 4, 4, false,
     [⟨0, 32, .rw, 0, false, .free⟩]⟩,
   /- WAKECRC -/ ⟨0x0B4, 32, 4, 4, 1, false,
     [⟨0, 32, .rw, 0, false, .free⟩]⟩,
   /- RXOCTETS -/ ⟨0x200, 4096, 1, 4, 1, false,
     [⟨0, 32, .snp, 0, false, .free⟩]⟩,
   /- RXFRAMES -/ ⟨0x204, 4096, 1, 4, 1, false,
     [⟨0, 32, .snp, 0, false, .free⟩]⟩,
   /- RXMCAST -/ ⟨0x208, 4096, 1, 4, 1, false,
     [⟨0, 32, .snp, 0, false, .free⟩]⟩,
   /- RXBCAST -/ ⟨0x20C, 4096, 1, 4, 1, false,
     [⟨0, 32, .snp, 0, false, .free⟩]⟩,
   /- RXFCSERR -/ ⟨0x210, 4096, 1, 4, 1, false,
     [⟨0, 32, .snp, 0, false, .free⟩]⟩] ++
  [/- RXUNDER -/ ⟨0x214, 4096, 1, 4, 1, false,
     [⟨0, 32, .snp, 0, false, .free⟩]⟩,
   /- RXOVER -/ ⟨0x218, 4096, 1, 4, 1, false,
     [⟨0, 32, .snp, 0, false, .free⟩]⟩,
   /- RXFRAG -/ ⟨0x21C, 4096, 1, 4, 1, false,
     [⟨0, 32, .snp, 0, false, .free⟩]⟩,
   /- RXJABBER -/ ⟨0x220, 4096, 1, 4, 1, false,
     [⟨0, 32, .snp, 0, false, .free⟩]⟩,
   /- RXPAUSE -/ ⟨0x224, 4096, 1, 4, 1, false,
     [⟨0, 32, .snp, 0, false, .free⟩]⟩,
   /- RXCTLUNSUP -/ ⟨0x228, 4096, 1, 4, 1, false,
     [⟨0, 32, .snp, 0, false, .free⟩]⟩,
   /- RXFILTER -/ ⟨0x22C, 4096, 1, 4, 1, false,
     [⟨0, 32, .snp, 0, false, .free⟩]⟩,
   /- RXOVF -/ ⟨0x230, 4096, 1, 4, 1, false,
     [⟨0, 32, .snp, 0, false, .free⟩]⟩,
   /- RXTRUNC -/ ⟨0x234, 4096, 1, 4, 1, false,
     [⟨0, 32, .snp, 0, false, .free⟩]⟩,
   /- RXNODESC -/ ⟨0x238, 4096, 1, 4, 1, false,
     [⟨0, 32, .snp, 0, false, .free⟩]⟩,
   /- TXOCTETS -/ ⟨0x23C, 4096, 1, 4, 1, false,
     [⟨0, 32, .snp, 0, false, .free⟩]⟩,
   /- TXFRAMES -/ ⟨0x240, 4096, 1, 4, 1, false,
     [⟨0, 32, .snp, 0, false, .free⟩]⟩,
   /- TXPAUSE -/ ⟨0x244, 4096, 1, 4, 1, false,
     [⟨0, 32, .snp, 0, false, .free⟩]⟩,
   /- TXERR -/ ⟨0x248, 4096, 1, 4, 1, false,
     [⟨0, 32, .snp, 0, false, .free⟩]⟩,
   /- FECCORR -/ ⟨0x24C, 4096, 1, 4, 1, false,
     [⟨0, 32, .snp, 0, false, .free⟩]⟩,
   /- FECUNCORR -/ ⟨0x250, 4096, 1, 4, 1, false,
     [⟨0, 32, .snp, 0, false, .free⟩]⟩,
   /- RXLPIEVT -/ ⟨0x254, 4096, 1, 4, 1, false,
     [⟨0, 32, .snp, 0, false, .free⟩]⟩,
   /- TXLPIEVT -/ ⟨0x258, 4096, 1, 4, 1, false,
     [⟨0, 32, .snp, 0, false, .free⟩]⟩,
   /- PCSERR -/ ⟨0x25C, 4096, 1, 4, 1, false,
     [⟨0, 32, .snp, 0, false, .free⟩]⟩]

/-- The registers of the page type ING, from the field tables of spec/ (R430). -/
def ingRegs : List RegSpec :=
  [/- STAT -/ ⟨0x040, 4096, 1, 4, 1, false,
     [⟨0, 16, .ro, 0, true, .free⟩,
      ⟨16, 16, .ro, 0, true, .free⟩]⟩,
   /- SHEDCFG -/ ⟨0x044, 4096, 1, 4, 1, false,
     [⟨0, 7, .rw, 0x32, false, (.clamp 10 90)⟩,
      ⟨8, 7, .rw, 0x19, false, .free⟩,
      ⟨16, 16, .rw, 0x3e8, false, (.clamp 100 65535)⟩]⟩,
   /- SLACK -/ ⟨0x048, 4096, 1, 4, 1, false,
     [⟨0, 32, .snp, 0, false, .free⟩]⟩,
   /- PKTS -/ ⟨0x04C, 4096, 1, 4, 1, false,
     [⟨0, 32, .snp, 0, false, .free⟩]⟩]

/-- The registers of the page type MON, from the field tables of spec/ (R430). -/
def monRegs : List RegSpec :=
  [/- CTRL -/ ⟨0x040, 4096, 1, 4, 1, false,
     [⟨0, 1, .rw, 0, false, .free⟩,
      ⟨1, 2, .rw, 0, false, .free⟩,
      ⟨3, 2, .rw, 0, false, .free⟩,
      ⟨5, 1, .rw, 0, false, .free⟩,
      ⟨6, 2, .rw, 0, false, .free⟩,
      ⟨8, 2, .rw, 0, false, .free⟩,
      ⟨16, 16, .rw, 0, false, .free⟩]⟩,
   /- DEST -/ ⟨0x044, 4096, 1, 4, 1, false,
     [⟨0, 32, .rw, 0, false, .free⟩]⟩,
   /- FMT -/ ⟨0x048, 4096, 1, 4, 1, false,
     [⟨0, 2, .rw, 0, false, .free⟩,
      ⟨2, 2, .rw, 0, false, .free⟩,
      ⟨4, 2, .rw, 0, false, .free⟩,
      ⟨6, 2, .rw, 0, false, .free⟩,
      ⟨8, 1, .rw, 0, false, .free⟩,
      ⟨9, 7, .rw, 0x60, false, (.clamp 96 127)⟩]⟩,
   /- PKT -/ ⟨0x04C, 4096, 1, 4, 1, false,
     [⟨0, 14, .rw, 0x5a0, false, (.clamp 64 8952)⟩]⟩,
   /- SSRC -/ ⟨0x050, 4096, 1, 4, 1, false,
     [⟨0, 32, .rw, 0, false, .free⟩]⟩,
   /- STAT -/ ⟨0x054, 4096, 1, 4, 1, false,
     [⟨0, 1, .ro, 0, true, .free⟩,
      ⟨1, 1, .ro, 0, false, .free⟩,
      ⟨2, 2, .ro, 0, false, .free⟩]⟩,
   /- FRAMES -/ ⟨0x060, 4096, 1, 4, 1, false,
     [⟨0, 32, .snp, 0, false, .free⟩]⟩,
   /- SKIPPED -/ ⟨0x064, 4096, 1, 4, 1, false,
     [⟨0, 32, .snp, 0, false, .free⟩]⟩]

/-- The registers of the page type CMP, from the field tables of spec/ (R430). -/
def cmpRegs : List RegSpec :=
  [/- CTRL -/ ⟨0x040, 4096, 1, 4, 1, true,
     [⟨0, 1, .rws, 0, false, .free⟩,
      ⟨8, 8, .rws, 4, false, (.clamp 1 255)⟩]⟩,
   /- CANVAS -/ ⟨0x044, 4096, 1, 4, 1, true,
     [⟨0, 16, .rws, 0, false, .free⟩,
      ⟨16, 16, .rws, 0, false, .free⟩]⟩,
   /- STAT -/ ⟨0x048, 4096, 1, 4, 1, false,
     [⟨0, 2, .ro, 0, true, .free⟩,
      ⟨2, 1, .ro, 0, true, .free⟩]⟩,
   /- DEADLINE -/ ⟨0x04C, 4096, 1, 4, 1, false,
     [⟨0, 32, .ro, 0, true, .free⟩]⟩,
   /- WINDOW -/ ⟨0x050, 4096, 1, 4, 1, false,
     [⟨0, 32, .ro, 0, true, .free⟩]⟩,
   /- LOAD -/ ⟨0x054, 4096, 1, 4, 1, false,
     [⟨0, 32, .ro, 0, true, .free⟩]⟩,
   /- RETIRE -/ ⟨0x058, 4096, 1, 4, 1, false,
     [⟨0, 32, .ro, 0, false, .free⟩]⟩,
   /- REUSESTROKE -/ ⟨0x05C, 4096, 1, 4, 1, false,
     [⟨0, 32, .ro, 0, false, .free⟩]⟩,
   /- REUSEINFO -/ ⟨0x060, 4096, 1, 4, 1, false,
     [⟨0, 2, .ro, 0, false, .free⟩,
      ⟨2, 4, .ro, 0, false, .free⟩,
      ⟨6, 2, .ro, 0, false, .free⟩,
      ⟨8, 2, .ro, 0, false, .free⟩,
      ⟨10, 4, .ro, 0, false, .free⟩,
      ⟨14, 4, .ro, 0, false, .free⟩]⟩,
   /- UNDERSTROKE -/ ⟨0x064, 4096, 1, 4, 1, false,
     [⟨0, 32, .ro, 0, false, .free⟩]⟩,
   /- UNDERPOS -/ ⟨0x068, 4096, 1, 4, 1, false,
     [⟨0, 13, .ro, 0, false, .free⟩,
      ⟨16, 2, .ro, 0, false, .free⟩,
      ⟨18, 14, .ro, 0, false, .free⟩]⟩,
   /- WINCTRL -/ ⟨0x06C, 4096, 1, 4, 1, false,
     [⟨0, 3, .rw, 0, false, .free⟩,
      ⟨8, 5, .rw, 0, false, .free⟩]⟩,
   /- WINBASE -/ ⟨0x070, 4096, 1, 4, 1, false,
     [⟨0, 32, .rw, 0, false, .free⟩]⟩,
   /- SLACK -/ ⟨0x080, 4, 4, 4, 1, false,
     [⟨0, 32, .snp, 0, false, .free⟩]⟩,
   /- UNDERRUNS -/ ⟨0x090, 4096, 1, 4, 1, false,
     [⟨0, 32, .snp, 0, false, .free⟩]⟩,
   /- FLIPLATE -/ ⟨0x094, 4096, 1, 4, 1, false,
     [⟨0, 32, .snp, 0, false, .free⟩]⟩,
   /- MISSEDFLIPS -/ ⟨0x098, 4096, 1, 4, 1, false,
     [⟨0, 32, .snp, 0, false, .free⟩]⟩,
   /- REUSECNT -/ ⟨0x09C, 4096, 1, 4, 1, false,
     [⟨0, 32, .snp, 0, false, .free⟩]⟩,
   /- FENCE -/ ⟨0x100, 4, 32, 4, 1, false,
     [⟨0, 32, .rw, 0, false, .free⟩]⟩,
   /- WIN -/ ⟨0x400, 4, 256, 4, 1, false,
     [⟨0, 32, .rw, 0, false, .free⟩]⟩]

/-- The registers of the page type KLS, from the field tables of spec/ (R430). -/
def klsRegs : List RegSpec :=
  [/- CTRL -/ ⟨0x040, 4096, 1, 4, 1, true,
     [⟨0, 1, .rws, 0, false, .free⟩,
      ⟨1, 1, .rws, 0, false, .free⟩,
      ⟨8, 8, .rws, 0x14, false, (.refuse 1 255)⟩]⟩,
   /- ALLOW -/ ⟨0x044, 4096, 1, 4, 1, true,
     [⟨0, 8, .rws, 0xa, false, .free⟩,
      ⟨8, 8, .rws, 0x14, false, .free⟩,
      ⟨16, 16, .rws, 0x3e8, false, .free⟩]⟩,
   /- TSTAT -/ ⟨0x048, 4096, 1, 4, 1, false,
     [⟨0, 6, .ro, 0, true, .free⟩,
      ⟨6, 1, .ro, 0, true, .free⟩,
      ⟨8, 6, .ro, 0, true, .free⟩,
      ⟨14, 1, .ro, 0, true, .free⟩,
      ⟨16, 2, .ro, 0, true, .free⟩,
      ⟨18, 1, .ro, 0, true, .free⟩]⟩,
   /- COXIDLO -/ ⟨0x04C, 4096, 1, 4, 1, false,
     [⟨0, 32, .ro, 0, false, .free⟩]⟩,
   /- COXIDHI -/ ⟨0x050, 4096, 1, 4, 1, false,
     [⟨0, 32, .ro, 0, false, .free⟩]⟩,
   /- COXEPOCH -/ ⟨0x054, 4096, 1, 4, 1, false,
     [⟨0, 32, .ro, 0, false, .free⟩]⟩,
   /- ENUMCMD -/ ⟨0x058, 4096, 1, 4, 1, false,
     [⟨0, 8, .wo, 0, false, .free⟩,
      ⟨8, 8, .ro, 0, true, .free⟩,
      ⟨16, 8, .ro, 0, false, .free⟩]⟩]

/-- The registers of the page type DRC, from the field tables of spec/ (R430). -/
def drcRegs : List RegSpec :=
  [/- CFG -/ ⟨0x040, 4096, 1, 4, 1, false,
     [⟨0, 1, .rw, 1, false, .free⟩,
      ⟨8, 8, .rw, 0x18, false, .free⟩,
      ⟨16, 1, .rw, 1, false, .free⟩]⟩,
   /- MAP -/ ⟨0x044, 4096, 1, 4, 1, false,
     [⟨0, 4, .ro, 0, true, .free⟩,
      ⟨4, 5, .ro, 0, true, .free⟩,
      ⟨9, 1, .ro, 0, true, .free⟩,
      ⟨12, 20, .ro, 0, true, .free⟩]⟩,
   /- OPREQ -/ ⟨0x048, 4096, 1, 4, 1, false,
     [⟨0, 2, .wo, 0, false, .free⟩,
      ⟨2, 1, .wo, 0, false, .free⟩]⟩,
   /- OPSTAT -/ ⟨0x04C, 4096, 1, 4, 1, false,
     [⟨0, 2, .ro, 0, true, .free⟩,
      ⟨2, 4, .ro, 0, false, .free⟩,
      ⟨6, 4, .ro, 0, true, .free⟩]⟩,
   /- BUDGET -/ ⟨0x050, 4096, 1, 4, 1, false,
     [⟨0, 16, .ro, 0, true, .free⟩,
      ⟨16, 16, .ro, 0, true, .free⟩]⟩,
   /- SRCMD -/ ⟨0x054, 4096, 1, 4, 1, false,
     [⟨0, 2, .wo, 0, false, .free⟩,
      ⟨2, 3, .ro, 0, true, .free⟩,
      ⟨5, 3, .ro, 0, false, .free⟩,
      ⟨16, 16, .wo, 0, false, .free⟩]⟩,
   /- LOGSTAT -/ ⟨0x058, 4096, 1, 4, 1, false,
     [⟨0, 5, .ro, 0, false, .free⟩,
      ⟨8, 4, .ro, 0, false, .free⟩,
      ⟨16, 1, .wo, 0, false, .free⟩]⟩,
   /- CE -/ ⟨0x060, 4096, 1, 4, 1, false,
     [⟨0, 32, .snp, 0, false, .free⟩]⟩,
   /- UE -/ ⟨0x064, 4096, 1, 4, 1, false,
     [⟨0, 32, .snp, 0, false, .free⟩]⟩,
   /- SCRUBBED -/ ⟨0x068, 4096, 1, 4, 1, false,
     [⟨0, 32, .snp, 0, false, .free⟩]⟩,
   /- POISONED -/ ⟨0x06C, 4096, 1, 4, 1, false,
     [⟨0, 32, .snp, 0, false, .free⟩]⟩,
   /- REFPOSTPONED -/ ⟨0x070, 4096, 1, 4, 1, false,
     [⟨0, 32, .snp, 0, false, .free⟩]⟩,
   /- PORTCFG -/ ⟨0x080, 4, 8, 4, 1, false,
     [⟨0, 16, .rw, 0, false, (.clamp 1 65535)⟩,
      ⟨16, 2, .ro, 0, true, .free⟩]⟩,
   /- PORTSTAT -/ ⟨0x0A0, 4, 8, 4, 1, false,
     [⟨0, 16, .snp, 0, false, .free⟩,
      ⟨16, 16, .snp, 0, false, .free⟩]⟩,
   /- LOG0 -/ ⟨0x100, 16, 16, 4, 1, false,
     [⟨0, 32, .ro, 0, false, .free⟩]⟩,
   /- LOG1 -/ ⟨0x104, 16, 16, 4, 1, false,
     [⟨0, 2, .ro, 0, false, .free⟩,
      ⟨4, 3, .ro, 0, false, .free⟩,
      ⟨8, 3, .ro, 0, false, .free⟩,
      ⟨11, 3, .ro, 0, false, .free⟩,
      ⟨16, 8, .ro, 0, false, .free⟩,
      ⟨24, 4, .ro, 0, false, .free⟩]⟩,
   /- LOG2 -/ ⟨0x108, 16, 16, 4, 1, false,
     [⟨0, 32, .ro, 0, false, .free⟩]⟩,
   /- LOG3 -/ ⟨0x10C, 16, 16, 4, 1, false,
     []⟩]

/-- The registers of the page type PCK, from the field tables of spec/ (R430). -/
def pckRegs : List RegSpec :=
  [/- CTRL -/ ⟨0x040, 4096, 1, 4, 1, true,
     [⟨0, 8, .rws, 0, false, .free⟩,
      ⟨8, 8, .rws, 0, false, .free⟩,
      ⟨16, 1, .rws, 1, false, .free⟩]⟩,
   /- WIN -/ ⟨0x044, 4, 8, 4, 1, true,
     [⟨0, 8, .rws, 0, false, .free⟩,
      ⟨8, 8, .rws, 0, false, .free⟩,
      ⟨16, 8, .rws, 0, false, .free⟩,
      ⟨24, 8, .rws, 0, false, .free⟩]⟩,
   /- WINVIEW -/ ⟨0x064, 4096, 1, 4, 1, true,
     [⟨0, 16, .rws, 0, false, .free⟩]⟩,
   /- RXCRC -/ ⟨0x080, 4, 8, 4, 1, false,
     [⟨0, 32, .snp, 0, false, .free⟩]⟩,
   /- CORCRC -/ ⟨0x0A0, 4, 8, 4, 1, false,
     [⟨0, 32, .snp, 0, false, .free⟩]⟩,
   /- DRVCRC -/ ⟨0x0C0, 4, 8, 4, 1, false,
     [⟨0, 32, .snp, 0, false, .free⟩]⟩,
   /- CHKSTAT -/ ⟨0x0E0, 4096, 1, 4, 1, false,
     [⟨0, 8, .snp, 0, false, .free⟩,
      ⟨8, 8, .snp, 0, false, .free⟩,
      ⟨16, 8, .snp, 0, false, .free⟩]⟩,
   /- SRCSEL -/ ⟨0x0E4, 4096, 1, 4, 1, false,
     [⟨0, 3, .rw, 0, false, .free⟩,
      ⟨3, 6, .rw, 0, false, .free⟩,
      ⟨9, 3, .rw, 0, false, .free⟩,
      ⟨12, 2, .rw, 0, false, .free⟩]⟩,
   /- SRCVAL -/ ⟨0x0E8, 4096, 1, 4, 1, false,
     [⟨0, 32, .ro, 0, true, .free⟩]⟩,
   /- SRCSTROKE -/ ⟨0x0EC, 4096, 1, 4, 1, false,
     [⟨0, 32, .ro, 0, true, .free⟩]⟩,
   /- MISINFO -/ ⟨0x0F0, 4096, 1, 4, 1, false,
     [⟨0, 3, .ro, 0, false, .free⟩,
      ⟨3, 6, .ro, 0, false, .free⟩,
      ⟨9, 3, .ro, 0, false, .free⟩,
      ⟨16, 16, .ro, 0, false, .free⟩]⟩,
   /- MISSTROKE -/ ⟨0x0F4, 4096, 1, 4, 1, false,
     [⟨0, 32, .ro, 0, false, .free⟩]⟩,
   /- CHECKS -/ ⟨0x100, 4096, 1, 4, 1, false,
     [⟨0, 32, .snp, 0, false, .free⟩]⟩,
   /- RXMISMATCH -/ ⟨0x104, 4096, 1, 4, 1, false,
     [⟨0, 32, .snp, 0, false, .free⟩]⟩,
   /- DRVMISMATCH -/ ⟨0x108, 4096, 1, 4, 1, false,
     [⟨0, 32, .snp, 0, false, .free⟩]⟩,
   /- NOREF -/ ⟨0x10C, 4096, 1, 4, 1, false,
     [⟨0, 32, .snp, 0, false, .free⟩]⟩,
   /- GENSKEW -/ ⟨0x110, 4096, 1, 4, 1, false,
     [⟨0, 32, .snp, 0, false, .free⟩]⟩]

/-- The registers of the page type SCN, from the field tables of spec/ (R430). -/
def scnRegs : List RegSpec :=
  [/- CTRL -/ ⟨0x040, 4096, 1, 4, 1, true,
     [⟨0, 4, .rws, 3, false, (.clamp 1 15)⟩,
      ⟨4, 1, .rws, 1, false, .free⟩]⟩,
   /- HOLDRG -/ ⟨0x044, 4096, 1, 4, 1, true,
     [⟨0, 16, .rws, 0, false, .free⟩,
      ⟨16, 16, .rws, 0, false, .free⟩]⟩,
   /- HOLDB -/ ⟨0x048, 4096, 1, 4, 1, true,
     [⟨0, 16, .rws, 0, false, .free⟩]⟩,
   /- HOLDLIM -/ ⟨0x04C, 4096, 1, 4, 1, true,
     [⟨0, 16, .rws, 0, false, (.refuse 0 60000)⟩]⟩,
   /- BGLO -/ ⟨0x050, 8, 4, 4, 1, true,
     [⟨0, 16, .rws, 0, false, .free⟩,
      ⟨16, 16, .rws, 0, false, .free⟩]⟩,
   /- BGHI -/ ⟨0x054, 8, 4, 4, 1, true,
     [⟨0, 16, .rws, 0, false, .free⟩,
      ⟨16, 16, .rws, 0, false, .free⟩]⟩,
   /- STAT -/ ⟨0x070, 4096, 1, 4, 1, false,
     [⟨0, 1, .ro, 0, true, .free⟩,
      ⟨1, 1, .ro, 0, true, .free⟩,
      ⟨2, 4, .ro, 0, true, .free⟩,
      ⟨6, 1, .ro, 0, true, .free⟩,
      ⟨7, 1, .ro, 0, true, .free⟩]⟩,
   /- SLOTLEN -/ ⟨0x074, 4096, 1, 4, 1, false,
     [⟨0, 32, .ro, 0, true, .free⟩]⟩,
   /- VIEWLEN -/ ⟨0x078, 4096, 1, 4, 1, false,
     [⟨0, 32, .ro, 0, true, .free⟩]⟩,
   /- FEATHER -/ ⟨0x07C, 4096, 1, 4, 1, false,
     [⟨0, 32, .ro, 0, true, .free⟩]⟩,
   /- SLOTDEMAND -/ ⟨0x080, 4096, 1, 4, 1, false,
     [⟨0, 32, .ro, 0, true, .free⟩]⟩,
   /- SLOTCEIL -/ ⟨0x084, 4096, 1, 4, 1, false,
     [⟨0, 32, .ro, 0, true, .free⟩]⟩,
   /- SLOTMARGIN -/ ⟨0x088, 4096, 1, 4, 1, false,
     [⟨0, 32, .ro, 0, true, .free⟩]⟩,
   /- LASTFULL -/ ⟨0x08C, 4096, 1, 4, 1, false,
     [⟨0, 32, .ro, 0, false, .free⟩]⟩,
   /- WITNESS -/ ⟨0x090, 4096, 1, 4, 1, false,
     [⟨0, 32, .ro, 0, false, .free⟩]⟩,
   /- UNDERPOS -/ ⟨0x094, 4096, 1, 4, 1, false,
     [⟨0, 9, .ro, 0, false, .free⟩,
      ⟨9, 7, .ro, 0, false, .free⟩,
      ⟨16, 4, .ro, 0, false, .free⟩,
      ⟨20, 2, .ro, 0, false, .free⟩]⟩,
   /- UNDERSTROKE -/ ⟨0x098, 4096, 1, 4, 1, false,
     [⟨0, 32, .ro, 0, false, .free⟩]⟩,
   /- VIEWBUF -/ ⟨0x0A0, 4, 4, 4, 1, false,
     [⟨0, 1, .ro, 0, true, .free⟩,
      ⟨1, 1, .ro, 0, true, .free⟩,
      ⟨2, 1, .ro, 0, true, .free⟩,
      ⟨16, 16, .ro, 0, true, .free⟩]⟩,
   /- SLACK -/ ⟨0x0B0, 4, 4, 4, 1, false,
     [⟨0, 32, .snp, 0, false, .free⟩]⟩,
   /- INCOMPLETE -/ ⟨0x0C0, 4096, 1, 4, 1, false,
     [⟨0, 32, .snp, 0, false, .free⟩]⟩,
   /- UNDERRUNS -/ ⟨0x0C4, 4096, 1, 4, 1, false,
     [⟨0, 32, .snp, 0, false, .free⟩]⟩,
   /- STATICS -/ ⟨0x0C8, 4096, 1, 4, 1, false,
     [⟨0, 32, .snp, 0, false, .free⟩]⟩,
   /- REFRESHES -/ ⟨0x0CC, 4096, 1, 4, 1, false,
     [⟨0, 32, .snp, 0, false, .free⟩]⟩,
   /- HOLDS -/ ⟨0x0D0, 4096, 1, 4, 1, false,
     [⟨0, 32, .snp, 0, false, .free⟩]⟩] ++
  [/- BADCELL -/ ⟨0x0D4, 4096, 1, 4, 1, false,
     [⟨0, 32, .snp, 0, false, .free⟩]⟩]

/-- The registers of the page type GRN, from the field tables of spec/ (R430). -/
def grnRegs : List RegSpec :=
  [/- CTRL -/ ⟨0x040, 4096, 1, 4, 1, true,
     [⟨0, 1, .rws, 0, false, .free⟩,
      ⟨2, 1, .rws, 1, false, .free⟩,
      ⟨3, 1, .rws, 1, false, .free⟩,
      ⟨4, 1, .rws, 1, false, .free⟩,
      ⟨8, 8, .rws, 0x40, false, .free⟩,
      ⟨16, 12, .rws, 0x10, false, (.clamp 1 4095)⟩]⟩,
   /- DEFCURVE -/ ⟨0x044, 4096, 1, 4, 1, true,
     [⟨0, 3, .rws, 3, false, (.refuse 1 7)⟩,
      ⟨3, 3, .rws, 3, false, (.refuse 1 7)⟩,
      ⟨6, 3, .rws, 3, false, (.refuse 1 7)⟩,
      ⟨16, 14, .rws, 0x3e8, false, (.refuse 100 10000)⟩]⟩,
   /- TABCMD -/ ⟨0x048, 4096, 1, 4, 1, false,
     [⟨0, 3, .wo, 0, false, .free⟩,
      ⟨16, 16, .wo, 0, false, .free⟩]⟩,
   /- TABSTAT -/ ⟨0x04C, 4096, 1, 4, 1, false,
     [⟨0, 2, .ro, 0, false, .free⟩,
      ⟨4, 4, .ro, 0, false, .free⟩,
      ⟨8, 2, .ro, 0, true, .free⟩,
      ⟨10, 2, .ro, 0, true, .free⟩,
      ⟨12, 2, .ro, 0, true, .free⟩,
      ⟨14, 1, .ro, 0, true, .free⟩,
      ⟨16, 9, .ro, 0, true, .free⟩]⟩,
   /- TABVER -/ ⟨0x050, 4096, 1, 4, 1, false,
     [⟨0, 32, .ro, 0, true, .free⟩]⟩,
   /- TABVERALT -/ ⟨0x054, 4096, 1, 4, 1, false,
     [⟨0, 32, .ro, 0, true, .free⟩]⟩,
   /- XFERID -/ ⟨0x058, 4096, 1, 4, 1, false,
     [⟨0, 16, .rw, 0, false, .free⟩,
      ⟨16, 1, .rw, 0, false, .free⟩]⟩,
   /- XFERLEN -/ ⟨0x05C, 4096, 1, 4, 1, false,
     [⟨0, 22, .rw, 0, false, (.clamp 0 2097152)⟩]⟩,
   /- XFERSTAT -/ ⟨0x060, 4096, 1, 4, 1, false,
     [⟨0, 16, .ro, 0, true, .free⟩,
      ⟨16, 16, .ro, 0, true, .free⟩]⟩,
   /- SETSTAT -/ ⟨0x064, 4096, 1, 4, 1, false,
     [⟨0, 14, .ro, 0, true, .free⟩,
      ⟨14, 1, .ro, 0, true, .free⟩,
      ⟨16, 14, .ro, 0, true, .free⟩]⟩,
   /- AGECFG -/ ⟨0x068, 4096, 1, 4, 1, false,
     [⟨0, 12, .rw, 0x3c, false, .free⟩]⟩,
   /- AGESTAT -/ ⟨0x06C, 4096, 1, 4, 1, false,
     [⟨0, 16, .ro, 0, true, .free⟩,
      ⟨16, 12, .ro, 0, true, .free⟩,
      ⟨28, 1, .ro, 0, true, .free⟩]⟩,
   /- WINCTRL -/ ⟨0x070, 4096, 1, 4, 1, false,
     [⟨0, 2, .rw, 0, false, .free⟩]⟩,
   /- WINBASE -/ ⟨0x074, 4096, 1, 4, 1, false,
     [⟨0, 22, .rw, 0, false, .free⟩]⟩,
   /- CURVEINFO -/ ⟨0x078, 4096, 1, 4, 1, false,
     [⟨0, 3, .ro, 0, true, .free⟩,
      ⟨3, 3, .ro, 0, true, .free⟩,
      ⟨6, 3, .ro, 0, true, .free⟩,
      ⟨16, 14, .ro, 0, true, .free⟩]⟩,
   /- CHUNKS -/ ⟨0x080, 4096, 1, 4, 1, false,
     [⟨0, 32, .snp, 0, false, .free⟩]⟩,
   /- CHUNKDISC -/ ⟨0x084, 4096, 1, 4, 1, false,
     [⟨0, 32, .snp, 0, false, .free⟩]⟩,
   /- CLIPS -/ ⟨0x088, 4096, 1, 4, 1, false,
     [⟨0, 32, .snp, 0, false, .free⟩]⟩,
   /- BURNS -/ ⟨0x08C, 4096, 1, 4, 1, false,
     [⟨0, 32, .snp, 0, false, .free⟩]⟩,
   /- BURNSTEPPED -/ ⟨0x090, 4096, 1, 4, 1, false,
     [⟨0, 32, .snp, 0, false, .free⟩]⟩,
   /- CKPTS -/ ⟨0x094, 4096, 1, 4, 1, false,
     [⟨0, 32, .snp, 0, false, .free⟩]⟩,
   /- WIN -/ ⟨0x400, 4, 256, 4, 1, false,
     [⟨0, 32, .rw, 0, false, .free⟩]⟩]

/-- The registers of the page type LTB, from the field tables of spec/ (R430). -/
def ltbRegs : List RegSpec :=
  [/- STAT -/ ⟨0x040, 4096, 1, 4, 1, false,
     [⟨0, 1, .ro, 0, true, .free⟩,
      ⟨1, 1, .ro, 0, true, .free⟩]⟩,
   /- ROWCFG -/ ⟨0x044, 4096, 1, 4, 1, true,
     [⟨0, 7, .rws, 0, false, .free⟩,
      ⟨7, 7, .rws, 1, false, .free⟩,
      ⟨14, 1, .rws, 0, false, .free⟩,
      ⟨15, 1, .rws, 0, false, .free⟩,
      ⟨16, 1, .rws, 1, false, .free⟩,
      ⟨17, 1, .rws, 1, false, .free⟩,
      ⟨18, 1, .rws, 1, false, .free⟩,
      ⟨19, 1, .rws, 1, false, .free⟩,
      ⟨20, 6, .rws, 0xf, false, (.refuse 10 30)⟩]⟩,
   /- ROWTIME -/ ⟨0x048, 4096, 1, 4, 1, true,
     [⟨0, 6, .rws, 2, false, .free⟩,
      ⟨6, 6, .rws, 4, false, .free⟩,
      ⟨12, 6, .rws, 6, false, .free⟩,
      ⟨18, 6, .rws, 0x24, false, .free⟩,
      ⟨24, 6, .rws, 0x2c, false, .free⟩]⟩,
   /- EXPSTAT -/ ⟨0x04C, 4096, 1, 4, 1, false,
     [⟨0, 4, .ro, 0, true, .free⟩,
      ⟨4, 4, .ro, 0, true, .free⟩]⟩,
   /- VBASE -/ ⟨0x080, 4, 24, 4, 1, true,
     [⟨0, 7, .rws, 0, false, .free⟩,
      ⟨8, 7, .rws, 0, false, .free⟩,
      ⟨16, 7, .rws, 0, false, .free⟩,
      ⟨24, 7, .rws, 0, false, .free⟩]⟩]

/-- The registers of the page type SNK, from the field tables of spec/ (R430). -/
def snkRegs : List RegSpec :=
  [/- CTRL -/ ⟨0x040, 4096, 1, 4, 1, true,
     [⟨0, 1, .rws, 1, false, .free⟩,
      ⟨1, 1, .rws, 1, false, .free⟩,
      ⟨2, 1, .rws, 1, false, .free⟩,
      ⟨3, 1, .rws, 0, false, .free⟩,
      ⟨4, 1, .rws, 1, false, .free⟩,
      ⟨5, 1, .rws, 1, false, .free⟩]⟩,
   /- STAT -/ ⟨0x044, 4096, 1, 4, 1, false,
     [⟨0, 2, .ro, 0, true, .free⟩,
      ⟨2, 5, .ro, 0, true, .free⟩,
      ⟨7, 1, .ro, 0, true, .free⟩,
      ⟨8, 1, .ro, 0, true, .free⟩,
      ⟨9, 8, .ro, 0, true, .free⟩,
      ⟨17, 7, .ro, 0, true, .free⟩]⟩,
   /- DETCFG -/ ⟨0x048, 4096, 1, 4, 1, true,
     [⟨0, 4, .rws, 3, false, (.clamp 1 15)⟩,
      ⟨4, 4, .rws, 3, false, (.clamp 1 15)⟩,
      ⟨8, 8, .rws, 8, false, (.refuse 2 255)⟩,
      ⟨16, 8, .rws, 0xa, false, (.refuse 5 30)⟩]⟩,
   /- VSHORT -/ ⟨0x04C, 4096, 1, 4, 1, true,
     [⟨0, 8, .rws, 0x14, false, .free⟩,
      ⟨8, 8, .rws, 0x20, false, .free⟩,
      ⟨16, 8, .rws, 0x20, false, .free⟩,
      ⟨24, 8, .rws, 0x14, false, .free⟩]⟩,
   /- SERVOCFG -/ ⟨0x050, 4096, 1, 4, 1, true,
     [⟨0, 8, .rws, 0x23, false, .free⟩,
      ⟨8, 8, .rws, 0xa, false, .free⟩,
      ⟨16, 4, .rws, 8, false, .free⟩,
      ⟨20, 4, .rws, 1, false, .free⟩,
      ⟨24, 7, .rws, 0x10, false, (.refuse 1 127)⟩,
      ⟨31, 1, .rws, 0, false, .free⟩]⟩,
   /- SERVOLIM -/ ⟨0x054, 4096, 1, 4, 1, false,
     [⟨0, 10, .rw, 0, false, .free⟩,
      ⟨10, 10, .rw, 0x3ff, false, .free⟩,
      ⟨20, 10, .rw, 0x3ff, false, .free⟩]⟩,
   /- SERVOSTAT -/ ⟨0x058, 4096, 1, 4, 1, false,
     [⟨0, 10, .ro, 0, true, .free⟩,
      ⟨10, 3, .ro, 0, false, .free⟩,
      ⟨16, 16, .ro, 0, true, .free⟩]⟩,
   /- VLEDNOW -/ ⟨0x05C, 4096, 1, 4, 1, false,
     [⟨0, 16, .ro, 0, true, .free⟩]⟩,
   /- PANELT -/ ⟨0x060, 4096, 1, 4, 1, false,
     [⟨0, 16, .ro, 0, true, .free⟩]⟩,
   /- THERMNOW -/ ⟨0x064, 4, 2, 4, 1, false,
     [⟨0, 16, .ro, 0x8000, false, .free⟩,
      ⟨16, 16, .ro, 0x8000, false, .free⟩]⟩,
   /- THSLEW -/ ⟨0x06C, 4096, 1, 4, 1, true,
     [⟨0, 8, .rws, 8, false, (.clamp 1 255)⟩]⟩,
   /- PROBESTAT -/ ⟨0x070, 4096, 1, 4, 1, false,
     [⟨0, 7, .ro, 0, false, .free⟩,
      ⟨8, 2, .ro, 0, false, .free⟩,
      ⟨16, 16, .ro, 0, false, .free⟩]⟩,
   /- FMAPSEL -/ ⟨0x074, 4096, 1, 4, 1, false,
     [⟨0, 7, .rw, 0, false, .free⟩,
      ⟨7, 4, .rw, 0, false, .free⟩,
      ⟨11, 1, .rw, 0, false, .free⟩,
      ⟨12, 1, .wo, 0, false, .free⟩]⟩,
   /- FMAPDATA -/ ⟨0x078, 4096, 1, 4, 1, false,
     [⟨0, 32, .ro, 0, true, .free⟩]⟩,
   /- FLAGCNT -/ ⟨0x07C, 4096, 1, 4, 1, false,
     [⟨0, 16, .ro, 0, false, .free⟩,
      ⟨16, 16, .ro, 0, false, .free⟩]⟩,
   /- PROBES -/ ⟨0x080, 4096, 1, 4, 1, false,
     [⟨0, 32, .snp, 0, false, .free⟩]⟩,
   /- PROBESKIP -/ ⟨0x084, 4096, 1, 4, 1, false,
     [⟨0, 32, .snp, 0, false, .free⟩]⟩,
   /- STARVEDSTK -/ ⟨0x088, 4096, 1, 4, 1, false,
     [⟨0, 32, .snp, 0, false, .free⟩]⟩,
   /- ROWFAULTS -/ ⟨0x08C, 4096, 1, 4, 1, false,
     [⟨0, 32, .snp, 0, false, .free⟩]⟩,
   /- ROWFAULT -/ ⟨0x090, 4096, 1, 4, 1, false,
     [⟨0, 7, .ro, 0, false, .free⟩]⟩,
   /- THERMF -/ ⟨0x100, 32, 4, 4, 8, true,
     [⟨0, 16, .rws, 0x8000, false, .free⟩,
      ⟨16, 16, .rws, 0x8000, false, .free⟩]⟩]

/-- The registers of the page type CAL, from the field tables of spec/ (R430). -/
def calRegs : List RegSpec :=
  [/- CMD -/ ⟨0x040, 4096, 1, 4, 1, false,
     [⟨0, 3, .wo, 0, false, .free⟩,
      ⟨3, 1, .wo, 0, false, .free⟩,
      ⟨4, 1, .wo, 0, false, .free⟩,
      ⟨5, 1, .wo, 0, false, .free⟩]⟩,
   /- CTRL -/ ⟨0x044, 4096, 1, 4, 1, false,
     [⟨1, 5, .rw, 0x1f, false, .free⟩,
      ⟨6, 4, .rw, 4, false, (.clamp 1 8)⟩,
      ⟨10, 6, .rw, 5, false, (.clamp 2 63)⟩,
      ⟨16, 8, .rw, 0x18, false, .free⟩]⟩,
   /- STAT -/ ⟨0x048, 4096, 1, 4, 1, false,
     [⟨0, 2, .ro, 0, false, .free⟩,
      ⟨2, 3, .ro, 0, false, .free⟩,
      ⟨5, 3, .ro, 0, false, .free⟩,
      ⟨8, 3, .ro, 0, false, .free⟩,
      ⟨11, 9, .ro, 0, false, .free⟩,
      ⟨20, 9, .ro, 0, false, .free⟩]⟩,
   /- PRECOND -/ ⟨0x04C, 4096, 1, 4, 1, false,
     [⟨0, 4, .ro, 0, false, .free⟩,
      ⟨4, 3, .ro, 0, false, .free⟩,
      ⟨7, 1, .ro, 0, false, .free⟩]⟩,
   /- PRESTROKE -/ ⟨0x050, 4096, 1, 4, 1, false,
     [⟨0, 32, .ro, 0, false, .free⟩]⟩,
   /- NOSET -/ ⟨0x054, 4096, 1, 4, 1, false,
     [⟨0, 4, .ro, 0, true, .free⟩,
      ⟨4, 1, .ro, 0, true, .free⟩]⟩,
   /- ISET -/ ⟨0x058, 4096, 1, 4, 1, false,
     [⟨0, 16, .ro, 0, true, .free⟩]⟩,
   /- LASTOK -/ ⟨0x068, 8, 5, 4, 1, false,
     [⟨0, 32, .ro, 0, false, .free⟩]⟩,
   /- LASTTJ -/ ⟨0x06C, 8, 5, 4, 1, false,
     [⟨0, 8, .ro, 0, false, .free⟩,
      ⟨8, 2, .ro, 0, false, .free⟩]⟩,
   /- SETTAG -/ ⟨0x090, 4, 5, 4, 1, false,
     [⟨0, 32, .ro, 0, true, .free⟩]⟩,
   /- TSOFS -/ ⟨0x0C0, 4, 4, 4, 1, false,
     [⟨0, 16, .ro, 0, false, .free⟩,
      ⟨16, 16, .ro, 0, false, .free⟩]⟩,
   /- SEQDONE -/ ⟨0x0E0, 4096, 1, 4, 1, false,
     [⟨0, 32, .snp, 0, false, .free⟩]⟩,
   /- SEQABORT -/ ⟨0x0E4, 4096, 1, 4, 1, false,
     [⟨0, 32, .snp, 0, false, .free⟩]⟩,
   /- STEPSKIP -/ ⟨0x0E8, 4096, 1, 4, 1, false,
     [⟨0, 32, .snp, 0, false, .free⟩]⟩]

/-- The registers of the page type THS, from the field tables of spec/ (R430). -/
def thsRegs : List RegSpec :=
  [/- TJMAX -/ ⟨0x040, 4096, 1, 4, 1, false,
     [⟨0, 16, .ro, 0, true, .free⟩,
      ⟨16, 4, .ro, 0, true, .free⟩,
      ⟨20, 8, .ro, 0, true, .free⟩]⟩,
   /- TEXT -/ ⟨0x044, 4096, 1, 4, 1, false,
     [⟨0, 16, .ro, 0, true, .free⟩,
      ⟨16, 2, .ro, 0, true, .free⟩]⟩,
   /- TEXTCFG -/ ⟨0x048, 4096, 1, 4, 1, false,
     [⟨0, 15, .rw, 0x3e8, false, .free⟩,
      ⟨15, 1, .rw, 0, false, .free⟩,
      ⟨16, 13, .rw, 0xd6b, false, .free⟩]⟩,
   /- THRCFG -/ ⟨0x04C, 4096, 1, 4, 1, false,
     [⟨0, 1, .rw, 1, false, .free⟩,
      ⟨1, 1, .rw, 0, false, .free⟩,
      ⟨2, 4, .rw, 8, false, (.clamp 0 8)⟩,
      ⟨8, 8, .rw, 0x64, false, (.clamp 60 120)⟩,
      ⟨16, 4, .rw, 2, false, (.clamp 1 15)⟩]⟩,
   /- THRSTAT -/ ⟨0x050, 4096, 1, 4, 1, false,
     [⟨0, 4, .ro, 0, false, .free⟩,
      ⟨4, 4, .ro, 0, false, .free⟩,
      ⟨16, 16, .ro, 0, true, .free⟩]⟩,
   /- RAILSTAT -/ ⟨0x054, 4096, 1, 4, 1, false,
     [⟨0, 10, .ro, 0, true, .free⟩,
      ⟨16, 4, .ro, 0, false, .free⟩]⟩,
   /- NVQ -/ ⟨0x058, 4096, 1, 4, 1, false,
     [⟨0, 6, .ro, 0, true, .free⟩]⟩,
   /- SENSOR -/ ⟨0x060, 4, 8, 4, 1, false,
     [⟨0, 16, .ro, 0, true, .free⟩,
      ⟨16, 1, .ro, 0, true, .free⟩]⟩,
   /- THRUP -/ ⟨0x080, 4096, 1, 4, 1, false,
     [⟨0, 32, .snp, 0, false, .free⟩]⟩,
   /- THRDOWN -/ ⟨0x084, 4096, 1, 4, 1, false,
     [⟨0, 32, .snp, 0, false, .free⟩]⟩,
   /- SUPWARNS -/ ⟨0x088, 4096, 1, 4, 1, false,
     [⟨0, 32, .snp, 0, false, .free⟩]⟩,
   /- FROZEN -/ ⟨0x08C, 4096, 1, 4, 1, false,
     [⟨0, 32, .snp, 0, false, .free⟩]⟩,
   /- NVLOST -/ ⟨0x090, 4096, 1, 4, 1, false,
     [⟨0, 32, .snp, 0, false, .free⟩]⟩,
   /- EVIDX -/ ⟨0x0A0, 4096, 1, 4, 1, false,
     [⟨0, 11, .rw, 0, false, (.clamp 0 2045)⟩,
      ⟨11, 1, .ro, 0, true, .free⟩]⟩,
   /- EVHEAD -/ ⟨0x0A4, 4096, 1, 4, 1, false,
     [⟨0, 11, .ro, 0, true, .free⟩,
      ⟨11, 1, .ro, 0, true, .free⟩]⟩,
   /- EVDATA -/ ⟨0x0C0, 4, 8, 4, 1, false,
     [⟨0, 32, .ro, 0, true, .free⟩]⟩]

/-- The registers of the page type FLT, from the field tables of spec/ (R430). -/
def fltRegs : List RegSpec :=
  [/- CTRL -/ ⟨0x040, 4096, 1, 4, 1, false,
     [⟨0, 4, .rw, 3, false, (.clamp 1 15)⟩]⟩,
   /- STAT -/ ⟨0x044, 4096, 1, 4, 1, false,
     [⟨0, 1, .ro, 0, true, .free⟩,
      ⟨1, 1, .ro, 0, true, .free⟩,
      ⟨2, 1, .ro, 0, true, .free⟩,
      ⟨3, 2, .ro, 0, false, .free⟩,
      ⟨8, 8, .ro, 0, true, .free⟩]⟩,
   /- RSEL -/ ⟨0x048, 4096, 1, 4, 1, false,
     [⟨0, 16, .rw, 0, false, .free⟩]⟩,
   /- REACT -/ ⟨0x04C, 4096, 1, 4, 1, false,
     [⟨0, 3, .rw, 0, false, .free⟩,
      ⟨3, 1, .rw, 0, false, .free⟩,
      ⟨4, 4, .rw, 0, false, .free⟩,
      ⟨30, 1, .ro, 0, false, .free⟩,
      ⟨31, 1, .ro, 0, true, .free⟩]⟩,
   /- CMD -/ ⟨0x050, 4096, 1, 4, 1, false,
     [⟨0, 1, .wo, 0, false, .free⟩,
      ⟨1, 1, .wo, 0, false, .free⟩,
      ⟨2, 1, .wo, 0, false, .free⟩,
      ⟨3, 1, .wo, 0, false, .free⟩,
      ⟨16, 16, .wo, 0, false, .free⟩]⟩,
   /- PROOFIDX -/ ⟨0x054, 4096, 1, 4, 1, false,
     [⟨0, 16, .rw, 0, false, .free⟩]⟩,
   /- PROOFSTAT -/ ⟨0x058, 4096, 1, 4, 1, false,
     [⟨0, 3, .ro, 0, false, .free⟩,
      ⟨3, 3, .ro, 0, false, .free⟩,
      ⟨6, 1, .ro, 0, false, .free⟩,
      ⟨7, 1, .ro, 0, false, .free⟩,
      ⟨16, 16, .ro, 0, false, .free⟩]⟩,
   /- SECSEL -/ ⟨0x05C, 4096, 1, 4, 1, false,
     [⟨0, 12, .rw, 0, false, .free⟩]⟩,
   /- SECDATA -/ ⟨0x060, 4096, 1, 4, 1, false,
     [⟨0, 32, .w1c, 0, false, .free⟩]⟩,
   /- SECANY -/ ⟨0x064, 4096, 1, 4, 1, false,
     [⟨0, 12, .ro, 0, true, .free⟩,
      ⟨31, 1, .ro, 0, true, .free⟩]⟩,
   /- BWIDX -/ ⟨0x068, 4096, 1, 4, 1, false,
     [⟨0, 16, .ro, 0, false, .free⟩,
      ⟨16, 16, .ro, 0, true, .free⟩]⟩,
   /- PENDPAGE -/ ⟨0x06C, 4096, 1, 4, 1, false,
     [⟨0, 12, .ro, 0, true, .free⟩,
      ⟨31, 1, .ro, 0, true, .free⟩]⟩,
   /- LOGSTAT -/ ⟨0x070, 4096, 1, 4, 1, false,
     [⟨0, 6, .ro, 0, false, .free⟩,
      ⟨8, 5, .ro, 0, false, .free⟩,
      ⟨16, 1, .wo, 0, false, .free⟩]⟩,
   /- EVENTS -/ ⟨0x080, 4096, 1, 4, 1, false,
     [⟨0, 32, .snp, 0, false, .free⟩]⟩,
   /- SECONDARY -/ ⟨0x084, 4096, 1, 4, 1, false,
     [⟨0, 32, .snp, 0, false, .free⟩]⟩,
   /- PROOFS -/ ⟨0x088, 4096, 1, 4, 1, false,
     [⟨0, 32, .snp, 0, false, .free⟩]⟩,
   /- RESETS -/ ⟨0x08C, 4096, 1, 4, 1, false,
     [⟨0, 32, .snp, 0, false, .free⟩]⟩,
   /- LOG0 -/ ⟨0x100, 8, 32, 4, 1, false,
     [⟨0, 16, .ro, 0, false, .free⟩,
      ⟨16, 1, .ro, 0, false, .free⟩,
      ⟨17, 1, .ro, 0, false, .free⟩,
      ⟨18, 1, .ro, 0, false, .free⟩,
      ⟨19, 1, .ro, 0, false, .free⟩,
      ⟨20, 3, .ro, 0, false, .free⟩]⟩,
   /- LOG1 -/ ⟨0x104, 8, 32, 4, 1, false,
     [⟨0, 32, .ro, 0, false, .free⟩]⟩]

/-- The registers of the page type PAIR, from the field tables of spec/ (R430). -/
def pairRegs : List RegSpec :=
  [/- CFG -/ ⟨0x040, 4096, 1, 4, 1, false,
     [⟨0, 1, .rw, 0, false, .free⟩,
      ⟨1, 1, .rw, 0, false, .free⟩,
      ⟨2, 1, .rw, 1, false, .free⟩,
      ⟨3, 1, .rw, 1, false, .free⟩,
      ⟨8, 6, .rw, 6, false, (.clamp 2 63)⟩,
      ⟨16, 4, .rw, 2, false, (.clamp 1 15)⟩,
      ⟨20, 4, .rw, 4, false, (.clamp 2 15)⟩,
      ⟨24, 8, .rw, 0x18, false, .free⟩]⟩,
   /- STAT -/ ⟨0x044, 4096, 1, 4, 1, false,
     [⟨0, 3, .ro, 0, true, .free⟩,
      ⟨3, 1, .ro, 0, true, .free⟩,
      ⟨4, 2, .ro, 0, true, .free⟩,
      ⟨6, 1, .ro, 0, true, .free⟩,
      ⟨7, 1, .ro, 0, false, .free⟩,
      ⟨8, 8, .ro, 0, true, .free⟩,
      ⟨16, 8, .ro, 0, true, .free⟩,
      ⟨24, 1, .ro, 0, true, .free⟩]⟩,
   /- EPOCH -/ ⟨0x048, 4096, 1, 4, 1, false,
     [⟨0, 32, .ro, 0, true, .free⟩]⟩,
   /- PARTNERLO -/ ⟨0x04C, 4096, 1, 4, 1, false,
     [⟨0, 32, .ro, 0, true, .free⟩]⟩,
   /- PARTNERHI -/ ⟨0x050, 4096, 1, 4, 1, false,
     [⟨0, 32, .ro, 0, true, .free⟩]⟩,
   /- VALIDTO -/ ⟨0x054, 4096, 1, 4, 1, false,
     [⟨0, 32, .ro, 0, true, .free⟩]⟩,
   /- STALEAGE -/ ⟨0x058, 4096, 1, 4, 1, false,
     [⟨0, 16, .ro, 0, true, .free⟩]⟩,
   /- JSEQ -/ ⟨0x05C, 4096, 1, 4, 1, false,
     [⟨0, 32, .ro, 0, true, .free⟩]⟩,
   /- CMD -/ ⟨0x060, 4096, 1, 4, 1, false,
     [⟨0, 3, .wo, 0, false, .free⟩,
      ⟨16, 16, .wo, 0, false, .free⟩]⟩,
   /- CREWSTROKE -/ ⟨0x064, 4096, 1, 4, 1, false,
     [⟨0, 32, .rw, 0, false, .free⟩]⟩,
   /- CMDSTAT -/ ⟨0x068, 4096, 1, 4, 1, false,
     [⟨0, 4, .ro, 0, false, .free⟩]⟩,
   /- LASTTAKE -/ ⟨0x06C, 4096, 1, 4, 1, false,
     [⟨0, 32, .ro, 0, false, .free⟩]⟩,
   /- TAKEINFO -/ ⟨0x070, 4096, 1, 4, 1, false,
     [⟨0, 3, .ro, 0, false, .free⟩,
      ⟨16, 16, .ro, 0, false, .free⟩]⟩,
   /- ACTIVEAGE -/ ⟨0x074, 4096, 1, 4, 1, false,
     [⟨0, 16, .ro, 0, true, .free⟩]⟩,
   /- TKSKEW -/ ⟨0x078, 4096, 1, 4, 1, false,
     [⟨0, 32, .ro, 0, true, .free⟩]⟩,
   /- TAKEOVERS -/ ⟨0x080, 4096, 1, 4, 1, false,
     [⟨0, 32, .snp, 0, false, .free⟩]⟩,
   /- CREWCHANGES -/ ⟨0x084, 4096, 1, 4, 1, false,
     [⟨0, 32, .snp, 0, false, .free⟩]⟩,
   /- YIELDS -/ ⟨0x088, 4096, 1, 4, 1, false,
     [⟨0, 32, .snp, 0, false, .free⟩]⟩,
   /- SPLITS -/ ⟨0x08C, 4096, 1, 4, 1, false,
     [⟨0, 32, .snp, 0, false, .free⟩]⟩,
   /- JREPLAYS -/ ⟨0x090, 4096, 1, 4, 1, false,
     [⟨0, 32, .snp, 0, false, .free⟩]⟩,
   /- RESYNCS -/ ⟨0x094, 4096, 1, 4, 1, false,
     [⟨0, 32, .snp, 0, false, .free⟩]⟩,
   /- DIVERGE -/ ⟨0x098, 4096, 1, 4, 1, false,
     [⟨0, 32, .snp, 0, false, .free⟩]⟩]

/-- The registers of the page type BST, from the field tables of spec/ (R430). -/
def bstRegs : List RegSpec :=
  [/- CTRL -/ ⟨0x040, 4096, 1, 4, 1, false,
     [⟨0, 1, .rw, 0, false, .free⟩,
      ⟨1, 1, .rw, 1, false, .free⟩]⟩,
   /- CMD -/ ⟨0x044, 4096, 1, 4, 1, false,
     [⟨0, 3, .wo, 0, false, .free⟩,
      ⟨16, 16, .wo, 0, false, .free⟩]⟩,
   /- GMASK -/ ⟨0x048, 4096, 1, 4, 1, false,
     [⟨0, 23, .rw, 0, false, .free⟩]⟩,
   /- STAT -/ ⟨0x04C, 4096, 1, 4, 1, false,
     [⟨0, 2, .ro, 0, false, .free⟩,
      ⟨2, 4, .ro, 0, false, .free⟩,
      ⟨6, 3, .ro, 0, true, .free⟩]⟩,
   /- FAILMASK -/ ⟨0x050, 4096, 1, 4, 1, false,
     [⟨0, 23, .ro, 0, true, .free⟩]⟩,
   /- REPSTAT -/ ⟨0x054, 4096, 1, 4, 1, false,
     [⟨0, 9, .ro, 0, true, .free⟩,
      ⟨9, 7, .ro, 0, true, .free⟩]⟩,
   /- RUNS -/ ⟨0x080, 4096, 1, 4, 1, false,
     [⟨0, 32, .snp, 0, false, .free⟩]⟩,
   /- DEFERRED -/ ⟨0x084, 4096, 1, 4, 1, false,
     [⟨0, 32, .snp, 0, false, .free⟩]⟩,
   /- DISCARDED -/ ⟨0x088, 4096, 1, 4, 1, false,
     [⟨0, 32, .snp, 0, false, .free⟩]⟩,
   /- GROUP -/ ⟨0x100, 4, 23, 4, 1, false,
     [⟨0, 3, .ro, 0, false, .free⟩,
      ⟨3, 1, .ro, 0, true, .free⟩,
      ⟨4, 1, .ro, 0, false, .free⟩,
      ⟨5, 1, .ro, 0, false, .free⟩,
      ⟨8, 4, .ro, 0, true, .free⟩]⟩]

/-- The registers of the page type UPD, from the field tables of spec/ (R430). -/
def updRegs : List RegSpec :=
  [/- CTRL -/ ⟨0x040, 4096, 1, 4, 1, false,
     [⟨0, 16, .rw, 0, false, .free⟩]⟩,
   /- REGSTROKE -/ ⟨0x044, 4096, 1, 4, 1, false,
     [⟨0, 32, .rw, 0, false, .free⟩]⟩,
   /- CMD -/ ⟨0x048, 4096, 1, 4, 1, false,
     [⟨0, 4, .wo, 0, false, .free⟩,
      ⟨16, 16, .wo, 0, false, .free⟩]⟩,
   /- STAT -/ ⟨0x04C, 4096, 1, 4, 1, false,
     [⟨0, 4, .ro, 0, true, .free⟩,
      ⟨4, 2, .ro, 0, false, .free⟩,
      ⟨6, 4, .ro, 0, false, .free⟩,
      ⟨10, 2, .ro, 0, true, .free⟩,
      ⟨12, 1, .ro, 0, true, .free⟩]⟩,
   /- XFER -/ ⟨0x050, 4096, 1, 4, 1, false,
     [⟨0, 16, .rw, 0, false, .free⟩,
      ⟨16, 2, .rw, 0, false, .free⟩,
      ⟨18, 1, .rw, 0, false, .free⟩]⟩,
   /- XFERLEN -/ ⟨0x054, 4096, 1, 4, 1, false,
     [⟨0, 27, .rw, 0, false, (.clamp 0 67108864)⟩]⟩,
   /- XFERSTAT -/ ⟨0x058, 4096, 1, 4, 1, false,
     [⟨0, 20, .ro, 0, true, .free⟩]⟩,
   /- MISSING -/ ⟨0x05C, 4096, 1, 4, 1, false,
     [⟨0, 20, .ro, 0, true, .free⟩]⟩,
   /- VER -/ ⟨0x060, 4096, 1, 4, 1, false,
     [⟨0, 32, .ro, 0, true, .free⟩]⟩,
   /- STAGEVER -/ ⟨0x064, 4096, 1, 4, 1, false,
     [⟨0, 32, .ro, 0, true, .free⟩]⟩,
   /- KEEPVER -/ ⟨0x068, 4096, 1, 4, 1, false,
     [⟨0, 32, .ro, 0, true, .free⟩]⟩,
   /- ACTIVEVER -/ ⟨0x06C, 4096, 1, 4, 1, false,
     [⟨0, 32, .ro, 0, true, .free⟩]⟩,
   /- CONSOL -/ ⟨0x070, 4096, 1, 4, 1, false,
     [⟨0, 16, .ro, 0, true, .free⟩,
      ⟨16, 14, .ro, 0, true, .free⟩,
      ⟨30, 2, .ro, 0, true, .free⟩]⟩,
   /- SETSTAT -/ ⟨0x074, 4096, 1, 4, 1, false,
     [⟨0, 8, .ro, 0, true, .free⟩,
      ⟨8, 2, .ro, 0, true, .free⟩]⟩,
   /- DISTSEL -/ ⟨0x078, 4096, 1, 4, 1, false,
     [⟨0, 8, .rw, 0, false, .free⟩,
      ⟨8, 1, .rw, 1, false, .free⟩,
      ⟨9, 1, .rw, 0, false, .free⟩,
      ⟨16, 16, .rw, 0, false, .free⟩]⟩,
   /- WINBASE -/ ⟨0x07C, 4096, 1, 4, 1, false,
     [⟨0, 26, .rw, 0, false, .free⟩]⟩,
   /- DISTSTAT -/ ⟨0x080, 4, 8, 4, 1, false,
     [⟨0, 7, .ro, 0, false, .free⟩,
      ⟨8, 7, .ro, 0, false, .free⟩,
      ⟨16, 3, .ro, 0, false, .free⟩,
      ⟨19, 2, .ro, 0, false, .free⟩]⟩,
   /- CHUNKS -/ ⟨0x0A0, 4096, 1, 4, 1, false,
     [⟨0, 32, .snp, 0, false, .free⟩]⟩,
   /- CHUNKDISC -/ ⟨0x0A4, 4096, 1, 4, 1, false,
     [⟨0, 32, .snp, 0, false, .free⟩]⟩,
   /- ACTIVATIONS -/ ⟨0x0A8, 4096, 1, 4, 1, false,
     [⟨0, 32, .snp, 0, false, .free⟩]⟩,
   /- DEFERRED -/ ⟨0x0AC, 4096, 1, 4, 1, false,
     [⟨0, 32, .snp, 0, false, .free⟩]⟩,
   /- WIN -/ ⟨0x400, 4, 256, 4, 1, false,
     [⟨0, 32, .rw, 0, false, .free⟩]⟩]

/-- The registers of the page type NP, from the field tables of spec/ (R430). -/
def npRegs : List RegSpec :=
  [/- CTRL -/ ⟨0x040, 4096, 1, 4, 1, false,
     [⟨0, 1, .rw, 0, false, .free⟩,
      ⟨1, 1, .rw, 0, false, .free⟩,
      ⟨2, 1, .rw, 1, false, .free⟩,
      ⟨3, 1, .rw, 0, false, .free⟩,
      ⟨4, 1, .rw, 0, false, .free⟩,
      ⟨5, 1, .rw, 0, false, .free⟩,
      ⟨16, 12, .rw, 0, false, .free⟩]⟩,
   /- STATUS -/ ⟨0x044, 4096, 1, 4, 1, false,
     [⟨0, 4, .ro, 0, true, .free⟩,
      ⟨4, 4, .ro, 0, true, .free⟩,
      ⟨8, 4, .ro, 0, true, .free⟩,
      ⟨12, 1, .ro, 0, true, .free⟩,
      ⟨16, 4, .ro, 0, true, .free⟩]⟩,
   /- MACLO -/ ⟨0x048, 4096, 1, 4, 1, false,
     [⟨0, 32, .rw, 0, false, .free⟩]⟩,
   /- MACHI -/ ⟨0x04C, 4096, 1, 4, 1, false,
     [⟨0, 16, .rw, 0, false, .free⟩]⟩,
   /- IPADDR -/ ⟨0x050, 4, 4, 4, 1, false,
     [⟨0, 32, .rw, 0, false, .free⟩]⟩,
   /- LPIWAKE -/ ⟨0x060, 4096, 1, 4, 1, false,
     [⟨0, 16, .ro, 0, true, .free⟩,
      ⟨16, 16, .ro, 0, true, .free⟩]⟩,
   /- STATHALF -/ ⟨0x064, 4, 4, 4, 1, false,
     [⟨0, 24, .w1c, 0, false, .free⟩]⟩,
   /- RXOCTETS -/ ⟨0x200, 128, 4, 4, 1, false,
     [⟨0, 32, .snp, 0, false, .free⟩]⟩,
   /- RXFRAMES -/ ⟨0x204, 128, 4, 4, 1, false,
     [⟨0, 32, .snp, 0, false, .free⟩]⟩,
   /- RXMCAST -/ ⟨0x208, 128, 4, 4, 1, false,
     [⟨0, 32, .snp, 0, false, .free⟩]⟩,
   /- RXBCAST -/ ⟨0x20C, 128, 4, 4, 1, false,
     [⟨0, 32, .snp, 0, false, .free⟩]⟩,
   /- RXFCSERR -/ ⟨0x210, 128, 4, 4, 1, false,
     [⟨0, 32, .snp, 0, false, .free⟩]⟩,
   /- RXUNDER -/ ⟨0x214, 128, 4, 4, 1, false,
     [⟨0, 32, .snp, 0, false, .free⟩]⟩,
   /- RXOVER -/ ⟨0x218, 128, 4, 4, 1, false,
     [⟨0, 32, .snp, 0, false, .free⟩]⟩,
   /- RXFRAG -/ ⟨0x21C, 128, 4, 4, 1, false,
     [⟨0, 32, .snp, 0, false, .free⟩]⟩,
   /- RXJABBER -/ ⟨0x220, 128, 4, 4, 1, false,
     [⟨0, 32, .snp, 0, false, .free⟩]⟩,
   /- RXPAUSE -/ ⟨0x224, 128, 4, 4, 1, false,
     [⟨0, 32, .snp, 0, false, .free⟩]⟩,
   /- RXCTLUNSUP -/ ⟨0x228, 128, 4, 4, 1, false,
     [⟨0, 32, .snp, 0, false, .free⟩]⟩,
   /- RXFILTER -/ ⟨0x22C, 128, 4, 4, 1, false,
     [⟨0, 32, .snp, 0, false, .free⟩]⟩,
   /- RXOVF -/ ⟨0x230, 128, 4, 4, 1, false,
     [⟨0, 32, .snp, 0, false, .free⟩]⟩,
   /- RXTRUNC -/ ⟨0x234, 128, 4, 4, 1, false,
     [⟨0, 32, .snp, 0, false, .free⟩]⟩,
   /- RXNODESC -/ ⟨0x238, 128, 4, 4, 1, false,
     [⟨0, 32, .snp, 0, false, .free⟩]⟩,
   /- TXOCTETS -/ ⟨0x23C, 128, 4, 4, 1, false,
     [⟨0, 32, .snp, 0, false, .free⟩]⟩,
   /- TXFRAMES -/ ⟨0x240, 128, 4, 4, 1, false,
     [⟨0, 32, .snp, 0, false, .free⟩]⟩] ++
  [/- TXPAUSE -/ ⟨0x244, 128, 4, 4, 1, false,
     [⟨0, 32, .snp, 0, false, .free⟩]⟩,
   /- TXERR -/ ⟨0x248, 128, 4, 4, 1, false,
     [⟨0, 32, .snp, 0, false, .free⟩]⟩,
   /- FECCORR -/ ⟨0x24C, 128, 4, 4, 1, false,
     [⟨0, 32, .snp, 0, false, .free⟩]⟩,
   /- FECUNCORR -/ ⟨0x250, 128, 4, 4, 1, false,
     [⟨0, 32, .snp, 0, false, .free⟩]⟩,
   /- RXLPIEVT -/ ⟨0x254, 128, 4, 4, 1, false,
     [⟨0, 32, .snp, 0, false, .free⟩]⟩,
   /- TXLPIEVT -/ ⟨0x258, 128, 4, 4, 1, false,
     [⟨0, 32, .snp, 0, false, .free⟩]⟩,
   /- PCSERR -/ ⟨0x25C, 128, 4, 4, 1, false,
     [⟨0, 32, .snp, 0, false, .free⟩]⟩]

/-- The registers of the page type FLW, from the field tables of spec/ (R430). -/
def flwRegs : List RegSpec :=
  [/- CTRL -/ ⟨0x040, 4096, 1, 4, 1, false,
     [⟨0, 1, .rw, 0, false, .free⟩,
      ⟨1, 1, .rw, 0, false, .free⟩,
      ⟨2, 1, .rw, 0, false, .free⟩,
      ⟨3, 1, .rw, 1, false, .free⟩,
      ⟨4, 4, .rw, 8, false, .free⟩]⟩,
   /- LEGA -/ ⟨0x044, 4096, 1, 4, 1, false,
     [⟨0, 2, .rw, 0, false, .free⟩,
      ⟨2, 2, .rw, 0, false, .free⟩,
      ⟨16, 16, .rw, 0, false, .free⟩]⟩,
   /- LEGB -/ ⟨0x048, 4096, 1, 4, 1, false,
     [⟨0, 2, .rw, 0, false, .free⟩,
      ⟨2, 2, .rw, 0, false, .free⟩,
      ⟨16, 16, .rw, 0, false, .free⟩]⟩,
   /- GRPA -/ ⟨0x04C, 4096, 1, 4, 1, false,
     [⟨0, 32, .rw, 0, false, .free⟩]⟩,
   /- SRCA -/ ⟨0x050, 4096, 1, 4, 1, false,
     [⟨0, 32, .rw, 0, false, .free⟩]⟩,
   /- GRPB -/ ⟨0x054, 4096, 1, 4, 1, false,
     [⟨0, 32, .rw, 0, false, .free⟩]⟩,
   /- SRCB -/ ⟨0x058, 4096, 1, 4, 1, false,
     [⟨0, 32, .rw, 0, false, .free⟩]⟩,
   /- FMT -/ ⟨0x05C, 4096, 1, 4, 1, false,
     [⟨0, 2, .rw, 0, false, .free⟩,
      ⟨2, 2, .rw, 0, false, .free⟩,
      ⟨4, 2, .rw, 0, false, .free⟩,
      ⟨6, 2, .rw, 0, false, .free⟩,
      ⟨8, 1, .rw, 0, false, .free⟩,
      ⟨9, 7, .rw, 0x60, false, (.clamp 96 127)⟩]⟩,
   /- SIZE -/ ⟨0x060, 4096, 1, 4, 1, false,
     [⟨0, 16, .rw, 0, false, (.clamp 16 7680)⟩,
      ⟨16, 16, .rw, 0, false, (.clamp 16 4320)⟩]⟩,
   /- RATE -/ ⟨0x064, 4096, 1, 4, 1, false,
     [⟨0, 17, .rw, 0, false, (.clamp 0 100000)⟩]⟩,
   /- SURF -/ ⟨0x068, 4096, 1, 4, 1, false,
     [⟨0, 12, .rw, 0, false, .free⟩,
      ⟨12, 4, .rw, 3, false, (.clamp 3 8)⟩]⟩,
   /- SYNC -/ ⟨0x06C, 4096, 1, 4, 1, false,
     [⟨0, 20, .rw, 0, false, .free⟩,
      ⟨24, 4, .rw, 0xa, false, (.clamp 1 10)⟩]⟩,
   /- STAT -/ ⟨0x070, 4096, 1, 4, 1, false,
     [⟨0, 2, .ro, 0, false, .free⟩,
      ⟨4, 4, .ro, 0, false, .free⟩,
      ⟨8, 1, .ro, 0, true, .free⟩,
      ⟨9, 1, .ro, 0, true, .free⟩,
      ⟨10, 1, .ro, 0, true, .free⟩,
      ⟨12, 3, .ro, 0, true, .free⟩,
      ⟨16, 3, .ro, 0, true, .free⟩]⟩,
   /- FRAMES -/ ⟨0x080, 4096, 1, 4, 1, false,
     [⟨0, 32, .snp, 0, false, .free⟩]⟩,
   /- INCOMPLETE -/ ⟨0x084, 4096, 1, 4, 1, false,
     [⟨0, 32, .snp, 0, false, .free⟩]⟩,
   /- SHED -/ ⟨0x088, 4096, 1, 4, 1, false,
     [⟨0, 32, .snp, 0, false, .free⟩]⟩,
   /- REPEAT -/ ⟨0x08C, 4096, 1, 4, 1, false,
     [⟨0, 32, .snp, 0, false, .free⟩]⟩,
   /- SKIP -/ ⟨0x090, 4096, 1, 4, 1, false,
     [⟨0, 32, .snp, 0, false, .free⟩]⟩,
   /- MALFORMED -/ ⟨0x094, 4096, 1, 4, 1, false,
     [⟨0, 32, .snp, 0, false, .free⟩]⟩,
   /- DUPLICATE -/ ⟨0x098, 4096, 1, 4, 1, false,
     [⟨0, 32, .snp, 0, false, .free⟩]⟩,
   /- LATEDUP -/ ⟨0x09C, 4096, 1, 4, 1, false,
     [⟨0, 32, .snp, 0, false, .free⟩]⟩,
   /- NOBUF -/ ⟨0x0A0, 4096, 1, 4, 1, false,
     [⟨0, 32, .snp, 0, false, .free⟩]⟩,
   /- LEGAPKT -/ ⟨0x0A4, 4096, 1, 4, 1, false,
     [⟨0, 32, .snp, 0, false, .free⟩]⟩,
   /- LEGBPKT -/ ⟨0x0A8, 4096, 1, 4, 1, false,
     [⟨0, 32, .snp, 0, false, .free⟩]⟩] ++
  [/- LEGAMISS -/ ⟨0x0AC, 4096, 1, 4, 1, false,
     [⟨0, 32, .snp, 0, false, .free⟩]⟩,
   /- LEGBMISS -/ ⟨0x0B0, 4096, 1, 4, 1, false,
     [⟨0, 32, .snp, 0, false, .free⟩]⟩,
   /- LASTRTP -/ ⟨0x0C0, 4096, 1, 4, 1, false,
     [⟨0, 32, .ro, 0, true, .free⟩]⟩]

/-- The registers of the page type VW, from the field tables of spec/ (R430). -/
def vwRegs : List RegSpec :=
  [/- CTRL -/ ⟨0x040, 4096, 1, 4, 1, true,
     [⟨0, 1, .rws, 0, false, .free⟩,
      ⟨4, 12, .rws, 0, false, .free⟩,
      ⟨16, 4, .rws, 0, false, .free⟩]⟩,
   /- BGRG -/ ⟨0x044, 4096, 1, 4, 1, true,
     [⟨0, 16, .rws, 0, false, .free⟩,
      ⟨16, 16, .rws, 0, false, .free⟩]⟩,
   /- BGB -/ ⟨0x048, 4096, 1, 4, 1, true,
     [⟨0, 16, .rws, 0, false, .free⟩]⟩,
   /- WBSTAT -/ ⟨0x04C, 4096, 1, 4, 1, false,
     [⟨0, 32, .ro, 0, false, .free⟩]⟩,
   /- LCTRL -/ ⟨0x100, 64, 16, 4, 1, true,
     [⟨0, 1, .rws, 0, false, .free⟩,
      ⟨1, 2, .rws, 0, false, (.refuse 0 2)⟩,
      ⟨3, 2, .rws, 0, false, .free⟩,
      ⟨5, 1, .rws, 0, false, .free⟩,
      ⟨6, 1, .rws, 0, false, .free⟩,
      ⟨7, 1, .rws, 0, false, .free⟩,
      ⟨8, 5, .rws, 0x1f, false, .free⟩,
      ⟨13, 1, .rws, 0, false, .free⟩,
      ⟨14, 5, .rws, 0, false, .free⟩,
      ⟨20, 12, .rws, 0, false, .free⟩]⟩,
   /- LDST -/ ⟨0x104, 64, 16, 4, 1, true,
     [⟨0, 16, .rws, 0, false, .free⟩,
      ⟨16, 16, .rws, 0, false, .free⟩]⟩,
   /- LDSIZE -/ ⟨0x108, 64, 16, 4, 1, true,
     [⟨0, 16, .rws, 0, false, .free⟩,
      ⟨16, 16, .rws, 0, false, .free⟩]⟩,
   /- LSRCX -/ ⟨0x10C, 64, 16, 4, 1, true,
     [⟨0, 32, .rws, 0, false, .free⟩]⟩,
   /- LSRCY -/ ⟨0x110, 64, 16, 4, 1, true,
     [⟨0, 32, .rws, 0, false, .free⟩]⟩,
   /- LSTEPX -/ ⟨0x114, 64, 16, 4, 1, true,
     [⟨0, 32, .rws, 0x10000, false, .free⟩]⟩,
   /- LSTEPY -/ ⟨0x118, 64, 16, 4, 1, true,
     [⟨0, 32, .rws, 0x10000, false, .free⟩]⟩,
   /- LCROPO -/ ⟨0x11C, 64, 16, 4, 1, true,
     [⟨0, 16, .rws, 0, false, .free⟩,
      ⟨16, 16, .rws, 0, false, .free⟩]⟩,
   /- LCROPS -/ ⟨0x120, 64, 16, 4, 1, true,
     [⟨0, 16, .rws, 0, false, .free⟩,
      ⟨16, 16, .rws, 0, false, .free⟩]⟩,
   /- LALPHA -/ ⟨0x124, 64, 16, 4, 1, true,
     [⟨0, 16, .rws, 0x8000, false, (.clamp 0 32768)⟩]⟩,
   /- LKEY -/ ⟨0x128, 64, 16, 4, 1, true,
     [⟨0, 16, .rws, 0, false, .free⟩,
      ⟨16, 16, .rws, 0, false, .free⟩]⟩,
   /- LFENCEV -/ ⟨0x12C, 64, 16, 4, 1, true,
     [⟨0, 32, .rws, 0, false, .free⟩]⟩,
   /- LSTAT -/ ⟨0x130, 64, 16, 4, 1, false,
     [⟨0, 12, .ro, 0, true, .free⟩,
      ⟨12, 1, .ro, 0, true, .free⟩,
      ⟨13, 1, .ro, 0, true, .free⟩,
      ⟨16, 8, .ro, 0, true, .free⟩]⟩]

/-- The registers of the page type UND, from the field tables of spec/ (R430). -/
def undRegs : List RegSpec :=
  [/- CMD -/ ⟨0x040, 4096, 1, 4, 1, false,
     [⟨0, 1, .wo, 0, false, .free⟩,
      ⟨1, 1, .wo, 0, false, .free⟩,
      ⟨2, 1, .wo, 0, false, .free⟩]⟩,
   /- BUF -/ ⟨0x044, 4096, 1, 4, 1, false,
     [⟨0, 12, .rw, 0, false, .free⟩,
      ⟨16, 12, .rw, 0, false, .free⟩]⟩,
   /- STAT -/ ⟨0x048, 4096, 1, 4, 1, false,
     [⟨0, 2, .ro, 0, false, .free⟩,
      ⟨2, 1, .ro, 0, false, .free⟩,
      ⟨3, 1, .ro, 0, false, .free⟩,
      ⟨4, 4, .ro, 0, false, .free⟩,
      ⟨16, 16, .ro, 0, false, .free⟩]⟩,
   /- BUILT -/ ⟨0x04C, 4096, 1, 4, 1, false,
     [⟨0, 32, .ro, 0, false, .free⟩]⟩,
   /- LCTRL -/ ⟨0x100, 64, 16, 4, 1, false,
     [⟨0, 1, .rw, 0, false, .free⟩,
      ⟨1, 2, .rw, 0, false, .free⟩,
      ⟨3, 2, .rw, 0, false, .free⟩,
      ⟨5, 1, .rw, 0, false, .free⟩,
      ⟨6, 1, .rw, 0, false, .free⟩,
      ⟨7, 1, .rw, 0, false, .free⟩,
      ⟨8, 5, .rw, 0x1f, false, .free⟩,
      ⟨13, 1, .rw, 0, false, .free⟩,
      ⟨14, 5, .rw, 0, false, .free⟩,
      ⟨20, 12, .rw, 0, false, .free⟩]⟩,
   /- LDST -/ ⟨0x104, 64, 16, 4, 1, false,
     [⟨0, 16, .rw, 0, false, .free⟩,
      ⟨16, 16, .rw, 0, false, .free⟩]⟩,
   /- LDSIZE -/ ⟨0x108, 64, 16, 4, 1, false,
     [⟨0, 16, .rw, 0, false, .free⟩,
      ⟨16, 16, .rw, 0, false, .free⟩]⟩,
   /- LSRCX -/ ⟨0x10C, 64, 16, 4, 1, false,
     [⟨0, 32, .rw, 0, false, .free⟩]⟩,
   /- LSRCY -/ ⟨0x110, 64, 16, 4, 1, false,
     [⟨0, 32, .rw, 0, false, .free⟩]⟩,
   /- LSTEPX -/ ⟨0x114, 64, 16, 4, 1, false,
     [⟨0, 32, .rw, 0x10000, false, .free⟩]⟩,
   /- LSTEPY -/ ⟨0x118, 64, 16, 4, 1, false,
     [⟨0, 32, .rw, 0x10000, false, .free⟩]⟩,
   /- LCROPO -/ ⟨0x11C, 64, 16, 4, 1, false,
     [⟨0, 16, .rw, 0, false, .free⟩,
      ⟨16, 16, .rw, 0, false, .free⟩]⟩,
   /- LCROPS -/ ⟨0x120, 64, 16, 4, 1, false,
     [⟨0, 16, .rw, 0, false, .free⟩,
      ⟨16, 16, .rw, 0, false, .free⟩]⟩,
   /- LALPHA -/ ⟨0x124, 64, 16, 4, 1, false,
     [⟨0, 16, .rw, 0x8000, false, (.clamp 0 32768)⟩]⟩,
   /- LKEY -/ ⟨0x128, 64, 16, 4, 1, false,
     [⟨0, 16, .rw, 0, false, .free⟩,
      ⟨16, 16, .rw, 0, false, .free⟩]⟩,
   /- LFENCEV -/ ⟨0x12C, 64, 16, 4, 1, false,
     [⟨0, 32, .rw, 0, false, .free⟩]⟩]

/-- The registers of the page type PLC, from the field tables of spec/ (R430). -/
def plcRegs : List RegSpec :=
  [/- ENTRY -/ ⟨0x100, 4, 64, 4, 1, true,
     [⟨0, 14, .rws, 0, false, .free⟩,
      ⟨14, 13, .rws, 0, false, .free⟩,
      ⟨27, 2, .rws, 0, false, .free⟩,
      ⟨29, 1, .rws, 0, false, .free⟩,
      ⟨30, 1, .rws, 0, false, .free⟩]⟩]

/-- The registers of the page type CHP, from the field tables of spec/ (R430). -/
def chpRegs : List RegSpec :=
  [/- CTRL -/ ⟨0x040, 4096, 1, 4, 1, false,
     [⟨0, 1, .rw, 0, false, .free⟩,
      ⟨1, 1, .wo, 0, false, .free⟩,
      ⟨2, 2, .ro, 0, true, .free⟩]⟩,
   /- STAT -/ ⟨0x044, 4096, 1, 4, 1, false,
     [⟨0, 2, .ro, 0, true, .free⟩,
      ⟨2, 2, .ro, 0, true, .free⟩,
      ⟨4, 2, .ro, 0, true, .free⟩,
      ⟨6, 2, .ro, 0, true, .free⟩,
      ⟨8, 1, .ro, 0, false, .free⟩,
      ⟨9, 2, .ro, 0, false, .free⟩,
      ⟨16, 7, .ro, 0, false, .free⟩]⟩,
   /- TAPS -/ ⟨0x048, 4, 2, 4, 1, false,
     [⟨0, 4, .ro, 0, true, .free⟩,
      ⟨8, 4, .ro, 0, true, .free⟩,
      ⟨16, 6, .ro, 0, true, .free⟩]⟩,
   /- LINKDLY -/ ⟨0x050, 4, 2, 4, 1, false,
     [⟨0, 32, .ro, 0, false, .free⟩]⟩,
   /- BUDGET -/ ⟨0x058, 4096, 1, 4, 1, false,
     [⟨0, 16, .ro, 0, true, .free⟩,
      ⟨16, 16, .ro, 0, true, .free⟩]⟩,
   /- CELLSRX -/ ⟨0x080, 4096, 1, 4, 1, false,
     [⟨0, 32, .snp, 0, false, .free⟩]⟩,
   /- CELLSTX -/ ⟨0x084, 4096, 1, 4, 1, false,
     [⟨0, 32, .snp, 0, false, .free⟩]⟩,
   /- CRCERR -/ ⟨0x088, 4096, 1, 4, 1, false,
     [⟨0, 32, .snp, 0, false, .free⟩]⟩,
   /- FRAMEERR -/ ⟨0x08C, 4096, 1, 4, 1, false,
     [⟨0, 32, .snp, 0, false, .free⟩]⟩,
   /- REALIGN -/ ⟨0x090, 4096, 1, 4, 1, false,
     [⟨0, 32, .snp, 0, false, .free⟩]⟩,
   /- STUFFED -/ ⟨0x094, 4096, 1, 4, 1, false,
     [⟨0, 32, .snp, 0, false, .free⟩]⟩,
   /- ALTCELLS -/ ⟨0x098, 4096, 1, 4, 1, false,
     [⟨0, 32, .snp, 0, false, .free⟩]⟩,
   /- VIDLATE -/ ⟨0x09C, 4096, 1, 4, 1, false,
     [⟨0, 32, .snp, 0, false, .free⟩]⟩,
   /- OWNDROP -/ ⟨0x0A0, 4096, 1, 4, 1, false,
     [⟨0, 32, .snp, 0, false, .free⟩]⟩,
   /- MISADDR -/ ⟨0x0A4, 4096, 1, 4, 1, false,
     [⟨0, 32, .snp, 0, false, .free⟩]⟩,
   /- NOTSERVING -/ ⟨0x0A8, 4096, 1, 4, 1, false,
     [⟨0, 32, .snp, 0, false, .free⟩]⟩,
   /- EIDLEENT -/ ⟨0x0AC, 4096, 1, 4, 1, false,
     [⟨0, 32, .snp, 0, false, .free⟩]⟩,
   /- ENUMREC0 -/ ⟨0x400, 16, 64, 4, 1, false,
     [⟨0, 32, .ro, 0, false, .free⟩]⟩,
   /- ENUMREC1 -/ ⟨0x404, 16, 64, 4, 1, false,
     [⟨0, 32, .ro, 0, false, .free⟩]⟩,
   /- ENUMREC2 -/ ⟨0x408, 16, 64, 4, 1, false,
     [⟨0, 16, .ro, 0, false, .free⟩,
      ⟨16, 16, .ro, 0, false, .free⟩]⟩,
   /- ENUMREC3 -/ ⟨0x40C, 16, 64, 4, 1, false,
     [⟨0, 8, .ro, 0xff, false, .free⟩,
      ⟨8, 5, .ro, 0, false, .free⟩,
      ⟨13, 3, .ro, 0, false, .free⟩,
      ⟨16, 1, .ro, 0, false, .free⟩,
      ⟨17, 1, .ro, 0, false, .free⟩]⟩]

/-- The registers of the page type DC, from the field tables of spec/ (R430). -/
def dcRegs : List RegSpec :=
  [/- CFG -/ ⟨0x040, 4096, 1, 4, 1, false,
     [⟨0, 1, .rw, 0, false, .free⟩,
      ⟨1, 3, .rw, 4, false, (.clamp 0 4)⟩,
      ⟨8, 8, .rw, 0x40, false, (.clamp 1 255)⟩,
      ⟨16, 8, .rw, 0x3c, false, .free⟩,
      ⟨24, 8, .rw, 0x14, false, .free⟩]⟩,
   /- STAT -/ ⟨0x044, 4096, 1, 4, 1, false,
     [⟨0, 1, .ro, 0, true, .free⟩,
      ⟨1, 2, .ro, 0, true, .free⟩,
      ⟨3, 2, .ro, 0, true, .free⟩,
      ⟨5, 2, .ro, 0, true, .free⟩,
      ⟨7, 2, .ro, 0, true, .free⟩,
      ⟨9, 4, .ro, 0, true, .free⟩]⟩,
   /- REFCOST -/ ⟨0x048, 4096, 1, 4, 1, false,
     [⟨0, 10, .ro, 0, true, .free⟩,
      ⟨16, 16, .ro, 0, true, .free⟩]⟩,
   /- DRIFTNOW -/ ⟨0x04C, 4096, 1, 4, 1, false,
     [⟨0, 16, .ro, 0, true, .free⟩]⟩,
   /- CE -/ ⟨0x050, 4096, 1, 4, 1, false,
     [⟨0, 32, .snp, 0, false, .free⟩]⟩,
   /- UE -/ ⟨0x054, 4096, 1, 4, 1, false,
     [⟨0, 32, .snp, 0, false, .free⟩]⟩,
   /- OSCSAMPLES -/ ⟨0x058, 4096, 1, 4, 1, false,
     [⟨0, 32, .snp, 0, false, .free⟩]⟩,
   /- RETRAINS -/ ⟨0x05C, 4096, 1, 4, 1, false,
     [⟨0, 32, .snp, 0, false, .free⟩]⟩]

/-- The registers of the page type SKG, from the field tables of spec/ (R430). -/
def skgRegs : List RegSpec :=
  [/- SINK -/ ⟨0x100, 4, 64, 4, 1, true,
     [⟨0, 8, .rws, 0x80, false, .free⟩,
      ⟨8, 8, .rws, 0, false, .free⟩,
      ⟨16, 2, .rws, 0, false, .free⟩,
      ⟨18, 2, .rws, 0, false, .free⟩,
      ⟨20, 1, .rws, 0, false, .free⟩,
      ⟨24, 6, .rws, 0, false, .free⟩]⟩]

/-- The registers of the page type LCS, from the field tables of spec/ (R430). -/
def lcsRegs : List RegSpec :=
  [/- STATE -/ ⟨0x040, 4096, 1, 4, 1, false,
     [⟨0, 3, .ro, 0, true, .free⟩,
      ⟨3, 3, .ro, 0, true, .free⟩,
      ⟨6, 1, .ro, 0, true, .free⟩,
      ⟨7, 4, .ro, 0, true, .free⟩]⟩,
   /- CMD -/ ⟨0x044, 4096, 1, 4, 1, false,
     [⟨0, 3, .wo, 0, false, .free⟩,
      ⟨3, 1, .wo, 0, false, .free⟩,
      ⟨16, 16, .wo, 0, false, .free⟩]⟩,
   /- RESULT -/ ⟨0x048, 4096, 1, 4, 1, false,
     [⟨0, 4, .ro, 0, false, .free⟩,
      ⟨16, 16, .ro, 0, false, .free⟩]⟩,
   /- CHAL -/ ⟨0x080, 4, 8, 4, 1, false,
     [⟨0, 32, .ro, 0, true, .free⟩]⟩,
   /- TOKEN -/ ⟨0x100, 4, 24, 4, 1, false,
     [⟨0, 32, .wo, 0, false, .free⟩]⟩,
   /- AUTH -/ ⟨0x180, 4, 24, 4, 1, false,
     [⟨0, 32, .wo, 0, false, .free⟩]⟩]

/-- The registers of the page type KEY, from the field tables of spec/ (R430). -/
def keyRegs : List RegSpec :=
  [/- CMD -/ ⟨0x040, 4096, 1, 4, 1, false,
     [⟨0, 1, .wo, 0, false, .free⟩,
      ⟨16, 16, .wo, 0, false, .free⟩]⟩,
   /- STAT -/ ⟨0x044, 4096, 1, 4, 1, false,
     [⟨0, 1, .ro, 0, true, .free⟩,
      ⟨1, 1, .ro, 0, true, .free⟩,
      ⟨2, 1, .ro, 0, true, .free⟩,
      ⟨3, 3, .ro, 0, false, .free⟩]⟩,
   /- PUB -/ ⟨0x100, 4, 24, 4, 1, false,
     [⟨0, 32, .rw, 0, false, .free⟩]⟩]

/-- The registers of the page type FUSE, from the field tables of spec/ (R430). -/
def fuseRegs : List RegSpec :=
  []

/-- The reset target wait of DRAM port `p` in µs (R318). -/
def portTargetReset (p : Nat) : Nat := [20, 2, 2, 10, 20, 50, 20, 1000].getD p 1


/-- The registers of a page type below the header (R430). A FUSE page holds raw fuse words at 0x040 to 0x7FC. -/
def PageType.regs : PageType → List RegSpec
  | .dev => devRegs
  | .tim => timRegs
  | .stk => stkRegs
  | .cue => cueRegs
  | .mp => mpRegs
  | .ing => ingRegs
  | .mon => monRegs
  | .cmp => cmpRegs
  | .kls => klsRegs
  | .drc => drcRegs
  | .pck => pckRegs
  | .scn => scnRegs
  | .grn => grnRegs
  | .ltb => ltbRegs
  | .snk => snkRegs
  | .cal => calRegs
  | .ths => thsRegs
  | .flt => fltRegs
  | .pair => pairRegs
  | .bst => bstRegs
  | .upd => updRegs
  | .np => npRegs
  | .flw => flwRegs
  | .vw => vwRegs
  | .und => undRegs
  | .plc => plcRegs
  | .chp => chpRegs
  | .dc => dcRegs
  | .skg => skgRegs
  | .lcs => lcsRegs
  | .key => keyRegs
  | .fuse => fuseRegs

/-- The row of R427 of a page number, with the instance number, or none where R428 says the number is not implemented. -/
def pageInfo (page : Nat) : Option PageInfo :=
  pageTable.find? (fun p => decide (p.first ≤ page) && decide (page < p.first + p.count))

/-- Whether `off` is one of the offsets of `r`. -/
def RegSpec.has (r : RegSpec) (off : Nat) : Bool :=
  let d := off - r.off
  decide (r.off ≤ off) && decide (d / r.stride < r.count) && decide (d % r.stride / r.stride2 < r.count2)
    && decide (d % r.stride % r.stride2 = 0)

/-- The first array index of `off` in `r`. -/
def RegSpec.index (r : RegSpec) (off : Nat) : Nat := (off - r.off) / r.stride

/-- The register at an offset of a page of type `t`: the header of R31 below 0x028, the page's own registers from 0x040. -/
def findReg (t : PageType) (off : Nat) : Option RegSpec :=
  if off < 0x40 then hdrRegs.find? (fun r => r.has off) else t.regs.find? (fun r => r.has off)

/-- The word that the fields' reset values spell. -/
def RegSpec.resetWord (r : RegSpec) : Word :=
  r.fields.foldl (fun w f => w ||| Word.ofNat (f.reset * 2 ^ f.lo)) 0

/-- Resets that the field tables give as a formula of the index: VBASE is the row's own number (spec/09),
PORTCFG.TARGET follows R318, DCn.CFG.PRIV is 1 on DC0 (spec/12), PORTLAT follows the port type (spec/04). -/
def resetFormula (t : PageType) (inst off : Nat) (w : Word) : Word :=
  match t with
  | .ltb => if 0x80 ≤ off && off < 0xE0 then
      let i := (off - 0x80)
      Word.ofNat (i + (i + 1) * 2 ^ 8 + (i + 2) * 2 ^ 16 + (i + 3) * 2 ^ 24) else w
  | .dc => if off = 0x40 ∧ inst = 0 then w ||| 1 else w
  | .drc => if 0x80 ≤ off && off < 0xA0 then Word.ofNat (portTargetReset ((off - 0x80) / 4)) else w
  | _ => w

/-- The reset value of the word at a register address (page in [23:12], offset in [11:0], R28); the shadow of
a shadowed register lies at its offset + 0x800 and resets alike (R31). -/
def regReset (addr : Nat) : Word :=
  let off := addr % 4096
  let off := if 0x840 ≤ off then off - 0x800 else off
  match pageInfo (addr / 4096) with
  | none => 0
  | some p =>
    match findReg p.type off with
    | none => 0
    | some r => resetFormula p.type (addr / 4096 - p.first) off r.resetWord

end Sys2Proof.Machine
end

