-- ==== Sys2Proof/Machine/Fields.lean ====
section
/-!
DEFINITION. The name of every register field of R430: its register address, lowest bit and width, from the field tables of spec/.

`n` is the instance of an instance page, `p` a page number, `i` and `j` array indices. A field that is shadowed is
named by its live address; `Fld.shadow` names its shadow.
-/

namespace Sys2Proof.Machine

/-- A field of a register: the address of its word, its lowest bit, and its width. -/
structure Fld where
  addr : Nat
  lo : Nat
  width : Nat
  deriving DecidableEq, Repr

/-- The shadow copy of a shadowed field, at offset + 0x800 (R7, R31). -/
def Fld.shadow (f : Fld) : Fld := ⟨f.addr + 0x800, f.lo, f.width⟩

/-- `HDR.ID.TYPE`: Page type code, listed in *Register Page Index*. (02 line 34). -/
abbrev Fld.hdrIdType (p : Nat) : Fld := ⟨4096 * p + 0x0, 0, 8⟩
/-- `HDR.ID.VERSION`: Layout version of this page type. (02 line 34). -/
abbrev Fld.hdrIdVersion (p : Nat) : Fld := ⟨4096 * p + 0x0, 8, 8⟩
/-- `HDR.ID.PAGENUM`: The page's own number. (02 line 34). -/
abbrev Fld.hdrIdPagenum (p : Nat) : Fld := ⟨4096 * p + 0x0, 16, 12⟩
/-- `HDR.CAP.NOTROLE`: 1: the page is not in the current role or configuration, under R3 and *Register Page Index*, whether or not it (02 line 43). -/
abbrev Fld.hdrCapNotrole (p : Nat) : Fld := ⟨4096 * p + 0x4, 0, 1⟩
/-- `HDR.CAP.SHADOW`: 1: the page has shadowed registers and a working COMMIT. 0: writes of COMMIT are ignored under R39. (02 line 43). -/
abbrev Fld.hdrCapShadow (p : Nat) : Fld := ⟨4096 * p + 0x4, 1, 1⟩
/-- `HDR.CAP.SNAPABLE`: 1: the page has SNP fields and a working SNAP. 0: writes of SNAP are ignored under R39. (02 line 43). -/
abbrev Fld.hdrCapSnapable (p : Nat) : Fld := ⟨4096 * p + 0x4, 2, 1⟩
/-- `HDR.CAP.TUNNEL`: 1: the page is reachable through the chain tunnel in TILE role. (02 line 43). -/
abbrev Fld.hdrCapTunnel (p : Nat) : Fld := ⟨4096 * p + 0x4, 3, 1⟩
/-- `HDR.CAP.WALLCUE`: 1: cues may commit or snapshot this page. (02 line 43). -/
abbrev Fld.hdrCapWallcue (p : Nat) : Fld := ⟨4096 * p + 0x4, 4, 1⟩
/-- `HDR.CAP.NSRC`: Number of fault sources in STICKY, 0 to 32. (02 line 43). -/
abbrev Fld.hdrCapNsrc (p : Nat) : Fld := ⟨4096 * p + 0x4, 10, 6⟩
/-- `HDR.STAT.READY`: 1: the block is powered and initialised. (02 line 56). -/
abbrev Fld.hdrStatReady (p : Nat) : Fld := ⟨4096 * p + 0x8, 0, 1⟩
/-- `HDR.STAT.TEST`: 1: the block is under self-test, so R32 applies. (02 line 56). -/
abbrev Fld.hdrStatTest (p : Nat) : Fld := ⟨4096 * p + 0x8, 1, 1⟩
/-- `HDR.STAT.MASKWIN`: 1: a masking window of *Fault Collection and Reaction* is open on this page's detectors. (02 line 56). -/
abbrev Fld.hdrStatMaskwin (p : Nat) : Fld := ⟨4096 * p + 0x8, 2, 1⟩
/-- `HDR.STAT.ANY`: OR of STICKY AND NOT STICKY_MASK. (02 line 56). -/
abbrev Fld.hdrStatAny (p : Nat) : Fld := ⟨4096 * p + 0x8, 3, 1⟩
/-- `HDR.STAT.CAL`: 1: a calibration step is acting on this block. (02 line 56). -/
abbrev Fld.hdrStatCal (p : Nat) : Fld := ⟨4096 * p + 0x8, 4, 1⟩
/-- `HDR.STAT.BLOCK`: Defined by the owning chapter; 0 where that chapter defines nothing. (02 line 56). -/
abbrev Fld.hdrStatBlock (p : Nat) : Fld := ⟨4096 * p + 0x8, 16, 16⟩
/-- `HDR.CTRL.BLKRESET`: 1: reset the block under the rules for block reset in the table of commit situations below. (02 line 68). -/
abbrev Fld.hdrCtrlBlkreset (p : Nat) : Fld := ⟨4096 * p + 0xC, 0, 1⟩
/-- `HDR.CTRL.IRQEN`: 1: PAGE_STAT.ANY drives IRQ_N low. (02 line 68). -/
abbrev Fld.hdrCtrlIrqen (p : Nat) : Fld := ⟨4096 * p + 0xC, 1, 1⟩
/-- `HDR.CTRL.BLOCK`: Defined by the owning chapter. (02 line 68). -/
abbrev Fld.hdrCtrlBlock (p : Nat) : Fld := ⟨4096 * p + 0xC, 16, 16⟩
/-- `HDR.COMMIT.GO`: 1: request a commit of the page's shadows. (02 line 77). -/
abbrev Fld.hdrCommitGo (p : Nat) : Fld := ⟨4096 * p + 0x10, 0, 1⟩
/-- `HDR.COMMIT.ATSTROKE`: With GO: the target is the value in COMMIT_STROKE. With GO and this bit 0, the device computes the target. (02 line 77). -/
abbrev Fld.hdrCommitAtstroke (p : Nat) : Fld := ⟨4096 * p + 0x10, 1, 1⟩
/-- `HDR.COMMIT.DROPLATE`: With GO: a late commit is refused instead of being moved. (02 line 77). -/
abbrev Fld.hdrCommitDroplate (p : Nat) : Fld := ⟨4096 * p + 0x10, 2, 1⟩
/-- `HDR.COMMIT.CANCEL`: 1: discard a pending commit. Shadows keep their values, and STATE returns to 0b00. (02 line 77). -/
abbrev Fld.hdrCommitCancel (p : Nat) : Fld := ⟨4096 * p + 0x10, 3, 1⟩
/-- `HDR.COMMIT.STATE`: 0b00 idle, 0b01 pending, 0b10 refused, 0b11 reserved. (02 line 77). -/
abbrev Fld.hdrCommitState (p : Nat) : Fld := ⟨4096 * p + 0x10, 4, 2⟩
/-- `HDR.COMMIT.LATE`: 1: the pending or last taken commit was late and was moved to a later stroke. (02 line 77). -/
abbrev Fld.hdrCommitLate (p : Nat) : Fld := ⟨4096 * p + 0x10, 6, 1⟩
/-- `HDR.COMMIT.REASON`: When STATE is 0b10: 1 budget, 2 field value out of range, 3 late with DROPLATE, 4 group member refused, 5 self (02 line 77). -/
abbrev Fld.hdrCommitReason (p : Nat) : Fld := ⟨4096 * p + 0x10, 8, 4⟩
/-- `HDR.COMMIT.TAKEN`: Low 16 bits of the target stroke of the last commit taken. (02 line 77). -/
abbrev Fld.hdrCommitTaken (p : Nat) : Fld := ⟨4096 * p + 0x10, 16, 16⟩
/-- `HDR.COMMIT_STROKE.STROKE`: While STATE is pending: the target stroke, and writes are ignored. Otherwise: the value for the next GO with A (02 line 92). -/
abbrev Fld.hdrCommitStroke (p : Nat) : Fld := ⟨4096 * p + 0x14, 0, 32⟩
/-- `HDR.STICKY.SRC`: One bit per fault source of the page, listed in *Fault Collection and Reaction*. Bits at or above NSRC are res (02 line 98). -/
abbrev Fld.hdrSticky (p : Nat) : Fld := ⟨4096 * p + 0x18, 0, 32⟩
/-- `HDR.STICKY_MASK.MASK`: 1: the matching STICKY bit still sets, but it does not contribute to PAGE_STAT.ANY or IRQ_N. Reactions are gov (02 line 104). -/
abbrev Fld.hdrStickyMask (p : Nat) : Fld := ⟨4096 * p + 0x1C, 0, 32⟩
/-- `HDR.SNAP.REQ`: 1: capture SNP fields at the next stroke boundary. (02 line 110). -/
abbrev Fld.hdrSnapReq (p : Nat) : Fld := ⟨4096 * p + 0x20, 0, 1⟩
/-- `HDR.SNAP.AUTO`: 1: capture at every stroke boundary. (02 line 110). -/
abbrev Fld.hdrSnapAuto (p : Nat) : Fld := ⟨4096 * p + 0x20, 1, 1⟩
/-- `HDR.SNAP.DONE`: 1: a capture has completed since the last REQ. Cleared by REQ. (02 line 110). -/
abbrev Fld.hdrSnapDone (p : Nat) : Fld := ⟨4096 * p + 0x20, 2, 1⟩
/-- `HDR.SNAP_STROKE.STROKE`: The stroke that the SNP fields describe. (02 line 119). -/
abbrev Fld.hdrSnapStroke (p : Nat) : Fld := ⟨4096 * p + 0x24, 0, 32⟩
/-- `DEV.FENCE.COUNT`: Write: any value places a fence and is not stored. Read: fences completed by the reading initiator, modulo 2^1 (02 line 249). -/
abbrev Fld.devFenceCount : Fld := ⟨0x44, 0, 16⟩
/-- `DEV.FENCE.INITIATOR`: ID of the reading initiator. (02 line 249). -/
abbrev Fld.devFenceInitiator : Fld := ⟨0x44, 16, 4⟩
/-- `DEV.INITIATOR.ID`: ID of the reading initiator under R43. (02 line 257). -/
abbrev Fld.devInitiatorId : Fld := ⟨0x48, 0, 4⟩
/-- `DEV.DAPCFG.PORT`: UDP port of DAP, 49,312 by default. (02 line 331). -/
abbrev Fld.devDapcfgPort : Fld := ⟨0x50, 0, 16⟩
/-- `DEV.DAPCFG.ENABLE`: 1: DAP answers. 0: DAP packets are discarded and counted with MP statistics. (02 line 331). -/
abbrev Fld.devDapcfgEnable : Fld := ⟨0x50, 16, 1⟩
/-- `DEV.DAPSTAT.BUSYCNT`: Requests answered BUSY, modulo 2^16. (02 line 339). -/
abbrev Fld.devDapstatBusycnt : Fld := ⟨0x54, 0, 16⟩
/-- `DEV.DAPSTAT.QFREE`: Free access-queue entries, 0 to 256. (02 line 339). -/
abbrev Fld.devDapstatQfree : Fld := ⟨0x54, 16, 9⟩
/-- `DEV.DAPSTAT.SESSIONS`: Open sessions, 0 to 8. (02 line 339). -/
abbrev Fld.devDapstatSessions : Fld := ⟨0x54, 25, 4⟩
/-- `DEV.ROLESTAT.ROLE`: 0b00 no role (chuck holding), 0b01 SENDER, 0b10 TILE, 0b11 reserved. (01 line 101). -/
abbrev Fld.devRolestatRole : Fld := ⟨0x60, 0, 2⟩
/-- `DEV.ROLESTAT.PROFILE`: Profile in force, P0–P3. (01 line 101). -/
abbrev Fld.devRolestatProfile : Fld := ⟨0x60, 2, 2⟩
/-- `DEV.ROLESTAT.PAIRPOS`: 0b00 unpaired or TILE, 0b01 active sender, 0b10 standby sender, 0b11 pair forming. (01 line 101). -/
abbrev Fld.devRolestatPairpos : Fld := ⟨0x60, 4, 2⟩
/-- `DEV.ROLESTAT.BLOCKPWR`: Bit 16 + index set when the block of R11 with that index is powered. (01 line 101). -/
abbrev Fld.devRolestatBlockpwr : Fld := ⟨0x60, 16, 16⟩
/-- `DEV.MODESTAT.VIEWS`: Number of views in force, minus one. (01 line 111). -/
abbrev Fld.devModestatViews : Fld := ⟨0x64, 0, 2⟩
/-- `DEV.MODESTAT.STATIC`: Static-picture idle in force for the current stroke. (01 line 111). -/
abbrev Fld.devModestatStatic : Fld := ⟨0x64, 2, 1⟩
/-- `DEV.MODESTAT.EEE`: At least one port in low-power idle. (01 line 111). -/
abbrev Fld.devModestatEee : Fld := ⟨0x64, 3, 1⟩
/-- `DEV.MODESTAT.WAKEONLY`: Wake-pattern-only mode. (01 line 111). -/
abbrev Fld.devModestatWakeonly : Fld := ⟨0x64, 4, 1⟩
/-- `DEV.MODESTAT.CAL`: A calibration sequence is running. (01 line 111). -/
abbrev Fld.devModestatCal : Fld := ⟨0x64, 5, 1⟩
/-- `DEV.MODESTAT.BIST`: At least one SRAM group or block under self-test. (01 line 111). -/
abbrev Fld.devModestatBist : Fld := ⟨0x64, 6, 1⟩
/-- `DEV.MODESTAT.THROTTLE`: Throttle step in force, 0–8. It is always 0 in SENDER role. (01 line 111). -/
abbrev Fld.devModestatThrottle : Fld := ⟨0x64, 7, 4⟩
/-- `DEV.MODESTAT.UPDATE`: 0 none, 1 download, 2 verification, 3 regatta pending, 4 trial boot, 5 consolidation; 6–7 reserved. (01 line 111). -/
abbrev Fld.devModestatUpdate : Fld := ⟨0x64, 11, 3⟩
/-- `DEV.MODESTAT.LCS`: 0 BLANK, 1 MAKER, 2 OPEN, 3 SEALED, 4 RETURNED, 5 SCRAPPED; 6–7 reserved. (01 line 111). -/
abbrev Fld.devModestatLcs : Fld := ⟨0x64, 14, 3⟩
/-- `DEV.MODESTAT.SPLIT`: TILE: the current cox mark has RELAY set, so the standby serves the tile on the active sender's behalf in spli (01 line 111). -/
abbrev Fld.devModestatSplit : Fld := ⟨0x64, 17, 1⟩
/-- `DEV.MODESTAT.HOLD`: TILE: no controlling sender, showing the last frame or the hold colour. (01 line 111). -/
abbrev Fld.devModestatHold : Fld := ⟨0x64, 18, 1⟩
/-- `DEV.VCORECTL.ADAPT`: 1: adaptive loop of R18 runs. (01 line 86). -/
abbrev Fld.devVcorectlAdapt : Fld := ⟨0x68, 0, 1⟩
/-- `DEV.VCORECTL.PMBUS_OK`: 1: the regulator answered its last command. ADAPT is cleared, and a supply fault source set, after 3 consecuti (01 line 86). -/
abbrev Fld.devVcorectlPmbusOk : Fld := ⟨0x68, 1, 1⟩
/-- `DEV.VCORECTL.FLOOR`: Lowest setpoint in 10 mV units. Values below 0x46 are stored as 0x46. (01 line 86). -/
abbrev Fld.devVcorectlFloor : Fld := ⟨0x68, 8, 8⟩
/-- `DEV.VCORECTL.CEIL`: Highest setpoint in 10 mV units. Values above 0x5A are stored as 0x5A, and values below FLOOR are stored as FL (01 line 86). -/
abbrev Fld.devVcorectlCeil : Fld := ⟨0x68, 16, 8⟩
/-- `DEV.VCORECTL.VNOW`: VCORE last measured by the supply monitor, in 10 mV units. (01 line 86). -/
abbrev Fld.devVcorectlVnow : Fld := ⟨0x68, 24, 8⟩
/-- `DEV.RSTCTL.KIND`: 0 none, 1 warm, 2 full, 3 reserved. (03 line 337). -/
abbrev Fld.devRstctlKind : Fld := ⟨0x70, 0, 2⟩
/-- `DEV.RSTCTL.PROFSRC`: With KIND full: 0 pins, 1 PROF. (03 line 337). -/
abbrev Fld.devRstctlProfsrc : Fld := ⟨0x70, 2, 1⟩
/-- `DEV.RSTCTL.PROF`: Profile used when PROFSRC is 1. (03 line 337). -/
abbrev Fld.devRstctlProf : Fld := ⟨0x70, 3, 2⟩
/-- `DEV.RSTCTL.KEY`: The write acts only when KEY is 0xA5C3. (03 line 337). -/
abbrev Fld.devRstctlKey : Fld := ⟨0x70, 16, 16⟩
/-- `DEV.RSTCAUSE.CAUSE`: [0] POR, [1] PIN, [2] SUPPLY, [3] THERMAL, [4] SWFULL, [5] SWWARM, [6] WDOG, [7] REGATTA, [8] ESCALATE, [9] HT (03 line 347). -/
abbrev Fld.devRstcauseCause : Fld := ⟨0x74, 0, 10⟩
/-- `DEV.RSTCAUSE.WARMCNT`: Warm restarts since the last full reset, modulo 256. (03 line 347). -/
abbrev Fld.devRstcauseWarmcnt : Fld := ⟨0x74, 16, 8⟩
/-- `DEV.PROFCMD.PROF`: Profile addressed. (03 line 356). -/
abbrev Fld.devProfcmdProf : Fld := ⟨0x78, 0, 2⟩
/-- `DEV.PROFCMD.OP`: 0 none, 1 switch under R64, 2 commit a written slot, 3 invalidate both slots. (03 line 356). -/
abbrev Fld.devProfcmdOp : Fld := ⟨0x78, 2, 2⟩
/-- `DEV.PROFCMD.KEY`: The write acts only when KEY is 0xA5C3. (03 line 356). -/
abbrev Fld.devProfcmdKey : Fld := ⟨0x78, 16, 16⟩
/-- `DEV.PROFSTROKE.STROKE`: Target stroke of a switch. (03 line 365). -/
abbrev Fld.devProfstroke : Fld := ⟨0x7C, 0, 32⟩
/-- `DEV.PROFSTAT.PINS`: PROF1:PROF0 as sampled at the last full reset. (03 line 371). -/
abbrev Fld.devProfstatPins : Fld := ⟨0x80, 0, 2⟩
/-- `DEV.PROFSTAT.VALID`: Bit 2 + n is set when Pn is valid. (03 line 371). -/
abbrev Fld.devProfstatValid : Fld := ⟨0x80, 2, 4⟩
/-- `DEV.PROFSTAT.RESULT`: Last command: 0 idle, 1 pending, 2 done, 3 invalid, 4 late, 5 active sender, 6 needs full reset, 7 budget. (03 line 371). -/
abbrev Fld.devProfstatResult : Fld := ⟨0x80, 6, 3⟩
/-- `DEV.PROFSTAT.FALLBACK`: The profile in force was taken from LASTGOOD. (03 line 371). -/
abbrev Fld.devProfstatFallback : Fld := ⟨0x80, 9, 1⟩
/-- `DEV.PROFSTAT.LASTGOOD`: Last profile that reached STAGE 7. (03 line 371). -/
abbrev Fld.devProfstatLastgood : Fld := ⟨0x80, 10, 2⟩
/-- `DEV.PROFWADDR.PROF`: Profile being written. (03 line 382). -/
abbrev Fld.devProfwaddrProf : Fld := ⟨0x84, 0, 2⟩
/-- `DEV.PROFWADDR.WORD`: Word index in the older slot, 0 to 2,047. It advances by one per write to PROFWDATA. (03 line 382). -/
abbrev Fld.devProfwaddrWord : Fld := ⟨0x84, 2, 11⟩
/-- `DEV.PROFWDATA.DATA`: Word written at PROFWADDR. (03 line 390). -/
abbrev Fld.devProfwdata : Fld := ⟨0x88, 0, 32⟩
/-- `DEV.BOOTSTAT.STAGE`: 0 supervisor hold, 1 fuses, 2 event store, 3 header, 4 load and verify, 5 profile and blocks, 6 settings, 7 in (03 line 396). -/
abbrev Fld.devBootstatStage : Fld := ⟨0x8C, 0, 4⟩
/-- `DEV.BOOTSTAT.IMAGE`: 0 none, 1 ACTIVE, 2 STAGE in trial, 3 KEEP. (03 line 396). -/
abbrev Fld.devBootstatImage : Fld := ⟨0x8C, 4, 2⟩
/-- `DEV.BOOTSTAT.FAIL`: 0 none, 1 life-cycle state takes no role, 2 no valid image, 3 no valid profile, 4 flash not answering, 5 DRAM  (03 line 396). -/
abbrev Fld.devBootstatFail : Fld := ⟨0x8C, 8, 8⟩
/-- `DEV.BOOTSTAT.TIME`: Reset release to STAGE 7 in ms, saturating at 65,535. (03 line 396). -/
abbrev Fld.devBootstatTime : Fld := ⟨0x8C, 16, 16⟩
/-- `DEV.RECOVCTL.START`: 1: begin a recovery load under R425, with the word index set to 0. (18 line 436). -/
abbrev Fld.devRecovctlStart : Fld := ⟨0x90, 0, 1⟩
/-- `DEV.RECOVCTL.GO`: 1: verify and run the loaded image. (18 line 436). -/
abbrev Fld.devRecovctlGo : Fld := ⟨0x90, 1, 1⟩
/-- `DEV.RECOVCTL.KEY`: 0xA5C3. (18 line 436). -/
abbrev Fld.devRecovctlKey : Fld := ⟨0x90, 16, 16⟩
/-- `DEV.RECOVDATA.DATA`: Next image word, little-endian. (18 line 445). -/
abbrev Fld.devRecovdata : Fld := ⟨0x94, 0, 32⟩
/-- `DEV.RECOVSTAT.WORDS`: Words received. (18 line 451). -/
abbrev Fld.devRecovstatWords : Fld := ⟨0x98, 0, 22⟩
/-- `DEV.RECOVSTAT.RESULT`: 0 idle, 1 loading, 2 running, 3 refused. (18 line 451). -/
abbrev Fld.devRecovstatResult : Fld := ⟨0x98, 22, 2⟩
/-- `DEV.RECOVSTAT.ERR`: Under R408 and R409, or 13 when the life-cycle state or chuck state forbids it. (18 line 451). -/
abbrev Fld.devRecovstatErr : Fld := ⟨0x98, 24, 4⟩
/-- `TIM.NOW.NS`: Low 32 bits of t under R84. (04 line 355). -/
abbrev Fld.timNow : Fld := ⟨0x001000 + 0x40, 0, 32⟩
/-- `TIM.RATE.RATE`: Signed, in units of 2^-40, limited under R82. Ignored in TILE role. (04 line 361). -/
abbrev Fld.timRate : Fld := ⟨0x001000 + 0x44, 0, 32⟩
/-- `TIM.STEPLO.DELTA`: Low word of the signed 64-bit step in ns. (04 line 367). -/
abbrev Fld.timSteplo : Fld := ⟨0x001000 + 0x48, 0, 32⟩
/-- `TIM.STEPHI.DELTA`: High word of the step. (04 line 373). -/
abbrev Fld.timStephi : Fld := ⟨0x001000 + 0x4C, 0, 32⟩
/-- `TIM.STEPCMD.GO`: 1: apply the step under R83. (04 line 379). -/
abbrev Fld.timStepcmdGo : Fld := ⟨0x001000 + 0x50, 0, 1⟩
/-- `TIM.STEPCMD.FORCE`: With GO: apply regardless of JUMPLIM. (04 line 379). -/
abbrev Fld.timStepcmdForce : Fld := ⟨0x001000 + 0x50, 1, 1⟩
/-- `TIM.STEPSTAT.SEQ`: Steps applied, modulo 256. (04 line 387). -/
abbrev Fld.timStepstatSeq : Fld := ⟨0x001000 + 0x54, 0, 8⟩
/-- `TIM.STEPSTAT.RESULT`: 0 none, 1 applied, 2 refused as a jump, 3 refused in TILE role. (04 line 387). -/
abbrev Fld.timStepstatResult : Fld := ⟨0x001000 + 0x54, 8, 2⟩
/-- `TIM.STEPSTAT.REFUSED`: Steps refused, modulo 2^16. (04 line 387). -/
abbrev Fld.timStepstatRefused : Fld := ⟨0x001000 + 0x54, 16, 16⟩
/-- `TIM.JUMPLIM.NS`: JUMP_LIMIT in ns, 1 ms at reset. (04 line 396). -/
abbrev Fld.timJumplim : Fld := ⟨0x001000 + 0x58, 0, 32⟩
/-- `TIM.PTPCFG.OWNER`: Under R90. (04 line 402). -/
abbrev Fld.timPtpcfgOwner : Fld := ⟨0x001000 + 0x5C, 0, 2⟩
/-- `TIM.PTPCFG.PORT`: NP port used with OWNER 0. (04 line 402). -/
abbrev Fld.timPtpcfgPort : Fld := ⟨0x001000 + 0x5C, 2, 2⟩
/-- `TIM.PTPCFG.DOMAIN`: PTP domain number, 0 to 127. (04 line 402). -/
abbrev Fld.timPtpcfgDomain : Fld := ⟨0x001000 + 0x5C, 4, 7⟩
/-- `TIM.PTPCFG.P2P`: 1: peer delay mechanism. (04 line 402). -/
abbrev Fld.timPtpcfgP2p : Fld := ⟨0x001000 + 0x5C, 11, 1⟩
/-- `TIM.PTPSTAT.STATE`: 0 free run, 1 acquiring, 2 locked, 3 holdover, 4 owned by software; 5–7 reserved. (04 line 412). -/
abbrev Fld.timPtpstatState : Fld := ⟨0x001000 + 0x60, 0, 3⟩
/-- `TIM.PTPOFFSET.NS`: Last offset from the master in ns, signed, saturating. (04 line 419). -/
abbrev Fld.timPtpoffset : Fld := ⟨0x001000 + 0x64, 0, 32⟩
/-- `TIM.PTPDELAY.NS`: Mean path delay in ns. (04 line 425). -/
abbrev Fld.timPtpdelay : Fld := ⟨0x001000 + 0x68, 0, 32⟩
/-- `TIM.PORTLAT.RXLAT`: Receive latency from the MDI to the timestamp point, in ns. (04 line 431). -/
abbrev Fld.timPortlatRxlat (i : Nat) : Fld := ⟨0x001000 + 0x80 + 4 * i, 0, 16⟩
/-- `TIM.PORTLAT.TXLAT`: Transmit latency from the timestamp point to the MDI, in ns. (04 line 431). -/
abbrev Fld.timPortlatTxlat (i : Nat) : Fld := ⟨0x001000 + 0x80 + 4 * i, 16, 16⟩
/-- `TIM.TXQSTAT.COUNT`: Entries queued, 0 to 64. (04 line 438). -/
abbrev Fld.timTxqstatCount (i : Nat) : Fld := ⟨0x001000 + 0x100 + 16 * i, 0, 7⟩
/-- `TIM.TXQSTAT.LOST`: Timestamps discarded under R89, modulo 2^16. (04 line 438). -/
abbrev Fld.timTxqstatLost (i : Nat) : Fld := ⟨0x001000 + 0x100 + 16 * i, 16, 16⟩
/-- `TIM.TXQID.ID`: Identifier of the oldest entry. (04 line 446). -/
abbrev Fld.timTxqidId (i : Nat) : Fld := ⟨0x001000 + 0x104 + 16 * i, 0, 16⟩
/-- `TIM.TXQID.STEPSEQ`: Low 4 bits of STEPSEQ at capture. (04 line 446). -/
abbrev Fld.timTxqidStepseq (i : Nat) : Fld := ⟨0x001000 + 0x104 + 16 * i, 16, 4⟩
/-- `TIM.TXQID.VALID`: 1: an entry is present. (04 line 446). -/
abbrev Fld.timTxqidValid (i : Nat) : Fld := ⟨0x001000 + 0x104 + 16 * i, 31, 1⟩
/-- `TIM.TXQNS.NS`: Low 32 bits of t of the oldest entry. (04 line 455). -/
abbrev Fld.timTxqns (i : Nat) : Fld := ⟨0x001000 + 0x108 + 16 * i, 0, 32⟩
/-- `TIM.TXQPOP.POP`: 1: remove the oldest entry. (04 line 461). -/
abbrev Fld.timTxqpopPop (i : Nat) : Fld := ⟨0x001000 + 0x10C + 16 * i, 0, 1⟩
/-- `STK.NOW.STROKE`: Current stroke number. (04 line 468). -/
abbrev Fld.stkNow : Fld := ⟨0x002000 + 0x40, 0, 32⟩
/-- `STK.CTRL.LEAD`: Compose lead in strokes, 1 or 2. Other values are refused with REASON 2. (04 line 474). -/
abbrev Fld.stkCtrlLead : Fld := ⟨0x002000 + 0x44, 0, 2⟩
/-- `STK.CTRL.SLEW`: Largest stroke length change per stroke, in µs, 0 to 50. (04 line 474). -/
abbrev Fld.stkCtrlSlew : Fld := ⟨0x002000 + 0x44, 8, 8⟩
/-- `STK.CTRL.GUARD`: Guard added to each side of a tracked exposure window, in µs. (04 line 474). -/
abbrev Fld.stkCtrlGuard : Fld := ⟨0x002000 + 0x44, 16, 8⟩
/-- `STK.PHASE.NS`: Signed offset of the catch from the reference, within ±half a stroke. (04 line 484). -/
abbrev Fld.stkPhase : Fld := ⟨0x002000 + 0x48, 0, 32⟩
/-- `STK.REFIO.INEDGE`: FRAMEREF_IN active edge: 0 rising, 1 falling. (04 line 490). -/
abbrev Fld.stkRefioInedge : Fld := ⟨0x002000 + 0x4C, 0, 1⟩
/-- `STK.REFIO.OUTEN`: 1: FRAMEREF_OUT pulses under R100. (04 line 490). -/
abbrev Fld.stkRefioOuten : Fld := ⟨0x002000 + 0x4C, 1, 1⟩
/-- `STK.REFIO.OUTPOL`: 0: the pulse is high. (04 line 490). -/
abbrev Fld.stkRefioOutpol : Fld := ⟨0x002000 + 0x4C, 2, 1⟩
/-- `STK.REFIO.OUTWIDTH`: Pulse width in µs, 1 to 255. (04 line 490). -/
abbrev Fld.stkRefioOutwidth : Fld := ⟨0x002000 + 0x4C, 8, 8⟩
/-- `STK.STAT.SRC`: 0 epoch, 1 FRAMEREF_IN, 2 SHUT0, 3 markers (TILE). (04 line 501). -/
abbrev Fld.stkStatSrc : Fld := ⟨0x002000 + 0x50, 0, 2⟩
/-- `STK.STAT.LOCK`: 0 acquiring, 1 locked, 2 flywheel. (04 line 501). -/
abbrev Fld.stkStatLock : Fld := ⟨0x002000 + 0x50, 2, 2⟩
/-- `STK.STAT.NOEPOCH`: Numbering started at 0 under R94. (04 line 501). -/
abbrev Fld.stkStatNoepoch : Fld := ⟨0x002000 + 0x50, 4, 1⟩
/-- `STK.STAT.SPARE`: Spare time under R95, in µs. (04 line 501). -/
abbrev Fld.stkStatSpare : Fld := ⟨0x002000 + 0x50, 16, 16⟩
/-- `STK.PHERR.NS`: err at the last catch, signed. (04 line 511). -/
abbrev Fld.stkPherr : Fld := ⟨0x002000 + 0x54, 0, 32⟩
/-- `STK.LEN.NS`: Length of the last stroke. (04 line 517). -/
abbrev Fld.stkLen : Fld := ⟨0x002000 + 0x58, 0, 32⟩
/-- `STK.NUMSKEW.DIFF`: Reference frame count minus the running number, signed. (04 line 523). -/
abbrev Fld.stkNumskew : Fld := ⟨0x002000 + 0x5C, 0, 32⟩
/-- `STK.MARKER.MISSED`: TILE: markers missed, modulo 2^16. (04 line 529). -/
abbrev Fld.stkMarkerMissed : Fld := ⟨0x002000 + 0x60, 0, 16⟩
/-- `STK.ACCUM.NS`: TILE: accumulated delay of the last marker. (04 line 536). -/
abbrev Fld.stkAccum : Fld := ⟨0x002000 + 0x64, 0, 32⟩
/-- `STK.VIEWCFG.SRC`: 0 fixed; 1–4 tracked from SHUT0–SHUT3; 5–7 reserved. Ignored for V0. (04 line 542). -/
abbrev Fld.stkViewcfgSrc (i : Nat) : Fld := ⟨0x002000 + 0x80 + 16 * i, 0, 3⟩
/-- `STK.VIEWCFG.OFFSET`: In µs, under R101. (04 line 542). -/
abbrev Fld.stkViewcfgOffset (i : Nat) : Fld := ⟨0x002000 + 0x80 + 16 * i, 16, 16⟩
/-- `STK.VIEWEXP.EXPOFF`: Start of the fixed exposure window, in µs after the catch. (04 line 550). -/
abbrev Fld.stkViewexpExpoff (i : Nat) : Fld := ⟨0x002000 + 0x84 + 16 * i, 0, 16⟩
/-- `STK.VIEWEXP.EXPLEN`: Length of the fixed exposure window in µs. 0 means no window. (04 line 550). -/
abbrev Fld.stkViewexpExplen (i : Nat) : Fld := ⟨0x002000 + 0x84 + 16 * i, 16, 16⟩
/-- `STK.VIEWSTAT.START`: START in force, in µs. (04 line 557). -/
abbrev Fld.stkViewstatStart (i : Nat) : Fld := ⟨0x002000 + 0x88 + 16 * i, 0, 16⟩
/-- `STK.VIEWSTAT.EXPSTART`: Exposure window start in force, in µs. (04 line 557). -/
abbrev Fld.stkViewstatExpstart (i : Nat) : Fld := ⟨0x002000 + 0x88 + 16 * i, 16, 16⟩
/-- `STK.VIEWMEAS.PHASE`: Averaged phase of the selected SHUT input, in µs. (04 line 564). -/
abbrev Fld.stkViewmeasPhase (i : Nat) : Fld := ⟨0x002000 + 0x8C + 16 * i, 0, 16⟩
/-- `STK.VIEWMEAS.WIDTH`: Averaged pulse width in µs. (04 line 564). -/
abbrev Fld.stkViewmeasWidth (i : Nat) : Fld := ⟨0x002000 + 0x8C + 16 * i, 16, 16⟩
/-- `CUE.STAT.FREE`: Free entries. (04 line 571). -/
abbrev Fld.cueStatFree : Fld := ⟨0x003000 + 0x40, 0, 18⟩
/-- `CUE.CFG.DISTLEAD`: SENDER: distribution lead in strokes, 2 to 64. (04 line 578). -/
abbrev Fld.cueCfgDistlead : Fld := ⟨0x003000 + 0x44, 0, 7⟩
/-- `CUE.PUSH.GO`: 1: insert the entry in IN0–IN15. (04 line 585). -/
abbrev Fld.cuePushGo : Fld := ⟨0x003000 + 0x48, 0, 1⟩
/-- `CUE.PUSH.RESULT`: 0 idle, 1 inserted, 2 full, 3 malformed, 5 inserted late; 4, 6 and 7 reserved. (04 line 585). -/
abbrev Fld.cuePushResult : Fld := ⟨0x003000 + 0x48, 1, 3⟩
/-- `CUE.PUSH.SEQ`: Low 16 bits of the SEQ of the last insertion. (04 line 585). -/
abbrev Fld.cuePushSeq : Fld := ⟨0x003000 + 0x48, 16, 16⟩
/-- `CUE.CANCEL.TAG`: Tag to remove. (04 line 594). -/
abbrev Fld.cueCancelTag : Fld := ⟨0x003000 + 0x4C, 0, 16⟩
/-- `CUE.CANCEL.GO`: 1: remove under R112. (04 line 594). -/
abbrev Fld.cueCancelGo : Fld := ⟨0x003000 + 0x4C, 16, 1⟩
/-- `CUE.CANCELN.COUNT`: Entries removed by the last cancel. (04 line 602). -/
abbrev Fld.cueCancelnCount : Fld := ⟨0x003000 + 0x50, 0, 18⟩
/-- `CUE.EXECCNT.COUNT`: Cues executed, late, dropped, in error, or held for credit (SENDER only), modulo 2^32. (04 line 609). -/
abbrev Fld.cueExeccnt : Fld := ⟨0x003000 + 0x54, 0, 32⟩
/-- `CUE.LATECNT.COUNT`: Cues executed, late, dropped, in error, or held for credit (SENDER only), modulo 2^32. (04 line 609). -/
abbrev Fld.cueLatecnt : Fld := ⟨0x003000 + 0x58, 0, 32⟩
/-- `CUE.DROPCNT.COUNT`: Cues executed, late, dropped, in error, or held for credit (SENDER only), modulo 2^32. (04 line 609). -/
abbrev Fld.cueDropcnt : Fld := ⟨0x003000 + 0x5C, 0, 32⟩
/-- `CUE.ERRCNT.COUNT`: Cues executed, late, dropped, in error, or held for credit (SENDER only), modulo 2^32. (04 line 609). -/
abbrev Fld.cueErrcnt : Fld := ⟨0x003000 + 0x60, 0, 32⟩
/-- `CUE.HELDCNT.COUNT`: Cues executed, late, dropped, in error, or held for credit (SENDER only), modulo 2^32. (04 line 609). -/
abbrev Fld.cueHeldcnt : Fld := ⟨0x003000 + 0x64, 0, 32⟩
/-- `CUE.LASTERR.TAG`: Tag of the last cue in error. (04 line 615). -/
abbrev Fld.cueLasterrTag : Fld := ⟨0x003000 + 0x68, 0, 16⟩
/-- `CUE.LASTERR.STATUS`: Status code under R47. (04 line 615). -/
abbrev Fld.cueLasterrStatus : Fld := ⟨0x003000 + 0x68, 16, 8⟩
/-- `CUE.LASTERR.ACTION`: Its ACTION. (04 line 615). -/
abbrev Fld.cueLasterrAction : Fld := ⟨0x003000 + 0x68, 24, 8⟩
/-- `CUE.IN.WORD`: Word i of the entry being assembled, bytes 4i to 4i + 3 of R106. (04 line 623). -/
abbrev Fld.cueIn (i : Nat) : Fld := ⟨0x003000 + 0x100 + 4 * i, 0, 32⟩
/-- `MP.RXRING.BASE`: Ring address in packet memory, with [3:0] 0. Writes are ignored while the ring is enabled. (05 line 413). -/
abbrev Fld.mpRxringBase : Fld := ⟨0x004000 + 0x70, 0, 18⟩
/-- `MP.RXRING.LOG2N`: Ring size 2^LOG2N descriptors, 3 to 10. (05 line 413). -/
abbrev Fld.mpRxringLog2n : Fld := ⟨0x004000 + 0x70, 20, 4⟩
/-- `MP.TXRING.BASE`: Ring address in packet memory, with [3:0] 0. Writes are ignored while the ring is enabled. (05 line 413). -/
abbrev Fld.mpTxringBase : Fld := ⟨0x004000 + 0x74, 0, 18⟩
/-- `MP.TXRING.LOG2N`: Ring size 2^LOG2N descriptors, 3 to 10. (05 line 413). -/
abbrev Fld.mpTxringLog2n : Fld := ⟨0x004000 + 0x74, 20, 4⟩
/-- `MP.RINGSTAT.RXNEXT`: Next receive descriptor index. (05 line 422). -/
abbrev Fld.mpRingstatRxnext : Fld := ⟨0x004000 + 0x78, 0, 10⟩
/-- `MP.RINGSTAT.TXNEXT`: Next transmit descriptor index. (05 line 422). -/
abbrev Fld.mpRingstatTxnext : Fld := ⟨0x004000 + 0x78, 16, 10⟩
/-- `MP.TXDOOR.RING`: Any value starts transmission under R135. (05 line 431). -/
abbrev Fld.mpTxdoor : Fld := ⟨0x004000 + 0x7C, 0, 32⟩
/-- `MP.PAUSECFG.XOFF`: Free receive descriptors at which pause is sent. (05 line 437). -/
abbrev Fld.mpPausecfgXoff : Fld := ⟨0x004000 + 0x80, 0, 10⟩
/-- `MP.PAUSECFG.QUANTA`: Pause quanta sent. (05 line 437). -/
abbrev Fld.mpPausecfgQuanta : Fld := ⟨0x004000 + 0x80, 16, 16⟩
/-- `MP.WINBASE.BASE`: Packet memory address of window offset 0x400, with [1:0] 0. (05 line 445). -/
abbrev Fld.mpWinbaseBase : Fld := ⟨0x004000 + 0x84, 0, 18⟩
/-- `MP.LPMODE.MODE`: 0 none, 1 LPI permitted, 2 wake-pattern-only, 3 reserved. (05 line 452). -/
abbrev Fld.mpLpmodeMode : Fld := ⟨0x004000 + 0x88, 0, 2⟩
/-- `MP.LPMODE.RESULT`: 0 idle, 1 done, 2 active sender, 3 other mode in progress, 4 bad key. (05 line 452). -/
abbrev Fld.mpLpmodeResult : Fld := ⟨0x004000 + 0x88, 2, 3⟩
/-- `MP.LPMODE.KEY`: Required for MODE 2: 0xA5C3. (05 line 452). -/
abbrev Fld.mpLpmodeKey : Fld := ⟨0x004000 + 0x88, 16, 16⟩
/-- `MP.WAKECFG.MAGIC`: 1: magic packets wake. (05 line 461). -/
abbrev Fld.mpWakecfgMagic : Fld := ⟨0x004000 + 0x8C, 0, 1⟩
/-- `MP.WAKECFG.PATEN`: Bit 1 + p: pattern entry p enabled. (05 line 461). -/
abbrev Fld.mpWakecfgPaten : Fld := ⟨0x004000 + 0x8C, 1, 4⟩
/-- `MP.WAKESTAT.MAGIC`: A magic packet woke the device. (05 line 469). -/
abbrev Fld.mpWakestatMagic : Fld := ⟨0x004000 + 0x90, 0, 1⟩
/-- `MP.WAKESTAT.PAT`: Bit 1 + p: pattern p woke the device. (05 line 469). -/
abbrev Fld.mpWakestatPat : Fld := ⟨0x004000 + 0x90, 1, 4⟩
/-- `MP.WAKELEN.LEN`: Bytes compared, 1 to 128. 0 disables the entry. (05 line 477). -/
abbrev Fld.mpWakelenLen (i : Nat) : Fld := ⟨0x004000 + 0xA0 + 32 * i, 0, 8⟩
/-- `MP.WAKEMASK.MASK`: Bit b: frame byte 32w + b is compared. (05 line 484). -/
abbrev Fld.mpWakemask (i j : Nat) : Fld := ⟨0x004000 + 0xA4 + 32 * i + 4 * j, 0, 32⟩
/-- `MP.WAKECRC.CRC`: Expected CRC-32 under R126. (05 line 490). -/
abbrev Fld.mpWakecrc (i : Nat) : Fld := ⟨0x004000 + 0xB4 + 32 * i, 0, 32⟩
/-- `ING.STAT.SHEDDING`: Bit n: FLWn is shedding. (05 line 496). -/
abbrev Fld.ingStatShedding : Fld := ⟨0x005000 + 0x40, 0, 16⟩
/-- `ING.STAT.ACTIVE`: Bit 16 + n: FLWn is enabled and receiving. (05 line 496). -/
abbrev Fld.ingStatActive : Fld := ⟨0x005000 + 0x40, 16, 16⟩
/-- `ING.SHEDCFG.HIGH`: Percent, 10 to 90. (05 line 503). -/
abbrev Fld.ingShedcfgHigh : Fld := ⟨0x005000 + 0x44, 0, 7⟩
/-- `ING.SHEDCFG.LOW`: Percent. A value at or above HIGH is stored as HIGH − 10. (05 line 503). -/
abbrev Fld.ingShedcfgLow : Fld := ⟨0x005000 + 0x44, 8, 7⟩
/-- `ING.SHEDCFG.ESC`: Escalation time in µs, 100 to 65,535. (05 line 503). -/
abbrev Fld.ingShedcfgEsc : Fld := ⟨0x005000 + 0x44, 16, 16⟩
/-- `ING.SLACK.NS`: Least buffer time remaining in the stroke under R142, in ns. (05 line 513). -/
abbrev Fld.ingSlack : Fld := ⟨0x005000 + 0x48, 0, 32⟩
/-- `ING.PKTS.COUNT`: Packets accepted in the stroke. (05 line 519). -/
abbrev Fld.ingPkts : Fld := ⟨0x005000 + 0x4C, 0, 32⟩
/-- `MON.CTRL.ENABLE`: Under R146. Other MON registers ignore writes while 1. (05 line 622). -/
abbrev Fld.monCtrlEnable : Fld := ⟨0x006000 + 0x40, 0, 1⟩
/-- `MON.CTRL.VIEW`: View sent. (05 line 622). -/
abbrev Fld.monCtrlView : Fld := ⟨0x006000 + 0x40, 1, 2⟩
/-- `MON.CTRL.DIV`: One frame per DIV + 1 strokes. (05 line 622). -/
abbrev Fld.monCtrlDiv : Fld := ⟨0x006000 + 0x40, 3, 2⟩
/-- `MON.CTRL.TYPE`: 0 type N, 1 type W. (05 line 622). -/
abbrev Fld.monCtrlType : Fld := ⟨0x006000 + 0x40, 5, 1⟩
/-- `MON.CTRL.PORT`: NP port. (05 line 622). -/
abbrev Fld.monCtrlPort : Fld := ⟨0x006000 + 0x40, 6, 2⟩
/-- `MON.CTRL.SUBLINK`: Sub-link. (05 line 622). -/
abbrev Fld.monCtrlSublink : Fld := ⟨0x006000 + 0x40, 8, 2⟩
/-- `MON.CTRL.UDPPORT`: Destination and source UDP port. (05 line 622). -/
abbrev Fld.monCtrlUdpport : Fld := ⟨0x006000 + 0x40, 16, 16⟩
/-- `MON.DEST.ADDR`: IPv4 destination, multicast or unicast. (05 line 635). -/
abbrev Fld.monDest : Fld := ⟨0x006000 + 0x44, 0, 32⟩
/-- `MON.FMT.SAMPLING`: 0 RGB 4:4:4, 1 YCbCr 4:4:4, 2 YCbCr 4:2:2, 3 reserved. (05 line 641). -/
abbrev Fld.monFmtSampling : Fld := ⟨0x006000 + 0x48, 0, 2⟩
/-- `MON.FMT.DEPTH`: 0 10-bit, 1 12-bit, 2 16-bit, 3 reserved. (05 line 641). -/
abbrev Fld.monFmtDepth : Fld := ⟨0x006000 + 0x48, 2, 2⟩
/-- `MON.FMT.COLORIMETRY`: 0 BT.709, 1 BT.2020/BT.2100, 2 custom, 3 reserved. (05 line 641). -/
abbrev Fld.monFmtColorimetry : Fld := ⟨0x006000 + 0x48, 4, 2⟩
/-- `MON.FMT.TCS`: 0 SDR, 1 PQ, 2 HLG, 3 reserved. (05 line 641). -/
abbrev Fld.monFmtTcs : Fld := ⟨0x006000 + 0x48, 6, 2⟩
/-- `MON.FMT.RANGE`: 0 narrow, 1 full. (05 line 641). -/
abbrev Fld.monFmtRange : Fld := ⟨0x006000 + 0x48, 8, 1⟩
/-- `MON.FMT.PT`: RTP payload type, 96 to 127. (05 line 641). -/
abbrev Fld.monFmtPt : Fld := ⟨0x006000 + 0x48, 9, 7⟩
/-- `MON.PKT.PAYLOAD`: Largest payload in bytes, 64 to 8,952, rounded down to whole pgroups. (05 line 643). -/
abbrev Fld.monPktPayload : Fld := ⟨0x006000 + 0x4C, 0, 14⟩
/-- `MON.SSRC.SSRC`: RTP synchronisation source identifier. (05 line 650). -/
abbrev Fld.monSsrc : Fld := ⟨0x006000 + 0x50, 0, 32⟩
/-- `MON.STAT.ACTIVE`: Frames being sent. (05 line 656). -/
abbrev Fld.monStatActive : Fld := ⟨0x006000 + 0x54, 0, 1⟩
/-- `MON.STAT.REFUSED`: Last enable refused. (05 line 656). -/
abbrev Fld.monStatRefused : Fld := ⟨0x006000 + 0x54, 1, 1⟩
/-- `MON.STAT.REASON`: Under R146. (05 line 656). -/
abbrev Fld.monStatReason : Fld := ⟨0x006000 + 0x54, 2, 2⟩
/-- `MON.FRAMES.COUNT`: Frames sent complete, and frames cut under R147, modulo 2^32. (05 line 665). -/
abbrev Fld.monFrames : Fld := ⟨0x006000 + 0x60, 0, 32⟩
/-- `MON.SKIPPED.COUNT`: Frames sent complete, and frames cut under R147, modulo 2^32. (05 line 665). -/
abbrev Fld.monSkipped : Fld := ⟨0x006000 + 0x64, 0, 32⟩
/-- `CMP.CTRL.CNVBANK`: Conversion and LUT bank in force, under R159. (06 line 387). -/
abbrev Fld.cmpCtrlCnvbank : Fld := ⟨0x007000 + 0x40, 0, 1⟩
/-- `CMP.CTRL.FENCETO`: FENCE_TIMEOUT in strokes, 1 to 255. 0 is stored as 1. (06 line 387). -/
abbrev Fld.cmpCtrlFenceto : Fld := ⟨0x007000 + 0x40, 8, 8⟩
/-- `CMP.CANVAS.WIDTH`: Under R154. (06 line 396). -/
abbrev Fld.cmpCanvasWidth : Fld := ⟨0x007000 + 0x44, 0, 16⟩
/-- `CMP.CANVAS.HEIGHT`: Under R154. (06 line 396). -/
abbrev Fld.cmpCanvasHeight : Fld := ⟨0x007000 + 0x44, 16, 16⟩
/-- `CMP.STAT.INFLIGHT`: Strokes being composed, 0 to 2. (06 line 403). -/
abbrev Fld.cmpStatInflight : Fld := ⟨0x007000 + 0x48, 0, 2⟩
/-- `CMP.STAT.UNCHANGED`: The last composed stroke was marked under R170. (06 line 403). -/
abbrev Fld.cmpStatUnchanged : Fld := ⟨0x007000 + 0x48, 2, 1⟩
/-- `CMP.DEADLINE.VALUE`: D in µs and WINDOW in µs under R162, and LOAD in layer-pixels per stroke under R161. (06 line 411). -/
abbrev Fld.cmpDeadline : Fld := ⟨0x007000 + 0x4C, 0, 32⟩
/-- `CMP.WINDOW.VALUE`: D in µs and WINDOW in µs under R162, and LOAD in layer-pixels per stroke under R161. (06 line 411). -/
abbrev Fld.cmpWindow : Fld := ⟨0x007000 + 0x50, 0, 32⟩
/-- `CMP.LOAD.VALUE`: D in µs and WINDOW in µs under R162, and LOAD in layer-pixels per stroke under R161. (06 line 411). -/
abbrev Fld.cmpLoad : Fld := ⟨0x007000 + 0x54, 0, 32⟩
/-- `CMP.RETIRE.STROKE`: Under R168, R167 and R172. (06 line 417). -/
abbrev Fld.cmpRetire : Fld := ⟨0x007000 + 0x58, 0, 32⟩
/-- `CMP.REUSESTROKE.STROKE`: Under R168, R167 and R172. (06 line 417). -/
abbrev Fld.cmpReusestroke : Fld := ⟨0x007000 + 0x5C, 0, 32⟩
/-- `CMP.REUSEINFO.VIEW`: View of the entry. (06 line 423). -/
abbrev Fld.cmpReuseinfoView : Fld := ⟨0x007000 + 0x60, 0, 2⟩
/-- `CMP.REUSEINFO.SLOT`: Layer or member slot. (06 line 423). -/
abbrev Fld.cmpReuseinfoSlot : Fld := ⟨0x007000 + 0x60, 2, 4⟩
/-- `CMP.REUSEINFO.ENTRY`: 0 layer source, 1 underlay, 2 writeback, 3 build. (06 line 423). -/
abbrev Fld.cmpReuseinfoEntry : Fld := ⟨0x007000 + 0x60, 6, 2⟩
/-- `CMP.REUSEINFO.WRITER`: 0 ING, 1 window, 2 engine, 3 reserved. (06 line 423). -/
abbrev Fld.cmpReuseinfoWriter : Fld := ⟨0x007000 + 0x60, 8, 2⟩
/-- `CMP.REUSEINFO.FLOW`: Flow, when WRITER is 0. (06 line 423). -/
abbrev Fld.cmpReuseinfoFlow : Fld := ⟨0x007000 + 0x60, 10, 4⟩
/-- `CMP.REUSEINFO.INITIATOR`: ID under R43, when WRITER is 1. (06 line 423). -/
abbrev Fld.cmpReuseinfoInitiator : Fld := ⟨0x007000 + 0x60, 14, 4⟩
/-- `CMP.UNDERSTROKE.STROKE`: Under R168, R167 and R172. (06 line 417). -/
abbrev Fld.cmpUnderstroke : Fld := ⟨0x007000 + 0x64, 0, 32⟩
/-- `CMP.UNDERPOS.LINE`: First failing line. (06 line 435). -/
abbrev Fld.cmpUnderposLine : Fld := ⟨0x007000 + 0x68, 0, 13⟩
/-- `CMP.UNDERPOS.VIEW`: First failing view. (06 line 435). -/
abbrev Fld.cmpUnderposView : Fld := ⟨0x007000 + 0x68, 16, 2⟩
/-- `CMP.UNDERPOS.PIXEL`: First uncomposed pixel of that line. (06 line 435). -/
abbrev Fld.cmpUnderposPixel : Fld := ⟨0x007000 + 0x68, 18, 14⟩
/-- `CMP.WINCTRL.TARGET`: Under R151. Values 6 and 7 are reserved. (06 line 444). -/
abbrev Fld.cmpWinctrlTarget : Fld := ⟨0x007000 + 0x6C, 0, 3⟩
/-- `CMP.WINCTRL.HIADDR`: DRAM address bits [36:32]. (06 line 444). -/
abbrev Fld.cmpWinctrlHiaddr : Fld := ⟨0x007000 + 0x6C, 8, 5⟩
/-- `CMP.WINBASE.BASE`: Target address of window offset 0x400, with [1:0] 0. (06 line 453). -/
abbrev Fld.cmpWinbase : Fld := ⟨0x007000 + 0x70, 0, 32⟩
/-- `CMP.SLACK.NS`: Slack of view v under R171, signed ns. 0x8000_0000 on underrun. (06 line 459). -/
abbrev Fld.cmpSlack (i : Nat) : Fld := ⟨0x007000 + 0x80 + 4 * i, 0, 32⟩
/-- `CMP.UNDERRUNS.COUNT` (06 line 465). -/
abbrev Fld.cmpUnderruns : Fld := ⟨0x007000 + 0x90, 0, 32⟩
/-- `CMP.FLIPLATE.COUNT` (06 line 465). -/
abbrev Fld.cmpFliplate : Fld := ⟨0x007000 + 0x94, 0, 32⟩
/-- `CMP.MISSEDFLIPS.COUNT` (06 line 465). -/
abbrev Fld.cmpMissedflips : Fld := ⟨0x007000 + 0x98, 0, 32⟩
/-- `CMP.REUSECNT.COUNT` (06 line 465). -/
abbrev Fld.cmpReusecnt : Fld := ⟨0x007000 + 0x9C, 0, 32⟩
/-- `CMP.FENCE.VALUE`: Fence f under R165. (06 line 471). -/
abbrev Fld.cmpFence (i : Nat) : Fld := ⟨0x007000 + 0x100 + 4 * i, 0, 32⟩
/-- `CMP.WIN.DATA`: Word of the target under R151. (06 line 477). -/
abbrev Fld.cmpWin (i : Nat) : Fld := ⟨0x007000 + 0x400 + 4 * i, 0, 32⟩
/-- `KLS.CTRL.STATICEN`: Static-picture idle under R208. SENDER only. (07 line 433). -/
abbrev Fld.klsCtrlStaticen : Fld := ⟨0x008000 + 0x40, 0, 1⟩
/-- `KLS.CTRL.EIDLEEN`: Electrical idle permitted under R181. (07 line 433). -/
abbrev Fld.klsCtrlEidleen : Fld := ⟨0x008000 + 0x40, 1, 1⟩
/-- `KLS.CTRL.IDLEHOLD`: µs of idle cells before electrical idle, 1 to 255. (07 line 433). -/
abbrev Fld.klsCtrlIdlehold : Fld := ⟨0x008000 + 0x40, 8, 8⟩
/-- `KLS.ALLOW.CUE`: Cue allowance in units of 10 Mb/s. (07 line 443). -/
abbrev Fld.klsAllowCue : Fld := ⟨0x008000 + 0x44, 0, 8⟩
/-- `KLS.ALLOW.TUNNEL`: Tunnel allowance in units of 10 Mb/s. (07 line 443). -/
abbrev Fld.klsAllowTunnel : Fld := ⟨0x008000 + 0x44, 8, 8⟩
/-- `KLS.ALLOW.IMAGE`: Image allowance in Mb/s. (07 line 443). -/
abbrev Fld.klsAllowImage : Fld := ⟨0x008000 + 0x44, 16, 16⟩
/-- `KLS.TSTAT.POS`: TILE: position under R199. (07 line 451). -/
abbrev Fld.klsTstatPos : Fld := ⟨0x008000 + 0x48, 0, 6⟩
/-- `KLS.TSTAT.POSVALID`: POS taken. (07 line 451). -/
abbrev Fld.klsTstatPosvalid : Fld := ⟨0x008000 + 0x48, 6, 1⟩
/-- `KLS.TSTAT.HOPSB`: Hop count from the port-B end. (07 line 451). -/
abbrev Fld.klsTstatHopsb : Fld := ⟨0x008000 + 0x48, 8, 6⟩
/-- `KLS.TSTAT.HOPSBVALID`: HOPSB known. (07 line 451). -/
abbrev Fld.klsTstatHopsbvalid : Fld := ⟨0x008000 + 0x48, 14, 1⟩
/-- `KLS.TSTAT.SERV`: Serving port: 0 none, 1 A, 2 B, 3 reserved. (07 line 451). -/
abbrev Fld.klsTstatServ : Fld := ⟨0x008000 + 0x48, 16, 2⟩
/-- `KLS.TSTAT.RELAY`: Current cox mark has RELAY set. (07 line 451). -/
abbrev Fld.klsTstatRelay : Fld := ⟨0x008000 + 0x48, 18, 1⟩
/-- `KLS.COXIDLO.VALUE`: TILE: low and high words of SENDERID, and EPOCH, of the current cox mark. (07 line 465). -/
abbrev Fld.klsCoxidlo : Fld := ⟨0x008000 + 0x4C, 0, 32⟩
/-- `KLS.COXIDHI.VALUE`: TILE: low and high words of SENDERID, and EPOCH, of the current cox mark. (07 line 465). -/
abbrev Fld.klsCoxidhi : Fld := ⟨0x008000 + 0x50, 0, 32⟩
/-- `KLS.COXEPOCH.VALUE`: TILE: low and high words of SENDERID, and EPOCH, of the current cox mark. (07 line 465). -/
abbrev Fld.klsCoxepoch : Fld := ⟨0x008000 + 0x54, 0, 32⟩
/-- `KLS.ENUMCMD.GO`: SENDER: bit n starts enumeration on CPn. (07 line 471). -/
abbrev Fld.klsEnumcmdGo : Fld := ⟨0x008000 + 0x58, 0, 8⟩
/-- `KLS.ENUMCMD.BUSY`: Bit 8 + n: enumeration running on CPn. (07 line 471). -/
abbrev Fld.klsEnumcmdBusy : Fld := ⟨0x008000 + 0x58, 8, 8⟩
/-- `KLS.ENUMCMD.CONFLICT`: Bit 16 + n: last enumeration on CPn conflicted under R199. (07 line 471). -/
abbrev Fld.klsEnumcmdConflict : Fld := ⟨0x008000 + 0x58, 16, 8⟩
/-- `DRC.CFG.ECCEN`: ECC under R314. Writes after DRC `PAGE_STAT.READY` are ignored. Reads 1 in TILE role. (12 line 341). -/
abbrev Fld.drcCfgEccen : Fld := ⟨0x009000 + 0x40, 0, 1⟩
/-- `DRC.CFG.SCRUBH`: Hours per patrol pass under R316. 0 disables the patrol. (12 line 341). -/
abbrev Fld.drcCfgScrubh : Fld := ⟨0x009000 + 0x40, 8, 8⟩
/-- `DRC.CFG.SCRUBWB`: Write corrected blocks back under R315. (12 line 341). -/
abbrev Fld.drcCfgScrubwb : Fld := ⟨0x009000 + 0x40, 16, 1⟩
/-- `DRC.MAP.NCH`: Channels in service. (12 line 351). -/
abbrev Fld.drcMapNch : Fld := ⟨0x009000 + 0x44, 0, 4⟩
/-- `DRC.MAP.CAPGB`: C in GB. (12 line 351). -/
abbrev Fld.drcMapCapgb : Fld := ⟨0x009000 + 0x44, 4, 5⟩
/-- `DRC.MAP.ECC`: ECC enabled. (12 line 351). -/
abbrev Fld.drcMapEcc : Fld := ⟨0x009000 + 0x44, 9, 1⟩
/-- `DRC.MAP.USERMB`: U in MB under R301. 0 in TILE role. (12 line 351). -/
abbrev Fld.drcMapUsermb : Fld := ⟨0x009000 + 0x44, 12, 20⟩
/-- `DRC.OPREQ.OP`: Operating point requested. (12 line 361). -/
abbrev Fld.drcOpreqOp : Fld := ⟨0x009000 + 0x48, 0, 2⟩
/-- `DRC.OPREQ.GO`: 1: request under R307. (12 line 361). -/
abbrev Fld.drcOpreqGo : Fld := ⟨0x009000 + 0x48, 2, 1⟩
/-- `DRC.OPSTAT.CUR`: Operating point in force. (12 line 369). -/
abbrev Fld.drcOpstatCur : Fld := ⟨0x009000 + 0x4C, 0, 2⟩
/-- `DRC.OPSTAT.RESULT`: 0 idle, 1 held, 2 training, 3 done, 4 busy, 5 budget, 6 training failed, 7 needs quiesce; 8–15 reserved. (12 line 369). -/
abbrev Fld.drcOpstatResult : Fld := ⟨0x009000 + 0x4C, 2, 4⟩
/-- `DRC.OPSTAT.TRAINED`: Bit 6 + o: every populated channel has a valid record for point o. (12 line 369). -/
abbrev Fld.drcOpstatTrained : Fld := ⟨0x009000 + 0x4C, 6, 4⟩
/-- `DRC.BUDGET.PLAN`: SENDER: plan of R304 in 0.1 GB/s. 0 in TILE role. (12 line 378). -/
abbrev Fld.drcBudgetPlan : Fld := ⟨0x009000 + 0x50, 0, 16⟩
/-- `DRC.BUDGET.LIMIT`: SENDER: limit of R304 in 0.1 GB/s. 0 in TILE role. (12 line 378). -/
abbrev Fld.drcBudgetLimit : Fld := ⟨0x009000 + 0x50, 16, 16⟩
/-- `DRC.SRCMD.MODE`: 1 enter journal retention, 2 return to service; 0 and 3 no effect. (12 line 385). -/
abbrev Fld.drcSrcmdMode : Fld := ⟨0x009000 + 0x54, 0, 2⟩
/-- `DRC.SRCMD.STATE`: 0 service, 1 full retention, 2 journal retention, 3 exiting; 4–7 reserved. (12 line 385). -/
abbrev Fld.drcSrcmdState : Fld := ⟨0x009000 + 0x54, 2, 3⟩
/-- `DRC.SRCMD.RESULT`: 0 idle, 1 done, 2 refused under R313, 3 bad key; 4–7 reserved. (12 line 385). -/
abbrev Fld.drcSrcmdResult : Fld := ⟨0x009000 + 0x54, 5, 3⟩
/-- `DRC.SRCMD.KEY`: The write acts only when KEY is 0xA5C3. (12 line 385). -/
abbrev Fld.drcSrcmdKey : Fld := ⟨0x009000 + 0x54, 16, 16⟩
/-- `DRC.LOGSTAT.COUNT`: Valid entries, 0 to 16. (12 line 395). -/
abbrev Fld.drcLogstatCount : Fld := ⟨0x009000 + 0x58, 0, 5⟩
/-- `DRC.LOGSTAT.NEXT`: Entry written next. (12 line 395). -/
abbrev Fld.drcLogstatNext : Fld := ⟨0x009000 + 0x58, 8, 4⟩
/-- `DRC.LOGSTAT.CLR`: 1: empty the log. (12 line 395). -/
abbrev Fld.drcLogstatClr : Fld := ⟨0x009000 + 0x58, 16, 1⟩
/-- `DRC.CE.COUNT` (12 line 406). -/
abbrev Fld.drcCe : Fld := ⟨0x009000 + 0x60, 0, 32⟩
/-- `DRC.UE.COUNT` (12 line 406). -/
abbrev Fld.drcUe : Fld := ⟨0x009000 + 0x64, 0, 32⟩
/-- `DRC.SCRUBBED.COUNT` (12 line 406). -/
abbrev Fld.drcScrubbed : Fld := ⟨0x009000 + 0x68, 0, 32⟩
/-- `DRC.POISONED.COUNT` (12 line 406). -/
abbrev Fld.drcPoisoned : Fld := ⟨0x009000 + 0x6C, 0, 32⟩
/-- `DRC.REFPOSTPONED.COUNT` (12 line 406). -/
abbrev Fld.drcRefpostponed : Fld := ⟨0x009000 + 0x70, 0, 32⟩
/-- `DRC.PORTCFG.TARGET`: Target wait in µs, 1 to 65,535. 0 is stored as 1. (12 line 412). -/
abbrev Fld.drcPortcfgTarget (i : Nat) : Fld := ⟨0x009000 + 0x80 + 4 * i, 0, 16⟩
/-- `DRC.PORTCFG.LEVEL`: Highest level of a waiting request under R319. (12 line 412). -/
abbrev Fld.drcPortcfgLevel (i : Nat) : Fld := ⟨0x009000 + 0x80 + 4 * i, 16, 2⟩
/-- `DRC.PORTSTAT.MAXLAT`: Longest wait in the stroke, in 0.1 µs, saturating. (12 line 420). -/
abbrev Fld.drcPortstatMaxlat (i : Nat) : Fld := ⟨0x009000 + 0xA0 + 4 * i, 0, 16⟩
/-- `DRC.PORTSTAT.ESC3`: Escalations to level 3 in the stroke, saturating. (12 line 420). -/
abbrev Fld.drcPortstatEsc3 (i : Nat) : Fld := ⟨0x009000 + 0xA0 + 4 * i, 16, 16⟩
/-- `DRC.LOG0.ADDRLO`: Channel-local address bits [31:0]. (12 line 427). -/
abbrev Fld.drcLog0 (i : Nat) : Fld := ⟨0x009000 + 0x100 + 16 * i, 0, 32⟩
/-- `DRC.LOG1.ADDRHI`: Address bits [33:32]. (12 line 427). -/
abbrev Fld.drcLog1Addrhi (i : Nat) : Fld := ⟨0x009000 + 0x104 + 16 * i, 0, 2⟩
/-- `DRC.LOG1.CHAN`: Channel. (12 line 427). -/
abbrev Fld.drcLog1Chan (i : Nat) : Fld := ⟨0x009000 + 0x104 + 16 * i, 4, 3⟩
/-- `DRC.LOG1.KIND`: 0 corrected, 1 uncorrectable, 2 uncorrectable in read-modify-write, 3 corrected by patrol, 4 out of range unde (12 line 427). -/
abbrev Fld.drcLog1Kind (i : Nat) : Fld := ⟨0x009000 + 0x104 + 16 * i, 8, 3⟩
/-- `DRC.LOG1.PORT`: Port under R318. (12 line 427). -/
abbrev Fld.drcLog1Port (i : Nat) : Fld := ⟨0x009000 + 0x104 + 16 * i, 11, 3⟩
/-- `DRC.LOG1.SYNDROME`: Syndrome of the first failing word. (12 line 427). -/
abbrev Fld.drcLog1Syndrome (i : Nat) : Fld := ⟨0x009000 + 0x104 + 16 * i, 16, 8⟩
/-- `DRC.LOG1.INITIATOR`: ID under R43, for port 5. (12 line 427). -/
abbrev Fld.drcLog1Initiator (i : Nat) : Fld := ⟨0x009000 + 0x104 + 16 * i, 24, 4⟩
/-- `DRC.LOG2.STROKE`: Stroke of the event. (12 line 427). -/
abbrev Fld.drcLog2 (i : Nat) : Fld := ⟨0x009000 + 0x108 + 16 * i, 0, 32⟩
/-- `PCK.CTRL.WINEN`: Bit w: window w enabled. (08 line 376). -/
abbrev Fld.pckCtrlWinen : Fld := ⟨0x00A000 + 0x40, 0, 8⟩
/-- `PCK.CTRL.GEN`: Window generation under R231. (08 line 376). -/
abbrev Fld.pckCtrlGen : Fld := ⟨0x00A000 + 0x40, 8, 8⟩
/-- `PCK.CTRL.DRVEN`: TILE: compare DRV with COR under R229. (08 line 376). -/
abbrev Fld.pckCtrlDrven : Fld := ⟨0x00A000 + 0x40, 16, 1⟩
/-- `PCK.WIN.U`: Left column. (08 line 385). -/
abbrev Fld.pckWinU (i : Nat) : Fld := ⟨0x00A000 + 0x44 + 4 * i, 0, 8⟩
/-- `PCK.WIN.V`: Top row. (08 line 385). -/
abbrev Fld.pckWinV (i : Nat) : Fld := ⟨0x00A000 + 0x44 + 4 * i, 8, 8⟩
/-- `PCK.WIN.W`: Width, 1 to 255 when enabled. (08 line 385). -/
abbrev Fld.pckWinW (i : Nat) : Fld := ⟨0x00A000 + 0x44 + 4 * i, 16, 8⟩
/-- `PCK.WIN.H`: Height, 1 to 255 when enabled. (08 line 385). -/
abbrev Fld.pckWinH (i : Nat) : Fld := ⟨0x00A000 + 0x44 + 4 * i, 24, 8⟩
/-- `PCK.WINVIEW.VIEW`: Bits [2w + 1:2w]: view of window w. (08 line 394). -/
abbrev Fld.pckWinviewView : Fld := ⟨0x00A000 + 0x64, 0, 16⟩
/-- `PCK.RXCRC.CRC`: TILE: the tap values of window w for the last stroke under R229. (08 line 401). -/
abbrev Fld.pckRxcrc (i : Nat) : Fld := ⟨0x00A000 + 0x80 + 4 * i, 0, 32⟩
/-- `PCK.CORCRC.CRC`: TILE: the tap values of window w for the last stroke under R229. (08 line 401). -/
abbrev Fld.pckCorcrc (i : Nat) : Fld := ⟨0x00A000 + 0xA0 + 4 * i, 0, 32⟩
/-- `PCK.DRVCRC.CRC`: TILE: the tap values of window w for the last stroke under R229. (08 line 401). -/
abbrev Fld.pckDrvcrc (i : Nat) : Fld := ⟨0x00A000 + 0xC0 + 4 * i, 0, 32⟩
/-- `PCK.CHKSTAT.VALID`: TILE: VALID of R230. (08 line 407). -/
abbrev Fld.pckChkstatValid : Fld := ⟨0x00A000 + 0xE0, 0, 8⟩
/-- `PCK.CHKSTAT.DRVFAIL`: TILE: DRVFAIL of R230. (08 line 407). -/
abbrev Fld.pckChkstatDrvfail : Fld := ⟨0x00A000 + 0xE0, 8, 8⟩
/-- `PCK.CHKSTAT.DRVVALID`: TILE: DRVVALID of R230. (08 line 407). -/
abbrev Fld.pckChkstatDrvvalid : Fld := ⟨0x00A000 + 0xE0, 16, 8⟩
/-- `PCK.SRCSEL.PORT`: SENDER: chain port. (08 line 416). -/
abbrev Fld.pckSrcselPort : Fld := ⟨0x00A000 + 0xE4, 0, 3⟩
/-- `PCK.SRCSEL.POS`: Tile position. (08 line 416). -/
abbrev Fld.pckSrcselPos : Fld := ⟨0x00A000 + 0xE4, 3, 6⟩
/-- `PCK.SRCSEL.WIN`: Window. (08 line 416). -/
abbrev Fld.pckSrcselWin : Fld := ⟨0x00A000 + 0xE4, 9, 3⟩
/-- `PCK.SRCSEL.AGE`: 0 newest kept stroke to 3 oldest. (08 line 416). -/
abbrev Fld.pckSrcselAge : Fld := ⟨0x00A000 + 0xE4, 12, 2⟩
/-- `PCK.SRCVAL.VALUE`: SENDER: the SRC value selected by SRCSEL, and its stroke. (08 line 426). -/
abbrev Fld.pckSrcval : Fld := ⟨0x00A000 + 0xE8, 0, 32⟩
/-- `PCK.SRCSTROKE.VALUE`: SENDER: the SRC value selected by SRCSEL, and its stroke. (08 line 426). -/
abbrev Fld.pckSrcstroke : Fld := ⟨0x00A000 + 0xEC, 0, 32⟩
/-- `PCK.MISINFO.PORT`: SENDER: chain port of the last RXMISMATCH. (08 line 432). -/
abbrev Fld.pckMisinfoPort : Fld := ⟨0x00A000 + 0xF0, 0, 3⟩
/-- `PCK.MISINFO.POS`: Tile position. (08 line 432). -/
abbrev Fld.pckMisinfoPos : Fld := ⟨0x00A000 + 0xF0, 3, 6⟩
/-- `PCK.MISINFO.WIN`: Window. (08 line 432). -/
abbrev Fld.pckMisinfoWin : Fld := ⟨0x00A000 + 0xF0, 9, 3⟩
/-- `PCK.MISINFO.REGION`: REGION reported by the tile. (08 line 432). -/
abbrev Fld.pckMisinfoRegion : Fld := ⟨0x00A000 + 0xF0, 16, 16⟩
/-- `PCK.MISSTROKE.STROKE`: SENDER: the kept stroke compared in the last RXMISMATCH. (08 line 442). -/
abbrev Fld.pckMisstroke : Fld := ⟨0x00A000 + 0xF4, 0, 32⟩
/-- `PCK.CHECKS.COUNT` (08 line 448). -/
abbrev Fld.pckChecks : Fld := ⟨0x00A000 + 0x100, 0, 32⟩
/-- `PCK.RXMISMATCH.COUNT` (08 line 448). -/
abbrev Fld.pckRxmismatch : Fld := ⟨0x00A000 + 0x104, 0, 32⟩
/-- `PCK.DRVMISMATCH.COUNT` (08 line 448). -/
abbrev Fld.pckDrvmismatch : Fld := ⟨0x00A000 + 0x108, 0, 32⟩
/-- `PCK.NOREF.COUNT` (08 line 448). -/
abbrev Fld.pckNoref : Fld := ⟨0x00A000 + 0x10C, 0, 32⟩
/-- `PCK.GENSKEW.COUNT` (08 line 448). -/
abbrev Fld.pckGenskew : Fld := ⟨0x00A000 + 0x110, 0, 32⟩
/-- `SCN.CTRL.HOLDENTER`: Unwitnessed strokes before HOLD under R225, 1 to 15. 0 is stored as 1. (08 line 279). -/
abbrev Fld.scnCtrlHoldenter : Fld := ⟨0x00B000 + 0x40, 0, 4⟩
/-- `SCN.CTRL.REFRESH`: 1: refresh under R222. (08 line 279). -/
abbrev Fld.scnCtrlRefresh : Fld := ⟨0x00B000 + 0x40, 4, 1⟩
/-- `SCN.HOLDRG.R`: Hold colour red, as a received code. (08 line 287). -/
abbrev Fld.scnHoldrgR : Fld := ⟨0x00B000 + 0x44, 0, 16⟩
/-- `SCN.HOLDRG.G`: Hold colour green. (08 line 287). -/
abbrev Fld.scnHoldrgG : Fld := ⟨0x00B000 + 0x44, 16, 16⟩
/-- `SCN.HOLDB.B`: Hold colour blue. (08 line 294). -/
abbrev Fld.scnHoldbB : Fld := ⟨0x00B000 + 0x48, 0, 16⟩
/-- `SCN.HOLDLIM.MS`: HOLD_LIMIT in ms, 0 to 60,000, under R226. (08 line 301). -/
abbrev Fld.scnHoldlimMs : Fld := ⟨0x00B000 + 0x4C, 0, 16⟩
/-- `SCN.BGLO.P0`: Background drive value of the primary, upper 16 bits, under R224. (08 line 308). -/
abbrev Fld.scnBgloP0 (i : Nat) : Fld := ⟨0x00B000 + 0x50 + 8 * i, 0, 16⟩
/-- `SCN.BGLO.P1`: The same for the next primary. P3 is used by four-primary tiles only. (08 line 308). -/
abbrev Fld.scnBgloP1 (i : Nat) : Fld := ⟨0x00B000 + 0x50 + 8 * i, 16, 16⟩
/-- `SCN.BGHI.P2`: Background drive value of the primary, upper 16 bits, under R224. (08 line 308). -/
abbrev Fld.scnBghiP2 (i : Nat) : Fld := ⟨0x00B000 + 0x54 + 8 * i, 0, 16⟩
/-- `SCN.BGHI.P3`: The same for the next primary. P3 is used by four-primary tiles only. (08 line 308). -/
abbrev Fld.scnBghiP3 (i : Nat) : Fld := ⟨0x00B000 + 0x54 + 8 * i, 16, 16⟩
/-- `SCN.STAT.HOLD`: In HOLD under R225. (08 line 315). -/
abbrev Fld.scnStatHold : Fld := ⟨0x00B000 + 0x70, 0, 1⟩
/-- `SCN.STAT.HOLDCOL`: Hold colour driven under R226. (08 line 315). -/
abbrev Fld.scnStatHoldcol : Fld := ⟨0x00B000 + 0x70, 1, 1⟩
/-- `SCN.STAT.FLIPPED`: Bit 2 + v: view v flipped at the last catch. (08 line 315). -/
abbrev Fld.scnStatFlipped : Fld := ⟨0x00B000 + 0x70, 2, 4⟩
/-- `SCN.STAT.STATIC`: The last catch began an unchanged stroke. (08 line 315). -/
abbrev Fld.scnStatStatic : Fld := ⟨0x00B000 + 0x70, 6, 1⟩
/-- `SCN.STAT.LAYOUTOK`: A valid schedule is in force under R214. (08 line 315). -/
abbrev Fld.scnStatLayoutok : Fld := ⟨0x00B000 + 0x70, 7, 1⟩
/-- `SCN.SLOTLEN.NS`: Ts and Tv under R212, and the last feather interval under R215, in ns. (08 line 326). -/
abbrev Fld.scnSlotlen : Fld := ⟨0x00B000 + 0x74, 0, 32⟩
/-- `SCN.VIEWLEN.NS`: Ts and Tv under R212, and the last feather interval under R215, in ns. (08 line 326). -/
abbrev Fld.scnViewlen : Fld := ⟨0x00B000 + 0x78, 0, 32⟩
/-- `SCN.FEATHER.NS`: Ts and Tv under R212, and the last feather interval under R215, in ns. (08 line 326). -/
abbrev Fld.scnFeather : Fld := ⟨0x00B000 + 0x7C, 0, 32⟩
/-- `SCN.SLOTDEMAND.VALUE`: Line slots per second under R216. MARGIN is signed. (08 line 332). -/
abbrev Fld.scnSlotdemand : Fld := ⟨0x00B000 + 0x80, 0, 32⟩
/-- `SCN.SLOTCEIL.VALUE`: Line slots per second under R216. MARGIN is signed. (08 line 332). -/
abbrev Fld.scnSlotceil : Fld := ⟨0x00B000 + 0x84, 0, 32⟩
/-- `SCN.SLOTMARGIN.VALUE`: Line slots per second under R216. MARGIN is signed. (08 line 332). -/
abbrev Fld.scnSlotmargin : Fld := ⟨0x00B000 + 0x88, 0, 32⟩
/-- `SCN.LASTFULL.STROKE`: Under R223, R225 and R224. (08 line 338). -/
abbrev Fld.scnLastfull : Fld := ⟨0x00B000 + 0x8C, 0, 32⟩
/-- `SCN.WITNESS.STROKE`: Under R223, R225 and R224. (08 line 338). -/
abbrev Fld.scnWitness : Fld := ⟨0x00B000 + 0x90, 0, 32⟩
/-- `SCN.UNDERPOS.SINK`: Point of failure, SK0 to SK511. (08 line 344). -/
abbrev Fld.scnUnderposSink : Fld := ⟨0x00B000 + 0x94, 0, 9⟩
/-- `SCN.UNDERPOS.ROW`: Row. (08 line 344). -/
abbrev Fld.scnUnderposRow : Fld := ⟨0x00B000 + 0x94, 9, 7⟩
/-- `SCN.UNDERPOS.SUBFR`: Sub-frame. (08 line 344). -/
abbrev Fld.scnUnderposSubfr : Fld := ⟨0x00B000 + 0x94, 16, 4⟩
/-- `SCN.UNDERPOS.VIEW`: View. (08 line 344). -/
abbrev Fld.scnUnderposView : Fld := ⟨0x00B000 + 0x94, 20, 2⟩
/-- `SCN.UNDERSTROKE.STROKE`: Under R223, R225 and R224. (08 line 338). -/
abbrev Fld.scnUnderstroke : Fld := ⟨0x00B000 + 0x98, 0, 32⟩
/-- `SCN.VIEWBUF.FRONT`: Buffer that is front, 0 or 1. (08 line 354). -/
abbrev Fld.scnViewbufFront (i : Nat) : Fld := ⟨0x00B000 + 0xA0 + 4 * i, 0, 1⟩
/-- `SCN.VIEWBUF.COMPLETE`: The receiving buffer holds a complete region. (08 line 354). -/
abbrev Fld.scnViewbufComplete (i : Nat) : Fld := ⟨0x00B000 + 0xA0 + 4 * i, 1, 1⟩
/-- `SCN.VIEWBUF.REFRESHED`: The driving codes came from a refresh. (08 line 354). -/
abbrev Fld.scnViewbufRefreshed (i : Nat) : Fld := ⟨0x00B000 + 0xA0 + 4 * i, 2, 1⟩
/-- `SCN.VIEWBUF.REGION`: Low 16 bits of the front buffer's REGION. (08 line 354). -/
abbrev Fld.scnViewbufRegion (i : Nat) : Fld := ⟨0x00B000 + 0xA0 + 4 * i, 16, 16⟩
/-- `SCN.SLACK.NS`: Minimum line-slot slack of view v under R224, signed ns. (08 line 364). -/
abbrev Fld.scnSlack (i : Nat) : Fld := ⟨0x00B000 + 0xB0 + 4 * i, 0, 32⟩
/-- `SCN.INCOMPLETE.COUNT` (08 line 370). -/
abbrev Fld.scnIncomplete : Fld := ⟨0x00B000 + 0xC0, 0, 32⟩
/-- `SCN.UNDERRUNS.COUNT` (08 line 370). -/
abbrev Fld.scnUnderruns : Fld := ⟨0x00B000 + 0xC4, 0, 32⟩
/-- `SCN.STATICS.COUNT` (08 line 370). -/
abbrev Fld.scnStatics : Fld := ⟨0x00B000 + 0xC8, 0, 32⟩
/-- `SCN.REFRESHES.COUNT` (08 line 370). -/
abbrev Fld.scnRefreshes : Fld := ⟨0x00B000 + 0xCC, 0, 32⟩
/-- `SCN.HOLDS.COUNT` (08 line 370). -/
abbrev Fld.scnHolds : Fld := ⟨0x00B000 + 0xD0, 0, 32⟩
/-- `SCN.BADCELL.COUNT` (08 line 370). -/
abbrev Fld.scnBadcell : Fld := ⟨0x00B000 + 0xD4, 0, 32⟩
/-- `GRN.CTRL.TABSEL`: Working copy selected under R279. (10 line 421). -/
abbrev Fld.grnCtrlTabsel : Fld := ⟨0x00C000 + 0x40, 0, 1⟩
/-- `GRN.CTRL.DERATEEN`: Derate applied under R261. (10 line 421). -/
abbrev Fld.grnCtrlDerateen : Fld := ⟨0x00C000 + 0x40, 2, 1⟩
/-- `GRN.CTRL.THERMEN`: Thermal factor applied. (10 line 421). -/
abbrev Fld.grnCtrlThermen : Fld := ⟨0x00C000 + 0x40, 3, 1⟩
/-- `GRN.CTRL.ACCEN`: Folds under R268. (10 line 421). -/
abbrev Fld.grnCtrlAccen : Fld := ⟨0x00C000 + 0x40, 4, 1⟩
/-- `GRN.CTRL.BURNLEN`: Burnish length in strokes under R282. 0 and 1 step. (10 line 421). -/
abbrev Fld.grnCtrlBurnlen : Fld := ⟨0x00C000 + 0x40, 8, 8⟩
/-- `GRN.CTRL.SETSLEW`: Largest change of p per stroke, 1 to 4,095. 0 is stored as 1. (10 line 421). -/
abbrev Fld.grnCtrlSetslew : Fld := ⟨0x00C000 + 0x40, 16, 12⟩
/-- `GRN.DEFCURVE.R`: Curve code of R263 for channel R, used under R281. Code 0 is refused with REASON 2. (10 line 435). -/
abbrev Fld.grnDefcurveR : Fld := ⟨0x00C000 + 0x44, 0, 3⟩
/-- `GRN.DEFCURVE.G`: The same for G. (10 line 435). -/
abbrev Fld.grnDefcurveG : Fld := ⟨0x00C000 + 0x44, 3, 3⟩
/-- `GRN.DEFCURVE.B`: The same for B. (10 line 435). -/
abbrev Fld.grnDefcurveB : Fld := ⟨0x00C000 + 0x44, 6, 3⟩
/-- `GRN.DEFCURVE.PEAK`: PQ peak in cd/m², 100 to 10,000. A commit with another value is refused with REASON 2. (10 line 435). -/
abbrev Fld.grnDefcurvePeak : Fld := ⟨0x00C000 + 0x44, 16, 14⟩
/-- `GRN.TABCMD.OP`: 0 none, 1 check, 2 install, 3 install volatile, 4 stop burnish, 5 save checkpoint, 6 clear accumulators, 7 res (10 line 446). -/
abbrev Fld.grnTabcmdOp : Fld := ⟨0x00C000 + 0x48, 0, 3⟩
/-- `GRN.TABCMD.KEY`: 0xA5C3, required for OP 2, 3 and 6. (10 line 446). -/
abbrev Fld.grnTabcmdKey : Fld := ⟨0x00C000 + 0x48, 16, 16⟩
/-- `GRN.TABSTAT.RESULT`: Last command: 0 idle, 1 running, 2 done, 3 failed. (10 line 454). -/
abbrev Fld.grnTabstatResult : Fld := ⟨0x00C000 + 0x4C, 0, 2⟩
/-- `GRN.TABSTAT.ERR`: Under R275, R278 and R285: 9 flash write, 10 transfer incomplete, 11 copy busy, 12 bad key. (10 line 454). -/
abbrev Fld.grnTabstatErr : Fld := ⟨0x00C000 + 0x4C, 4, 4⟩
/-- `GRN.TABSTAT.INFORCE`: 0 none, 1 copy 0, 2 copy 1. (10 line 454). -/
abbrev Fld.grnTabstatInforce : Fld := ⟨0x00C000 + 0x4C, 8, 2⟩
/-- `GRN.TABSTAT.READY`: Bit 10 + c: copy c holds an installed table. (10 line 454). -/
abbrev Fld.grnTabstatReady : Fld := ⟨0x00C000 + 0x4C, 10, 2⟩
/-- `GRN.TABSTAT.PERSIST`: Bit 12 + c: copy c is held in its flash slot. (10 line 454). -/
abbrev Fld.grnTabstatPersist : Fld := ⟨0x00C000 + 0x4C, 12, 2⟩
/-- `GRN.TABSTAT.BURNING`: A burnish runs. (10 line 454). -/
abbrev Fld.grnTabstatBurning : Fld := ⟨0x00C000 + 0x4C, 14, 1⟩
/-- `GRN.TABSTAT.BURNPOS`: b under R282, 0 to 256. (10 line 454). -/
abbrev Fld.grnTabstatBurnpos : Fld := ⟨0x00C000 + 0x4C, 16, 9⟩
/-- `GRN.TABVER.VERSION`: VERSION of the table in force, and of the other READY copy, or 0. (10 line 469). -/
abbrev Fld.grnTabver : Fld := ⟨0x00C000 + 0x50, 0, 32⟩
/-- `GRN.TABVERALT.VERSION`: VERSION of the table in force, and of the other READY copy, or 0. (10 line 469). -/
abbrev Fld.grnTabveralt : Fld := ⟨0x00C000 + 0x54, 0, 32⟩
/-- `GRN.XFERID.XFER`: Transfer identifier under R276. (10 line 475). -/
abbrev Fld.grnXferidXfer : Fld := ⟨0x00C000 + 0x58, 0, 16⟩
/-- `GRN.XFERID.SRC`: 0 IMAGE cells, 1 window. (10 line 475). -/
abbrev Fld.grnXferidSrc : Fld := ⟨0x00C000 + 0x58, 16, 1⟩
/-- `GRN.XFERLEN.LENGTH`: Transfer length in bytes, up to 2,097,152. (10 line 483). -/
abbrev Fld.grnXferlenLength : Fld := ⟨0x00C000 + 0x5C, 0, 22⟩
/-- `GRN.XFERSTAT.FIRSTMISS`: First missing chunk, or 0xFFFF when none is missing. (10 line 490). -/
abbrev Fld.grnXferstatFirstmiss : Fld := ⟨0x00C000 + 0x60, 0, 16⟩
/-- `GRN.XFERSTAT.MISSING`: Chunks missing, saturating at 65,535. (10 line 490). -/
abbrev Fld.grnXferstatMissing : Fld := ⟨0x00C000 + 0x60, 16, 16⟩
/-- `GRN.SETSTAT.POS`: p in force for the copy in force. (10 line 497). -/
abbrev Fld.grnSetstatPos : Fld := ⟨0x00C000 + 0x64, 0, 14⟩
/-- `GRN.SETSTAT.OUTSIDE`: Tp outside the set tags under R264. (10 line 497). -/
abbrev Fld.grnSetstatOutside : Fld := ⟨0x00C000 + 0x64, 14, 1⟩
/-- `GRN.SETSTAT.TARGET`: ptarget of the last latch. (10 line 497). -/
abbrev Fld.grnSetstatTarget : Fld := ⟨0x00C000 + 0x64, 16, 14⟩
/-- `GRN.AGECFG.CKPT`: Checkpoint interval in minutes, 1 to 4,095. 0 disables periodic saves. (10 line 507). -/
abbrev Fld.grnAgecfgCkpt : Fld := ⟨0x00C000 + 0x68, 0, 12⟩
/-- `GRN.AGESTAT.SATURATED`: Saturated lamps under R270. (10 line 514). -/
abbrev Fld.grnAgestatSaturated : Fld := ⟨0x00C000 + 0x6C, 0, 16⟩
/-- `GRN.AGESTAT.SINCE`: Minutes since the last checkpoint, saturating at 4,095. (10 line 514). -/
abbrev Fld.grnAgestatSince : Fld := ⟨0x00C000 + 0x6C, 16, 12⟩
/-- `GRN.AGESTAT.LOST`: Accumulators started from 0 under R272. (10 line 514). -/
abbrev Fld.grnAgestatLost : Fld := ⟨0x00C000 + 0x6C, 28, 1⟩
/-- `GRN.WINCTRL.TARGET`: 0 staging, 1 accumulators, 2 copy 0, 3 copy 1, under R277 and R284. (10 line 523). -/
abbrev Fld.grnWinctrlTarget : Fld := ⟨0x00C000 + 0x70, 0, 2⟩
/-- `GRN.WINBASE.BASE`: Target address of window offset 0x400, with [1:0] 0. (10 line 530). -/
abbrev Fld.grnWinbaseBase : Fld := ⟨0x00C000 + 0x74, 0, 22⟩
/-- `GRN.CURVEINFO.R`: Curve code of R263 for channel R, used under R281. Code 0 is refused with REASON 2. (10 line 537). -/
abbrev Fld.grnCurveinfoR : Fld := ⟨0x00C000 + 0x78, 0, 3⟩
/-- `GRN.CURVEINFO.G`: The same for G. (10 line 537). -/
abbrev Fld.grnCurveinfoG : Fld := ⟨0x00C000 + 0x78, 3, 3⟩
/-- `GRN.CURVEINFO.B`: The same for B. (10 line 537). -/
abbrev Fld.grnCurveinfoB : Fld := ⟨0x00C000 + 0x78, 6, 3⟩
/-- `GRN.CURVEINFO.PEAK`: PQ peak in cd/m², 100 to 10,000. A commit with another value is refused with REASON 2. (10 line 537). -/
abbrev Fld.grnCurveinfoPeak : Fld := ⟨0x00C000 + 0x78, 16, 14⟩
/-- `GRN.CHUNKS.COUNT` (10 line 539). -/
abbrev Fld.grnChunks : Fld := ⟨0x00C000 + 0x80, 0, 32⟩
/-- `GRN.CHUNKDISC.COUNT` (10 line 539). -/
abbrev Fld.grnChunkdisc : Fld := ⟨0x00C000 + 0x84, 0, 32⟩
/-- `GRN.CLIPS.COUNT` (10 line 539). -/
abbrev Fld.grnClips : Fld := ⟨0x00C000 + 0x88, 0, 32⟩
/-- `GRN.BURNS.COUNT` (10 line 539). -/
abbrev Fld.grnBurns : Fld := ⟨0x00C000 + 0x8C, 0, 32⟩
/-- `GRN.BURNSTEPPED.COUNT` (10 line 539). -/
abbrev Fld.grnBurnstepped : Fld := ⟨0x00C000 + 0x90, 0, 32⟩
/-- `GRN.CKPTS.COUNT` (10 line 539). -/
abbrev Fld.grnCkpts : Fld := ⟨0x00C000 + 0x94, 0, 32⟩
/-- `GRN.WIN.DATA`: Word of the target selected by `GRN.WINCTRL`. (10 line 545). -/
abbrev Fld.grnWin (i : Nat) : Fld := ⟨0x00C000 + 0x400 + 4 * i, 0, 32⟩
/-- `LTB.STAT.LOCKED`: Timebase locked and vernier calibrated, under R242. (09 line 429). -/
abbrev Fld.ltbStatLocked : Fld := ⟨0x00D000 + 0x40, 0, 1⟩
/-- `LTB.STAT.RECOVERED`: Reference recovered from the serving port. (09 line 429). -/
abbrev Fld.ltbStatRecovered : Fld := ⟨0x00D000 + 0x40, 1, 1⟩
/-- `LTB.ROWCFG.ROWFIRST`: First row of every sub-frame under R244. (09 line 437). -/
abbrev Fld.ltbRowcfgRowfirst : Fld := ⟨0x00D000 + 0x44, 0, 7⟩
/-- `LTB.ROWCFG.ROWSTEP`: Row step under R244. (09 line 437). -/
abbrev Fld.ltbRowcfgRowstep : Fld := ⟨0x00D000 + 0x44, 7, 7⟩
/-- `LTB.ROWCFG.ENPOL`: ROWEN active level: 0 high, 1 low. (09 line 437). -/
abbrev Fld.ltbRowcfgEnpol : Fld := ⟨0x00D000 + 0x44, 14, 1⟩
/-- `LTB.ROWCFG.DISCHPOL`: ROWDISCH active level: 0 high, 1 low. (09 line 437). -/
abbrev Fld.ltbRowcfgDischpol : Fld := ⟨0x00D000 + 0x44, 15, 1⟩
/-- `LTB.ROWCFG.PRECHG`: Column pre-charge under R246. (09 line 437). -/
abbrev Fld.ltbRowcfgPrechg : Fld := ⟨0x00D000 + 0x44, 16, 1⟩
/-- `LTB.ROWCFG.SCRAMBLE`: Rank scrambling under R240. (09 line 437). -/
abbrev Fld.ltbRowcfgScramble : Fld := ⟨0x00D000 + 0x44, 17, 1⟩
/-- `LTB.ROWCFG.CONC`: Concentration under R240. (09 line 437). -/
abbrev Fld.ltbRowcfgConc : Fld := ⟨0x00D000 + 0x44, 18, 1⟩
/-- `LTB.ROWCFG.STAGGER`: Edge staggering under R243. (09 line 437). -/
abbrev Fld.ltbRowcfgStagger : Fld := ⟨0x00D000 + 0x44, 19, 1⟩
/-- `LTB.ROWCFG.PRECHGV`: Pre-charge depth below VLED_SENSE, in 100 mV units, 10 to 30. (09 line 437). -/
abbrev Fld.ltbRowcfgPrechgv : Fld := ⟨0x00D000 + 0x44, 20, 6⟩
/-- `LTB.ROWTIME.ROWOFF`: Under R245, in 10 ns units. (09 line 452). -/
abbrev Fld.ltbRowtimeRowoff : Fld := ⟨0x00D000 + 0x48, 0, 6⟩
/-- `LTB.ROWTIME.DISCHON` (09 line 452). -/
abbrev Fld.ltbRowtimeDischon : Fld := ⟨0x00D000 + 0x48, 6, 6⟩
/-- `LTB.ROWTIME.ADDRCHG` (09 line 452). -/
abbrev Fld.ltbRowtimeAddrchg : Fld := ⟨0x00D000 + 0x48, 12, 6⟩
/-- `LTB.ROWTIME.DISCHOFF` (09 line 452). -/
abbrev Fld.ltbRowtimeDischoff : Fld := ⟨0x00D000 + 0x48, 18, 6⟩
/-- `LTB.ROWTIME.ROWON` (09 line 452). -/
abbrev Fld.ltbRowtimeRowon : Fld := ⟨0x00D000 + 0x48, 24, 6⟩
/-- `LTB.EXPSTAT.OUTSIDE`: Bit v: view slot not within its exposure window under R248. (09 line 463). -/
abbrev Fld.ltbExpstatOutside : Fld := ⟨0x00D000 + 0x4C, 0, 4⟩
/-- `LTB.EXPSTAT.NOWIN`: Bit 4 + v: no exposure window for view v. (09 line 463). -/
abbrev Fld.ltbExpstatNowin : Fld := ⟨0x00D000 + 0x4C, 4, 4⟩
/-- `LTB.VBASE.ROW0`: VBASE of scan row 4i. (09 line 471). -/
abbrev Fld.ltbVbaseRow0 (i : Nat) : Fld := ⟨0x00D000 + 0x80 + 4 * i, 0, 7⟩
/-- `LTB.VBASE.ROW1`: VBASE of scan row 4i + 1. (09 line 471). -/
abbrev Fld.ltbVbaseRow1 (i : Nat) : Fld := ⟨0x00D000 + 0x80 + 4 * i, 8, 7⟩
/-- `LTB.VBASE.ROW2`: VBASE of scan row 4i + 2. (09 line 471). -/
abbrev Fld.ltbVbaseRow2 (i : Nat) : Fld := ⟨0x00D000 + 0x80 + 4 * i, 16, 7⟩
/-- `LTB.VBASE.ROW3`: VBASE of scan row 4i + 3. (09 line 471). -/
abbrev Fld.ltbVbaseRow3 (i : Nat) : Fld := ⟨0x00D000 + 0x80 + 4 * i, 24, 7⟩
/-- `SNK.CTRL.DRVEN`: 0: sinks off under R235. (09 line 497). -/
abbrev Fld.snkCtrlDrven : Fld := ⟨0x00E000 + 0x40, 0, 1⟩
/-- `SNK.CTRL.OPENEN`: Open results counted under R254. (09 line 497). -/
abbrev Fld.snkCtrlOpenen : Fld := ⟨0x00E000 + 0x40, 1, 1⟩
/-- `SNK.CTRL.SHORTEN`: Short results counted. (09 line 497). -/
abbrev Fld.snkCtrlShorten : Fld := ⟨0x00E000 + 0x40, 2, 1⟩
/-- `SNK.CTRL.SHORTMASK`: Lamps flagged short held off under R255. (09 line 497). -/
abbrev Fld.snkCtrlShortmask : Fld := ⟨0x00E000 + 0x40, 3, 1⟩
/-- `SNK.CTRL.PROBEEN`: Probes under R257. (09 line 497). -/
abbrev Fld.snkCtrlProbeen : Fld := ⟨0x00E000 + 0x40, 4, 1⟩
/-- `SNK.CTRL.SERVOEN`: Servo loop under R251. (09 line 497). -/
abbrev Fld.snkCtrlServoen : Fld := ⟨0x00E000 + 0x40, 5, 1⟩
/-- `SNK.STAT.RANGE`: SINKRANGE in force. (09 line 509). -/
abbrev Fld.snkStatRange : Fld := ⟨0x00E000 + 0x44, 0, 2⟩
/-- `SNK.STAT.CEIL`: Ceiling under R249, 8 to 16. (09 line 509). -/
abbrev Fld.snkStatCeil : Fld := ⟨0x00E000 + 0x44, 2, 5⟩
/-- `SNK.STAT.MAPOK`: Map valid under R237. (09 line 509). -/
abbrev Fld.snkStatMapok : Fld := ⟨0x00E000 + 0x44, 7, 1⟩
/-- `SNK.STAT.PRIM4`: Four primaries. (09 line 509). -/
abbrev Fld.snkStatPrim4 : Fld := ⟨0x00E000 + 0x44, 8, 1⟩
/-- `SNK.STAT.TW`: Tile width in pixels. (09 line 509). -/
abbrev Fld.snkStatTw : Fld := ⟨0x00E000 + 0x44, 9, 8⟩
/-- `SNK.STAT.TH`: Tile height in pixels. (09 line 509). -/
abbrev Fld.snkStatTh : Fld := ⟨0x00E000 + 0x44, 17, 7⟩
/-- `SNK.DETCFG.OPENCNT`: Open results to flag, 1 to 15. 0 is stored as 1. (09 line 521). -/
abbrev Fld.snkDetcfgOpencnt : Fld := ⟨0x00E000 + 0x48, 0, 4⟩
/-- `SNK.DETCFG.SHORTCNT`: Short results to flag, 1 to 15. 0 is stored as 1. (09 line 521). -/
abbrev Fld.snkDetcfgShortcnt : Fld := ⟨0x00E000 + 0x48, 4, 4⟩
/-- `SNK.DETCFG.QUORUM`: LOWV samples per line slot read as supply shortfall under R250, 2 to 255. (09 line 521). -/
abbrev Fld.snkDetcfgQuorum : Fld := ⟨0x00E000 + 0x48, 8, 8⟩
/-- `SNK.DETCFG.VOPEN`: Open threshold in 10 mV units, 5 to 30. (09 line 521). -/
abbrev Fld.snkDetcfgVopen : Fld := ⟨0x00E000 + 0x48, 16, 8⟩
/-- `SNK.VSHORT.Q0`: Short threshold below VLED_SENSE for primary 0, in 50 mV units. (09 line 531). -/
abbrev Fld.snkVshortQ0 : Fld := ⟨0x00E000 + 0x4C, 0, 8⟩
/-- `SNK.VSHORT.Q1`: The same for primary 1. (09 line 531). -/
abbrev Fld.snkVshortQ1 : Fld := ⟨0x00E000 + 0x4C, 8, 8⟩
/-- `SNK.VSHORT.Q2`: The same for primary 2. (09 line 531). -/
abbrev Fld.snkVshortQ2 : Fld := ⟨0x00E000 + 0x4C, 16, 8⟩
/-- `SNK.VSHORT.Q3`: The same for primary 3. (09 line 531). -/
abbrev Fld.snkVshortQ3 : Fld := ⟨0x00E000 + 0x4C, 24, 8⟩
/-- `SNK.SERVOCFG.TARGET`: Headroom target in 10 mV units. (09 line 540). -/
abbrev Fld.snkServocfgTarget : Fld := ⟨0x00E000 + 0x50, 0, 8⟩
/-- `SNK.SERVOCFG.WINDOW`: TIGHT band above TARGET in 10 mV units. (09 line 540). -/
abbrev Fld.snkServocfgWindow : Fld := ⟨0x00E000 + 0x50, 8, 8⟩
/-- `SNK.SERVOCFG.UP`: Codes per upward step. (09 line 540). -/
abbrev Fld.snkServocfgUp : Fld := ⟨0x00E000 + 0x50, 16, 4⟩
/-- `SNK.SERVOCFG.DN`: Codes per downward step. (09 line 540). -/
abbrev Fld.snkServocfgDn : Fld := ⟨0x00E000 + 0x50, 20, 4⟩
/-- `SNK.SERVOCFG.DNHOLD`: Strokes without TIGHT before a downward step, 1 to 127. (09 line 540). -/
abbrev Fld.snkServocfgDnhold : Fld := ⟨0x00E000 + 0x50, 24, 7⟩
/-- `SNK.SERVOCFG.DIR`: 0: a higher code raises VLED. (09 line 540). -/
abbrev Fld.snkServocfgDir : Fld := ⟨0x00E000 + 0x50, 31, 1⟩
/-- `SNK.SERVOLIM.MIN`: Lowest code. (09 line 551). -/
abbrev Fld.snkServolimMin : Fld := ⟨0x00E000 + 0x54, 0, 10⟩
/-- `SNK.SERVOLIM.MAX`: Highest code. (09 line 551). -/
abbrev Fld.snkServolimMax : Fld := ⟨0x00E000 + 0x54, 10, 10⟩
/-- `SNK.SERVOLIM.START`: Code at enable and in manual mode, under R252. (09 line 551). -/
abbrev Fld.snkServolimStart : Fld := ⟨0x00E000 + 0x54, 20, 10⟩
/-- `SNK.SERVOSTAT.CODE`: DAC code in force. (09 line 560). -/
abbrev Fld.snkServostatCode : Fld := ⟨0x00E000 + 0x58, 0, 10⟩
/-- `SNK.SERVOSTAT.STATE`: 0 sinks off, 1 tracking, 2 at MAX and starved, 3 at MIN, 4 manual, 5 held; 6–7 reserved. (09 line 560). -/
abbrev Fld.snkServostatState : Fld := ⟨0x00E000 + 0x58, 10, 3⟩
/-- `SNK.SERVOSTAT.STARVED`: Starved samples in the last stroke, saturating at 65,535. (09 line 560). -/
abbrev Fld.snkServostatStarved : Fld := ⟨0x00E000 + 0x58, 16, 16⟩
/-- `SNK.VLEDNOW.MV`: VLED_SENSE in 10 mV units. (09 line 569). -/
abbrev Fld.snkVlednowMv : Fld := ⟨0x00E000 + 0x5C, 0, 16⟩
/-- `SNK.PANELT.TP`: Signed panel temperature at the last latch, in 1/16 °C. (09 line 576). -/
abbrev Fld.snkPaneltTp : Fld := ⟨0x00E000 + 0x60, 0, 16⟩
/-- `SNK.THERMNOW.QA`: Factor in force for primary 0, or for primary 2 at 0x068. (09 line 583). -/
abbrev Fld.snkThermnowQa (i : Nat) : Fld := ⟨0x00E000 + 0x64 + 4 * i, 0, 16⟩
/-- `SNK.THERMNOW.QB`: Factor in force for primary 1, or for primary 3 at 0x068. (09 line 583). -/
abbrev Fld.snkThermnowQb (i : Nat) : Fld := ⟨0x00E000 + 0x64 + 4 * i, 16, 16⟩
/-- `SNK.THSLEW.SLEW`: Largest change of a factor per stroke, in units of 2^-15. 0 is stored as 1. (09 line 590). -/
abbrev Fld.snkThslewSlew : Fld := ⟨0x00E000 + 0x6C, 0, 8⟩
/-- `SNK.PROBESTAT.ROW`: Probe row rp under R257. (09 line 597). -/
abbrev Fld.snkProbestatRow : Fld := ⟨0x00E000 + 0x70, 0, 7⟩
/-- `SNK.PROBESTAT.LASTWIN`: 0 none, 1 feather interval, 2 gap between views, 3 spare time. (09 line 597). -/
abbrev Fld.snkProbestatLastwin : Fld := ⟨0x00E000 + 0x70, 8, 2⟩
/-- `SNK.PROBESTAT.CYCLES`: Complete probe cycles, modulo 2^16. (09 line 597). -/
abbrev Fld.snkProbestatCycles : Fld := ⟨0x00E000 + 0x70, 16, 16⟩
/-- `SNK.FMAPSEL.ROW`: Scan row read through FMAPDATA. (09 line 607). -/
abbrev Fld.snkFmapselRow : Fld := ⟨0x00E000 + 0x74, 0, 7⟩
/-- `SNK.FMAPSEL.WORD`: Sinks 32 × WORD to 32 × WORD + 31. (09 line 607). -/
abbrev Fld.snkFmapselWord : Fld := ⟨0x00E000 + 0x74, 7, 4⟩
/-- `SNK.FMAPSEL.KIND`: 0 open flags, 1 short flags. (09 line 607). -/
abbrev Fld.snkFmapselKind : Fld := ⟨0x00E000 + 0x74, 11, 1⟩
/-- `SNK.FMAPSEL.CLR`: 1: clear every flag and count under R255. (09 line 607). -/
abbrev Fld.snkFmapselClr : Fld := ⟨0x00E000 + 0x74, 12, 1⟩
/-- `SNK.FMAPDATA.FLAGS`: Bit b: the lamp of sink 32 × WORD + b in ROW is flagged of KIND. (09 line 617). -/
abbrev Fld.snkFmapdata : Fld := ⟨0x00E000 + 0x78, 0, 32⟩
/-- `SNK.FLAGCNT.OPENS`: Lamps flagged open. (09 line 623). -/
abbrev Fld.snkFlagcntOpens : Fld := ⟨0x00E000 + 0x7C, 0, 16⟩
/-- `SNK.FLAGCNT.SHORTS`: Lamps flagged short. (09 line 623). -/
abbrev Fld.snkFlagcntShorts : Fld := ⟨0x00E000 + 0x7C, 16, 16⟩
/-- `SNK.PROBES.COUNT` (09 line 630). -/
abbrev Fld.snkProbes : Fld := ⟨0x00E000 + 0x80, 0, 32⟩
/-- `SNK.PROBESKIP.COUNT` (09 line 630). -/
abbrev Fld.snkProbeskip : Fld := ⟨0x00E000 + 0x84, 0, 32⟩
/-- `SNK.STARVEDSTK.COUNT` (09 line 630). -/
abbrev Fld.snkStarvedstk : Fld := ⟨0x00E000 + 0x88, 0, 32⟩
/-- `SNK.ROWFAULTS.COUNT` (09 line 630). -/
abbrev Fld.snkRowfaults : Fld := ⟨0x00E000 + 0x8C, 0, 32⟩
/-- `SNK.ROWFAULT.ROW`: Scan row of the last row fault under R256. (09 line 636). -/
abbrev Fld.snkRowfaultRow : Fld := ⟨0x00E000 + 0x90, 0, 7⟩
/-- `SNK.THERMF.FLO`: F_q[2j] under R253, Q1.15. (09 line 643). -/
abbrev Fld.snkThermfFlo (i j : Nat) : Fld := ⟨0x00E000 + 0x100 + 32 * i + 4 * j, 0, 16⟩
/-- `SNK.THERMF.FHI`: F_q[2j + 1]. (09 line 643). -/
abbrev Fld.snkThermfFhi (i j : Nat) : Fld := ⟨0x00E000 + 0x100 + 32 * i + 4 * j, 16, 16⟩
/-- `CAL.CMD.KIND`: Kind under R286. 0, 6 and 7 are reserved. (11 line 193). -/
abbrev Fld.calCmdKind : Fld := ⟨0x00F000 + 0x40, 0, 3⟩
/-- `CAL.CMD.GO`: 1: request a sequence of KIND. (11 line 193). -/
abbrev Fld.calCmdGo : Fld := ⟨0x00F000 + 0x40, 3, 1⟩
/-- `CAL.CMD.ABORT`: 1: abandon the running sequence under R294. (11 line 193). -/
abbrev Fld.calCmdAbort : Fld := ⟨0x00F000 + 0x40, 4, 1⟩
/-- `CAL.CMD.RANGEALL`: With SINK: all four ranges, under R292. (11 line 193). -/
abbrev Fld.calCmdRangeall : Fld := ⟨0x00F000 + 0x40, 5, 1⟩
/-- `CAL.CTRL.AUTO`: Register bit k stands for kind k, for k = 1 to 5. A set bit lets kind k run automatically under R293 and R294. (11 line 203). -/
abbrev Fld.calCtrlAuto : Fld := ⟨0x00F000 + 0x44, 1, 5⟩
/-- `CAL.CTRL.STEPS`: Steps per stroke in service, 1 to 8. 0 is stored as 1. (11 line 203). -/
abbrev Fld.calCtrlSteps : Fld := ⟨0x00F000 + 0x44, 6, 4⟩
/-- `CAL.CTRL.TDRIFT`: Drift that triggers a sequence, in °C, 2 to 63. (11 line 203). -/
abbrev Fld.calCtrlTdrift : Fld := ⟨0x00F000 + 0x44, 10, 6⟩
/-- `CAL.CTRL.PERIOD`: Hours between SINK and SERVO sequences. 0 disables. (11 line 203). -/
abbrev Fld.calCtrlPeriod : Fld := ⟨0x00F000 + 0x44, 16, 8⟩
/-- `CAL.STAT.STATE`: 0 idle, 1 queued, 2 running, 3 applying. (11 line 214). -/
abbrev Fld.calStatState : Fld := ⟨0x00F000 + 0x48, 0, 2⟩
/-- `CAL.STAT.KIND`: Kind running or last run. (11 line 214). -/
abbrev Fld.calStatKind : Fld := ⟨0x00F000 + 0x48, 2, 3⟩
/-- `CAL.STAT.RESULT`: 0 none, 1 applied, 2 precondition failed, 3 result out of range, 4 abandoned, 5 refused. (11 line 214). -/
abbrev Fld.calStatResult : Fld := ⟨0x00F000 + 0x48, 5, 3⟩
/-- `CAL.STAT.REASON`: With RESULT 5: 1 busy, 2 not in this role, 3 block under test, 4 update, 5 sinks driven. (11 line 214). -/
abbrev Fld.calStatReason : Fld := ⟨0x00F000 + 0x48, 8, 3⟩
/-- `CAL.STAT.PROGRESS`: Steps completed. (11 line 214). -/
abbrev Fld.calStatProgress : Fld := ⟨0x00F000 + 0x48, 11, 9⟩
/-- `CAL.STAT.ITEM`: First failing item under R290. (11 line 214). -/
abbrev Fld.calStatItem : Fld := ⟨0x00F000 + 0x48, 20, 9⟩
/-- `CAL.PRECOND.CODE`: Failing condition under R288. (11 line 227). -/
abbrev Fld.calPrecondCode : Fld := ⟨0x00F000 + 0x4C, 0, 4⟩
/-- `CAL.PRECOND.KIND`: Kind that failed. (11 line 227). -/
abbrev Fld.calPrecondKind : Fld := ⟨0x00F000 + 0x4C, 4, 3⟩
/-- `CAL.PRECOND.AFTER`: 1: the check after a step failed. (11 line 227). -/
abbrev Fld.calPrecondAfter : Fld := ⟨0x00F000 + 0x4C, 7, 1⟩
/-- `CAL.PRESTROKE.STROKE`: Stroke of the last precondition failure. (11 line 236). -/
abbrev Fld.calPrestroke : Fld := ⟨0x00F000 + 0x50, 0, 32⟩
/-- `CAL.NOSET.RANGE`: Bit r: no SINK set for SINKRANGE r. (11 line 242). -/
abbrev Fld.calNosetRange : Fld := ⟨0x00F000 + 0x54, 0, 4⟩
/-- `CAL.NOSET.DLY`: No DLY set. (11 line 242). -/
abbrev Fld.calNosetDly : Fld := ⟨0x00F000 + 0x54, 4, 1⟩
/-- `CAL.ISET.ERR`: Signed deviation of the reference current from 100 µA, in 0.01 %. (11 line 250). -/
abbrev Fld.calIsetErr : Fld := ⟨0x00F000 + 0x58, 0, 16⟩
/-- `CAL.LASTOK.STROKE`: Stroke at which kind k last applied results. (11 line 257). -/
abbrev Fld.calLastok (i : Nat) : Fld := ⟨0x00F000 + 0x68 + 8 * i, 0, 32⟩
/-- `CAL.LASTTJ.TJ`: Signed junction maximum at that application, in °C. (11 line 263). -/
abbrev Fld.calLasttjTj (i : Nat) : Fld := ⟨0x00F000 + 0x6C + 8 * i, 0, 8⟩
/-- `CAL.LASTTJ.SET`: Set written. (11 line 263). -/
abbrev Fld.calLasttjSet (i : Nat) : Fld := ⟨0x00F000 + 0x6C + 8 * i, 8, 2⟩
/-- `CAL.SETTAG.TAGS`: Byte i: signed tag of set i in °C. 0x80 marks an empty set. (11 line 271). -/
abbrev Fld.calSettag (i : Nat) : Fld := ⟨0x00F000 + 0x90 + 4 * i, 0, 32⟩
/-- `CAL.TSOFS.LO`: Signed offset of sensor 2i, in 1/16 °C. (11 line 277). -/
abbrev Fld.calTsofsLo (i : Nat) : Fld := ⟨0x00F000 + 0xC0 + 4 * i, 0, 16⟩
/-- `CAL.TSOFS.HI`: Signed offset of sensor 2i + 1. (11 line 277). -/
abbrev Fld.calTsofsHi (i : Nat) : Fld := ⟨0x00F000 + 0xC0 + 4 * i, 16, 16⟩
/-- `CAL.SEQDONE.COUNT` (11 line 284). -/
abbrev Fld.calSeqdone : Fld := ⟨0x00F000 + 0xE0, 0, 32⟩
/-- `CAL.SEQABORT.COUNT` (11 line 284). -/
abbrev Fld.calSeqabort : Fld := ⟨0x00F000 + 0xE4, 0, 32⟩
/-- `CAL.STEPSKIP.COUNT` (11 line 284). -/
abbrev Fld.calStepskip : Fld := ⟨0x00F000 + 0xE8, 0, 32⟩
/-- `THS.TJMAX.TJ`: Junction maximum, signed, 1/16 °C, under R367. (15 line 180). -/
abbrev Fld.thsTjmaxTj : Fld := ⟨0x010000 + 0x40, 0, 16⟩
/-- `THS.TJMAX.SRC`: Sensor giving the maximum. (15 line 180). -/
abbrev Fld.thsTjmaxSrc : Fld := ⟨0x010000 + 0x40, 16, 4⟩
/-- `THS.TJMAX.VALIDN`: Sensors not excluded. (15 line 180). -/
abbrev Fld.thsTjmaxValidn : Fld := ⟨0x010000 + 0x40, 20, 8⟩
/-- `THS.TEXT.TP`: Panel temperature, signed, 1/16 °C, under R369. (15 line 189). -/
abbrev Fld.thsTextTp : Fld := ⟨0x010000 + 0x44, 0, 16⟩
/-- `THS.TEXT.STATE`: 0 valid, 1 open, 2 short, 3 not fitted. (15 line 189). -/
abbrev Fld.thsTextState : Fld := ⟨0x010000 + 0x44, 16, 2⟩
/-- `THS.TEXTCFG.RNOM`: Thermistor resistance at 25 °C, in 10 Ω units. (15 line 197). -/
abbrev Fld.thsTextcfgRnom : Fld := ⟨0x010000 + 0x48, 0, 15⟩
/-- `THS.TEXTCFG.NONE`: No thermistor fitted. (15 line 197). -/
abbrev Fld.thsTextcfgNone : Fld := ⟨0x010000 + 0x48, 15, 1⟩
/-- `THS.TEXTCFG.BETA`: B constant in K. (15 line 197). -/
abbrev Fld.thsTextcfgBeta : Fld := ⟨0x010000 + 0x48, 16, 13⟩
/-- `THS.THRCFG.EN`: Throttle under R370. TILE only. (15 line 206). -/
abbrev Fld.thsThrcfgEn : Fld := ⟨0x010000 + 0x4C, 0, 1⟩
/-- `THS.THRCFG.SRC`: 0 junction maximum, 1 panel. (15 line 206). -/
abbrev Fld.thsThrcfgSrc : Fld := ⟨0x010000 + 0x4C, 1, 1⟩
/-- `THS.THRCFG.NSTEPS`: Steps, 0 to 8. Larger values are stored as 8. (15 line 206). -/
abbrev Fld.thsThrcfgNsteps : Fld := ⟨0x010000 + 0x4C, 2, 4⟩
/-- `THS.THRCFG.START`: °C, 60 to 120, clamped. (15 line 206). -/
abbrev Fld.thsThrcfgStart : Fld := ⟨0x010000 + 0x4C, 8, 8⟩
/-- `THS.THRCFG.SPACING`: °C, 1 to 15. 0 is stored as 1. (15 line 206). -/
abbrev Fld.thsThrcfgSpacing : Fld := ⟨0x010000 + 0x4C, 16, 4⟩
/-- `THS.THRSTAT.STEP`: Requested step s. (15 line 218). -/
abbrev Fld.thsThrstatStep : Fld := ⟨0x010000 + 0x50, 0, 4⟩
/-- `THS.THRSTAT.INFORCE`: Step in force, 16 − ceiling. (15 line 218). -/
abbrev Fld.thsThrstatInforce : Fld := ⟨0x010000 + 0x50, 4, 4⟩
/-- `THS.THRSTAT.DWELL`: ms since s last changed, saturating at 65,535. (15 line 218). -/
abbrev Fld.thsThrstatDwell : Fld := ⟨0x010000 + 0x50, 16, 16⟩
/-- `THS.RAILSTAT.WARN`: Bit i: rail i of R76 below its warning level. (15 line 227). -/
abbrev Fld.thsRailstatWarn : Fld := ⟨0x010000 + 0x54, 0, 10⟩
/-- `THS.RAILSTAT.FIRST`: First rail of the last warning. (15 line 227). -/
abbrev Fld.thsRailstatFirst : Fld := ⟨0x010000 + 0x54, 16, 4⟩
/-- `THS.NVQ.QUEUED`: Deferred records, 0 to 32, under R377. (15 line 236). -/
abbrev Fld.thsNvqQueued : Fld := ⟨0x010000 + 0x58, 0, 6⟩
/-- `THS.SENSOR.T`: Reading of sensor i, signed, 1/16 °C. (15 line 243). -/
abbrev Fld.thsSensorT (i : Nat) : Fld := ⟨0x010000 + 0x60 + 4 * i, 0, 16⟩
/-- `THS.SENSOR.EXCL`: Excluded under R368. (15 line 243). -/
abbrev Fld.thsSensorExcl (i : Nat) : Fld := ⟨0x010000 + 0x60 + 4 * i, 16, 1⟩
/-- `THS.THRUP.COUNT` (15 line 251). -/
abbrev Fld.thsThrup : Fld := ⟨0x010000 + 0x80, 0, 32⟩
/-- `THS.THRDOWN.COUNT` (15 line 251). -/
abbrev Fld.thsThrdown : Fld := ⟨0x010000 + 0x84, 0, 32⟩
/-- `THS.SUPWARNS.COUNT` (15 line 251). -/
abbrev Fld.thsSupwarns : Fld := ⟨0x010000 + 0x88, 0, 32⟩
/-- `THS.FROZEN.COUNT` (15 line 251). -/
abbrev Fld.thsFrozen : Fld := ⟨0x010000 + 0x8C, 0, 32⟩
/-- `THS.NVLOST.COUNT` (15 line 251). -/
abbrev Fld.thsNvlost : Fld := ⟨0x010000 + 0x90, 0, 32⟩
/-- `THS.EVIDX.INDEX`: Record shown in `THS.EVDATA`, 0 to 2,045. (15 line 257). -/
abbrev Fld.thsEvidxIndex : Fld := ⟨0x010000 + 0xA0, 0, 11⟩
/-- `THS.EVIDX.VALID`: The record's CRC is correct. (15 line 257). -/
abbrev Fld.thsEvidxValid : Fld := ⟨0x010000 + 0xA0, 11, 1⟩
/-- `THS.EVHEAD.HEAD`: HEAD of R380. (15 line 265). -/
abbrev Fld.thsEvheadHead : Fld := ⟨0x010000 + 0xA4, 0, 11⟩
/-- `THS.EVHEAD.WRAPPED`: The log has wrapped. (15 line 265). -/
abbrev Fld.thsEvheadWrapped : Fld := ⟨0x010000 + 0xA4, 11, 1⟩
/-- `THS.EVDATA.WORD`: Bytes 4w to 4w + 3 of the record at INDEX. (15 line 273). -/
abbrev Fld.thsEvdata (i : Nat) : Fld := ⟨0x010000 + 0xC0 + 4 * i, 0, 32⟩
/-- `FLT.CTRL.MASKWIN`: Masking window in strokes under R358, 1 to 15. 0 is stored as 1. (14 line 252). -/
abbrev Fld.fltCtrlMaskwin : Fld := ⟨0x011000 + 0x40, 0, 4⟩
/-- `FLT.STAT.SAFEDARK`: Safe-dark in force under R355. (14 line 259). -/
abbrev Fld.fltStatSafedark : Fld := ⟨0x011000 + 0x44, 0, 1⟩
/-- `FLT.STAT.FAULTN`: FAULT_N driven low. (14 line 259). -/
abbrev Fld.fltStatFaultn : Fld := ⟨0x011000 + 0x44, 1, 1⟩
/-- `FLT.STAT.IRQN`: IRQ_N driven low. (14 line 259). -/
abbrev Fld.fltStatIrqn : Fld := ⟨0x011000 + 0x44, 2, 1⟩
/-- `FLT.STAT.RELRESULT`: 0 idle, 1 released, 2 refused, 3 bad key. (14 line 259). -/
abbrev Fld.fltStatRelresult : Fld := ⟨0x011000 + 0x44, 3, 2⟩
/-- `FLT.STAT.WINOPEN`: Number of blocks whose masking window is open, 0 to 14. (14 line 259). -/
abbrev Fld.fltStatWinopen : Fld := ⟨0x011000 + 0x44, 8, 8⟩
/-- `FLT.RSEL.INDEX`: Source whose entry `FLT.REACT` shows, under R352. (14 line 271). -/
abbrev Fld.fltRselIndex : Fld := ⟨0x011000 + 0x48, 0, 16⟩
/-- `FLT.REACT.CLASS`: Reaction class under R354. (14 line 278). -/
abbrev Fld.fltReactClass : Fld := ⟨0x011000 + 0x4C, 0, 3⟩
/-- `FLT.REACT.PIN`: The source drives FAULT_N under R362. (14 line 278). -/
abbrev Fld.fltReactPin : Fld := ⟨0x011000 + 0x4C, 3, 1⟩
/-- `FLT.REACT.BLOCK`: Block reset by class 1, as an index under R11. (14 line 278). -/
abbrev Fld.fltReactBlock : Fld := ⟨0x011000 + 0x4C, 4, 4⟩
/-- `FLT.REACT.KIND`: 0 event, 1 level. (14 line 278). -/
abbrev Fld.fltReactKind : Fld := ⟨0x011000 + 0x4C, 30, 1⟩
/-- `FLT.REACT.IMPL`: INDEX names a source. If 0, writes are ignored. (14 line 278). -/
abbrev Fld.fltReactImpl : Fld := ⟨0x011000 + 0x4C, 31, 1⟩
/-- `FLT.CMD.RELEASE`: End safe-dark under R355. (14 line 289). -/
abbrev Fld.fltCmdRelease : Fld := ⟨0x011000 + 0x50, 0, 1⟩
/-- `FLT.CMD.PROOF`: Inject at PROOFIDX under R360. (14 line 289). -/
abbrev Fld.fltCmdProof : Fld := ⟨0x011000 + 0x50, 1, 1⟩
/-- `FLT.CMD.PROOFALL`: With PROOF: sweep every implemented index. (14 line 289). -/
abbrev Fld.fltCmdProofall : Fld := ⟨0x011000 + 0x50, 2, 1⟩
/-- `FLT.CMD.ABORT`: Stop a sweep. (14 line 289). -/
abbrev Fld.fltCmdAbort : Fld := ⟨0x011000 + 0x50, 3, 1⟩
/-- `FLT.CMD.KEY`: 0xA5C3, required for RELEASE. (14 line 289). -/
abbrev Fld.fltCmdKey : Fld := ⟨0x011000 + 0x50, 16, 16⟩
/-- `FLT.PROOFIDX.INDEX`: Index injected by PROOF. (14 line 300). -/
abbrev Fld.fltProofidxIndex : Fld := ⟨0x011000 + 0x54, 0, 16⟩
/-- `FLT.PROOFSTAT.RESULT`: 0 idle, 1 running, 2 pass, 3 miss, 4 refused; 5–7 reserved. (14 line 307). -/
abbrev Fld.fltProofstatResult : Fld := ⟨0x011000 + 0x58, 0, 3⟩
/-- `FLT.PROOFSTAT.CLASS`: Class found in the entry for the last injection. (14 line 307). -/
abbrev Fld.fltProofstatClass : Fld := ⟨0x011000 + 0x58, 3, 3⟩
/-- `FLT.PROOFSTAT.PIN`: PIN found in the entry for the last injection. (14 line 307). -/
abbrev Fld.fltProofstatPin : Fld := ⟨0x011000 + 0x58, 6, 1⟩
/-- `FLT.PROOFSTAT.REALCOINC`: A real error coincided with the last injection under R361. (14 line 307). -/
abbrev Fld.fltProofstatRealcoinc : Fld := ⟨0x011000 + 0x58, 7, 1⟩
/-- `FLT.PROOFSTAT.INDEX`: Last index injected. (14 line 307). -/
abbrev Fld.fltProofstatIndex : Fld := ⟨0x011000 + 0x58, 16, 16⟩
/-- `FLT.SECSEL.PAGE`: Page whose secondary bits `FLT.SECDATA` shows. (14 line 318). -/
abbrev Fld.fltSecselPage : Fld := ⟨0x011000 + 0x5C, 0, 12⟩
/-- `FLT.SECDATA.SEC`: Bit b: source b of PAGE recorded a secondary event under R358. (14 line 325). -/
abbrev Fld.fltSecdata : Fld := ⟨0x011000 + 0x60, 0, 32⟩
/-- `FLT.SECANY.PAGE`: Lowest-numbered page with a secondary bit set, under R358. (14 line 331). -/
abbrev Fld.fltSecanyPage : Fld := ⟨0x011000 + 0x64, 0, 12⟩
/-- `FLT.SECANY.VALID`: 1: at least one page has a secondary bit set, and PAGE is valid. (14 line 331). -/
abbrev Fld.fltSecanyValid : Fld := ⟨0x011000 + 0x64, 31, 1⟩
/-- `FLT.BWIDX.INDEX`: Index of the last broken wire under R350. (14 line 339). -/
abbrev Fld.fltBwidxIndex : Fld := ⟨0x011000 + 0x68, 0, 16⟩
/-- `FLT.BWIDX.COUNT`: Pairs ignored at present. (14 line 339). -/
abbrev Fld.fltBwidxCount : Fld := ⟨0x011000 + 0x68, 16, 16⟩
/-- `FLT.PENDPAGE.PAGE`: Lowest page driving IRQ_N under R363. (14 line 346). -/
abbrev Fld.fltPendpagePage : Fld := ⟨0x011000 + 0x6C, 0, 12⟩
/-- `FLT.PENDPAGE.VALID`: PAGE is valid. (14 line 346). -/
abbrev Fld.fltPendpageValid : Fld := ⟨0x011000 + 0x6C, 31, 1⟩
/-- `FLT.LOGSTAT.COUNT`: Valid entries, 0 to 32. (14 line 354). -/
abbrev Fld.fltLogstatCount : Fld := ⟨0x011000 + 0x70, 0, 6⟩
/-- `FLT.LOGSTAT.NEXT`: Entry written next. (14 line 354). -/
abbrev Fld.fltLogstatNext : Fld := ⟨0x011000 + 0x70, 8, 5⟩
/-- `FLT.LOGSTAT.CLR`: 1: empty the log. (14 line 354). -/
abbrev Fld.fltLogstatClr : Fld := ⟨0x011000 + 0x70, 16, 1⟩
/-- `FLT.EVENTS.COUNT` (14 line 365). -/
abbrev Fld.fltEvents : Fld := ⟨0x011000 + 0x80, 0, 32⟩
/-- `FLT.SECONDARY.COUNT` (14 line 365). -/
abbrev Fld.fltSecondary : Fld := ⟨0x011000 + 0x84, 0, 32⟩
/-- `FLT.PROOFS.COUNT` (14 line 365). -/
abbrev Fld.fltProofs : Fld := ⟨0x011000 + 0x88, 0, 32⟩
/-- `FLT.RESETS.COUNT` (14 line 365). -/
abbrev Fld.fltResets : Fld := ⟨0x011000 + 0x8C, 0, 32⟩
/-- `FLT.LOG0.INDEX`: Source index. (14 line 371). -/
abbrev Fld.fltLog0Index (i : Nat) : Fld := ⟨0x011000 + 0x100 + 8 * i, 0, 16⟩
/-- `FLT.LOG0.REAL`: Real error. (14 line 371). -/
abbrev Fld.fltLog0Real (i : Nat) : Fld := ⟨0x011000 + 0x100 + 8 * i, 16, 1⟩
/-- `FLT.LOG0.PROOF`: Injected error. (14 line 371). -/
abbrev Fld.fltLog0Proof (i : Nat) : Fld := ⟨0x011000 + 0x100 + 8 * i, 17, 1⟩
/-- `FLT.LOG0.SEC`: Secondary event. (14 line 371). -/
abbrev Fld.fltLog0Sec (i : Nat) : Fld := ⟨0x011000 + 0x100 + 8 * i, 18, 1⟩
/-- `FLT.LOG0.BW`: Broken wire. (14 line 371). -/
abbrev Fld.fltLog0Bw (i : Nat) : Fld := ⟨0x011000 + 0x100 + 8 * i, 19, 1⟩
/-- `FLT.LOG0.CLASS`: Class taken, or 0 when none was taken. (14 line 371). -/
abbrev Fld.fltLog0Class (i : Nat) : Fld := ⟨0x011000 + 0x100 + 8 * i, 20, 3⟩
/-- `FLT.LOG1.STROKE`: Stroke of the event. (14 line 371). -/
abbrev Fld.fltLog1 (i : Nat) : Fld := ⟨0x011000 + 0x104 + 8 * i, 0, 32⟩
/-- `PAIR.CFG.PREFER`: Preferred active under R323. (13 line 337). -/
abbrev Fld.pairCfgPrefer : Fld := ⟨0x012000 + 0x40, 0, 1⟩
/-- `PAIR.CFG.COLD`: Cold standby under R331. (13 line 337). -/
abbrev Fld.pairCfgCold : Fld := ⟨0x012000 + 0x40, 1, 1⟩
/-- `PAIR.CFG.SPLITEN`: Split drive under R339. (13 line 337). -/
abbrev Fld.pairCfgSpliten : Fld := ⟨0x012000 + 0x40, 2, 1⟩
/-- `PAIR.CFG.DIGEN`: Digest comparison under R333. (13 line 337). -/
abbrev Fld.pairCfgDigen : Fld := ⟨0x012000 + 0x40, 3, 1⟩
/-- `PAIR.CFG.HOLDWIT`: HOLD_WITNESS in strokes, 2 to 63. Smaller values are stored as 2. (13 line 337). -/
abbrev Fld.pairCfgHoldwit : Fld := ⟨0x012000 + 0x40, 8, 6⟩
/-- `PAIR.CFG.SPLITWAIT`: Strokes under R339, 1 to 15. 0 is stored as 1. (13 line 337). -/
abbrev Fld.pairCfgSplitwait : Fld := ⟨0x012000 + 0x40, 16, 4⟩
/-- `PAIR.CFG.STALELIM`: Stale limit in strokes under R330, 2 to 15. (13 line 337). -/
abbrev Fld.pairCfgStalelim : Fld := ⟨0x012000 + 0x40, 20, 4⟩
/-- `PAIR.CFG.CREWPER`: Hours under R344. 0 disables. (13 line 337). -/
abbrev Fld.pairCfgCrewper : Fld := ⟨0x012000 + 0x40, 24, 8⟩
/-- `PAIR.STAT.STATE`: 0 unpaired, 1 forming, 2 active, 3 standby ready, 4 standby not ready, 5 yielded, 6 taking over, 7 crew change (13 line 352). -/
abbrev Fld.pairStatState : Fld := ⟨0x012000 + 0x44, 0, 3⟩
/-- `PAIR.STAT.XLINK`: Cross-link up under R341. (13 line 352). -/
abbrev Fld.pairStatXlink : Fld := ⟨0x012000 + 0x44, 3, 1⟩
/-- `PAIR.STAT.PARTNER`: 0 absent, 1 standby ready, 2 not ready, 3 active. (13 line 352). -/
abbrev Fld.pairStatPartner : Fld := ⟨0x012000 + 0x44, 4, 2⟩
/-- `PAIR.STAT.STALE`: Journal stale under R330. (13 line 352). -/
abbrev Fld.pairStatStale : Fld := ⟨0x012000 + 0x44, 6, 1⟩
/-- `PAIR.STAT.FROMSTALE`: The last takeover proceeded from a stale journal. (13 line 352). -/
abbrev Fld.pairStatFromstale : Fld := ⟨0x012000 + 0x44, 7, 1⟩
/-- `PAIR.STAT.SPLIT`: Bit 8 + n: CPn in split drive. (13 line 352). -/
abbrev Fld.pairStatSplit : Fld := ⟨0x012000 + 0x44, 8, 8⟩
/-- `PAIR.STAT.LOST`: Bit 16 + n: CPn lost in the last stroke under R336. (13 line 352). -/
abbrev Fld.pairStatLost : Fld := ⟨0x012000 + 0x44, 16, 8⟩
/-- `PAIR.STAT.RESYNC`: Resynchronisation in progress. (13 line 352). -/
abbrev Fld.pairStatResync : Fld := ⟨0x012000 + 0x44, 24, 1⟩
/-- `PAIR.EPOCH.VALUE`: Epoch held, partner SENDERID low and high words, and VALIDTO under R330. (13 line 366). -/
abbrev Fld.pairEpoch : Fld := ⟨0x012000 + 0x48, 0, 32⟩
/-- `PAIR.PARTNERLO.VALUE`: Epoch held, partner SENDERID low and high words, and VALIDTO under R330. (13 line 366). -/
abbrev Fld.pairPartnerlo : Fld := ⟨0x012000 + 0x4C, 0, 32⟩
/-- `PAIR.PARTNERHI.VALUE`: Epoch held, partner SENDERID low and high words, and VALIDTO under R330. (13 line 366). -/
abbrev Fld.pairPartnerhi : Fld := ⟨0x012000 + 0x50, 0, 32⟩
/-- `PAIR.VALIDTO.VALUE`: Epoch held, partner SENDERID low and high words, and VALIDTO under R330. (13 line 366). -/
abbrev Fld.pairValidto : Fld := ⟨0x012000 + 0x54, 0, 32⟩
/-- `PAIR.STALEAGE.AGE`: Stale age in strokes, saturating at 65,535. (13 line 372). -/
abbrev Fld.pairStaleageAge : Fld := ⟨0x012000 + 0x58, 0, 16⟩
/-- `PAIR.JSEQ.SEQ`: Active: last JSEQ assigned. Standby: last applied in order. (13 line 379). -/
abbrev Fld.pairJseq : Fld := ⟨0x012000 + 0x5C, 0, 32⟩
/-- `PAIR.CMD.OP`: 0 none, 1 crew change under R342, 2 yield under R334, 3 rejoin under R345; 4–7 reserved. (13 line 385). -/
abbrev Fld.pairCmdOp : Fld := ⟨0x012000 + 0x60, 0, 3⟩
/-- `PAIR.CMD.KEY`: The write acts only when KEY is 0xA5C3. (13 line 385). -/
abbrev Fld.pairCmdKey : Fld := ⟨0x012000 + 0x60, 16, 16⟩
/-- `PAIR.CREWSTROKE.STROKE`: Target S of a crew change. (13 line 393). -/
abbrev Fld.pairCrewstroke : Fld := ⟨0x012000 + 0x64, 0, 32⟩
/-- `PAIR.CMDSTAT.RESULT`: 0 idle, 1 pending, 2 done, 3 partner not ready, 4 stale, 5 cross-link down, 6 target, 7 wrong state, 8 bad key (13 line 399). -/
abbrev Fld.pairCmdstatResult : Fld := ⟨0x012000 + 0x68, 0, 4⟩
/-- `PAIR.LASTTAKE.STROKE`: Stroke at which this unit last took control. (13 line 406). -/
abbrev Fld.pairLasttake : Fld := ⟨0x012000 + 0x6C, 0, 32⟩
/-- `PAIR.TAKEINFO.CAUSE`: 0 none, 1 YIELD_IN, 2 cross-link YIELD cell, 3 chain YIELD cell, 4 witness rule, 5 crew change, 6 formation; 7 (13 line 412). -/
abbrev Fld.pairTakeinfoCause : Fld := ⟨0x012000 + 0x70, 0, 3⟩
/-- `PAIR.TAKEINFO.SOURCE`: SOURCE of the YIELD cell under R322. (13 line 412). -/
abbrev Fld.pairTakeinfoSource : Fld := ⟨0x012000 + 0x70, 16, 16⟩
/-- `PAIR.ACTIVEAGE.HOURS`: Hours since this unit last held control, saturating at 65,535. (13 line 420). -/
abbrev Fld.pairActiveageHours : Fld := ⟨0x012000 + 0x74, 0, 16⟩
/-- `PAIR.TKSKEW.NS`: Standby: own T(k) minus the active's TK under R332, signed ns. (13 line 427). -/
abbrev Fld.pairTkskew : Fld := ⟨0x012000 + 0x78, 0, 32⟩
/-- `PAIR.TAKEOVERS.COUNT` (13 line 433). -/
abbrev Fld.pairTakeovers : Fld := ⟨0x012000 + 0x80, 0, 32⟩
/-- `PAIR.CREWCHANGES.COUNT` (13 line 433). -/
abbrev Fld.pairCrewchanges : Fld := ⟨0x012000 + 0x84, 0, 32⟩
/-- `PAIR.YIELDS.COUNT` (13 line 433). -/
abbrev Fld.pairYields : Fld := ⟨0x012000 + 0x88, 0, 32⟩
/-- `PAIR.SPLITS.COUNT` (13 line 433). -/
abbrev Fld.pairSplits : Fld := ⟨0x012000 + 0x8C, 0, 32⟩
/-- `PAIR.JREPLAYS.COUNT` (13 line 433). -/
abbrev Fld.pairJreplays : Fld := ⟨0x012000 + 0x90, 0, 32⟩
/-- `PAIR.RESYNCS.COUNT` (13 line 433). -/
abbrev Fld.pairResyncs : Fld := ⟨0x012000 + 0x94, 0, 32⟩
/-- `PAIR.DIVERGE.COUNT` (13 line 433). -/
abbrev Fld.pairDiverge : Fld := ⟨0x012000 + 0x98, 0, 32⟩
/-- `BST.CTRL.ATSTART`: Test at start under R383. Set by profile SECTIONS. (16 line 189). -/
abbrev Fld.bstCtrlAtstart : Fld := ⟨0x013000 + 0x40, 0, 1⟩
/-- `BST.CTRL.AUTOSOFT`: Store repairs under R389. (16 line 189). -/
abbrev Fld.bstCtrlAutosoft : Fld := ⟨0x013000 + 0x40, 1, 1⟩
/-- `BST.CMD.OP`: 0 none, 1 groups in GMASK, 2 all groups of the role, 3 abort, 4 clear soft record, 5 burn fuses; 6–7 reserved. (16 line 197). -/
abbrev Fld.bstCmdOp : Fld := ⟨0x013000 + 0x44, 0, 3⟩
/-- `BST.CMD.KEY`: 0xA5C3, required for every OP. (16 line 197). -/
abbrev Fld.bstCmdKey : Fld := ⟨0x013000 + 0x44, 16, 16⟩
/-- `BST.GMASK.GROUPS`: Bit g: group g. (16 line 205). -/
abbrev Fld.bstGmaskGroups : Fld := ⟨0x013000 + 0x48, 0, 23⟩
/-- `BST.STAT.RESULT`: Last command: 0 idle, 1 running, 2 done, 3 refused. (16 line 212). -/
abbrev Fld.bstStatResult : Fld := ⟨0x013000 + 0x4C, 0, 2⟩
/-- `BST.STAT.REASON`: Under R384 when RESULT is 3. (16 line 212). -/
abbrev Fld.bstStatReason : Fld := ⟨0x013000 + 0x4C, 2, 4⟩
/-- `BST.STAT.RUNNING`: Groups running, 0 to 4. (16 line 212). -/
abbrev Fld.bstStatRunning : Fld := ⟨0x013000 + 0x4C, 6, 3⟩
/-- `BST.FAILMASK.GROUPS`: FAILMASK of the record in force. (16 line 221). -/
abbrev Fld.bstFailmaskGroups : Fld := ⟨0x013000 + 0x50, 0, 23⟩
/-- `BST.REPSTAT.SOFT`: Soft entries in the record. (16 line 228). -/
abbrev Fld.bstRepstatSoft : Fld := ⟨0x013000 + 0x54, 0, 9⟩
/-- `BST.REPSTAT.FUSE`: Fuse entries used, 0 to 64. (16 line 228). -/
abbrev Fld.bstRepstatFuse : Fld := ⟨0x013000 + 0x54, 9, 7⟩
/-- `BST.RUNS.COUNT` (16 line 236). -/
abbrev Fld.bstRuns : Fld := ⟨0x013000 + 0x80, 0, 32⟩
/-- `BST.DEFERRED.COUNT` (16 line 236). -/
abbrev Fld.bstDeferred : Fld := ⟨0x013000 + 0x84, 0, 32⟩
/-- `BST.DISCARDED.COUNT` (16 line 236). -/
abbrev Fld.bstDiscarded : Fld := ⟨0x013000 + 0x88, 0, 32⟩
/-- `BST.GROUP.RESULT`: 0 not run, 1 pass, 2 repaired, 3 failed, 4 abandoned, 5 running, 6 waiting; 7 reserved. (16 line 242). -/
abbrev Fld.bstGroupResult (i : Nat) : Fld := ⟨0x013000 + 0x100 + 4 * i, 0, 3⟩
/-- `BST.GROUP.INROLE`: Group exists in the role. (16 line 242). -/
abbrev Fld.bstGroupInrole (i : Nat) : Fld := ⟨0x013000 + 0x100 + 4 * i, 3, 1⟩
/-- `BST.GROUP.STARTONLY`: Mark S. (16 line 242). -/
abbrev Fld.bstGroupStartonly (i : Nat) : Fld := ⟨0x013000 + 0x100 + 4 * i, 4, 1⟩
/-- `BST.GROUP.DARK`: Mark D. (16 line 242). -/
abbrev Fld.bstGroupDark (i : Nat) : Fld := ⟨0x013000 + 0x100 + 4 * i, 5, 1⟩
/-- `BST.GROUP.SPARESLEFT`: Free spare rows and columns, 0 to 10. (16 line 242). -/
abbrev Fld.bstGroupSparesleft (i : Nat) : Fld := ⟨0x013000 + 0x100 + 4 * i, 8, 4⟩
/-- `UPD.CTRL.AUTOCONF`: Seconds at STAGE 7 before self-confirmation under R418. 0: software only. (18 line 318). -/
abbrev Fld.updCtrlAutoconf : Fld := ⟨0x014000 + 0x40, 0, 16⟩
/-- `UPD.REGSTROKE.STROKE`: Regatta stroke S under R414. (18 line 325). -/
abbrev Fld.updRegstroke : Fld := ⟨0x014000 + 0x44, 0, 32⟩
/-- `UPD.CMD.OP`: 0 none, 1 verify, 2 arm, 3 disarm, 4 confirm, 5 reject, 6 distribute, 7 discard, 8 store settings, 9 store and (18 line 331). -/
abbrev Fld.updCmdOp : Fld := ⟨0x014000 + 0x48, 0, 4⟩
/-- `UPD.CMD.KEY`: 0xA5C3, required for every OP except 1 and 3. (18 line 331). -/
abbrev Fld.updCmdKey : Fld := ⟨0x014000 + 0x48, 16, 16⟩
/-- `UPD.STAT.STATE`: Under R420. (18 line 339). -/
abbrev Fld.updStatState : Fld := ⟨0x014000 + 0x4C, 0, 4⟩
/-- `UPD.STAT.RESULT`: Last command: 0 idle, 1 running, 2 done, 3 failed or refused. (18 line 339). -/
abbrev Fld.updStatResult : Fld := ⟨0x014000 + 0x4C, 4, 2⟩
/-- `UPD.STAT.ERR`: Under R408, R409, R411, R414 and R426: 10 flash, 11 transfer incomplete, 12 bad key, 13 wrong state, 14 stroke (18 line 339). -/
abbrev Fld.updStatErr : Fld := ⟨0x014000 + 0x4C, 6, 4⟩
/-- `UPD.STAT.TRIALS`: Trial boots under R417. (18 line 339). -/
abbrev Fld.updStatTrials : Fld := ⟨0x014000 + 0x4C, 10, 2⟩
/-- `UPD.STAT.FALLBACK`: Booted from KEEP on fall-back. (18 line 339). -/
abbrev Fld.updStatFallback : Fld := ⟨0x014000 + 0x4C, 12, 1⟩
/-- `UPD.XFER.XFER`: Transfer identifier under R410. (18 line 350). -/
abbrev Fld.updXferXfer : Fld := ⟨0x014000 + 0x50, 0, 16⟩
/-- `UPD.XFER.KIND`: 2 firmware bundle, 3 settings record; 0 and 1 reserved. (18 line 350). -/
abbrev Fld.updXferKind : Fld := ⟨0x014000 + 0x50, 16, 2⟩
/-- `UPD.XFER.SRC`: 0 IMAGE cells, 1 window. (18 line 350). -/
abbrev Fld.updXferSrc : Fld := ⟨0x014000 + 0x50, 18, 1⟩
/-- `UPD.XFERLEN.LENGTH`: Bytes, up to 67,108,864 for KIND 2 and 131,072 for KIND 3. (18 line 359). -/
abbrev Fld.updXferlenLength : Fld := ⟨0x014000 + 0x54, 0, 27⟩
/-- `UPD.XFERSTAT.VALUE`: First missing chunk, 0xF_FFFF when none is missing; and chunks missing. (18 line 366). -/
abbrev Fld.updXferstatValue : Fld := ⟨0x014000 + 0x58, 0, 20⟩
/-- `UPD.MISSING.VALUE`: First missing chunk, 0xF_FFFF when none is missing; and chunks missing. (18 line 366). -/
abbrev Fld.updMissingValue : Fld := ⟨0x014000 + 0x5C, 0, 20⟩
/-- `UPD.VER.VERSION`: VERSION running, and VERSION held in STAGE, KEEP and ACTIVE, or 0. (18 line 373). -/
abbrev Fld.updVer : Fld := ⟨0x014000 + 0x60, 0, 32⟩
/-- `UPD.STAGEVER.VERSION`: VERSION running, and VERSION held in STAGE, KEEP and ACTIVE, or 0. (18 line 373). -/
abbrev Fld.updStagever : Fld := ⟨0x014000 + 0x64, 0, 32⟩
/-- `UPD.KEEPVER.VERSION`: VERSION running, and VERSION held in STAGE, KEEP and ACTIVE, or 0. (18 line 373). -/
abbrev Fld.updKeepver : Fld := ⟨0x014000 + 0x68, 0, 32⟩
/-- `UPD.ACTIVEVER.VERSION`: VERSION running, and VERSION held in STAGE, KEEP and ACTIVE, or 0. (18 line 373). -/
abbrev Fld.updActivever : Fld := ⟨0x014000 + 0x6C, 0, 32⟩
/-- `UPD.CONSOL.DONE`: Sectors copied, JNEXT under R419. (18 line 379). -/
abbrev Fld.updConsolDone : Fld := ⟨0x014000 + 0x70, 0, 16⟩
/-- `UPD.CONSOL.TOTAL`: JTOTAL. (18 line 379). -/
abbrev Fld.updConsolTotal : Fld := ⟨0x014000 + 0x70, 16, 14⟩
/-- `UPD.CONSOL.JOP`: 0 none, 1 preservation, 2 consolidation. (18 line 379). -/
abbrev Fld.updConsolJop : Fld := ⟨0x014000 + 0x70, 30, 2⟩
/-- `UPD.SETSTAT.FORMAT`: Settings format in force. (18 line 387). -/
abbrev Fld.updSetstatFormat : Fld := ⟨0x014000 + 0x74, 0, 8⟩
/-- `UPD.SETSTAT.SOURCE`: Under R422. (18 line 387). -/
abbrev Fld.updSetstatSource : Fld := ⟨0x014000 + 0x74, 8, 2⟩
/-- `UPD.DISTSEL.PORTS`: SENDER: bit n selects CPn for OP 6. (18 line 395). -/
abbrev Fld.updDistselPorts : Fld := ⟨0x014000 + 0x78, 0, 8⟩
/-- `UPD.DISTSEL.VERIFY`: Write OP 1 to each completed tile. (18 line 395). -/
abbrev Fld.updDistselVerify : Fld := ⟨0x014000 + 0x78, 8, 1⟩
/-- `UPD.DISTSEL.KIND3`: 1: distribute the staged settings record instead. (18 line 395). -/
abbrev Fld.updDistselKind3 : Fld := ⟨0x014000 + 0x78, 9, 1⟩
/-- `UPD.DISTSEL.XFER`: Transfer identifier used at the tiles. (18 line 395). -/
abbrev Fld.updDistselXfer : Fld := ⟨0x014000 + 0x78, 16, 16⟩
/-- `UPD.WINBASE.BASE`: Staging address of window offset 0x400, with [1:0] 0. (18 line 405). -/
abbrev Fld.updWinbaseBase : Fld := ⟨0x014000 + 0x7C, 0, 26⟩
/-- `UPD.DISTSTAT.DONE`: SENDER: tiles of CPn complete, and verified when VERIFY is set. (18 line 412). -/
abbrev Fld.updDiststatDone (i : Nat) : Fld := ⟨0x014000 + 0x80 + 4 * i, 0, 7⟩
/-- `UPD.DISTSTAT.FAILED`: Tiles incomplete after four repair passes, or failing verification. (18 line 412). -/
abbrev Fld.updDiststatFailed (i : Nat) : Fld := ⟨0x014000 + 0x80 + 4 * i, 8, 7⟩
/-- `UPD.DISTSTAT.PASS`: Repair passes made, 0 to 4. (18 line 412). -/
abbrev Fld.updDiststatPass (i : Nat) : Fld := ⟨0x014000 + 0x80 + 4 * i, 16, 3⟩
/-- `UPD.DISTSTAT.STATE`: 0 idle, 1 running, 2 done, 3 failed. (18 line 412). -/
abbrev Fld.updDiststatState (i : Nat) : Fld := ⟨0x014000 + 0x80 + 4 * i, 19, 2⟩
/-- `UPD.CHUNKS.COUNT` (18 line 424). -/
abbrev Fld.updChunks : Fld := ⟨0x014000 + 0xA0, 0, 32⟩
/-- `UPD.CHUNKDISC.COUNT` (18 line 424). -/
abbrev Fld.updChunkdisc : Fld := ⟨0x014000 + 0xA4, 0, 32⟩
/-- `UPD.ACTIVATIONS.COUNT` (18 line 424). -/
abbrev Fld.updActivations : Fld := ⟨0x014000 + 0xA8, 0, 32⟩
/-- `UPD.DEFERRED.COUNT` (18 line 424). -/
abbrev Fld.updDeferred : Fld := ⟨0x014000 + 0xAC, 0, 32⟩
/-- `UPD.WIN.DATA`: Staging word at `UPD.WINBASE` + x. (18 line 430). -/
abbrev Fld.updWin (i : Nat) : Fld := ⟨0x014000 + 0x400 + 4 * i, 0, 32⟩
/-- `NPn/MP.CTRL.RXEN`: MP only: 1 enables the receive ring under R129. (05 line 348). -/
abbrev Fld.netCtrlRxen (p : Nat) : Fld := ⟨4096 * p + 0x40, 0, 1⟩
/-- `NPn/MP.CTRL.TXEN`: MP only: 1 enables the transmit ring. (05 line 348). -/
abbrev Fld.netCtrlTxen (p : Nat) : Fld := ⟨4096 * p + 0x40, 1, 1⟩
/-- `NPn/MP.CTRL.PAUSERX`: 1: honour received pause under R119. (05 line 348). -/
abbrev Fld.netCtrlPauserx (p : Nat) : Fld := ⟨4096 * p + 0x40, 2, 1⟩
/-- `NPn/MP.CTRL.PAUSETX`: MP only: 1 enables pause transmit under R120. (05 line 348). -/
abbrev Fld.netCtrlPausetx (p : Nat) : Fld := ⟨4096 * p + 0x40, 3, 1⟩
/-- `NPn/MP.CTRL.LPIEN`: 1: LPI under R122. (05 line 348). -/
abbrev Fld.netCtrlLpien (p : Nat) : Fld := ⟨4096 * p + 0x40, 4, 1⟩
/-- `NPn/MP.CTRL.TAGTX`: 1: transmit with an 802.1Q tag. (05 line 348). -/
abbrev Fld.netCtrlTagtx (p : Nat) : Fld := ⟨4096 * p + 0x40, 5, 1⟩
/-- `NPn/MP.CTRL.VID`: VLAN identifier for TAGTX. (05 line 348). -/
abbrev Fld.netCtrlVid (p : Nat) : Fld := ⟨4096 * p + 0x40, 16, 12⟩
/-- `NPn/MP.STATUS.LINK`: Bit s: sub-link s up. MP uses bit 0. (05 line 362). -/
abbrev Fld.netStatusLink (p : Nat) : Fld := ⟨4096 * p + 0x44, 0, 4⟩
/-- `NPn/MP.STATUS.RXLPI`: Bit 4 + s: receive in LPI. (05 line 362). -/
abbrev Fld.netStatusRxlpi (p : Nat) : Fld := ⟨4096 * p + 0x44, 4, 4⟩
/-- `NPn/MP.STATUS.TXLPI`: Bit 8 + s: transmit in LPI. (05 line 362). -/
abbrev Fld.netStatusTxlpi (p : Nat) : Fld := ⟨4096 * p + 0x44, 8, 4⟩
/-- `NPn/MP.STATUS.FECALIGN`: 100G types: RS-FEC lanes aligned. (05 line 362). -/
abbrev Fld.netStatusFecalign (p : Nat) : Fld := ⟨4096 * p + 0x44, 12, 1⟩
/-- `NPn/MP.STATUS.PAUSED`: Bit 16 + s: transmitter stopped by pause. (05 line 362). -/
abbrev Fld.netStatusPaused (p : Nat) : Fld := ⟨4096 * p + 0x44, 16, 4⟩
/-- `NPn/MP.MACLO.ADDR`: Low 32 bits of the MAC address. (05 line 374). -/
abbrev Fld.netMaclo (p : Nat) : Fld := ⟨4096 * p + 0x48, 0, 32⟩
/-- `NPn/MP.MACHI.ADDR`: High 16 bits of the MAC address. (05 line 380). -/
abbrev Fld.netMachiAddr (p : Nat) : Fld := ⟨4096 * p + 0x4C, 0, 16⟩
/-- `NPn/MP.IPADDR.ADDR`: IPv4 address of sub-link s. 0.0.0.0 answers nothing under R118. (05 line 387). -/
abbrev Fld.netIpaddr (p i : Nat) : Fld := ⟨4096 * p + 0x50 + 4 * i, 0, 32⟩
/-- `NPn/MP.LPIWAKE.TWTX`: Transmit wake time in force, in µs, under R123. (05 line 393). -/
abbrev Fld.netLpiwakeTwtx (p : Nat) : Fld := ⟨4096 * p + 0x60, 0, 16⟩
/-- `NPn/MP.LPIWAKE.TWRX`: Receive wake time in force, in µs. (05 line 393). -/
abbrev Fld.netLpiwakeTwrx (p : Nat) : Fld := ⟨4096 * p + 0x60, 16, 16⟩
/-- `NPn/MP.STATHALF.HALF`: Bit i: counter i of sub-link s passed 2^31 under R128. (05 line 400). -/
abbrev Fld.netStathalfHalf (p i : Nat) : Fld := ⟨4096 * p + 0x64 + 4 * i, 0, 24⟩
/-- `NPn/MP.RXOCTETS.COUNT` (05 line 407). -/
abbrev Fld.netRxoctets (p i : Nat) : Fld := ⟨4096 * p + 0x200 + 128 * i, 0, 32⟩
/-- `NPn/MP.RXFRAMES.COUNT` (05 line 407). -/
abbrev Fld.netRxframes (p i : Nat) : Fld := ⟨4096 * p + 0x204 + 128 * i, 0, 32⟩
/-- `NPn/MP.RXMCAST.COUNT` (05 line 407). -/
abbrev Fld.netRxmcast (p i : Nat) : Fld := ⟨4096 * p + 0x208 + 128 * i, 0, 32⟩
/-- `NPn/MP.RXBCAST.COUNT` (05 line 407). -/
abbrev Fld.netRxbcast (p i : Nat) : Fld := ⟨4096 * p + 0x20C + 128 * i, 0, 32⟩
/-- `NPn/MP.RXFCSERR.COUNT` (05 line 407). -/
abbrev Fld.netRxfcserr (p i : Nat) : Fld := ⟨4096 * p + 0x210 + 128 * i, 0, 32⟩
/-- `NPn/MP.RXUNDER.COUNT` (05 line 407). -/
abbrev Fld.netRxunder (p i : Nat) : Fld := ⟨4096 * p + 0x214 + 128 * i, 0, 32⟩
/-- `NPn/MP.RXOVER.COUNT` (05 line 407). -/
abbrev Fld.netRxover (p i : Nat) : Fld := ⟨4096 * p + 0x218 + 128 * i, 0, 32⟩
/-- `NPn/MP.RXFRAG.COUNT` (05 line 407). -/
abbrev Fld.netRxfrag (p i : Nat) : Fld := ⟨4096 * p + 0x21C + 128 * i, 0, 32⟩
/-- `NPn/MP.RXJABBER.COUNT` (05 line 407). -/
abbrev Fld.netRxjabber (p i : Nat) : Fld := ⟨4096 * p + 0x220 + 128 * i, 0, 32⟩
/-- `NPn/MP.RXPAUSE.COUNT` (05 line 407). -/
abbrev Fld.netRxpause (p i : Nat) : Fld := ⟨4096 * p + 0x224 + 128 * i, 0, 32⟩
/-- `NPn/MP.RXCTLUNSUP.COUNT` (05 line 407). -/
abbrev Fld.netRxctlunsup (p i : Nat) : Fld := ⟨4096 * p + 0x228 + 128 * i, 0, 32⟩
/-- `NPn/MP.RXFILTER.COUNT` (05 line 407). -/
abbrev Fld.netRxfilter (p i : Nat) : Fld := ⟨4096 * p + 0x22C + 128 * i, 0, 32⟩
/-- `NPn/MP.RXOVF.COUNT` (05 line 407). -/
abbrev Fld.netRxovf (p i : Nat) : Fld := ⟨4096 * p + 0x230 + 128 * i, 0, 32⟩
/-- `NPn/MP.RXTRUNC.COUNT` (05 line 407). -/
abbrev Fld.netRxtrunc (p i : Nat) : Fld := ⟨4096 * p + 0x234 + 128 * i, 0, 32⟩
/-- `NPn/MP.RXNODESC.COUNT` (05 line 407). -/
abbrev Fld.netRxnodesc (p i : Nat) : Fld := ⟨4096 * p + 0x238 + 128 * i, 0, 32⟩
/-- `NPn/MP.TXOCTETS.COUNT` (05 line 407). -/
abbrev Fld.netTxoctets (p i : Nat) : Fld := ⟨4096 * p + 0x23C + 128 * i, 0, 32⟩
/-- `NPn/MP.TXFRAMES.COUNT` (05 line 407). -/
abbrev Fld.netTxframes (p i : Nat) : Fld := ⟨4096 * p + 0x240 + 128 * i, 0, 32⟩
/-- `NPn/MP.TXPAUSE.COUNT` (05 line 407). -/
abbrev Fld.netTxpause (p i : Nat) : Fld := ⟨4096 * p + 0x244 + 128 * i, 0, 32⟩
/-- `NPn/MP.TXERR.COUNT` (05 line 407). -/
abbrev Fld.netTxerr (p i : Nat) : Fld := ⟨4096 * p + 0x248 + 128 * i, 0, 32⟩
/-- `NPn/MP.FECCORR.COUNT` (05 line 407). -/
abbrev Fld.netFeccorr (p i : Nat) : Fld := ⟨4096 * p + 0x24C + 128 * i, 0, 32⟩
/-- `NPn/MP.FECUNCORR.COUNT` (05 line 407). -/
abbrev Fld.netFecuncorr (p i : Nat) : Fld := ⟨4096 * p + 0x250 + 128 * i, 0, 32⟩
/-- `NPn/MP.RXLPIEVT.COUNT` (05 line 407). -/
abbrev Fld.netRxlpievt (p i : Nat) : Fld := ⟨4096 * p + 0x254 + 128 * i, 0, 32⟩
/-- `NPn/MP.TXLPIEVT.COUNT` (05 line 407). -/
abbrev Fld.netTxlpievt (p i : Nat) : Fld := ⟨4096 * p + 0x258 + 128 * i, 0, 32⟩
/-- `NPn/MP.PCSERR.COUNT` (05 line 407). -/
abbrev Fld.netPcserr (p i : Nat) : Fld := ⟨4096 * p + 0x25C + 128 * i, 0, 32⟩
/-- `FLW.CTRL.ENABLE`: Under R136. (05 line 525). -/
abbrev Fld.flwCtrlEnable (n : Nat) : Fld := ⟨4096 * (0x110 + n) + 0x40, 0, 1⟩
/-- `FLW.CTRL.DUAL`: 1: leg B is used and merged under R141. (05 line 525). -/
abbrev Fld.flwCtrlDual (n : Nat) : Fld := ⟨4096 * (0x110 + n) + 0x40, 1, 1⟩
/-- `FLW.CTRL.SYNCMODE`: 0 newest, 1 RTP-aligned, under R144. (05 line 525). -/
abbrev Fld.flwCtrlSyncmode (n : Nat) : Fld := ⟨4096 * (0x110 + n) + 0x40, 2, 1⟩
/-- `FLW.CTRL.SSM`: 1: source-specific join and source check. (05 line 525). -/
abbrev Fld.flwCtrlSsm (n : Nat) : Fld := ⟨4096 * (0x110 + n) + 0x40, 3, 1⟩
/-- `FLW.CTRL.PRIO`: Shedding priority. 0 is never shed, and 15 is shed first. (05 line 525). -/
abbrev Fld.flwCtrlPrio (n : Nat) : Fld := ⟨4096 * (0x110 + n) + 0x40, 4, 4⟩
/-- `FLW.LEGA.PORT`: NP port. (05 line 536). -/
abbrev Fld.flwLegaPort (n : Nat) : Fld := ⟨4096 * (0x110 + n) + 0x44, 0, 2⟩
/-- `FLW.LEGA.SUBLINK`: Sub-link; 0 for 100G types. (05 line 536). -/
abbrev Fld.flwLegaSublink (n : Nat) : Fld := ⟨4096 * (0x110 + n) + 0x44, 2, 2⟩
/-- `FLW.LEGA.UDPPORT`: Destination UDP port. (05 line 536). -/
abbrev Fld.flwLegaUdpport (n : Nat) : Fld := ⟨4096 * (0x110 + n) + 0x44, 16, 16⟩
/-- `FLW.LEGB.PORT`: NP port. (05 line 536). -/
abbrev Fld.flwLegbPort (n : Nat) : Fld := ⟨4096 * (0x110 + n) + 0x48, 0, 2⟩
/-- `FLW.LEGB.SUBLINK`: Sub-link; 0 for 100G types. (05 line 536). -/
abbrev Fld.flwLegbSublink (n : Nat) : Fld := ⟨4096 * (0x110 + n) + 0x48, 2, 2⟩
/-- `FLW.LEGB.UDPPORT`: Destination UDP port. (05 line 536). -/
abbrev Fld.flwLegbUdpport (n : Nat) : Fld := ⟨4096 * (0x110 + n) + 0x48, 16, 16⟩
/-- `FLW.GRPA.ADDR`: IPv4 group or destination address, and source address, of each leg. (05 line 545). -/
abbrev Fld.flwGrpa (n : Nat) : Fld := ⟨4096 * (0x110 + n) + 0x4C, 0, 32⟩
/-- `FLW.SRCA.ADDR`: IPv4 group or destination address, and source address, of each leg. (05 line 545). -/
abbrev Fld.flwSrca (n : Nat) : Fld := ⟨4096 * (0x110 + n) + 0x50, 0, 32⟩
/-- `FLW.GRPB.ADDR`: IPv4 group or destination address, and source address, of each leg. (05 line 545). -/
abbrev Fld.flwGrpb (n : Nat) : Fld := ⟨4096 * (0x110 + n) + 0x54, 0, 32⟩
/-- `FLW.SRCB.ADDR`: IPv4 group or destination address, and source address, of each leg. (05 line 545). -/
abbrev Fld.flwSrcb (n : Nat) : Fld := ⟨4096 * (0x110 + n) + 0x58, 0, 32⟩
/-- `FLW.FMT.SAMPLING`: 0 RGB 4:4:4, 1 YCbCr 4:4:4, 2 YCbCr 4:2:2, 3 reserved. (05 line 551). -/
abbrev Fld.flwFmtSampling (n : Nat) : Fld := ⟨4096 * (0x110 + n) + 0x5C, 0, 2⟩
/-- `FLW.FMT.DEPTH`: 0 10-bit, 1 12-bit, 2 16-bit, 3 reserved. (05 line 551). -/
abbrev Fld.flwFmtDepth (n : Nat) : Fld := ⟨4096 * (0x110 + n) + 0x5C, 2, 2⟩
/-- `FLW.FMT.COLORIMETRY`: 0 BT.709, 1 BT.2020/BT.2100, 2 custom, 3 reserved. (05 line 551). -/
abbrev Fld.flwFmtColorimetry (n : Nat) : Fld := ⟨4096 * (0x110 + n) + 0x5C, 4, 2⟩
/-- `FLW.FMT.TCS`: 0 SDR, 1 PQ, 2 HLG, 3 reserved. (05 line 551). -/
abbrev Fld.flwFmtTcs (n : Nat) : Fld := ⟨4096 * (0x110 + n) + 0x5C, 6, 2⟩
/-- `FLW.FMT.RANGE`: 0 narrow, 1 full. (05 line 551). -/
abbrev Fld.flwFmtRange (n : Nat) : Fld := ⟨4096 * (0x110 + n) + 0x5C, 8, 1⟩
/-- `FLW.FMT.PT`: RTP payload type, 96 to 127. (05 line 551). -/
abbrev Fld.flwFmtPt (n : Nat) : Fld := ⟨4096 * (0x110 + n) + 0x5C, 9, 7⟩
/-- `FLW.SIZE.WIDTH`: Pixels, 16 to 7,680. (05 line 563). -/
abbrev Fld.flwSizeWidth (n : Nat) : Fld := ⟨4096 * (0x110 + n) + 0x60, 0, 16⟩
/-- `FLW.SIZE.HEIGHT`: Lines, 16 to 4,320. (05 line 563). -/
abbrev Fld.flwSizeHeight (n : Nat) : Fld := ⟨4096 * (0x110 + n) + 0x60, 16, 16⟩
/-- `FLW.RATE.MBPS`: Declared wire rate per leg in Mb/s, up to 100,000, used for R22. (05 line 570). -/
abbrev Fld.flwRateMbps (n : Nat) : Fld := ⟨4096 * (0x110 + n) + 0x64, 0, 17⟩
/-- `FLW.SURF.FIRST`: Index of the first surface. The ring uses FIRST to FIRST + NBUF − 1. (05 line 577). -/
abbrev Fld.flwSurfFirst (n : Nat) : Fld := ⟨4096 * (0x110 + n) + 0x68, 0, 12⟩
/-- `FLW.SURF.NBUF`: Buffers, 3 to 8, at least the minimum of R143. (05 line 577). -/
abbrev Fld.flwSurfNbuf (n : Nat) : Fld := ⟨4096 * (0x110 + n) + 0x68, 12, 4⟩
/-- `FLW.SYNC.LAT`: SYNCMODE 1 lag in µs. (05 line 585). -/
abbrev Fld.flwSyncLat (n : Nat) : Fld := ⟨4096 * (0x110 + n) + 0x6C, 0, 20⟩
/-- `FLW.SYNC.MERGEWIN`: ST 2022-7 window in ms, 1 to 10. (05 line 585). -/
abbrev Fld.flwSyncMergewin (n : Nat) : Fld := ⟨4096 * (0x110 + n) + 0x6C, 24, 4⟩
/-- `FLW.STAT.STATE`: 0 off, 1 joining, 2 receiving, 3 refused. (05 line 594). -/
abbrev Fld.flwStatState (n : Nat) : Fld := ⟨4096 * (0x110 + n) + 0x70, 0, 2⟩
/-- `FLW.STAT.REASON`: Under R136 when STATE is 3. (05 line 594). -/
abbrev Fld.flwStatReason (n : Nat) : Fld := ⟨4096 * (0x110 + n) + 0x70, 4, 4⟩
/-- `FLW.STAT.SHEDDING`: Under R145. (05 line 594). -/
abbrev Fld.flwStatShedding (n : Nat) : Fld := ⟨4096 * (0x110 + n) + 0x70, 8, 1⟩
/-- `FLW.STAT.LEGAUP`: Leg A up. (05 line 594). -/
abbrev Fld.flwStatLegaup (n : Nat) : Fld := ⟨4096 * (0x110 + n) + 0x70, 9, 1⟩
/-- `FLW.STAT.LEGBUP`: Leg B up. (05 line 594). -/
abbrev Fld.flwStatLegbup (n : Nat) : Fld := ⟨4096 * (0x110 + n) + 0x70, 10, 1⟩
/-- `FLW.STAT.NEWEST`: Buffer holding the newest complete frame, relative to FIRST. (05 line 594). -/
abbrev Fld.flwStatNewest (n : Nat) : Fld := ⟨4096 * (0x110 + n) + 0x70, 12, 3⟩
/-- `FLW.STAT.LATCHED`: Buffer latched at the last compose lead point. (05 line 594). -/
abbrev Fld.flwStatLatched (n : Nat) : Fld := ⟨4096 * (0x110 + n) + 0x70, 16, 3⟩
/-- `FLW.FRAMES.COUNT` (05 line 610). -/
abbrev Fld.flwFrames (n : Nat) : Fld := ⟨4096 * (0x110 + n) + 0x80, 0, 32⟩
/-- `FLW.INCOMPLETE.COUNT` (05 line 610). -/
abbrev Fld.flwIncomplete (n : Nat) : Fld := ⟨4096 * (0x110 + n) + 0x84, 0, 32⟩
/-- `FLW.SHED.COUNT` (05 line 610). -/
abbrev Fld.flwShed (n : Nat) : Fld := ⟨4096 * (0x110 + n) + 0x88, 0, 32⟩
/-- `FLW.REPEAT.COUNT` (05 line 610). -/
abbrev Fld.flwRepeat (n : Nat) : Fld := ⟨4096 * (0x110 + n) + 0x8C, 0, 32⟩
/-- `FLW.SKIP.COUNT` (05 line 610). -/
abbrev Fld.flwSkip (n : Nat) : Fld := ⟨4096 * (0x110 + n) + 0x90, 0, 32⟩
/-- `FLW.MALFORMED.COUNT` (05 line 610). -/
abbrev Fld.flwMalformed (n : Nat) : Fld := ⟨4096 * (0x110 + n) + 0x94, 0, 32⟩
/-- `FLW.DUPLICATE.COUNT` (05 line 610). -/
abbrev Fld.flwDuplicate (n : Nat) : Fld := ⟨4096 * (0x110 + n) + 0x98, 0, 32⟩
/-- `FLW.LATEDUP.COUNT` (05 line 610). -/
abbrev Fld.flwLatedup (n : Nat) : Fld := ⟨4096 * (0x110 + n) + 0x9C, 0, 32⟩
/-- `FLW.NOBUF.COUNT` (05 line 610). -/
abbrev Fld.flwNobuf (n : Nat) : Fld := ⟨4096 * (0x110 + n) + 0xA0, 0, 32⟩
/-- `FLW.LEGAPKT.COUNT` (05 line 610). -/
abbrev Fld.flwLegapkt (n : Nat) : Fld := ⟨4096 * (0x110 + n) + 0xA4, 0, 32⟩
/-- `FLW.LEGBPKT.COUNT` (05 line 610). -/
abbrev Fld.flwLegbpkt (n : Nat) : Fld := ⟨4096 * (0x110 + n) + 0xA8, 0, 32⟩
/-- `FLW.LEGAMISS.COUNT` (05 line 610). -/
abbrev Fld.flwLegamiss (n : Nat) : Fld := ⟨4096 * (0x110 + n) + 0xAC, 0, 32⟩
/-- `FLW.LEGBMISS.COUNT` (05 line 610). -/
abbrev Fld.flwLegbmiss (n : Nat) : Fld := ⟨4096 * (0x110 + n) + 0xB0, 0, 32⟩
/-- `FLW.LASTRTP.RTP`: RTP timestamp of the newest complete frame. (05 line 616). -/
abbrev Fld.flwLastrtp (n : Nat) : Fld := ⟨4096 * (0x110 + n) + 0xC0, 0, 32⟩
/-- `VW.CTRL.WBEN`: Writeback under R169. (06 line 483). -/
abbrev Fld.vwCtrlWben (n : Nat) : Fld := ⟨4096 * (0x120 + n) + 0x40, 0, 1⟩
/-- `VW.CTRL.WBFIRST`: First writeback surface. (06 line 483). -/
abbrev Fld.vwCtrlWbfirst (n : Nat) : Fld := ⟨4096 * (0x120 + n) + 0x40, 4, 12⟩
/-- `VW.CTRL.WBN`: Writeback buffers, LEAD + 2 to 8. (06 line 483). -/
abbrev Fld.vwCtrlWbn (n : Nat) : Fld := ⟨4096 * (0x120 + n) + 0x40, 16, 4⟩
/-- `VW.BGRG.R`: Background red. (06 line 493). -/
abbrev Fld.vwBgrgR (n : Nat) : Fld := ⟨4096 * (0x120 + n) + 0x44, 0, 16⟩
/-- `VW.BGRG.G`: Background green. (06 line 493). -/
abbrev Fld.vwBgrgG (n : Nat) : Fld := ⟨4096 * (0x120 + n) + 0x44, 16, 16⟩
/-- `VW.BGB.B`: Background blue. (06 line 500). -/
abbrev Fld.vwBgbB (n : Nat) : Fld := ⟨4096 * (0x120 + n) + 0x48, 0, 16⟩
/-- `VW.WBSTAT.LAST`: Newest stroke completely written back. (06 line 507). -/
abbrev Fld.vwWbstat (n : Nat) : Fld := ⟨4096 * (0x120 + n) + 0x4C, 0, 32⟩
/-- `VW.LCTRL.EN`: Layer enabled. (06 line 513). -/
abbrev Fld.vwLctrlEn (n i : Nat) : Fld := ⟨4096 * (0x120 + n) + 0x100 + 64 * i, 0, 1⟩
/-- `VW.LCTRL.KIND`: 0 surface, 1 flow, 2 underlay, 3 reserved. (06 line 513). -/
abbrev Fld.vwLctrlKind (n i : Nat) : Fld := ⟨4096 * (0x120 + n) + 0x100 + 64 * i, 1, 2⟩
/-- `VW.LCTRL.BLEND`: 0 over, 1 add, 2 multiply, 3 replace. (06 line 513). -/
abbrev Fld.vwLctrlBlend (n i : Nat) : Fld := ⟨4096 * (0x120 + n) + 0x100 + 64 * i, 3, 2⟩
/-- `VW.LCTRL.FILTER`: 0 nearest, 1 bilinear. (06 line 513). -/
abbrev Fld.vwLctrlFilter (n i : Nat) : Fld := ⟨4096 * (0x120 + n) + 0x100 + 64 * i, 5, 1⟩
/-- `VW.LCTRL.KEYEN`: Luma key under R160. (06 line 513). -/
abbrev Fld.vwLctrlKeyen (n i : Nat) : Fld := ⟨4096 * (0x120 + n) + 0x100 + 64 * i, 6, 1⟩
/-- `VW.LCTRL.PIXALPHA`: Use surface alpha under R158. (06 line 513). -/
abbrev Fld.vwLctrlPixalpha (n i : Nat) : Fld := ⟨4096 * (0x120 + n) + 0x100 + 64 * i, 7, 1⟩
/-- `VW.LCTRL.CNV`: Conversion set 0–15, or 31 for none. 16–30 refuse the commit with REASON 2. (06 line 513). -/
abbrev Fld.vwLctrlCnv (n i : Nat) : Fld := ⟨4096 * (0x120 + n) + 0x100 + 64 * i, 8, 5⟩
/-- `VW.LCTRL.FENCEWAIT`: Flips wait under R165. (06 line 513). -/
abbrev Fld.vwLctrlFencewait (n i : Nat) : Fld := ⟨4096 * (0x120 + n) + 0x100 + 64 * i, 13, 1⟩
/-- `VW.LCTRL.FENCE`: Fence index. (06 line 513). -/
abbrev Fld.vwLctrlFence (n i : Nat) : Fld := ⟨4096 * (0x120 + n) + 0x100 + 64 * i, 14, 5⟩
/-- `VW.LCTRL.SRC`: Surface index, flow in [23:20], or underlay buffer in [20]. (06 line 513). -/
abbrev Fld.vwLctrlSrc (n i : Nat) : Fld := ⟨4096 * (0x120 + n) + 0x100 + 64 * i, 20, 12⟩
/-- `VW.LDST.X` (06 line 530). -/
abbrev Fld.vwLdstX (n i : Nat) : Fld := ⟨4096 * (0x120 + n) + 0x104 + 64 * i, 0, 16⟩
/-- `VW.LDST.Y` (06 line 530). -/
abbrev Fld.vwLdstY (n i : Nat) : Fld := ⟨4096 * (0x120 + n) + 0x104 + 64 * i, 16, 16⟩
/-- `VW.LDSIZE.W` (06 line 530). -/
abbrev Fld.vwLdsizeW (n i : Nat) : Fld := ⟨4096 * (0x120 + n) + 0x108 + 64 * i, 0, 16⟩
/-- `VW.LDSIZE.H` (06 line 530). -/
abbrev Fld.vwLdsizeH (n i : Nat) : Fld := ⟨4096 * (0x120 + n) + 0x108 + 64 * i, 16, 16⟩
/-- `VW.LSRCX.VALUE` (06 line 530). -/
abbrev Fld.vwLsrcx (n i : Nat) : Fld := ⟨4096 * (0x120 + n) + 0x10C + 64 * i, 0, 32⟩
/-- `VW.LSRCY.VALUE` (06 line 530). -/
abbrev Fld.vwLsrcy (n i : Nat) : Fld := ⟨4096 * (0x120 + n) + 0x110 + 64 * i, 0, 32⟩
/-- `VW.LSTEPX.VALUE` (06 line 530). -/
abbrev Fld.vwLstepx (n i : Nat) : Fld := ⟨4096 * (0x120 + n) + 0x114 + 64 * i, 0, 32⟩
/-- `VW.LSTEPY.VALUE` (06 line 530). -/
abbrev Fld.vwLstepy (n i : Nat) : Fld := ⟨4096 * (0x120 + n) + 0x118 + 64 * i, 0, 32⟩
/-- `VW.LCROPO.CX` (06 line 530). -/
abbrev Fld.vwLcropoCx (n i : Nat) : Fld := ⟨4096 * (0x120 + n) + 0x11C + 64 * i, 0, 16⟩
/-- `VW.LCROPO.CY` (06 line 530). -/
abbrev Fld.vwLcropoCy (n i : Nat) : Fld := ⟨4096 * (0x120 + n) + 0x11C + 64 * i, 16, 16⟩
/-- `VW.LCROPS.CW` (06 line 530). -/
abbrev Fld.vwLcropsCw (n i : Nat) : Fld := ⟨4096 * (0x120 + n) + 0x120 + 64 * i, 0, 16⟩
/-- `VW.LCROPS.CH` (06 line 530). -/
abbrev Fld.vwLcropsCh (n i : Nat) : Fld := ⟨4096 * (0x120 + n) + 0x120 + 64 * i, 16, 16⟩
/-- `VW.LALPHA.ALPHA` (06 line 530). -/
abbrev Fld.vwLalphaAlpha (n i : Nat) : Fld := ⟨4096 * (0x120 + n) + 0x124 + 64 * i, 0, 16⟩
/-- `VW.LKEY.KLO` (06 line 530). -/
abbrev Fld.vwLkeyKlo (n i : Nat) : Fld := ⟨4096 * (0x120 + n) + 0x128 + 64 * i, 0, 16⟩
/-- `VW.LKEY.KHI` (06 line 530). -/
abbrev Fld.vwLkeyKhi (n i : Nat) : Fld := ⟨4096 * (0x120 + n) + 0x128 + 64 * i, 16, 16⟩
/-- `VW.LFENCEV.VALUE` (06 line 530). -/
abbrev Fld.vwLfencev (n i : Nat) : Fld := ⟨4096 * (0x120 + n) + 0x12C + 64 * i, 0, 32⟩
/-- `VW.LSTAT.SURF` (06 line 569). -/
abbrev Fld.vwLstatSurf (n i : Nat) : Fld := ⟨4096 * (0x120 + n) + 0x130 + 64 * i, 0, 12⟩
/-- `VW.LSTAT.FLIPPEND` (06 line 569). -/
abbrev Fld.vwLstatFlippend (n i : Nat) : Fld := ⟨4096 * (0x120 + n) + 0x130 + 64 * i, 12, 1⟩
/-- `VW.LSTAT.SKIPPED` (06 line 569). -/
abbrev Fld.vwLstatSkipped (n i : Nat) : Fld := ⟨4096 * (0x120 + n) + 0x130 + 64 * i, 13, 1⟩
/-- `VW.LSTAT.WAIT` (06 line 569). -/
abbrev Fld.vwLstatWait (n i : Nat) : Fld := ⟨4096 * (0x120 + n) + 0x130 + 64 * i, 16, 8⟩
/-- `UND.CMD.GO`: Start a build under R163. (06 line 580). -/
abbrev Fld.undCmdGo (n : Nat) : Fld := ⟨4096 * (0x128 + n) + 0x40, 0, 1⟩
/-- `UND.CMD.BUF`: Buffer to build. (06 line 580). -/
abbrev Fld.undCmdBuf (n : Nat) : Fld := ⟨4096 * (0x128 + n) + 0x40, 1, 1⟩
/-- `UND.CMD.ABORT`: End the running build under R164. (06 line 580). -/
abbrev Fld.undCmdAbort (n : Nat) : Fld := ⟨4096 * (0x128 + n) + 0x40, 2, 1⟩
/-- `UND.BUF.BUF0`: Surface of buffer 0. (06 line 589). -/
abbrev Fld.undBufBuf0 (n : Nat) : Fld := ⟨4096 * (0x128 + n) + 0x44, 0, 12⟩
/-- `UND.BUF.BUF1`: Surface of buffer 1. (06 line 589). -/
abbrev Fld.undBufBuf1 (n : Nat) : Fld := ⟨4096 * (0x128 + n) + 0x44, 16, 12⟩
/-- `UND.STAT.STATE`: 0 idle, 1 building, 2 done, 3 failed or refused. (06 line 598). -/
abbrev Fld.undStatState (n : Nat) : Fld := ⟨4096 * (0x128 + n) + 0x48, 0, 2⟩
/-- `UND.STAT.VALID0`: Buffer 0 built. (06 line 598). -/
abbrev Fld.undStatValid0 (n : Nat) : Fld := ⟨4096 * (0x128 + n) + 0x48, 2, 1⟩
/-- `UND.STAT.VALID1`: Buffer 1 built. (06 line 598). -/
abbrev Fld.undStatValid1 (n : Nat) : Fld := ⟨4096 * (0x128 + n) + 0x48, 3, 1⟩
/-- `UND.STAT.REASON`: Under R163 and R164. (06 line 598). -/
abbrev Fld.undStatReason (n : Nat) : Fld := ⟨4096 * (0x128 + n) + 0x48, 4, 4⟩
/-- `UND.STAT.PROGRESS`: Lines built. (06 line 598). -/
abbrev Fld.undStatProgress (n : Nat) : Fld := ⟨4096 * (0x128 + n) + 0x48, 16, 16⟩
/-- `UND.BUILT.STROKE`: Stroke at which the last build completed. (06 line 609). -/
abbrev Fld.undBuilt (n : Nat) : Fld := ⟨4096 * (0x128 + n) + 0x4C, 0, 32⟩
/-- `UND.LCTRL.EN`: Layer enabled. (06 line 530). -/
abbrev Fld.undLctrlEn (n i : Nat) : Fld := ⟨4096 * (0x128 + n) + 0x100 + 64 * i, 0, 1⟩
/-- `UND.LCTRL.KIND`: 0 surface, 1 flow, 2 underlay, 3 reserved. (06 line 530). -/
abbrev Fld.undLctrlKind (n i : Nat) : Fld := ⟨4096 * (0x128 + n) + 0x100 + 64 * i, 1, 2⟩
/-- `UND.LCTRL.BLEND`: 0 over, 1 add, 2 multiply, 3 replace. (06 line 530). -/
abbrev Fld.undLctrlBlend (n i : Nat) : Fld := ⟨4096 * (0x128 + n) + 0x100 + 64 * i, 3, 2⟩
/-- `UND.LCTRL.FILTER`: 0 nearest, 1 bilinear. (06 line 530). -/
abbrev Fld.undLctrlFilter (n i : Nat) : Fld := ⟨4096 * (0x128 + n) + 0x100 + 64 * i, 5, 1⟩
/-- `UND.LCTRL.KEYEN`: Luma key under R160. (06 line 530). -/
abbrev Fld.undLctrlKeyen (n i : Nat) : Fld := ⟨4096 * (0x128 + n) + 0x100 + 64 * i, 6, 1⟩
/-- `UND.LCTRL.PIXALPHA`: Use surface alpha under R158. (06 line 530). -/
abbrev Fld.undLctrlPixalpha (n i : Nat) : Fld := ⟨4096 * (0x128 + n) + 0x100 + 64 * i, 7, 1⟩
/-- `UND.LCTRL.CNV`: Conversion set 0–15, or 31 for none. 16–30 refuse the commit with REASON 2. (06 line 530). -/
abbrev Fld.undLctrlCnv (n i : Nat) : Fld := ⟨4096 * (0x128 + n) + 0x100 + 64 * i, 8, 5⟩
/-- `UND.LCTRL.FENCEWAIT`: Flips wait under R165. (06 line 530). -/
abbrev Fld.undLctrlFencewait (n i : Nat) : Fld := ⟨4096 * (0x128 + n) + 0x100 + 64 * i, 13, 1⟩
/-- `UND.LCTRL.FENCE`: Fence index. (06 line 530). -/
abbrev Fld.undLctrlFence (n i : Nat) : Fld := ⟨4096 * (0x128 + n) + 0x100 + 64 * i, 14, 5⟩
/-- `UND.LCTRL.SRC`: Surface index, flow in [23:20], or underlay buffer in [20]. (06 line 530). -/
abbrev Fld.undLctrlSrc (n i : Nat) : Fld := ⟨4096 * (0x128 + n) + 0x100 + 64 * i, 20, 12⟩
/-- `UND.LDST.X` (06 line 530). -/
abbrev Fld.undLdstX (n i : Nat) : Fld := ⟨4096 * (0x128 + n) + 0x104 + 64 * i, 0, 16⟩
/-- `UND.LDST.Y` (06 line 530). -/
abbrev Fld.undLdstY (n i : Nat) : Fld := ⟨4096 * (0x128 + n) + 0x104 + 64 * i, 16, 16⟩
/-- `UND.LDSIZE.W` (06 line 530). -/
abbrev Fld.undLdsizeW (n i : Nat) : Fld := ⟨4096 * (0x128 + n) + 0x108 + 64 * i, 0, 16⟩
/-- `UND.LDSIZE.H` (06 line 530). -/
abbrev Fld.undLdsizeH (n i : Nat) : Fld := ⟨4096 * (0x128 + n) + 0x108 + 64 * i, 16, 16⟩
/-- `UND.LSRCX.VALUE` (06 line 530). -/
abbrev Fld.undLsrcx (n i : Nat) : Fld := ⟨4096 * (0x128 + n) + 0x10C + 64 * i, 0, 32⟩
/-- `UND.LSRCY.VALUE` (06 line 530). -/
abbrev Fld.undLsrcy (n i : Nat) : Fld := ⟨4096 * (0x128 + n) + 0x110 + 64 * i, 0, 32⟩
/-- `UND.LSTEPX.VALUE` (06 line 530). -/
abbrev Fld.undLstepx (n i : Nat) : Fld := ⟨4096 * (0x128 + n) + 0x114 + 64 * i, 0, 32⟩
/-- `UND.LSTEPY.VALUE` (06 line 530). -/
abbrev Fld.undLstepy (n i : Nat) : Fld := ⟨4096 * (0x128 + n) + 0x118 + 64 * i, 0, 32⟩
/-- `UND.LCROPO.CX` (06 line 530). -/
abbrev Fld.undLcropoCx (n i : Nat) : Fld := ⟨4096 * (0x128 + n) + 0x11C + 64 * i, 0, 16⟩
/-- `UND.LCROPO.CY` (06 line 530). -/
abbrev Fld.undLcropoCy (n i : Nat) : Fld := ⟨4096 * (0x128 + n) + 0x11C + 64 * i, 16, 16⟩
/-- `UND.LCROPS.CW` (06 line 530). -/
abbrev Fld.undLcropsCw (n i : Nat) : Fld := ⟨4096 * (0x128 + n) + 0x120 + 64 * i, 0, 16⟩
/-- `UND.LCROPS.CH` (06 line 530). -/
abbrev Fld.undLcropsCh (n i : Nat) : Fld := ⟨4096 * (0x128 + n) + 0x120 + 64 * i, 16, 16⟩
/-- `UND.LALPHA.ALPHA` (06 line 530). -/
abbrev Fld.undLalphaAlpha (n i : Nat) : Fld := ⟨4096 * (0x128 + n) + 0x124 + 64 * i, 0, 16⟩
/-- `UND.LKEY.KLO` (06 line 530). -/
abbrev Fld.undLkeyKlo (n i : Nat) : Fld := ⟨4096 * (0x128 + n) + 0x128 + 64 * i, 0, 16⟩
/-- `UND.LKEY.KHI` (06 line 530). -/
abbrev Fld.undLkeyKhi (n i : Nat) : Fld := ⟨4096 * (0x128 + n) + 0x128 + 64 * i, 16, 16⟩
/-- `UND.LFENCEV.VALUE` (06 line 530). -/
abbrev Fld.undLfencev (n i : Nat) : Fld := ⟨4096 * (0x128 + n) + 0x12C + 64 * i, 0, 32⟩
/-- `PLC.ENTRY.X`: Footprint left edge under R155. (06 line 615). -/
abbrev Fld.plcEntryX (n i : Nat) : Fld := ⟨4096 * (0x130 + n) + 0x100 + 4 * i, 0, 14⟩
/-- `PLC.ENTRY.Y`: Footprint top edge. (06 line 615). -/
abbrev Fld.plcEntryY (n i : Nat) : Fld := ⟨4096 * (0x130 + n) + 0x100 + 4 * i, 14, 13⟩
/-- `PLC.ENTRY.ROT`: Mounting under R155. (06 line 615). -/
abbrev Fld.plcEntryRot (n i : Nat) : Fld := ⟨4096 * (0x130 + n) + 0x100 + 4 * i, 27, 2⟩
/-- `PLC.ENTRY.MIRROR`: Columns mirrored. (06 line 615). -/
abbrev Fld.plcEntryMirror (n i : Nat) : Fld := ⟨4096 * (0x130 + n) + 0x100 + 4 * i, 29, 1⟩
/-- `PLC.ENTRY.EN`: Entry enabled. (06 line 615). -/
abbrev Fld.plcEntryEn (n i : Nat) : Fld := ⟨4096 * (0x130 + n) + 0x100 + 4 * i, 30, 1⟩
/-- `CHP.CTRL.ENABLE`: Port powered and stepping. SENDER: a SECTIONS record, or a later write of 1, assigns CPn to chain service. In  (07 line 480). -/
abbrev Fld.chpCtrlEnable (n : Nat) : Fld := ⟨4096 * (0x140 + n) + 0x40, 0, 1⟩
/-- `CHP.CTRL.RETRAIN`: 1: restart the hop under R178 and clear CAPPED. (07 line 480). -/
abbrev Fld.chpCtrlRetrain (n : Nat) : Fld := ⟨4096 * (0x140 + n) + 0x40, 1, 1⟩
/-- `CHP.CTRL.CAP`: Cap from the profile, as a rate code of R58. (07 line 480). -/
abbrev Fld.chpCtrlCap (n : Nat) : Fld := ⟨4096 * (0x140 + n) + 0x40, 2, 2⟩
/-- `CHP.STAT.RATE`: Hop rate code. (07 line 489). -/
abbrev Fld.chpStatRate (n : Nat) : Fld := ⟨4096 * (0x140 + n) + 0x44, 0, 2⟩
/-- `CHP.STAT.CHAINRATE`: Chain rate code under R179. TILE: equals RATE. (07 line 489). -/
abbrev Fld.chpStatChainrate (n : Nat) : Fld := ⟨4096 * (0x140 + n) + 0x44, 2, 2⟩
/-- `CHP.STAT.LANEUP`: Bit 4 + l: lane l aligned. (07 line 489). -/
abbrev Fld.chpStatLaneup (n : Nat) : Fld := ⟨4096 * (0x140 + n) + 0x44, 4, 2⟩
/-- `CHP.STAT.EIDLE`: Bit 6 + l: lane l transmitting electrical idle. (07 line 489). -/
abbrev Fld.chpStatEidle (n : Nat) : Fld := ⟨4096 * (0x140 + n) + 0x44, 6, 2⟩
/-- `CHP.STAT.CAPPED`: Rate capped under R178. (07 line 489). -/
abbrev Fld.chpStatCapped (n : Nat) : Fld := ⟨4096 * (0x140 + n) + 0x44, 8, 1⟩
/-- `CHP.STAT.STATE`: 0 down, 1 stepping, 2 in service, 3 degraded. (07 line 489). -/
abbrev Fld.chpStatState (n : Nat) : Fld := ⟨4096 * (0x140 + n) + 0x44, 9, 2⟩
/-- `CHP.STAT.NTILES`: SENDER: tiles enumerated, 0 to 64. (07 line 489). -/
abbrev Fld.chpStatNtiles (n : Nat) : Fld := ⟨4096 * (0x140 + n) + 0x44, 16, 7⟩
/-- `CHP.TAPS.PRE`: \|c(−1)\| of the local transmitter. (07 line 503). -/
abbrev Fld.chpTapsPre (n i : Nat) : Fld := ⟨4096 * (0x140 + n) + 0x48 + 4 * i, 0, 4⟩
/-- `CHP.TAPS.POST`: \|c(+1)\|. (07 line 503). -/
abbrev Fld.chpTapsPost (n i : Nat) : Fld := ⟨4096 * (0x140 + n) + 0x48 + 4 * i, 8, 4⟩
/-- `CHP.TAPS.MAIN`: c(0). (07 line 503). -/
abbrev Fld.chpTapsMain (n i : Nat) : Fld := ⟨4096 * (0x140 + n) + 0x48 + 4 * i, 16, 6⟩
/-- `CHP.LINKDLY.DELAY`: Delay of the link feeding lane l, in 1/16 ns, under R203. (07 line 514). -/
abbrev Fld.chpLinkdly (n i : Nat) : Fld := ⟨4096 * (0x140 + n) + 0x50 + 4 * i, 0, 32⟩
/-- `CHP.BUDGET.DEMAND`: SENDER: demand under R207, in Mb/s. (07 line 520). -/
abbrev Fld.chpBudgetDemand (n : Nat) : Fld := ⟨4096 * (0x140 + n) + 0x58, 0, 16⟩
/-- `CHP.BUDGET.GUAR`: SENDER: g at the chain rate, in Mb/s. (07 line 520). -/
abbrev Fld.chpBudgetGuar (n : Nat) : Fld := ⟨4096 * (0x140 + n) + 0x58, 16, 16⟩
/-- `CHP.CELLSRX.COUNT` (07 line 527). -/
abbrev Fld.chpCellsrx (n : Nat) : Fld := ⟨4096 * (0x140 + n) + 0x80, 0, 32⟩
/-- `CHP.CELLSTX.COUNT` (07 line 527). -/
abbrev Fld.chpCellstx (n : Nat) : Fld := ⟨4096 * (0x140 + n) + 0x84, 0, 32⟩
/-- `CHP.CRCERR.COUNT` (07 line 527). -/
abbrev Fld.chpCrcerr (n : Nat) : Fld := ⟨4096 * (0x140 + n) + 0x88, 0, 32⟩
/-- `CHP.FRAMEERR.COUNT` (07 line 527). -/
abbrev Fld.chpFrameerr (n : Nat) : Fld := ⟨4096 * (0x140 + n) + 0x8C, 0, 32⟩
/-- `CHP.REALIGN.COUNT` (07 line 527). -/
abbrev Fld.chpRealign (n : Nat) : Fld := ⟨4096 * (0x140 + n) + 0x90, 0, 32⟩
/-- `CHP.STUFFED.COUNT` (07 line 527). -/
abbrev Fld.chpStuffed (n : Nat) : Fld := ⟨4096 * (0x140 + n) + 0x94, 0, 32⟩
/-- `CHP.ALTCELLS.COUNT` (07 line 527). -/
abbrev Fld.chpAltcells (n : Nat) : Fld := ⟨4096 * (0x140 + n) + 0x98, 0, 32⟩
/-- `CHP.VIDLATE.COUNT` (07 line 527). -/
abbrev Fld.chpVidlate (n : Nat) : Fld := ⟨4096 * (0x140 + n) + 0x9C, 0, 32⟩
/-- `CHP.OWNDROP.COUNT` (07 line 527). -/
abbrev Fld.chpOwndrop (n : Nat) : Fld := ⟨4096 * (0x140 + n) + 0xA0, 0, 32⟩
/-- `CHP.MISADDR.COUNT` (07 line 527). -/
abbrev Fld.chpMisaddr (n : Nat) : Fld := ⟨4096 * (0x140 + n) + 0xA4, 0, 32⟩
/-- `CHP.NOTSERVING.COUNT` (07 line 527). -/
abbrev Fld.chpNotserving (n : Nat) : Fld := ⟨4096 * (0x140 + n) + 0xA8, 0, 32⟩
/-- `CHP.EIDLEENT.COUNT` (07 line 527). -/
abbrev Fld.chpEidleent (n : Nat) : Fld := ⟨4096 * (0x140 + n) + 0xAC, 0, 32⟩
/-- `CHP.ENUMREC0.IDLO`: UNITID low word. (07 line 533). -/
abbrev Fld.chpEnumrec0 (n i : Nat) : Fld := ⟨4096 * (0x140 + n) + 0x400 + 16 * i, 0, 32⟩
/-- `CHP.ENUMREC1.IDHI`: UNITID high word. (07 line 533). -/
abbrev Fld.chpEnumrec1 (n i : Nat) : Fld := ⟨4096 * (0x140 + n) + 0x404 + 16 * i, 0, 32⟩
/-- `CHP.ENUMREC2.TW`: Tile width. (07 line 533). -/
abbrev Fld.chpEnumrec2Tw (n i : Nat) : Fld := ⟨4096 * (0x140 + n) + 0x408 + 16 * i, 0, 16⟩
/-- `CHP.ENUMREC2.TH`: Tile height. (07 line 533). -/
abbrev Fld.chpEnumrec2Th (n i : Nat) : Fld := ⟨4096 * (0x140 + n) + 0x408 + 16 * i, 16, 16⟩
/-- `CHP.ENUMREC3.HOPSB`: Hop count from the port-B end. (07 line 533). -/
abbrev Fld.chpEnumrec3Hopsb (n i : Nat) : Fld := ⟨4096 * (0x140 + n) + 0x40C + 16 * i, 0, 8⟩
/-- `CHP.ENUMREC3.RATES`: RATES byte [4:0]. (07 line 533). -/
abbrev Fld.chpEnumrec3Rates (n i : Nat) : Fld := ⟨4096 * (0x140 + n) + 0x40C + 16 * i, 8, 5⟩
/-- `CHP.ENUMREC3.LCS`: Life-cycle state code. (07 line 533). -/
abbrev Fld.chpEnumrec3Lcs (n i : Nat) : Fld := ⟨4096 * (0x140 + n) + 0x40C + 16 * i, 13, 3⟩
/-- `CHP.ENUMREC3.PRIM4`: 1: four primaries. (07 line 533). -/
abbrev Fld.chpEnumrec3Prim4 (n i : Nat) : Fld := ⟨4096 * (0x140 + n) + 0x40C + 16 * i, 16, 1⟩
/-- `CHP.ENUMREC3.VALID`: Record present and without conflict. (07 line 533). -/
abbrev Fld.chpEnumrec3Valid (n i : Nat) : Fld := ⟨4096 * (0x140 + n) + 0x40C + 16 * i, 17, 1⟩
/-- `DC.CFG.PRIV`: Privileged refresh under R309. (12 line 445). -/
abbrev Fld.dcCfgPriv (n : Nat) : Fld := ⟨4096 * (0x150 + n) + 0x40, 0, 1⟩
/-- `DC.CFG.REFPOST`: Refreshes that level 3 traffic may postpone, 0 to 4. Larger values are stored as 4. (12 line 445). -/
abbrev Fld.dcCfgRefpost (n : Nat) : Fld := ⟨4096 * (0x150 + n) + 0x40, 1, 3⟩
/-- `DC.CFG.OSCINT`: Oscillator sample interval in ms, 1 to 255. 0 is stored as 1. (12 line 445). -/
abbrev Fld.dcCfgOscint (n : Nat) : Fld := ⟨4096 * (0x150 + n) + 0x40, 8, 8⟩
/-- `DC.CFG.RETRAIN`: Minutes between retrain steps. 0 leaves only drift-triggered steps. (12 line 445). -/
abbrev Fld.dcCfgRetrain (n : Nat) : Fld := ⟨4096 * (0x150 + n) + 0x40, 16, 8⟩
/-- `DC.CFG.DRIFT`: Drift in ps that triggers a retrain step. (12 line 445). -/
abbrev Fld.dcCfgDrift (n : Nat) : Fld := ⟨4096 * (0x150 + n) + 0x40, 24, 8⟩
/-- `DC.STAT.READY`: Channel in service. (12 line 456). -/
abbrev Fld.dcStatReady (n : Nat) : Fld := ⟨4096 * (0x150 + n) + 0x44, 0, 1⟩
/-- `DC.STAT.MR4RATE`: R_req: 0 ×1, 1 ×2, 2 ×4, 3 reserved. (12 line 456). -/
abbrev Fld.dcStatMr4rate (n : Nat) : Fld := ⟨4096 * (0x150 + n) + 0x44, 1, 2⟩
/-- `DC.STAT.REFRATE`: Rate in force, coded as MR4RATE. (12 line 456). -/
abbrev Fld.dcStatRefrate (n : Nat) : Fld := ⟨4096 * (0x150 + n) + 0x44, 3, 2⟩
/-- `DC.STAT.SR`: 0 active, 1 full retention, 2 segment retention, 3 deep power-down. (12 line 456). -/
abbrev Fld.dcStatSr (n : Nat) : Fld := ⟨4096 * (0x150 + n) + 0x44, 5, 2⟩
/-- `DC.STAT.GATHER`: 0 none, 1 oscillator sample, 2 retrain step, 3 reserved. (12 line 456). -/
abbrev Fld.dcStatGather (n : Nat) : Fld := ⟨4096 * (0x150 + n) + 0x44, 7, 2⟩
/-- `DC.STAT.TRAINED`: Bit 9 + o: valid record for point o. (12 line 456). -/
abbrev Fld.dcStatTrained (n : Nat) : Fld := ⟨4096 * (0x150 + n) + 0x44, 9, 4⟩
/-- `DC.REFCOST.COST`: Refresh cost in force under R310, in 0.1 %. (12 line 468). -/
abbrev Fld.dcRefcostCost (n : Nat) : Fld := ⟨4096 * (0x150 + n) + 0x48, 0, 10⟩
/-- `DC.REFCOST.TRFC`: tRFCab in ns. (12 line 468). -/
abbrev Fld.dcRefcostTrfc (n : Nat) : Fld := ⟨4096 * (0x150 + n) + 0x48, 16, 16⟩
/-- `DC.DRIFTNOW.PS`: Signed drift since the last retrain step, in ps. (12 line 476). -/
abbrev Fld.dcDriftnowPs (n : Nat) : Fld := ⟨4096 * (0x150 + n) + 0x4C, 0, 16⟩
/-- `DC.CE.COUNT` (12 line 483). -/
abbrev Fld.dcCe (n : Nat) : Fld := ⟨4096 * (0x150 + n) + 0x50, 0, 32⟩
/-- `DC.UE.COUNT` (12 line 483). -/
abbrev Fld.dcUe (n : Nat) : Fld := ⟨4096 * (0x150 + n) + 0x54, 0, 32⟩
/-- `DC.OSCSAMPLES.COUNT` (12 line 483). -/
abbrev Fld.dcOscsamples (n : Nat) : Fld := ⟨4096 * (0x150 + n) + 0x58, 0, 32⟩
/-- `DC.RETRAINS.COUNT` (12 line 483). -/
abbrev Fld.dcRetrains (n : Nat) : Fld := ⟨4096 * (0x150 + n) + 0x5C, 0, 32⟩
/-- `SKG.SINK.TRIM`: Trim under R233. (09 line 484). -/
abbrev Fld.skgSinkTrim (n i : Nat) : Fld := ⟨4096 * (0x160 + n) + 0x100 + 4 * i, 0, 8⟩
/-- `SKG.SINK.U`: Pixel column under R236. (09 line 484). -/
abbrev Fld.skgSinkU (n i : Nat) : Fld := ⟨4096 * (0x160 + n) + 0x100 + 4 * i, 8, 8⟩
/-- `SKG.SINK.Q`: Primary. (09 line 484). -/
abbrev Fld.skgSinkQ (n i : Nat) : Fld := ⟨4096 * (0x160 + n) + 0x100 + 4 * i, 16, 2⟩
/-- `SKG.SINK.VOFF`: Pixel row offset. (09 line 484). -/
abbrev Fld.skgSinkVoff (n i : Nat) : Fld := ⟨4096 * (0x160 + n) + 0x100 + 4 * i, 18, 2⟩
/-- `SKG.SINK.EN`: Sink carries lamps. (09 line 484). -/
abbrev Fld.skgSinkEn (n i : Nat) : Fld := ⟨4096 * (0x160 + n) + 0x100 + 4 * i, 20, 1⟩
/-- `SKG.SINK.WOFF`: Signed width offset in steps under R243. (09 line 484). -/
abbrev Fld.skgSinkWoff (n i : Nat) : Fld := ⟨4096 * (0x160 + n) + 0x100 + 4 * i, 24, 6⟩
/-- `LCS.STATE.STATE`: State number under R394. (17 line 145). -/
abbrev Fld.lcsStateState : Fld := ⟨0xE00000 + 0x40, 0, 3⟩
/-- `LCS.STATE.PENDING`: Target of a pending transition, or the current state. (17 line 145). -/
abbrev Fld.lcsStatePending : Fld := ⟨0xE00000 + 0x40, 3, 3⟩
/-- `LCS.STATE.ERASEPEND`: Erasure under R401 not complete. (17 line 145). -/
abbrev Fld.lcsStateErasepend : Fld := ⟨0xE00000 + 0x40, 6, 1⟩
/-- `LCS.STATE.OKREV`: Bit 7 + i: Omcia key i revoked. (17 line 145). -/
abbrev Fld.lcsStateOkrev : Fld := ⟨0xE00000 + 0x40, 7, 4⟩
/-- `LCS.CMD.TARGET`: Target state number. (17 line 155). -/
abbrev Fld.lcsCmdTarget : Fld := ⟨0xE00000 + 0x44, 0, 3⟩
/-- `LCS.CMD.GO`: 1: request under R396. (17 line 155). -/
abbrev Fld.lcsCmdGo : Fld := ⟨0xE00000 + 0x44, 3, 1⟩
/-- `LCS.CMD.KEY`: 0xA5C3. (17 line 155). -/
abbrev Fld.lcsCmdKey : Fld := ⟨0xE00000 + 0x44, 16, 16⟩
/-- `LCS.RESULT.RESULT`: 0 idle, 1 running, 2–8 under R398; 9–15 reserved. (17 line 164). -/
abbrev Fld.lcsResultResult : Fld := ⟨0xE00000 + 0x48, 0, 4⟩
/-- `LCS.RESULT.FAILS`: Refused requests since the last full reset, saturating. (17 line 164). -/
abbrev Fld.lcsResultFails : Fld := ⟨0xE00000 + 0x48, 16, 16⟩
/-- `LCS.CHAL.DATA`: Bytes 4i to 4i + 3 of the challenge, or 4j to 4j + 3 of a signature, most significant byte in [31:24]. (17 line 172). -/
abbrev Fld.lcsChal (i : Nat) : Fld := ⟨0xE00000 + 0x80 + 4 * i, 0, 32⟩
/-- `LCS.TOKEN.DATA`: Bytes 4i to 4i + 3 of the challenge, or 4j to 4j + 3 of a signature, most significant byte in [31:24]. (17 line 172). -/
abbrev Fld.lcsToken (i : Nat) : Fld := ⟨0xE00000 + 0x100 + 4 * i, 0, 32⟩
/-- `LCS.AUTH.DATA`: Bytes 4i to 4i + 3 of the challenge, or 4j to 4j + 3 of a signature, most significant byte in [31:24]. (17 line 172). -/
abbrev Fld.lcsAuth (i : Nat) : Fld := ⟨0xE00000 + 0x180 + 4 * i, 0, 32⟩
/-- `KEY.CMD.ENROL`: 1: enrol under R400. (17 line 178). -/
abbrev Fld.keyCmdEnrol : Fld := ⟨0xE01000 + 0x40, 0, 1⟩
/-- `KEY.CMD.KEY`: 0xA5C3. (17 line 178). -/
abbrev Fld.keyCmdKey : Fld := ⟨0xE01000 + 0x40, 16, 16⟩
/-- `KEY.STAT.ENROLLED`: VALID fuse blown. (17 line 186). -/
abbrev Fld.keyStatEnrolled : Fld := ⟨0xE01000 + 0x44, 0, 1⟩
/-- `KEY.STAT.PARTIAL`: Key fuses blown without VALID. (17 line 186). -/
abbrev Fld.keyStatPartial : Fld := ⟨0xE01000 + 0x44, 1, 1⟩
/-- `KEY.STAT.REVOKED`: Key revoked under R401. (17 line 186). -/
abbrev Fld.keyStatRevoked : Fld := ⟨0xE01000 + 0x44, 2, 1⟩
/-- `KEY.STAT.RESULT`: 0 idle, 1 running, 2 done, 3–6 under R400; 7 reserved. (17 line 186). -/
abbrev Fld.keyStatResult : Fld := ⟨0xE01000 + 0x44, 3, 3⟩
/-- `KEY.PUB.DATA`: Bytes 4j to 4j + 3 of X then Y, most significant byte in [31:24]. (17 line 196). -/
abbrev Fld.keyPub (i : Nat) : Fld := ⟨0xE01000 + 0x100 + 4 * i, 0, 32⟩

end Sys2Proof.Machine
end

