-- ==== Sys2Proof/Machine/Sparse.lean ====
section
/-!
DEFINITION. Sparse data by key in one canonical form: keys strictly rising, and no entry equal to what an unlisted key reads as.

`d` is what an unlisted key reads as. A write of that value removes the entry, so equal maps are equal lists.
-/

namespace Sys2Proof.Machine

/-- The value at key `k`: the first entry with that key, or the default. -/
def sparseGet {β : Type} (d : Nat → β) : List (Nat × β) → Nat → β
  | [], k => d k
  | (a, v) :: m, k => if a = k then v else sparseGet d m k

/-- The entries of `m` other than those of key `k`. -/
def sparseErase {β : Type} (k : Nat) : List (Nat × β) → List (Nat × β)
  | [] => []
  | (a, v) :: m => if a = k then sparseErase k m else (a, v) :: sparseErase k m

/-- `m` with the entry `(k, v)` placed before the first larger key. -/
def sparseInsert {β : Type} (k : Nat) (v : β) : List (Nat × β) → List (Nat × β)
  | [] => [(k, v)]
  | (a, x) :: m => if k < a then (k, v) :: (a, x) :: m else (a, x) :: sparseInsert k v m

/-- `m` with key `k` reading `v`. -/
def sparsePut {β : Type} [DecidableEq β] (d : Nat → β) (m : List (Nat × β)) (k : Nat) (v : β) :
    List (Nat × β) :=
  if v = d k then sparseErase k m else sparseInsert k v (sparseErase k m)

/-- Keys are strictly rising, starting above nothing (`lo` is the least key allowed). -/
def sparseSorted {β : Type} : Nat → List (Nat × β) → Bool
  | _, [] => true
  | lo, (a, _) :: m => decide (lo ≤ a) && sparseSorted (a + 1) m

/-- No entry equals what its key reads as when unlisted. -/
def sparseLean {β : Type} [DecidableEq β] (d : Nat → β) : List (Nat × β) → Bool
  | [] => true
  | (a, v) :: m => decide (v ≠ d a) && sparseLean d m

/-- The canonical form: sorted by strictly rising keys, and no entry equal to the default. -/
def sparseWf {β : Type} [DecidableEq β] (d : Nat → β) (m : List (Nat × β)) : Bool :=
  sparseSorted 0 m && sparseLean d m

/-- The entries of `m` whose key satisfies `p` are dropped. -/
def sparseDrop {β : Type} (p : Nat → Bool) (m : List (Nat × β)) : List (Nat × β) :=
  m.filter (fun e => !p e.1)

end Sys2Proof.Machine
end

