-- ==== Sys2Proof/Machine/State.lean ====
section
/-!
DEFINITION. The state of the SY512: every register, counter, queue, buffer, memory and pin that spec/ gives it, as plain data, and the state right after reset.

Registers stand in one sparse map from register address to word; a field that spec/ calls live stands in its register, unless
it is computed at the read (Machine/Access.lean). Everything that no register shows stands in the structures below.
-/

namespace Sys2Proof.Machine

/-- Why the block would stop with a fault. No command of the block faults: it has no address that a command could
name outside its register and memory maps, and every access path answers with a status of R47 instead. -/
inductive Fault where
  /-- Raised by nobody: no meaning answers it. Safe. -/
  | unreachable
  deriving DecidableEq, Repr

/-- Why a command would be refused by the model. -/
inductive Refusal where
  /-- The command has no meaning in this model yet; raised by its arm in Machine/Dispatch.lean. Safe: no effect is claimed. -/
  | notModelled (mnemonic : String)
  deriving DecidableEq, Repr

/-- What the device sent during a command: cells on the lanes of chain ports (8 is the cross-link), cells passed on with a CRC that every later
receiver discards (R202), wake bursts (R181), frames on network ports (4 is MP), DAP packets and writes on the management buses. -/
inductive Sent where
  | cell (port lane : Nat) (c : Cell)
  | damaged (port lane : Nat)
  | wakeBurst (port lane : Nat)
  | pmbus (address centivolt : Nat)
  | frame (port sublink kind octets : Nat) (tag src : Option Nat) (data : List Nat)
  | dap (tag : Option Nat) (r : DapReply)
  deriving DecidableEq, Repr

/-- The answer of an access path: STATUS and COUNT of a write burst, STATUS and the words of a read (R47, R49),
or the value a fence read returns (R46). -/
structure Reply where
  status : Nat
  count : Nat
  words : List Word
  deriving DecidableEq, Repr

/-- A commit that is pending (R33 to R38): its target, whether it carries a requested target and so belongs to that
target's group, its DROPLATE bit, and, of a commit from the journal, the stroke that the active recorded (R328). -/
structure Commit where
  page : Nat
  target : Nat
  grouped : Bool
  dropLate : Bool
  recorded : Option Nat
  deriving DecidableEq, Repr

/-- An open DAP session (R51, R52): the last executed SEQ, and the response kept for it once it has been sent. -/
structure DapSession where
  id : Nat
  lastSeq : Option Nat
  stored : Option DapReply
  deriving DecidableEq, Repr

/-- A tunnelled request of a DAP session that is not answered yet (R52 to R54): the results that have come, in the order of its operations,
and how many packets have asked for its response. -/
structure DapTunnel where
  session : Nat
  seq : Nat
  target : Nat
  mac : Nat
  ip : Nat
  results : List OpResult
  asked : Nat
  deriving DecidableEq, Repr

/-- A tunnel cell's operations that a sender has outstanding (R54, R209): `session` is the DAP session they answer, or 8 for the MC, `off`
their place in its request; `sent` is false while the cell waits for credit. -/
structure TunnelReq where
  tag : Nat
  port : Nat
  pos : Nat
  session : Nat
  seq : Nat
  off : Nat
  ops : List AccessOp
  sent : Bool
  deriving DecidableEq, Repr

/-- Register access, commits, snapshots and sessions (spec/02). -/
structure AccessState where
  /-- Commits pending, in order of acceptance (R33). -/
  commits : List Commit
  /-- TILE: words captured at the latch and not yet live, as (live address, value) (R33). -/
  captured : List (Nat × Word)
  /-- The stroke that the last latch instant prepared (R35). -/
  prepared : Nat
  /-- Pages with a snapshot requested (R41). -/
  snapReqs : List Nat
  /-- Fences completed by each initiator, modulo 2^16 (R46). -/
  fences : List (Nat × Nat)
  /-- Initiators whose fence read waits (R46). -/
  fenceWait : List Nat
  /-- Open DAP sessions (R51). -/
  sessions : List DapSession
  /-- Entries of the DAP access queue that are taken, at most 256 (R53). -/
  queue : Nat
  /-- Tunnelled requests of DAP sessions that are not answered yet (R52, R54). -/
  tunnelled : List DapTunnel
  /-- Outstanding tunnel requests of a sender (R54). -/
  tunnel : List TunnelReq
  /-- The next tunnel tag (R209). -/
  nextTag : Nat
  deriving DecidableEq, Repr

/-- No commit, session, fence or request after reset. -/
def AccessState.reset : AccessState :=
  { commits := [], captured := [], prepared := 0, snapReqs := [], fences := [], fenceWait := [],
    sessions := [], queue := 0, tunnelled := [], tunnel := [], nextTag := 0 }

/-- The fields of a profile record (R58) with its SECTIONS (R59) as (first address, words). -/
structure Profile where
  seq : Nat
  role : Nat
  pair : Nat
  flags : Nat
  laneRate : Nat
  netPorts : Nat
  dramPop : Nat
  dramOp : Nat
  mpCfg : Nat
  rateNum : Nat
  rateDen : Nat
  views : Nat
  rows : Nat
  subfr : Nat
  pwmBits : Nat
  feather : Nat
  holdLim : Nat
  sinkRange : Nat
  pmbusAdr : Nat
  strokeSrc : Nat
  sections : List (Nat × List Word)
  deriving DecidableEq, Repr

/-- An event record of R380 before it is written: the pointer word gives its place and SEQ. -/
structure EventRec where
  kind : Nat
  index : Nat
  step : Nat
  stroke : Nat
  timeMs : Nat
  tj : Int
  tp : Int
  vmin : Nat
  duration : Nat
  deriving DecidableEq, Repr

/-- A non-volatile write, which a supply warning defers (R78, R377): bytes of the event store, an event record, or an
operation of the boot flash: an erase of bytes to 0xFF or a program of bytes. -/
inductive NvWrite where
  | bytes (addr : Nat) (data : List Byte)
  | event (r : EventRec)
  | flash (addr : Nat) (data : List Byte)
  deriving DecidableEq, Repr

/-- Profiles, resets, start-up and supplies (spec/03, spec/15). -/
structure BootState where
  /-- The event store's 256 KB of MRAM (R379), as bytes. -/
  store : List Host.Cell
  /-- The boot flash, as bytes (spec/18). -/
  flash : List Host.Cell
  /-- The profile in force (R62). -/
  profile : Option Profile
  /-- A profile switch waiting for its boundary: profile number and target stroke (R64). -/
  switch : Option (Nat × Nat)
  /-- What the next start selects: the pins, or a profile number (R67). -/
  select : Option Nat
  /-- The level of PROF1:PROF0 when last sampled (R62). -/
  pins : Nat
  /-- VDDIO_FR stood above 2.50 V at the release of the last full reset: the 3.3 V levels and the 3.30 V column of R76 hold (R434). -/
  frHigh : Bool
  /-- The supervisor or RESET_N holds the part in reset (R76). -/
  inReset : Bool
  /-- A warm restart is in progress (R69). -/
  warm : Bool
  /-- A warm restart has not reached STAGE 7 yet, so the limit of R70 runs: also while chuck holds. -/
  expiry : Bool
  /-- A warm restart asked for during a supply warning waits for its end (R79). -/
  warmDue : Option WarmCause
  /-- The restart in progress leaves the hold-through set running (R69). -/
  holdThrough : Bool
  /-- That restart began in service, so that line slots run on through it (R69, R75). -/
  wasServing : Bool
  /-- REFCLK100 is found running (R72). -/
  refclk : Bool
  /-- The chain port taken as reference source with REFSRC 1 (R74). -/
  refSource : Option Nat
  /-- The MC watchdog runs (R73): from step 6 of R72. -/
  watchdog : Bool
  /-- Counter values of the warm restarts of the last minute (R67). -/
  warmTimes : List Nat
  /-- Blocks of R11 whose PAGE_STAT.READY reads 1, as a bit mask. -/
  ready : Nat
  /-- Blocks of R11 under self-test, as a bit mask (R32). -/
  testing : Nat
  /-- A supply warning is asserted: lamp drive or composition is frozen (R78). -/
  warning : Bool
  /-- The warning has cleared and service resumes at the next boundary (R78). -/
  resuming : Bool
  /-- The lowest voltage of the first rail of the warning, in mV (R378). -/
  warnLowest : Nat
  /-- Deferred non-volatile writes, in order (R78). -/
  nvQueue : List NvWrite
  /-- Records lost to the full queue in this warning (R377). -/
  nvLost : Nat
  /-- A supply reset's rail and lowest voltage latched in VDD_AON (R378). -/
  supplyLatch : Option (Nat × Nat)
  /-- Setpoint of VCORE in 10 mV units (R18), or 0 before the loop's first step. -/
  vset : Nat
  /-- Consecutive strokes with a slack fraction below 0.10 (R18). -/
  vLow : Nat
  /-- Consecutive strokes with a slack fraction above 0.30 (R18). -/
  vHigh : Nat
  /-- Consecutive unanswered PMBus commands. -/
  vMiss : Nat
  /-- WAKESTAT bits of a wake frame that came during entry to wake-pattern-only mode (R148). -/
  wakeHits : Nat
  /-- The JTAG TAP controller is in Test-Logic-Reset (R67). -/
  tapReset : Bool
  deriving DecidableEq, Repr

/-- Right after power-on: held in reset, no profile, an event store that lists no byte. -/
def BootState.reset : BootState :=
  { store := [], flash := [], profile := none, switch := none, select := none, pins := 0, frHigh := false, inReset := true, warm := false, expiry := false, warmDue := none,
    holdThrough := false, wasServing := false, refclk := false, refSource := none, watchdog := false, warmTimes := [],
    ready := 0, testing := 0, warning := false, resuming := false, warnLowest := 0,
    nvQueue := [], nvLost := 0, supplyLatch := none, vset := 0, vLow := 0, vHigh := 0, vMiss := 0, wakeHits := 0,
    tapReset := false }

/-- One entry of a transmit timestamp queue (R88). -/
structure TxStamp where
  id : Nat
  ns : Nat
  stepSeq : Nat
  deriving DecidableEq, Repr

/-- The averages of one SHUT input (R101): the phases and widths measured, oldest first, each with the frame count it was measured in, and how
many of either in a row lay away from the average. -/
structure ShutState where
  phases : List (Nat × Int)
  widths : List (Nat × Int)
  phaseOut : Nat
  widthOut : Nat
  rise : Option Int
  lost : Bool
  deriving DecidableEq, Repr

/-- The network clock, the strokes and the views (spec/04). -/
structure TimeState where
  /-- frc at the last rate write (R81). -/
  base : Nat
  /-- The signed offset (R81). -/
  offset : Int
  /-- t has been set by PTP or by a forced step (R94). -/
  timeSet : Bool
  /-- The five transmit timestamp queues, NP0 to NP3 and MP (R88). -/
  txq : List (List TxStamp)
  /-- The next transmit identifier of each port (R88). -/
  txId : List Nat
  /-- The selected PTP master: its data set and identity (R90). -/
  master : Option (List Nat)
  /-- Consecutive Sync messages within 40 ns (R91). -/
  syncGood : Nat
  /-- Consecutive Sync messages beyond 200 ns (R91). -/
  syncBad : Nat
  /-- The servo's first offset has been applied as a forced step (R91). -/
  servoStepped : Bool
  /-- A master has been selected again after holdover and no Sync has come since (R91). -/
  rejoined : Bool
  /-- The frame count of the last catch (R92). -/
  frame : Nat
  /-- The instant of the last catch, in t (R95). -/
  catchAt : Int
  /-- The length of the coming stroke (R95). -/
  length : Nat
  /-- The integral term of the generator (R95). -/
  freq : Int
  /-- The stroke generator has placed its first catch since it last started (R96). -/
  running : Bool
  /-- Consecutive valid reference edges, to 4 (R94). -/
  edges : Nat
  /-- The last valid reference edge (R94). -/
  lastEdge : Option Int
  /-- The SHUT inputs (R101). -/
  shut : List ShutState
  /-- START in force of each view in the sender, with whether it ever was valid (R102). -/
  starts : List (Nat × Bool)
  /-- TILE: the marker received for the next catch, with the catch instant it gives (R98). -/
  marker : Option (StrokeCell × Int)
  /-- TILE: the follower has locked to a marker (R98). -/
  locked : Bool
  /-- TILE: the interval of the last two markers in ns (R99). -/
  interval : Nat
  /-- TILE: the stroke of the newest marker received, while one was (R99). -/
  lastMarker : Option Nat
  /-- FRAMEREF_OUT is at its active level (R100). -/
  refOut : Bool
  deriving DecidableEq, Repr

/-- A queued cue (R108): its entry and SEQ, whether it is late and the boundary at which it then executes (R110), whether its preparing part
has run (R109), and the status of the first of its items that failed (R107). -/
structure Cue where
  entry : CueEntry
  seq : Nat
  late : Bool
  due : Nat
  prepared : Bool
  status : Nat
  deriving DecidableEq, Repr

/-- The cue queue (spec/04). -/
structure CueState where
  /-- Queued cues, ordered by stroke and then by SEQ (R108). -/
  queue : List Cue
  /-- The SEQ of the next insertion (R108). -/
  nextSeq : Nat
  /-- Cue credits the sender holds for each tile, keyed by 64 * port + position (R111). -/
  credits : List (Nat × Nat)
  /-- SENDER: SEQs of cues counted as held (R111). -/
  held : List Nat
  deriving DecidableEq, Repr

/-- A SHUT input with no measurement. -/
def ShutState.reset : ShutState := { phases := [], widths := [], phaseOut := 0, widthOut := 0, rise := none, lost := false }

/-- The clock after reset: offset and base zero, no master, no catch placed. -/
def TimeState.reset : TimeState :=
  { base := 0, offset := 0, timeSet := false, txq := List.replicate 5 [], txId := List.replicate 5 0,
    master := none, syncGood := 0, syncBad := 0, servoStepped := false, rejoined := false, frame := 0, catchAt := 0, length := 0,
    freq := 0, running := false, edges := 0, lastEdge := none, shut := List.replicate 4 ShutState.reset,
    starts := List.replicate 4 (0, false), marker := none, locked := false, interval := 0, lastMarker := none,
    refOut := false }

/-- The cue queue after reset is empty (R113). R108 gives no first SEQ: it is 0 (DESIGN CHOICE, log entry 114). -/
def CueState.reset : CueState := { queue := [], nextSeq := 0, credits := [], held := [] }

/-- A sub-link of a network port (R115). -/
structure Sublink where
  /-- Pause quanta in force, or 0 (R119). -/
  pause : Nat
  /-- Frames that wait while the transmitter is stopped by pause (R119), each with whether it asks for a timestamp (R88). -/
  waiting : List (Sent × Bool)
  /-- Transmit and receive wake times that the partner's TLV led to (R123). -/
  wake : Option (Nat × Nat)
  deriving DecidableEq, Repr

/-- Network ports (spec/05): NP0 to NP3, then MP. -/
structure NetState where
  links : List (List Sublink)
  /-- The 256 KB MP packet memory (R130). -/
  mpMem : List Host.Cell
  /-- The MP frame being sent: its first descriptor and how many it has (R135). -/
  txNow : Option (Nat × Nat)
  /-- The doorbell's run of frames has not stopped (R135). -/
  txRun : Bool
  /-- MP has told its partner to pause (R120). -/
  xoff : Bool
  /-- Sub-links on which a querier of IGMPv1 or IGMPv2 is present (R137), as (port, sub-link, version). -/
  compat : List (Nat × Nat × Nat)
  /-- The NP port on which the MC has joined the PTP group (R90). -/
  ptpJoin : Option Nat
  deriving DecidableEq, Repr

/-- A surface buffer of a flow (R143): the frame it holds, its order of arrival, whether it is complete and was ever latched. -/
structure FlowBuf where
  rtp : Nat
  order : Nat
  complete : Bool
  latched : Bool
  deriving DecidableEq, Repr

/-- The frame a flow is receiving (R140): its buffer, or none when it is discarded, and its marker packet's number. -/
structure OpenFrame where
  rtp : Nat
  buf : Option Nat
  marker : Option Nat
  deriving DecidableEq, Repr

/-- A received extended sequence number (R141): the legs it came on as a mask, when it first came, and whether a missing leg
was counted. -/
structure SeqRec where
  ext : Nat
  legs : Nat
  at_ : Nat
  judged : Bool
  deriving DecidableEq, Repr

/-- A flow (R136 to R145). -/
structure FlowState where
  bufs : List (Option FlowBuf)
  open_ : Option OpenFrame
  /-- The RTP timestamp of the frame last opened. -/
  lastRtp : Option Nat
  /-- Every number from one above the previous frame's marker packet up to this one has been received (R140); none while that marker packet has
  not been. -/
  upTo : Option Nat
  /-- Numbers received beyond it. -/
  ahead : List Nat
  /-- Received numbers, newest first, at most 65,536 (R141). -/
  seqs : List SeqRec
  /-- Arrival order of the next frame. -/
  order : Nat
  /-- Buffer latched at the last compose lead point (R144). -/
  latched : Option Nat
  /-- A second unsolicited IGMP report is due (R137). -/
  reportDue : Bool
  deriving DecidableEq, Repr

/-- Video flows and the monitor (spec/05). -/
structure IngestState where
  flows : List FlowState
  /-- Flows that shed, in order of entry (R145). -/
  shed : List Nat
  /-- Strokes counted since the monitor was enabled (R146). -/
  monCount : Nat
  /-- RTP sequence number of the monitor's next packet (R146). -/
  monSeq : Nat
  /-- Least time in ns that a receive buffer's remainder has lasted in this stroke (R142). -/
  slack : Option Nat
  /-- The monitor frame being sent, by stroke (R146). -/
  monNow : Option Nat
  deriving DecidableEq, Repr

/-- A sub-link after reset. -/
def Sublink.reset : Sublink := { pause := 0, waiting := [], wake := none }

/-- The ports after reset. -/
def NetState.reset : NetState :=
  { links := List.replicate 5 (List.replicate 4 Sublink.reset), mpMem := [], txNow := none, txRun := false, xoff := false,
    compat := [], ptpJoin := none }

/-- A flow that is off. -/
def FlowState.reset : FlowState :=
  { bufs := List.replicate 8 none, open_ := none, lastRtp := none, upTo := none, ahead := [], seqs := [], order := 0,
    latched := none, reportDue := false }

/-- No flow, no monitor. -/
def IngestState.reset : IngestState :=
  { flows := List.replicate 16 FlowState.reset, shed := [], monCount := 0, monSeq := 0, slack := none, monNow := none }

/-- A surface descriptor (R149). -/
structure Surface where
  base : Nat
  size : Nat
  stride : Nat
  width : Nat
  height : Nat
  format : Nat
  flags : Nat
  fmt : Nat
  deriving DecidableEq, Repr

/-- A pixel: three components of 16 bits. -/
structure Px where
  r : Nat
  g : Nat
  b : Nat
  deriving DecidableEq, Repr

/-- A layer as latched for a stroke (R156 to R160): the surface's copied descriptor and the layer's settings. `whole` marks an
underlay, which is drawn with replace over the whole canvas. -/
structure LayerPlan where
  slot : Nat
  surf : Nat
  desc : Surface
  whole : Bool
  blend : Nat
  bilinear : Bool
  keyen : Bool
  pixalpha : Bool
  cnv : Nat
  dstX : Nat
  dstY : Nat
  dstW : Nat
  dstH : Nat
  srcX : Nat
  srcY : Nat
  stepX : Nat
  stepY : Nat
  cropX : Nat
  cropY : Nat
  cropW : Nat
  cropH : Nat
  alpha : Nat
  klo : Nat
  khi : Nat
  deriving DecidableEq, Repr

/-- A view of a stroke in composition: its background, layers and writeback surface, whether it is composed or abandoned, and whether its cells were sent. -/
structure ViewPlan where
  view : Nat
  bg : Px
  layers : List LayerPlan
  back : Option Surface
  done : Bool
  sent : Bool
  deriving DecidableEq, Repr

/-- A stroke in composition (R156, R170): canvas size, bank in force and the unchanged mark. -/
structure Flight where
  stroke : Nat
  width : Nat
  height : Nat
  bank : Nat
  views : List ViewPlan
  unchanged : Bool
  /-- The stroke's VIDEO cells are withheld under R208. -/
  static : Bool
  deriving DecidableEq, Repr

/-- What a layer slot shows (R165): the source in force, the source last committed, and the stroke of a flip that waits. -/
structure LayerRt where
  kind : Nat
  src : Nat
  wantKind : Nat
  wantSrc : Nat
  flip : Option Nat
  deriving DecidableEq, Repr

/-- An entry of the in-use range table (R166): kind 0 layer source, 1 underlay, 2 writeback, 3 build, where slot 16 stands for the target. -/
structure InUse where
  lo : Nat
  len : Nat
  view : Nat
  slot : Nat
  kind : Nat
  stroke : Nat
  deriving DecidableEq, Repr

/-- A composed view in the staging buffers (R169): pixels in canvas order. -/
structure Picture where
  view : Nat
  stroke : Nat
  width : Nat
  px : List Px
  deriving DecidableEq, Repr

/-- A running underlay build (R163). -/
structure Build where
  view : Nat
  buf : Nat
  target : Surface
  width : Nat
  height : Nat
  bank : Nat
  plan : ViewPlan
  deriving DecidableEq, Repr

/-- An SRC value that a sender keeps (R231). -/
structure SrcKept where
  port : Nat
  pos : Nat
  win : Nat
  stroke : Nat
  gen : Nat
  crc : Word
  deriving DecidableEq, Repr

/-- Composition (spec/06) and the sender's picture checks (spec/08). -/
structure ComposeState where
  /-- The surface table's 128 KB (R149). -/
  table : List Host.Cell
  /-- Conversion banks 0 and 1, 1 KB each (R159). -/
  conv : List Host.Cell
  /-- LUT banks 0 and 1, 64 KB each (R159). -/
  luts : List Host.Cell
  /-- The 4 × 16 layer slots. -/
  rts : List LayerRt
  inUse : List InUse
  flights : List Flight
  pictures : List Picture
  builds : List Build
  /-- What every layer latched for the last stroke (R170): surface and frame. -/
  lastLatch : List (Option (Nat × Nat))
  /-- A commit was taken on a CMP, VWn or PLCn page for the stroke latched next (R170). -/
  touched : Bool
  /-- A REUSE event or an underrun has marred the newest stroke, so the next is not unchanged (R170). -/
  marred : Bool
  /-- The newest stroke that was not marked unchanged (R208). -/
  lastChanged : Nat
  /-- The newest stroke that passed its lead point. -/
  newest : Nat
  /-- Strokes sent without VIDEO cells, the last four (R208). -/
  staticStrokes : List Nat
  /-- SRC values of the last four strokes sent, newest first (R231). -/
  srcKept : List SrcKept
  deriving DecidableEq, Repr

/-- Composition after reset. -/
def ComposeState.reset : ComposeState :=
  { table := [], conv := [], luts := [], rts := List.replicate 64 ⟨0, 0, 0, 0, none⟩, inUse := [], flights := [],
    pictures := [], builds := [], lastLatch := [], touched := false, marred := false, lastChanged := 0, newest := 0,
    staticStrokes := [], srcKept := [] }

/-- One lane of a chain port: alignment, training state and the taps of the local transmitter (R176 to R180). -/
structure Lane where
  aligned : Bool
  commas : Nat
  badRun : Nat
  localReady : Bool
  farReady : Bool
  eidle : Bool
  /-- The lane is down while the port runs on the other one (R180). -/
  down : Bool
  /-- The last measurements of the link delay in 1/16 ns, newest last, at most 16 (R203). -/
  delays : List Int
  /-- Departure of the DLYREQ outstanding, in 1/16 ns (R203). -/
  t1 : Option Nat
  /-- TURN of the previous exchange answered here: t3 - t2 (R203). -/
  turn : Nat
  /-- TURN of this port's own previous exchange: t4 - t1 waiting for the neighbour's TURN (R203). -/
  span : Option Int
  deriving DecidableEq, Repr

/-- One chain port (spec/07). -/
structure ChainPort where
  lane0 : Lane
  lane1 : Lane
  /-- The rate the hop steps towards, from the neighbour's CAP cell (R178). -/
  farCap : Option Nat
  /-- The rate proposed and acknowledged, waiting for the change (R178). -/
  nextRate : Option Nat
  /-- The rate that a failure above 3.125 Gb/s has brought the hop back to: it steps to that rate and stays there until RETRAIN (R178). -/
  capRate : Option Nat
  /-- The neighbour has proposed a rate: it is the end nearer the port-A end of the chain (R178). -/
  endB : Bool
  /-- INDEX of the next LINK cell (R189). -/
  linkSeq : Nat
  /-- The rate the hop ran at before the last step (R178). -/
  prevRate : Nat
  /-- An enumeration runs on the port (R199). -/
  enumerating : Bool
  /-- Chain length learned from a returning ENUM (R199). -/
  chainLen : Option Nat
  /-- Positions whose HEALTH came in this stroke, and in the last one (R231, R339). -/
  healthSeen : List Nat
  healthLast : List Nat
  /-- Positions that two tiles have claimed in the enumeration that runs (R199). -/
  clashed : List Nat
  /-- Cells submitted and not yet begun, oldest first, each with the stroke it belongs to (R206). -/
  queue : List (Nat × Cell)
  /-- Cells of classes 2, 3 and 4 begun within their allowances in the current stroke (R206). -/
  used : List Nat
  /-- Tunnel credit used at each position (R209). -/
  tunnelUsed : List (Nat × Nat)
  /-- Newest LASTFULL of each position, plus one, or 0 when none was reported (R208). -/
  lastFull : List (Nat × Nat)
  deriving DecidableEq, Repr

/-- Cell switching and, in a tile, enumeration and the cox mark (spec/07). -/
structure ChainState where
  /-- CHP0 to CHP7. -/
  ports : List ChainPort
  /-- TILE: hop count from the port-A end while that enumeration is valid (R199). -/
  hopsA : Option Nat
  /-- TILE: the current cox mark (R200). -/
  cox : Option CoxCell
  /-- TILE: ports on which a cox mark arrived in the current stroke (R196). -/
  coxA : Bool
  coxB : Bool
  /-- TILE: the sender's region is unchanged in the stroke that the newest marker describes (R208). -/
  unchanged : Bool
  /-- SENDER: the current stroke is sent as static (R208). -/
  static : Bool
  deriving DecidableEq, Repr

/-- A lane after reset: out of alignment, untrained. -/
def Lane.reset : Lane :=
  { aligned := false, commas := 0, badRun := 0, localReady := false, farReady := false, eidle := false, down := false,
    delays := [], t1 := none, turn := 0, span := none }

/-- A chain port after reset: down. -/
def ChainPort.reset : ChainPort :=
  { lane0 := Lane.reset, lane1 := Lane.reset, farCap := none, nextRate := none, capRate := none, endB := false, linkSeq := 0,
    prevRate := 0, enumerating := false, chainLen := none, clashed := [], queue := [], used := [0, 0, 0], healthSeen := [], healthLast := [], tunnelUsed := [], lastFull := [] }

/-- The chain after reset: no enumeration and no cox mark. -/
def ChainState.reset : ChainState :=
  { ports := List.replicate 8 ChainPort.reset, hopsA := none, cox := none, coxA := false, coxB := false,
    unchanged := false, static := false }

/-- One view of a tile's frame store and its drive codes (R217 to R227). Samples stand by sample number, drive words by lamp index;
what is not listed is 0. -/
structure ScanView where
  /-- The front and the receiving buffer. -/
  front : List (Nat × Nat)
  recv : List (Nat × Nat)
  /-- The receiving buffer's cell map: the INDEX values received. -/
  cells : List Nat
  /-- Pixel rows of the receiving buffer that have been converted into the preparing codes. -/
  rows : List Nat
  /-- Pixel rows of the front buffer whose conversion was not complete at the flip (R232). -/
  late : List Nat
  /-- Preparing and driving codes, as drive words (R220). -/
  prep : List (Nat × Nat)
  drive : List (Nat × Nat)
  /-- REGION of the front buffer (R221). -/
  region : Nat
  /-- The front buffer holds a region that was received (R229, R230). -/
  shown : Bool
  /-- Whether the region was complete at the last latch instant (R218). -/
  complete : Bool
  /-- A refresh runs (R222), and whether one has completed since the catch. -/
  refreshing : Bool
  refreshed : Bool
  /-- The hold colour's drive words, once converted (R226). -/
  hold : Option (List (Nat × Nat))
  /-- The view drives the hold colour (R226). -/
  showsHold : Bool
  deriving DecidableEq, Repr

/-- A tile's scan-out (spec/08). -/
structure ScanState where
  views : List ScanView
  /-- The receive window is open (R218). -/
  windowOpen : Bool
  /-- The last latch instant, in t (R215). -/
  latchAt : Int
  /-- When the marker of the next catch arrived, in t (R215). -/
  markerAt : Int
  /-- The schedule in force (R214). -/
  sched : List ViewSched
  /-- A valid schedule has been received (R214). -/
  haveSched : Bool
  /-- A witness has come since the last catch (R225). -/
  witnessed : Bool
  /-- Consecutive unwitnessed strokes (R225). -/
  unwitnessed : Nat
  /-- A witnessed stroke has ended in HOLD, so HOLD ends at the next catch (R227). -/
  holdEnds : Bool
  /-- HOLD_LIMIT has elapsed (R226). -/
  holdDue : Bool
  /-- HOLD_LIMIT has elapsed while GRN did not convert: the hold colour is converted once it does (R226, R232). -/
  holdWait : Bool
  /-- Every view flipped to a complete, converted region at the last catch (R220). -/
  qualified : Bool
  /-- An underrun of this stroke has been recorded (R224). -/
  underSeen : Bool
  /-- Rows of line slots that were filled in the view slot that runs, by view: 256 * view + pixel row (R229). -/
  filled : List Nat
  /-- Windows compared and windows that failed in the stroke that runs, as bit masks (R230). -/
  drvValid : Nat
  drvFail : Nat
  deriving DecidableEq, Repr

/-- An empty view. -/
def ScanView.reset : ScanView :=
  { front := [], recv := [], cells := [], rows := [], late := [], prep := [], drive := [], region := 0, shown := false, complete := false,
    refreshing := false, refreshed := false, hold := none, showsHold := false }

/-- Scan-out after reset: no region received. -/
def ScanState.reset : ScanState :=
  { views := List.replicate 4 ScanView.reset, windowOpen := false, latchAt := 0, markerAt := 0, sched := [], haveSched := false,
    witnessed := false, unwitnessed := 0, holdEnds := false, holdDue := false, holdWait := false, qualified := false, underSeen := false, filled := [],
    drvValid := 0, drvFail := 0 }

/-- A current pulse of a sink in the line slot or probe that runs (R233, R243): on edge and width in steps of 156.25 ps, the tier, and
its current in mA times 4096 times 4^tier. -/
structure Pulse where
  sink : Nat
  on : Nat
  width : Nat
  tier : Nat
  current : Nat
  deriving DecidableEq, Repr

/-- What happens on the rows in a row-change gap or around a probe (R245, R246, R258): ROWEN and ROWDISCH change, ROWADDR takes a row, and
pre-charge pulls the pins of the enabled sinks towards the given depth below VLED_SENSE in mV, limited to VDDA_SNK - 0.2 V. -/
inductive RowEvent where
  | enable (on : Bool)
  | discharge (on : Bool)
  | address (row : Nat)
  | precharge (below : Nat)
  | prechargeEnd
  | sinksOn
  | latch
  | sinksOff
  deriving DecidableEq, Repr

/-- Lamp drive (spec/09). A lamp is named by 512 * scan row + sink. -/
structure LampState where
  /-- Pulses of the line slot or probe that runs. -/
  pulses : List Pulse
  /-- ROWEN is at its active level, ROWDISCH is, and ROWADDR (R246). -/
  rowEn : Bool
  rowDisch : Bool
  rowAddr : Nat
  /-- The row events of the last line slot, in ns after its start less 480 ns, or of the last probe, in ns after P (R245, R246, R258). -/
  rowSeq : List (Nat × RowEvent)
  /-- The sinks were held off at some time in this stroke (R235). -/
  dark : Bool
  /-- Drive resumes at the next catch (R242, R355). -/
  waitCatch : Bool
  /-- A profile switch holds the sinks off (R65). -/
  switchOff : Bool
  /-- Starved samples of this stroke, and whether one was TIGHT (R250, R251). -/
  starved : Nat
  tight : Bool
  /-- Consecutive strokes without a tight sample (R251). -/
  calm : Nat
  /-- Lamps judged in this stroke (R254), and lamps judged since their row was last probed (R257). -/
  judged : List Nat
  sinceProbe : List Nat
  /-- Runs of open and of short results of a lamp (R255). -/
  openRuns : List (Nat × Nat)
  shortRuns : List (Nat × Nat)
  /-- Lamps flagged open, and lamps flagged short (R255). -/
  opens : List Nat
  shorts : List Nat
  /-- Scan rows with a judged line slot that reached the quorum, and below it, in this stroke (R256). -/
  rowHit : List Nat
  rowMiss : List Nat
  /-- Consecutive strokes in which a row looked faulty (R256). -/
  rowRuns : List (Nat × Nat)
  /-- Targets of the thermal factors, taken at the last latch instant (R253). -/
  therm : List Nat
  /-- A probe has been tried in this stroke (R257). -/
  probed : Bool
  /-- The stroke number that scrambling takes: the stroke driven, or the one repeated (R240, R259). -/
  rank : Nat
  deriving DecidableEq, Repr

/-- Lamp drive after reset: the rows idle (R246), every sink off. -/
def LampState.reset : LampState :=
  { pulses := [], rowEn := false, rowDisch := true, rowAddr := 0, rowSeq := [], dark := true, waitCatch := false, switchOff := false,
    starved := 0, tight := false, calm := 0, judged := [], sinceProbe := [], openRuns := [], shortRuns := [], opens := [],
    shorts := [], rowHit := [], rowMiss := [], rowRuns := [], therm := List.replicate 4 0x8000, probed := false, rank := 0 }

/-- A working copy of a grain table (R278): what its header gave, and its set position (R264). Its curves, matrices, derate and thermal
sections stand in DC0 (R302) in the layout of R274, with curves expanded. -/
structure GrainCopy where
  ready : Bool
  persist : Bool
  version : Nat
  peak : Nat
  curves : List Nat
  nsets : Nat
  prim : Nat
  tw : Nat
  th : Nat
  tags : List Int
  shifts : List Nat
  hasDerate : Bool
  hasTherm : Bool
  pos : Nat
  target : Nat
  deriving DecidableEq, Repr

/-- A burnish that runs (R282): the outgoing copy, its length, the count j of its stroke, and whether it completes as a step. -/
structure Burnish where
  old : Nat
  len : Nat
  j : Nat
  step : Bool
  deriving DecidableEq, Repr

/-- An operation of `GRN.TABCMD` that runs: an install into a copy, with or without flash (R278). -/
structure GrainOp where
  copy : Nat
  persist : Bool
  deriving DecidableEq, Repr

/-- Grain tables and ageing (spec/10). -/
structure GrainState where
  copies : List GrainCopy
  burn : Option Burnish
  /-- Chunks of the open transfer that have arrived (R276), and whether a transfer keeps a chunk map. -/
  chunks : List Nat
  mapped : Bool
  /-- An install that runs (R278). -/
  op : Option GrainOp
  /-- Accumulators are to be cleared, and a checkpoint is to be taken, at the next catch (R271, R284). -/
  clearDue : Bool
  saveDue : Bool
  /-- A checkpoint that is being written: its flash slot and its bytes (R271). -/
  saving : Option (Nat × List Byte)
  /-- Strokes repeated in a warm restart, not folded yet (R71). -/
  heldStrokes : Nat
  /-- The count of saturated lamps at the last fold (R270). -/
  saturated : Nat
  /-- The uptime in ms at the last checkpoint (R271). -/
  savedMs : Nat
  deriving DecidableEq, Repr

/-- A copy that holds no table. -/
def GrainCopy.reset : GrainCopy :=
  { ready := false, persist := false, version := 0, peak := 0, curves := [0, 0, 0], nsets := 1, prim := 3, tw := 0, th := 0,
    tags := [0, 0, 0, 0], shifts := [0, 0, 0, 0], hasDerate := false, hasTherm := false, pos := 0, target := 0 }

/-- Grain state after a full reset: no table. -/
def GrainState.reset : GrainState :=
  { copies := [GrainCopy.reset, GrainCopy.reset], burn := none, chunks := [], mapped := false, op := none, clearDue := false,
    saveDue := false, saving := none, heldStrokes := 0, saturated := 0, savedMs := 0 }

/-- A calibration sequence that runs (R286): its kind, whether it takes all ranges, the junction maximum at its start, the current
range at its start, the number of steps, the steps done, and the results measured so far. -/
structure CalSeq where
  kind : Nat
  all : Bool
  tj0 : Int
  range0 : Nat
  steps : Nat
  done : Nat
  values : List Int
  /-- It runs by the start sequence of R293. -/
  atStart : Bool
  /-- A profile switch has restarted LTB or SNK since its last check (R298). -/
  lost : Bool
  deriving DecidableEq, Repr

/-- A stored result set (R295): its tag in °C and its values. SINK: trim and WOFF of each of the 512 sinks in turn. -/
structure CalSet where
  tag : Int
  values : List Int
  deriving DecidableEq, Repr

/-- On-chip calibration (spec/11). -/
structure CalState where
  /-- Kinds requested and waiting, with RANGEALL (R294). -/
  queue : List (Nat × Bool)
  running : Option CalSeq
  /-- SINK sets by range, four each (R295). -/
  sink : List (List (Option CalSet))
  dly : List (Option CalSet)
  sinkofs : Option CalSet
  servo : Option CalSet
  tsens : Option CalSet
  /-- The vernier's tap table in force, and one that waits for the next catch (R296). -/
  taps : List Int
  tapsNext : Option (List Int)
  /-- SINKOFS, SERVO and TSENS values in force, and those that wait for the next catch, by kind (R296). -/
  inForce : List (Nat × List Int)
  nextValues : List (Nat × List Int)
  /-- The junction maximum, in 1/16 °C, at the last computation of the values in force (R296). -/
  lastTj : Int
  /-- Sequence number of the stored record (R297). -/
  recSeq : Nat
  /-- Samples of THS, one a millisecond, since LTB.STAT.LOCKED set (R288). -/
  lockedMs : Nat
  /-- Steps placed in this stroke (R291), and where the last one ended: its window and 1/4 ps after the catch. -/
  placed : Nat
  window : Nat
  free : Nat
  /-- Kinds whose start sequence still waits, in order (R293). -/
  startKinds : List Nat
  /-- No DLY sequence has passed since the start began: LOCKED waits for one, which the MC retries (R293). -/
  dlyWait : Bool
  /-- A passed sequence whose results wait for a catch (STATE 3): its kind and the set written (R296). -/
  applying : Option (Nat × Nat)
  deriving DecidableEq, Repr

/-- Calibration after reset: no sets but those of the event store, which chuck's firmware reads. -/
def CalState.reset : CalState :=
  { queue := [], running := none, sink := List.replicate 4 (List.replicate 4 none), dly := List.replicate 4 none, sinkofs := none,
    servo := none, tsens := none, taps := [], tapsNext := none, inForce := [], nextValues := [], lastTj := 0, recSeq := 0,
    lockedMs := 0, placed := 0, window := 0, free := 0, startKinds := [], dlyWait := false, applying := none }

/-- The DRAM controller (spec/12). -/
structure DramState where
  /-- Contents. SENDER: user space by interleaved address (R301). TILE: DC0 by offset (R302). Bytes. -/
  mem : List Host.Cell
  /-- Poisoned 64-byte blocks, as address / 64, without repeats (R315). -/
  poison : List Nat
  /-- An operating point requested and held, or due to be switched to (R307, R308). -/
  held : Option Nat
  /-- The operating point that full training runs for (R307). -/
  training : Option Nat
  /-- Channels whose training has ended in this run. -/
  trainedNow : List Nat
  deriving DecidableEq, Repr

/-- DRAM after a full reset: contents lost, nothing pending. -/
def DramState.reset : DramState := { mem := [], poison := [], held := none, training := none, trainedNow := [] }

/-- A journal record with its JSEQ and the stroke of its acceptance (R326, R327). -/
structure JRec where
  seq : Nat
  stroke : Nat
  body : JournalRec
  deriving DecidableEq, Repr

/-- Sender pairs (spec/13). -/
structure PairState where
  /-- The unit holds control of the chains (R325). -/
  control : Bool
  /-- The newest epoch received in a COX, PAIR or YIELD cell (R324). -/
  seen : Option Nat
  /-- SENDERID and EPOCH of the active sender that a standby knows (R335). -/
  active : Option (Nat × Nat)
  /-- The partner's newest PAIR cell, and the strokes since one came on any path and on the cross-link (R334, R341). -/
  partner : Option PairCell
  heard : Nat
  heardX : Nat
  /-- A PAIR cell with STATE active came on the cross-link in this stroke (R339). -/
  xActive : Bool
  /-- Strokes since another sender's COX reached a chain port, as far as it matters (R323). -/
  coxAgo : Nat
  /-- JSEQ when the current stroke began, which a PAIR cell of the active reports for the stroke before it (R321). -/
  prevSeq : Nat
  /-- Active: records not acknowledged yet, oldest first (R329). -/
  replay : List JRec
  /-- Standby: records collected in journal retention and not applied yet: those in the on-die buffer, and those flushed to DC0 (R313). -/
  onDie : List JRec
  flushed : List JRec
  /-- Standby: records have been lost since the journal was last in step (R313, R330). -/
  lostRecords : Bool
  /-- Standby: a first record has come since it entered STATE standby not ready (R345). -/
  joined : Bool
  /-- Standby: strokes and the JSEQ the active reported for them, not reached yet (R330). -/
  reports : List (Nat × Nat)
  /-- SEQs of tile-addressed cues that the active is known to have sent (R326, R337). -/
  sentCues : List Nat
  /-- Active: a state image has been sent for the resynchronisation that runs (R345). -/
  imaged : Bool
  /-- Chain ports on which the active's COX, and a HEALTH cell with its mark, came in this stroke (R336). -/
  coxSeen : List Nat
  healthSeen : List Nat
  /-- Consecutive strokes lost on every chain port (R336). -/
  lostRun : Nat
  /-- Consecutive strokes, by port, without and with the active's COX (R339, R340). -/
  without : List (Nat × Nat)
  withCox : List (Nat × Nat)
  /-- A crew change that is pending: its target, and whether the standby has confirmed it (R342). -/
  crew : Option (Nat × Bool)
  /-- YIELD_OUT is asserted (R334). -/
  yieldOut : Bool
  /-- Canvas digests of the last strokes composed, as (stroke, view, digest), newest first (R333). -/
  digests : List (Nat × Nat × Word)
  /-- Uptime in ms when this unit last held control, and when control last changed hands (R344). -/
  heldMs : Nat
  changedMs : Nat
  deriving DecidableEq, Repr

/-- No pair. -/
def PairState.reset : PairState :=
  { control := false, seen := none, active := none, partner := none, heard := 0, heardX := 0, xActive := false, coxAgo := 0,
    prevSeq := 0, replay := [], onDie := [], flushed := [], lostRecords := false, joined := false, reports := [], sentCues := [], imaged := false,
    coxSeen := [], healthSeen := [], lostRun := 0, without := [], withCox := [], crew := none, yieldOut := false, digests := [],
    heldMs := 0, changedMs := 0 }

/-- A detector pair that does not read idle (R348): its code ERR:OK, samples in a row, and whether its event has been recognised. -/
structure Pair where
  index : Nat
  code : Nat
  run : Nat
  taken : Bool
  deriving DecidableEq, Repr

/-- An open masking window (R358): the block and how many boundaries remain once the block is ready. -/
structure MaskWin where
  block : Nat
  left : Nat
  deriving DecidableEq, Repr

/-- The fault collector (spec/14). -/
structure FltState where
  /-- FLT samples the pairs (R349). -/
  sampling : Bool
  /-- Pairs that do not read idle (R348). -/
  pairs : List Pair
  /-- Pairs ignored after a broken wire (R350). -/
  ignored : List Nat
  /-- Reaction entries as CLASS + 8 PIN + 16 BLOCK, where they differ from R365's default (R354). -/
  react : List (Nat × Nat)
  /-- Secondary bits by page (R358). -/
  secondary : List (Nat × Nat)
  /-- Open masking windows (R358). -/
  windows : List MaskWin
  /-- Block reset reactions of the last minute, as block and counter value (R357). -/
  resets : List (Nat × Nat)
  /-- Safe-dark is in force (R355), and drive resumes at the next catch once it is released. -/
  safeDark : Bool
  /-- A proof sweep runs: the indices it still has to inject, and the samples until the next one (R360). -/
  sweep : Option (List Nat × Nat)
  /-- A proof injection that runs: its index and the samples taken (R360). -/
  inject : Option (Nat × Nat)
  deriving DecidableEq, Repr

/-- The collector after reset: not sampling (R349), entries at R365's defaults (R354). -/
def FltState.reset : FltState :=
  { sampling := false, pairs := [], ignored := [], react := [], secondary := [], windows := [], resets := [],
    safeDark := false, sweep := none, inject := none }

/-- What the keepers hold in a thermal shutdown: the levels of ROWEN and ROWDISCH, ROWADDR and the DAC code of VLED_ADJ (R374, R438). -/
structure KeptPins where
  rowEn : Bool
  rowDisch : Bool
  rowAddr : Nat
  code : Nat
  deriving DecidableEq, Repr

/-- The thermal sensors, the throttle and the shutdown sequencer (spec/15). -/
structure ThsState where
  /-- Consecutive samples in which each sensor was off the median (R368). -/
  outRuns : List Nat
  /-- Consecutive samples in which each sensor was near the median (R368). -/
  inRuns : List Nat
  /-- Consecutive samples with TEMP_EXT open, and short (R369). -/
  openRun : Nat
  shortRun : Nat
  /-- The last valid panel temperature, in 1/16 °C (R369). -/
  panel : Int
  /-- Milliseconds since the requested step last changed (R370). -/
  dwell : Nat
  /-- THERMWARN holds (R372). -/
  warn : Bool
  /-- The throttle temperature has reached START and has not fallen below START - 3 °C since (R372). -/
  above : Bool
  /-- The readings of the fixed-shutdown comparator, with fused trims only, in 1/16 °C (R373). -/
  raw : List Int
  /-- Consecutive samples at or above 125 °C (R373). -/
  hotRun : Nat
  /-- Consecutive samples with every sensor below 110 °C (R375). -/
  coolRun : Nat
  /-- Shutdown is in force (R374). -/
  shutdown : Bool
  /-- What the keepers hold during it (R438). -/
  keeper : Option KeptPins
  /-- RESET_N pulses ignored while hot, to 254 (R375). -/
  ignored : Nat
  /-- Milliseconds since the last full reset (R380). -/
  uptimeMs : Nat
  deriving DecidableEq, Repr

/-- The monitors after power-on. The throttle's dwell counts as met after a full reset (R370). -/
def ThsState.reset : ThsState :=
  { outRuns := List.replicate 8 0, inRuns := List.replicate 8 0, openRun := 0, shortRun := 0, panel := 400,
    dwell := 1000, warn := false, above := false, raw := [], hotRun := 0, coolRun := 0, shutdown := false, keeper := none, ignored := 0, uptimeMs := 0 }

/-- A repair entry (R390): a spare of a memory group that stands in for a faulty row (KIND 0) or column (KIND 1). -/
structure Repair where
  group : Nat
  kind : Nat
  spare : Nat
  bank : Nat
  addr : Nat
  deriving DecidableEq, Repr

/-- Built-in self-test (spec/16). -/
structure BistState where
  /-- Groups under test and groups that wait, in ascending order (R385). -/
  running : List Nat
  waiting : List Nat
  /-- Groups abandoned in a supply warning, which run again after it (R393). -/
  again : List Nat
  /-- Groups whose last test failed, so their block is not ready (R388). -/
  failed : List Nat
  /-- Fuse entries, and the soft entries in force (R389). -/
  fuses : List Repair
  soft : List Repair
  /-- A standby stays not ready after a test until composition has produced a stroke (R387): the last stroke staged when the test ended. -/
  holdMark : Option Nat
  /-- Views whose region lost cells to a test in this stroke (R386). -/
  lostViews : List Nat
  /-- The drive-code store has been tested and its codes are to be converted anew before drive resumes (R386). -/
  redraw : Bool
  /-- Waiting groups whose wait has been counted in DEFERRED (R385). -/
  deferred : List Nat
  /-- A takeover has parked the waiting groups until STATE reads active or standby ready (R393). -/
  parked : Bool
  deriving DecidableEq, Repr

/-- No test runs and nothing is repaired. -/
def BistState.reset : BistState :=
  { running := [], waiting := [], again := [], failed := [], fuses := [], soft := [], holdMark := none, lostViews := [], redraw := false, deferred := [], parked := false }

/-- The fuses and the life-cycle logic (spec/17). -/
structure LifeState where
  /-- The five state bits as a mask, in each of their three copies (R394). -/
  blown : List Nat
  /-- The unit's identity UNITID, from fuses (R397, R197). -/
  unitId : Nat
  /-- The base MAC address from fuses (R118). -/
  mac : Nat
  /-- Revocation fuses of the four Omcia keys, as a bit mask (R397). -/
  okRevoked : Nat
  /-- The 768 key fuses, as 96 bytes of X then Y (R400). -/
  keyFuses : List Byte
  /-- The VALID fuse of the co-signing key (R400). -/
  keyValid : Bool
  /-- The revocation fuse of the co-signing key (R401). -/
  keyRevoked : Bool
  /-- Raw fuse words of FUSE0 to FUSE3, by 4096 * page instance + offset (R430). -/
  raw : List (Nat × Word)
  /-- The challenge (R397), 32 bytes. -/
  challenge : List Byte
  /-- Bytes of the token and of the authorisation written for the next request (R396). -/
  token : List Byte
  auth : List Byte
  /-- The counter value at the last refusal under RESULT 3 since the last full reset (R398). -/
  lastRefusal : Option Nat
  /-- The public key words written to KEY.PUB before enrolment (R400). -/
  pub : List Word
  /-- The pending target of the life-cycle record (R399). -/
  target : Option Nat
  /-- The state from which the recorded transition started (R399). -/
  origin : Nat
  /-- Erasure under R401 is not complete, and how many of its items are done. -/
  erasePend : Bool
  eraseDone : Nat
  deriving DecidableEq, Repr

/-- The copies of the state bits of state `n`: bits are blown from the lowest upwards (R394). -/
def stateCopies (n : Nat) : List Nat := List.replicate 3 (2 ^ n - 1)

/-- The fuses of a part as shipped: state OPEN (a choice, log entry 5), every other fuse unblown; no challenge drawn yet. -/
def LifeState.reset : LifeState :=
  { blown := stateCopies 2, unitId := 0, mac := 0, okRevoked := 0, keyFuses := List.replicate 96 0,
    keyValid := false, keyRevoked := false, raw := [], challenge := List.replicate 32 0, token := List.replicate 96 0,
    auth := List.replicate 96 0, lastRefusal := none, pub := List.replicate 24 0, target := none, origin := 2, erasePend := false,
    eraseDone := 0 }

/-- An open transfer of UPD (R410): identifier, KIND, length, whether it comes through the window, and the chunks that have arrived. -/
structure UpdXfer where
  xfer : Nat
  kind : Nat
  len : Nat
  window : Bool
  chunks : List Nat
  /-- The bundle or its image has failed a check, and nothing more of it is read (R408). -/
  refused : Bool
  deriving DecidableEq, Repr

/-- A tile of a distribution (R412): its port and position, and its stage: 0 to be opened, 1 to be read, 2 to be verified, 3 polled. -/
structure DistTile where
  port : Nat
  pos : Nat
  stage : Nat
  pass : Nat
  deriving DecidableEq, Repr

/-- A distribution that runs (R412): what is sent, and the tiles that still have a request to be sent or answered, the first of them
waiting for its answer. -/
structure Dist where
  kind3 : Bool
  verify : Bool
  xfer : Nat
  data : List Byte
  opening : List DistTile
  /-- Some tile reported every chunk missing, so the pass is made (R412). -/
  fresh : Bool
  tiles : List DistTile
  deriving DecidableEq, Repr

/-- The update record (R420). -/
structure UpdRec where
  seq : Nat
  state : Nat
  trials : Nat
  jop : Nat
  jnext : Nat
  jtotal : Nat
  activeVer : Nat
  keepVer : Nat
  stageVer : Nat
  digest : List Byte
  deriving DecidableEq, Repr

/-- Firmware and settings (spec/18). -/
structure UpdateState where
  /-- The update record in force, or being written (R420). -/
  record : UpdRec
  xfer : Option UpdXfer
  /-- Offset within the staged bundle and LENGTH of the unit's image, once its header has passed (R411). -/
  image : Option (Nat × Nat)
  /-- Sectors of STAGE programmed and read back (R411). -/
  programmed : List Nat
  /-- The first 256 bytes of the header of the image that runs (R407). -/
  running : List Byte
  /-- A distribution that runs. -/
  dist : Option Dist
  /-- The image of an SPI recovery load, as words received (R425), newest first. -/
  recov : Option (List Word)
  /-- An arm has been accepted and the copy to SETTINGS-PRIOR runs (R414). -/
  arming : Bool
  /-- The activation of the armed regatta has been deferred and counted (R415). -/
  deferring : Bool
  /-- Calibration sequences that a regatta abandoned, to be restarted after confirmation (R27). -/
  calAgain : List (Nat × Bool)
  deriving DecidableEq, Repr

/-- No transfer, and no image running. -/
def UpdateState.reset : UpdateState :=
  { record := ⟨0, 0, 0, 0, 0, 0, 0, 0, 0, []⟩, xfer := none, image := none, programmed := [], running := [], dist := none, recov := none, arming := false, deferring := false,
    calAgain := [] }

/-- The whole state of the block. -/
structure State where
  /-- Every register word that differs from its reset value, by register address (R28); the shadow of a shadowed
  register stands at its offset + 0x800 (R31). -/
  regs : List (Nat × Word)
  /-- The running value behind every SNP register, by register address (R41): what the next capture takes. -/
  counters : List (Nat × Word)
  /-- The free-running counter frc in nanoseconds, 64 bits (R80). -/
  frc : Nat
  /-- Register access, commits and sessions (spec/02). -/
  access : AccessState
  /-- Profiles, reset, start-up and supplies (spec/03, spec/15). -/
  boot : BootState
  /-- Network time, strokes and views (spec/04). -/
  time : TimeState
  /-- The cue queue (spec/04). -/
  cue : CueState
  /-- Network ports (spec/05). -/
  net : NetState
  /-- Video flows and the monitor (spec/05). -/
  ing : IngestState
  /-- Composition (spec/06). -/
  cmp : ComposeState
  /-- KorovLink chains (spec/07). -/
  chain : ChainState
  /-- Tile frame store and scan-out (spec/08). -/
  scan : ScanState
  /-- Lamp drive (spec/09). -/
  lamp : LampState
  /-- Grain tables and ageing (spec/10). -/
  grain : GrainState
  /-- On-chip calibration (spec/11). -/
  cal : CalState
  /-- The DRAM controller (spec/12). -/
  dram : DramState
  /-- Sender pairs (spec/13). -/
  pairing : PairState
  /-- The fault collector (spec/14). -/
  flt : FltState
  /-- Thermal management (spec/15). -/
  ths : ThsState
  /-- Self-test (spec/16). -/
  bist : BistState
  /-- Life cycle and keys (spec/17). -/
  life : LifeState
  /-- Firmware and settings (spec/18). -/
  upd : UpdateState
  /-- What the device sent during the last command. -/
  sent : List Sent
  /-- The answer of the last access (R47). -/
  reply : Option Reply
  /-- The model's own counter of free values drawn: it stands for nothing in the device. -/
  free : Nat
  /-- The commands that wait, first in, first out. -/
  pending : List Instr
  deriving DecidableEq, Repr

/-- The block right after power-on (R66, R67): every register at its reset value, RSTCAUSE.POR set (R68), and every internal state
at its reset. -/
def State.reset : State :=
  { regs := [(0x74, 1#32)], counters := [], frc := 0,
    access := AccessState.reset,
    boot := BootState.reset,
    time := TimeState.reset,
    cue := CueState.reset,
    net := NetState.reset,
    ing := IngestState.reset,
    cmp := ComposeState.reset,
    chain := ChainState.reset,
    scan := ScanState.reset,
    lamp := LampState.reset,
    grain := GrainState.reset,
    cal := CalState.reset,
    dram := DramState.reset,
    pairing := PairState.reset,
    flt := FltState.reset,
    ths := ThsState.reset,
    bist := BistState.reset,
    life := LifeState.reset,
    upd := UpdateState.reset,
    sent := [], reply := none, free := 0, pending := [] }

end Sys2Proof.Machine
end

