-- ==== Sys2Proof/Machine/Ops.lean ====
section
/-!
DEFINITION. The named operations over State: register words and fields, running counters, sent items, detector pairs, stroke numbers, event-store bytes and non-volatile writes.
-/

namespace Sys2Proof.Machine

/-- The outcome of a step of this block. -/
abbrev Result := Host.Outcome State Fault Refusal

/-- A command's effect as an outcome: what was sent and answered before is forgotten, then `f` acts. The commands that wait are not the
device's, and no effect touches them. -/
def run (s : State) (f : State → State) : Result :=
  .next { f { s with sent := [], reply := none } with pending := s.pending }

/-! ### Registers -/

/-- The word stored at a register address. -/
def State.reg (s : State) (a : Nat) : Word := sparseGet regReset s.regs a

/-- `s` with the word at a register address set. -/
def State.setReg (s : State) (a : Nat) (v : Word) : State := { s with regs := sparsePut regReset s.regs a v }

/-- The value of a field within a word. -/
def Fld.get (f : Fld) (w : Word) : Nat := w.toNat / 2 ^ f.lo % 2 ^ f.width

/-- The word with a field replaced by the low bits of `v`. -/
def Fld.put (f : Fld) (w : Word) (v : Nat) : Word :=
  Word.ofNat (w.toNat % 2 ^ f.lo + v % 2 ^ f.width * 2 ^ f.lo + w.toNat / 2 ^ (f.lo + f.width) * 2 ^ (f.lo + f.width))

/-- The value of a register field. -/
def State.fld (s : State) (f : Fld) : Nat := f.get (s.reg f.addr)

/-- `s` with a register field set to the low bits of `v`. -/
def State.setFld (s : State) (f : Fld) (v : Nat) : State := s.setReg f.addr (f.put (s.reg f.addr) v)

/-- Whether a field is not 0. -/
def State.flag (s : State) (f : Fld) : Bool := s.fld f != 0

/-- A field read as a signed number of its width. -/
def State.sfld (s : State) (f : Fld) : Int := signed f.width (s.fld f)

/-- `s` with a field set to the low bits of a signed number. -/
def State.setSfld (s : State) (f : Fld) (v : Int) : State := s.setFld f (unsigned f.width v)

/-- `s` with one bit of a field set to `b`. -/
def State.setFldBit (s : State) (f : Fld) (i : Nat) (b : Bool) : State := s.setFld f (setBit (s.fld f) i b)

/-- `s` with a field advanced by one, modulo its width. -/
def State.advance (s : State) (f : Fld) : State := s.setFld f (s.fld f + 1)

/-! ### Running values behind SNP fields (R41) -/

/-- The running word behind an SNP register. -/
def State.live (s : State) (a : Nat) : Word := sparseGet (fun _ => (0 : Word)) s.counters a

/-- `s` with the running word behind an SNP register set. -/
def State.setLive (s : State) (a : Nat) (v : Word) : State :=
  { s with counters := sparsePut (fun _ => (0 : Word)) s.counters a v }

/-- `s` with the running value of an SNP counter advanced by `n`, modulo 2^32. -/
def State.bump (s : State) (f : Fld) (n : Nat) : State := s.setLive f.addr (s.live f.addr + Word.ofNat n)

/-- The running value of an SNP field. -/
def State.liveFld (s : State) (f : Fld) : Nat := f.get (s.live f.addr)

/-- `s` with the running value of an SNP field set. -/
def State.setLiveFld (s : State) (f : Fld) (v : Nat) : State := s.setLive f.addr (f.put (s.live f.addr) v)

/-! ### What leaves the device -/

/-- `s` having sent `x`. -/
def State.send (s : State) (x : Sent) : State := { s with sent := s.sent ++ [x] }

/-- `s` having answered an access. -/
def State.answer (s : State) (status count : Nat) (words : List Word) : State :=
  { s with reply := some ⟨status, count, words⟩ }

/-- A fresh free value's index, and `s` with the model's counter advanced. -/
def State.draw (s : State) : Nat × State := (s.free, { s with free := s.free + 1 })

/-! ### Role, strokes and time -/

/-- `DEV.ROLESTAT.ROLE` is SENDER. -/
def State.isSender (s : State) : Bool := s.fld .devRolestatRole == 1

/-- `DEV.ROLESTAT.ROLE` is TILE. -/
def State.isTile (s : State) : Bool := s.fld .devRolestatRole == 2

/-- A warm restart in which the firmware has not yet brought the blocks and settings up again (R69, R72). -/
def State.restarting (s : State) : Bool := s.boot.warm && s.fld .devBootstatStage != 6

/-- The current stroke number, `STK.NOW`. -/
def State.stroke (s : State) : Nat := s.fld .stkNow

/-- The device answers accesses: it is not held in reset and not shut down. -/
def State.powered (s : State) : Bool := !s.boot.inReset && !s.ths.shutdown

/-- Modulo 2^32, as stroke numbers and epochs run (R92, R93). -/
def wrap32 (n : Nat) : Nat := n % 2 ^ 32

/-- `a` is after `b` under the half-range rule (R93). -/
def strokeAfter (a b : Nat) : Bool :=
  let d := (wrap32 a + 2 ^ 32 - wrap32 b) % 2 ^ 32
  decide (1 ≤ d) && decide (d < 2 ^ 31)

/-- `a` is before `b` under the half-range rule (R93). -/
def strokeBefore (a b : Nat) : Bool :=
  let d := (wrap32 a + 2 ^ 32 - wrap32 b) % 2 ^ 32
  decide (2 ^ 31 ≤ d)

/-- `a` is `b` or after it (R93). -/
def strokeAtOrAfter (a b : Nat) : Bool := !strokeBefore a b

/-- How far `a` lies ahead of `b`, modulo 2^32. -/
def strokesAhead (a b : Nat) : Nat := (wrap32 a + 2 ^ 32 - wrap32 b) % 2 ^ 32

/-- Nanoseconds of the free-running counter since it read `t`, as an unsigned 64-bit difference (R80, R81). -/
def State.since (s : State) (t : Nat) : Nat := (s.frc + 2 ^ 64 - t % 2 ^ 64) % 2 ^ 64

/-- The correction of R81 at counter value frc: `(frc - base) * rate >> 40`, flooring. -/
def State.corr (s : State) : Int :=
  Int.fdiv ((s.since s.time.base : Int) * s.sfld .timRate) (2 ^ 40)

/-- The corrected time t (R81), as signed 64-bit nanoseconds. -/
def State.now (s : State) : Int := signed 64 (unsigned 64 ((s.frc : Int) + s.time.offset + s.corr))

/-- The field of the profile in force, or 0 with no profile. -/
def State.prof (s : State) (f : Profile → Nat) : Nat :=
  match s.boot.profile with
  | some p => f p
  | none => 0

/-- The lane synthesisers and LTB have a reference (R74): REFCLK100, or with REFSRC 1 the lane receiver taken as source. -/
def State.referenced (s : State) : Bool := if testBit (s.prof (·.flags)) 0 then s.boot.refSource.isSome else s.boot.refclk

/-! ### Detector pairs (R348, R351) -/

/-- The index of source `b` of page `p` (R352). -/
def srcIndex (p b : Nat) : Nat := p * 32 + b

/-- A detector drives its pair to error: the pair stands in the collector's list until it reads idle (R351).
A second event before the acknowledgement merges into the first. -/
def State.raise (s : State) (idx : Nat) : State :=
  if s.flt.pairs.any (fun p => p.index == idx) then s
  else { s with flt.pairs := s.flt.pairs ++ [⟨idx, 2, 0, false⟩] }

/-- A level detector's condition has ended: its pair reads idle (R351). -/
def State.lower (s : State) (idx : Nat) : State :=
  { s with flt.pairs := s.flt.pairs.filter (fun p => p.index != idx) }

/-- A level source follows its condition (R351). -/
def State.level (s : State) (idx : Nat) (b : Bool) : State := if b then s.raise idx else s.lower idx

/-! ### Byte memories -/

/-- What a byte of a memory that nothing has written reads as (log entry 3). -/
def freshByte (_ : Nat) : Byte := 0

/-- A byte of a memory. -/
def memByte (m : List Host.Cell) (a : Nat) : Byte := sparseGet freshByte m a

/-- A memory with one byte written. -/
def memPut (m : List Host.Cell) (a : Nat) (b : Byte) : List Host.Cell := sparsePut freshByte m a b

/-- A memory with bytes written from address `a` on. -/
def memWrite (m : List Host.Cell) (a : Nat) : List Byte → List Host.Cell
  | [] => m
  | b :: bs => memWrite (memPut m a b) (a + 1) bs

/-- `n` bytes of a memory from address `a` on. -/
def memRead (m : List Host.Cell) (a : Nat) : Nat → List Byte
  | 0 => []
  | n + 1 => memByte m a :: memRead m (a + 1) n

/-- The canonical form of a byte memory. -/
def memWf (m : List Host.Cell) : Bool := sparseWf freshByte m

/-- The little-endian number that bytes spell (R9). -/
def leNat : List Byte → Nat
  | [] => 0
  | b :: bs => b.toNat + 256 * leNat bs

/-- The first `n` little-endian bytes of a number. -/
def leBytes : Nat → Nat → List Byte
  | 0, _ => []
  | n + 1, x => BitVec.ofNat 8 x :: leBytes n (x / 256)

/-- The number that bytes spell most significant first, as packets and cells carry it (R9). -/
def beNat (bs : List Byte) : Nat := bs.foldl (fun n b => n * 256 + b.toNat) 0

/-- The low `n` bytes of a number, most significant first (R9). -/
def beBytes (n x : Nat) : List Byte := (leBytes n x).reverse

/-- The little-endian number held in `n` bytes of a memory. -/
def memNat (m : List Host.Cell) (a n : Nat) : Nat := leNat (memRead m a n)

/-- A memory with the little-endian `n` bytes of a number written. -/
def memPutNat (m : List Host.Cell) (a n x : Nat) : List Host.Cell := memWrite m a (leBytes n x)

/-! ### CRC-32 with the IEEE 802.3 polynomial (R58, R187, R380) -/

/-- One bit step of the reflected CRC-32. -/
def crcBit (c : Word) : Word := if c.getLsbD 0 then (c >>> 1) ^^^ 0xEDB88320#32 else c >>> 1

/-- One byte step of the reflected CRC-32. -/
def crcByte (c : Word) (b : Byte) : Word :=
  crcBit (crcBit (crcBit (crcBit (crcBit (crcBit (crcBit (crcBit (c ^^^ b.setWidth 32))))))))

/-- CRC-32 of bytes: initial value 0xFFFF_FFFF and final complement. -/
def crc32 (bs : List Byte) : Word := ~~~(bs.foldl crcByte 0xFFFFFFFF#32)

/-! ### The event store and non-volatile writes (R78, R377 to R380) -/

/-- Base of the event log's header in the event store (R379). -/
def evBase : Nat := 0x28000

/-- HEAD of the pointer word (R380). -/
def State.evHead (s : State) : Nat := memNat s.boot.store (evBase + 8) 2

/-- SHUTPEND and WRAPPED of the pointer word (R380), as bits 0 and 1. -/
def State.evFlags (s : State) : Nat := memNat s.boot.store (evBase + 10) 2

/-- SEQ of the newest record (R380). -/
def State.evSeq (s : State) : Nat := memNat s.boot.store (evBase + 12) 4

/-- The bytes of an event record with its SEQ (R380), CRC last. -/
def EventRec.bytes (r : EventRec) (seq : Nat) : List Byte :=
  let body := leBytes 1 r.kind ++ leBytes 1 r.index ++ leBytes 1 r.step ++ leBytes 1 0 ++ leBytes 4 seq ++
    leBytes 4 r.stroke ++ leBytes 4 r.timeMs ++ leBytes 2 (unsigned 16 r.tj) ++ leBytes 2 (unsigned 16 r.tp) ++
    leBytes 2 r.vmin ++ leBytes 2 0 ++ leBytes 4 r.duration
  body ++ leBytes 4 (crc32 body).toNat

/-- Write an event record and then the pointer word (R380); `shut` is the SHUTPEND bit the pointer then holds. -/
def State.writeEvent (s : State) (r : EventRec) (shut : Bool) : State :=
  let head := s.evHead
  let seq := wrap32 (s.evSeq + 1)
  let wrapped := testBit s.evFlags 1 || head + 1 == 2046
  let m := memPutNat s.boot.store evBase 4 0x474F4C54
  let m := memWrite m (evBase + 64 + 32 * head) (r.bytes seq)
  let m := memPutNat m (evBase + 8) 2 (if head + 1 == 2046 then 0 else head + 1)
  let m := memPutNat m (evBase + 10) 2 (bit shut + 2 * bit wrapped)
  { s with boot.store := memPutNat m (evBase + 12) 4 seq }

/-- Size of the boot flash the model addresses is not fixed; a flash write stores bytes (spec/18). -/
def State.doNvWrite (s : State) : NvWrite → State
  | .bytes a d => { s with boot.store := memWrite s.boot.store a d }
  | .event r => s.writeEvent r (testBit s.evFlags 0)
  | .flash a d => { s with boot.flash := memWrite s.boot.flash a d }

/-- A non-volatile write: done at once, or, while a supply warning is asserted, held in the queue of 32 records, beyond
which it is lost and counted (R78, R377). -/
def State.nvWrite (s : State) (w : NvWrite) : State :=
  if s.boot.warning then
    if s.boot.nvQueue.length < 32 then
      ({ s with boot.nvQueue := s.boot.nvQueue ++ [w] }).setFld .thsNvqQueued (s.boot.nvQueue.length + 1)
    else ({ s with boot.nvLost := s.boot.nvLost + 1 }).bump .thsNvlost 1
  else s.doNvWrite w

/-- The event record of `kind` with the fields every kind shares (R380). -/
def State.eventRec (s : State) (kind index vmin duration : Nat) : EventRec :=
  { kind := kind, index := index, step := s.fld .thsThrstatStep, stroke := s.stroke, timeMs := wrap32 s.ths.uptimeMs,
    tj := s.sfld .thsTjmaxTj, tp := s.sfld .thsTextTp, vmin := vmin, duration := duration }

/-- Record an event of `kind` (R380). -/
def State.logEvent (s : State) (kind index vmin duration : Nat) : State :=
  s.nvWrite (.event (s.eventRec kind index vmin duration))

/-! ### Control of the chains (R325) -/

/-- The unit drives its chains: an unpaired sender, or one of a pair that has control (R321, R325). -/
def State.drives (s : State) : Bool := s.isSender && (s.prof (·.pair) != 1 || s.pairing.control)

/-- A cold standby, and a unit that takes over from one until it is ready: NET, ING and CMP are unpowered (R331, R338). -/
def State.cold (s : State) : Bool :=
  s.isSender && s.prof (·.pair) == 1 && s.flag .pairCfgCold && (s.fld .pairStatState == 3 || s.fld .pairStatState == 4 || s.fld .pairStatState == 6)

/-! ### Lists of fixed length -/

/-- The list with element `i` replaced by `f` of it. -/
def listModify {α : Type} : List α → Nat → (α → α) → List α
  | [], _, _ => []
  | x :: xs, 0, f => f x :: xs
  | x :: xs, n + 1, f => x :: listModify xs n f

/-- The value a list of pairs gives a key, or a default. -/
def assocGet (m : List (Nat × Nat)) (k d : Nat) : Nat := sparseGet (fun _ => d) m k

/-- A list of pairs with a key's value set; a key that reads the default is not listed. -/
def assocPut (m : List (Nat × Nat)) (k d v : Nat) : List (Nat × Nat) := sparsePut (fun _ => d) m k v

/-- `f` applied along `0, 1, ..., n - 1`. -/
def iterate (n : Nat) (f : State → Nat → State) (s : State) : State := (List.range n).foldl f s

/-! ### Chain ports and their lanes -/

/-- A lane of a port. -/
def ChainPort.lane (p : ChainPort) (l : Nat) : Lane := if l == 0 then p.lane0 else p.lane1

/-- A port with one lane changed. -/
def ChainPort.onLane (p : ChainPort) (l : Nat) (f : Lane → Lane) : ChainPort :=
  if l == 0 then { p with lane0 := f p.lane0 } else { p with lane1 := f p.lane1 }

/-- Chain port `n`. -/
def State.port (s : State) (n : Nat) : ChainPort := s.chain.ports.getD n ChainPort.reset

/-- `s` with chain port `n` changed. -/
def State.onPort (s : State) (n : Nat) (f : ChainPort → ChainPort) : State :=
  { s with chain.ports := listModify s.chain.ports n f }

end Sys2Proof.Machine
end

