-- ==== Sys2Proof/Machine/Flags.lean ====
section
/-!
DEFINITION. The fault sources of R365, their reaction entries, sticky and secondary bits, and the flags and pins computed from them: PAGE_STAT.ANY, IRQ_N, FAULT_N.
-/

namespace Sys2Proof.Machine

/-- A row of R365: a level source or an event source, and its default class and PIN. -/
structure SourceSpec where
  level : Bool
  cls : Nat
  pin : Bool
  deriving DecidableEq, Repr

/-- The sources of a page in bit order (R365). -/
def PageType.sources : PageType → List SourceSpec
  | .dev => [⟨false, 0, true⟩, ⟨false, 0, true⟩, ⟨false, 0, false⟩, ⟨false, 0, true⟩, ⟨false, 0, true⟩, ⟨false, 0, false⟩]
  | .flt => [⟨false, 3, true⟩, ⟨false, 0, true⟩, ⟨false, 0, true⟩]
  | .ths => [⟨true, 0, true⟩, ⟨true, 3, true⟩, ⟨true, 0, false⟩, ⟨false, 0, true⟩, ⟨true, 0, true⟩, ⟨true, 0, true⟩]
  | .tim => [⟨false, 0, false⟩, ⟨false, 0, false⟩, ⟨false, 0, false⟩, ⟨true, 0, true⟩]
  | .stk => [⟨true, 0, true⟩, ⟨false, 0, false⟩, ⟨false, 0, false⟩, ⟨true, 0, false⟩, ⟨false, 0, false⟩]
  | .cue => [⟨false, 0, false⟩, ⟨false, 0, false⟩, ⟨false, 0, false⟩]
  | .np => [⟨false, 0, false⟩, ⟨false, 0, false⟩, ⟨false, 0, false⟩, ⟨true, 0, true⟩]
  | .mp => [⟨false, 0, false⟩, ⟨false, 0, false⟩, ⟨false, 0, false⟩, ⟨true, 0, true⟩]
  | .ing => [⟨false, 0, false⟩, ⟨true, 0, true⟩]
  | .flw => [⟨true, 0, false⟩, ⟨false, 0, false⟩, ⟨true, 0, false⟩]
  | .mon => [⟨false, 0, false⟩]
  | .cmp => [⟨false, 0, true⟩, ⟨false, 0, false⟩, ⟨false, 0, false⟩, ⟨true, 0, true⟩, ⟨false, 0, false⟩, ⟨false, 0, false⟩, ⟨false, 0, true⟩, ⟨false, 0, false⟩, ⟨false, 0, false⟩]
  | .kls => [⟨false, 0, true⟩, ⟨false, 0, false⟩]
  | .chp => [⟨false, 0, false⟩, ⟨true, 0, true⟩, ⟨true, 0, false⟩, ⟨true, 0, true⟩, ⟨false, 0, false⟩, ⟨false, 0, false⟩, ⟨false, 0, false⟩]
  | .pck => [⟨false, 0, true⟩, ⟨false, 0, true⟩]
  | .scn => [⟨false, 0, false⟩, ⟨false, 0, false⟩, ⟨true, 0, true⟩, ⟨true, 0, true⟩]
  | .grn => [⟨true, 0, true⟩, ⟨false, 0, true⟩, ⟨false, 0, false⟩, ⟨false, 0, false⟩, ⟨false, 0, false⟩, ⟨false, 0, true⟩, ⟨false, 0, true⟩, ⟨true, 0, false⟩]
  | .ltb => [⟨true, 0, true⟩, ⟨true, 0, false⟩]
  | .snk => [⟨false, 0, false⟩, ⟨false, 0, false⟩, ⟨false, 0, true⟩, ⟨true, 0, true⟩, ⟨true, 0, true⟩, ⟨true, 0, false⟩, ⟨false, 0, false⟩]
  | .cal => [⟨false, 0, false⟩, ⟨false, 0, true⟩]
  | .drc => [⟨false, 0, false⟩, ⟨false, 0, true⟩, ⟨true, 3, true⟩, ⟨false, 0, true⟩, ⟨true, 0, true⟩, ⟨false, 0, false⟩, ⟨false, 0, false⟩]
  | .pair => [⟨true, 0, true⟩, ⟨true, 0, false⟩, ⟨false, 0, true⟩, ⟨false, 0, true⟩, ⟨false, 0, true⟩, ⟨false, 0, true⟩, ⟨true, 0, true⟩, ⟨true, 0, true⟩, ⟨false, 0, true⟩, ⟨true, 0, true⟩]
  | .vw => [] | .und => [] | .plc => [] | .dc => [] | .skg => [] | .bst => [] | .upd => []
  | .lcs => [] | .key => [] | .fuse => []

/-- Source `PROFFALLBACK` of page DEV (R365). -/
abbrev srcDevProffallback : Nat := srcIndex 0x0 0
/-- Source `SETTINGSDEF` of page DEV (R365). -/
abbrev srcDevSettingsdef : Nat := srcIndex 0x0 1
/-- Source `WARMRST` of page DEV (R365). -/
abbrev srcDevWarmrst : Nat := srcIndex 0x0 2
/-- Source `BISTFAIL` of page DEV (R365). -/
abbrev srcDevBistfail : Nat := srcIndex 0x0 3
/-- Source `UPDFAIL` of page DEV (R365). -/
abbrev srcDevUpdfail : Nat := srcIndex 0x0 4
/-- Source `LCDENIED` of page DEV (R365). -/
abbrev srcDevLcdenied : Nat := srcIndex 0x0 5
/-- Source `BROKENWIRE` of page FLT (R365). -/
abbrev srcFltBrokenwire : Nat := srcIndex 0x11 0
/-- Source `PROOFMISS` of page FLT (R365). -/
abbrev srcFltProofmiss : Nat := srcIndex 0x11 1
/-- Source `RESETLOOP` of page FLT (R365). -/
abbrev srcFltResetloop : Nat := srcIndex 0x11 2
/-- Source `SUPWARN` of page THS (R365). -/
abbrev srcThsSupwarn : Nat := srcIndex 0x10 0
/-- Source `THERMWARN` of page THS (R365). -/
abbrev srcThsThermwarn : Nat := srcIndex 0x10 1
/-- Source `THROTTLE` of page THS (R365). -/
abbrev srcThsThrottle : Nat := srcIndex 0x10 2
/-- Source `PMBUS` of page THS (R365). -/
abbrev srcThsPmbus : Nat := srcIndex 0x10 3
/-- Source `SENSORFAIL` of page THS (R365). -/
abbrev srcThsSensorfail : Nat := srcIndex 0x10 4
/-- Source `TEMPEXT` of page THS (R365). -/
abbrev srcThsTempext : Nat := srcIndex 0x10 5
/-- Source `RATECLAMP` of page TIM (R365). -/
abbrev srcTimRateclamp : Nat := srcIndex 0x1 0
/-- Source `JUMPREF` of page TIM (R365). -/
abbrev srcTimJumpref : Nat := srcIndex 0x1 1
/-- Source `TXTSOVF` of page TIM (R365). -/
abbrev srcTimTxtsovf : Nat := srcIndex 0x1 2
/-- Source `HOLDOVER` of page TIM (R365). -/
abbrev srcTimHoldover : Nat := srcIndex 0x1 3
/-- Source `REFLOST` of page STK (R365). -/
abbrev srcStkReflost : Nat := srcIndex 0x2 0
/-- Source `NUMSKEW` of page STK (R365). -/
abbrev srcStkNumskew : Nat := srcIndex 0x2 1
/-- Source `MARKERMISS` of page STK (R365). -/
abbrev srcStkMarkermiss : Nat := srcIndex 0x2 2
/-- Source `SHUTLOST` of page STK (R365). -/
abbrev srcStkShutlost : Nat := srcIndex 0x2 3
/-- Source `PHASECLAMP` of page STK (R365). -/
abbrev srcStkPhaseclamp : Nat := srcIndex 0x2 4
/-- Source `EXECERR` of page CUE (R365). -/
abbrev srcCueExecerr : Nat := srcIndex 0x3 0
/-- Source `DROPPED` of page CUE (R365). -/
abbrev srcCueDropped : Nat := srcIndex 0x3 1
/-- Source `CREDITWAIT` of page CUE (R365). -/
abbrev srcCueCreditwait : Nat := srcIndex 0x3 2
/-- Source `STATHALF` of page NPn or MP (R365); `p` is the page number. -/
abbrev srcNetStathalf (p : Nat) : Nat := srcIndex p 0
/-- Source `RXTRUNC` of page NPn or MP (R365); `p` is the page number. -/
abbrev srcNetRxtrunc (p : Nat) : Nat := srcIndex p 1
/-- Source `RXNODESC` of page NPn or MP (R365); `p` is the page number. -/
abbrev srcNetRxnodesc (p : Nat) : Nat := srcIndex p 2
/-- Source `LINKDOWN` of page NPn or MP (R365); `p` is the page number. -/
abbrev srcNetLinkdown (p : Nat) : Nat := srcIndex p 3
/-- Source `RXOVF` of page ING (R365). -/
abbrev srcIngRxovf : Nat := srcIndex 0x5 0
/-- Source `SHED` of page ING (R365). -/
abbrev srcIngShed : Nat := srcIndex 0x5 1
/-- Source `LEGLOST` of page FLWn (R365). -/
abbrev srcFlwLeglost (n : Nat) : Nat := srcIndex (0x110 + n) 0
/-- Source `NOBUF` of page FLWn (R365). -/
abbrev srcFlwNobuf (n : Nat) : Nat := srcIndex (0x110 + n) 1
/-- Source `IGMPCOMPAT` of page FLWn (R365). -/
abbrev srcFlwIgmpcompat (n : Nat) : Nat := srcIndex (0x110 + n) 2
/-- Source `MONSKIP` of page MON (R365). -/
abbrev srcMonMonskip : Nat := srcIndex 0x6 0
/-- Source `UNDERRUN` of page CMP (R365). -/
abbrev srcCmpUnderrun : Nat := srcIndex 0x7 0
/-- Source `REUSE` of page CMP (R365). -/
abbrev srcCmpReuse : Nat := srcIndex 0x7 1
/-- Source `MISSEDFLIP` of page CMP (R365). -/
abbrev srcCmpMissedflip : Nat := srcIndex 0x7 2
/-- Source `COMPBUDGET` of page CMP (R365). -/
abbrev srcCmpCompbudget : Nat := srcIndex 0x7 3
/-- Source `RETIRE` of page CMP (R365). -/
abbrev srcCmpRetire : Nat := srcIndex 0x7 4
/-- Source `DESCLOCK` of page CMP (R365). -/
abbrev srcCmpDesclock : Nat := srcIndex 0x7 5
/-- Source `SEEDBAD` of page CMP (R365). -/
abbrev srcCmpSeedbad : Nat := srcIndex 0x7 6
/-- Source `PLACEFIT` of page CMP (R365). -/
abbrev srcCmpPlacefit : Nat := srcIndex 0x7 7
/-- Source `BANKWRITE` of page CMP (R365). -/
abbrev srcCmpBankwrite : Nat := srcIndex 0x7 8
/-- Source `ENUMCONFLICT` of page KLS (R365). -/
abbrev srcKlsEnumconflict : Nat := srcIndex 0x8 0
/-- Source `COXNEW` of page KLS (R365). -/
abbrev srcKlsCoxnew : Nat := srcIndex 0x8 1
/-- Source `FRAMEERR` of page CHPn (R365). -/
abbrev srcChpFrameerr (n : Nat) : Nat := srcIndex (0x140 + n) 0
/-- Source `LANEDEGR` of page CHPn (R365). -/
abbrev srcChpLanedegr (n : Nat) : Nat := srcIndex (0x140 + n) 1
/-- Source `RATECAP` of page CHPn (R365). -/
abbrev srcChpRatecap (n : Nat) : Nat := srcIndex (0x140 + n) 2
/-- Source `CHAINBUDGET` of page CHPn (R365). -/
abbrev srcChpChainbudget (n : Nat) : Nat := srcIndex (0x140 + n) 3
/-- Source `VIDLATE` of page CHPn (R365). -/
abbrev srcChpVidlate (n : Nat) : Nat := srcIndex (0x140 + n) 4
/-- Source `OWNDROP` of page CHPn (R365). -/
abbrev srcChpOwndrop (n : Nat) : Nat := srcIndex (0x140 + n) 5
/-- Source `KLRXOVF` of page CHPn (R365). -/
abbrev srcChpKlrxovf (n : Nat) : Nat := srcIndex (0x140 + n) 6
/-- Source `RXMISMATCH` of page PCK (R365). -/
abbrev srcPckRxmismatch : Nat := srcIndex 0xA 0
/-- Source `DRVMISMATCH` of page PCK (R365). -/
abbrev srcPckDrvmismatch : Nat := srcIndex 0xA 1
/-- Source `UNDERRUN` of page SCN (R365). -/
abbrev srcScnUnderrun : Nat := srcIndex 0xB 0
/-- Source `INCOMPLETE` of page SCN (R365). -/
abbrev srcScnIncomplete : Nat := srcIndex 0xB 1
/-- Source `HOLD` of page SCN (R365). -/
abbrev srcScnHold : Nat := srcIndex 0xB 2
/-- Source `LAYOUT` of page SCN (R365). -/
abbrev srcScnLayout : Nat := srcIndex 0xB 3
/-- Source `NOGRAIN` of page GRN (R365). -/
abbrev srcGrnNograin : Nat := srcIndex 0xC 0
/-- Source `TABFAIL` of page GRN (R365). -/
abbrev srcGrnTabfail : Nat := srcIndex 0xC 1
/-- Source `CLIP` of page GRN (R365). -/
abbrev srcGrnClip : Nat := srcIndex 0xC 2
/-- Source `BURNSTEP` of page GRN (R365). -/
abbrev srcGrnBurnstep : Nat := srcIndex 0xC 3
/-- Source `AGESAT` of page GRN (R365). -/
abbrev srcGrnAgesat : Nat := srcIndex 0xC 4
/-- Source `AGELOST` of page GRN (R365). -/
abbrev srcGrnAgelost : Nat := srcIndex 0xC 5
/-- Source `CKPTFAIL` of page GRN (R365). -/
abbrev srcGrnCkptfail : Nat := srcIndex 0xC 6
/-- Source `SETCLAMP` of page GRN (R365). -/
abbrev srcGrnSetclamp : Nat := srcIndex 0xC 7
/-- Source `LOCKLOST` of page LTB (R365). -/
abbrev srcLtbLocklost : Nat := srcIndex 0xD 0
/-- Source `EXPOUTSIDE` of page LTB (R365). -/
abbrev srcLtbExpoutside : Nat := srcIndex 0xD 1
/-- Source `OPEN` of page SNK (R365). -/
abbrev srcSnkOpen : Nat := srcIndex 0xE 0
/-- Source `SHORT` of page SNK (R365). -/
abbrev srcSnkShort : Nat := srcIndex 0xE 1
/-- Source `ROWFAULT` of page SNK (R365). -/
abbrev srcSnkRowfault : Nat := srcIndex 0xE 2
/-- Source `SERVOMAX` of page SNK (R365). -/
abbrev srcSnkServomax : Nat := srcIndex 0xE 3
/-- Source `MAPBAD` of page SNK (R365). -/
abbrev srcSnkMapbad : Nat := srcIndex 0xE 4
/-- Source `THERMCLAMP` of page SNK (R365). -/
abbrev srcSnkThermclamp : Nat := srcIndex 0xE 5
/-- Source `PROBESKIP` of page SNK (R365). -/
abbrev srcSnkProbeskip : Nat := srcIndex 0xE 6
/-- Source `CAL_PRECOND` of page CAL (R365). -/
abbrev srcCalCalPrecond : Nat := srcIndex 0xF 0
/-- Source `CALRANGE` of page CAL (R365). -/
abbrev srcCalCalrange : Nat := srcIndex 0xF 1
/-- Source `DRAMCE` of page DRC (R365). -/
abbrev srcDrcDramce : Nat := srcIndex 0x9 0
/-- Source `DRAMUE` of page DRC (R365). -/
abbrev srcDrcDramue : Nat := srcIndex 0x9 1
/-- Source `HOTDRAM` of page DRC (R365). -/
abbrev srcDrcHotdram : Nat := srcIndex 0x9 2
/-- Source `TRAINFAIL` of page DRC (R365). -/
abbrev srcDrcTrainfail : Nat := srcIndex 0x9 3
/-- Source `CHANDOWN` of page DRC (R365). -/
abbrev srcDrcChandown : Nat := srcIndex 0x9 4
/-- Source `ADDRRANGE` of page DRC (R365). -/
abbrev srcDrcAddrrange : Nat := srcIndex 0x9 5
/-- Source `OPREFUSED` of page DRC (R365). -/
abbrev srcDrcOprefused : Nat := srcIndex 0x9 6
/-- Source `CROSSLINK_LOST` of page PAIR (R365). -/
abbrev srcPairCrosslinkLost : Nat := srcIndex 0x12 0
/-- Source `JSTALE` of page PAIR (R365). -/
abbrev srcPairJstale : Nat := srcIndex 0x12 1
/-- Source `YIELDBLOCK` of page PAIR (R365). -/
abbrev srcPairYieldblock : Nat := srcIndex 0x12 2
/-- Source `PAIRDIVERGE` of page PAIR (R365). -/
abbrev srcPairPairdiverge : Nat := srcIndex 0x12 3
/-- Source `TAKEOVER` of page PAIR (R365). -/
abbrev srcPairTakeover : Nat := srcIndex 0x12 4
/-- Source `FROMSTALE` of page PAIR (R365). -/
abbrev srcPairFromstale : Nat := srcIndex 0x12 5
/-- Source `PAIRMISMATCH` of page PAIR (R365). -/
abbrev srcPairPairmismatch : Nat := srcIndex 0x12 6
/-- Source `STANDBYAGE` of page PAIR (R365). -/
abbrev srcPairStandbyage : Nat := srcIndex 0x12 7
/-- Source `DUALCLAIM` of page PAIR (R365). -/
abbrev srcPairDualclaim : Nat := srcIndex 0x12 8
/-- Source `SPLITDRIVE` of page PAIR (R365). -/
abbrev srcPairSplitdrive : Nat := srcIndex 0x12 9

/-- The row of R365 that an index names (R352). -/
def sourceSpec (idx : Nat) : Option SourceSpec :=
  match pageInfo (idx / 32) with
  | none => none
  | some p => p.type.sources[idx % 32]?

/-- The block index of the page that an index names (R449). -/
def sourceBlock (idx : Nat) : Nat :=
  match pageInfo (idx / 32) with
  | none => 0
  | some p => p.block

/-- The default reaction entry of a source as CLASS + 8 PIN + 16 BLOCK (R354, R365). -/
def reactDefault (idx : Nat) : Nat :=
  match sourceSpec idx with
  | none => 0
  | some r => r.cls + 8 * bit r.pin + 16 * sourceBlock idx

/-- The reaction entry of a source (R354). -/
def State.react (s : State) (idx : Nat) : Nat := sparseGet reactDefault s.flt.react idx

/-- `s` with a reaction entry stored: a reserved class is stored as 0, and the class of RETIRE stays note (R354). -/
def State.setReact (s : State) (idx v : Nat) : State :=
  let cls := if v % 8 < 4 then v % 8 else 0
  let cls := if idx == srcCmpRetire then 0 else cls
  { s with flt.react := sparsePut reactDefault s.flt.react idx (cls + 8 * (v / 8 % 2) + 16 * (v / 16 % 16)) }

/-- CLASS of a source's entry. -/
def State.reactClass (s : State) (idx : Nat) : Nat := s.react idx % 8

/-- PIN of a source's entry. -/
def State.reactPin (s : State) (idx : Nat) : Bool := testBit (s.react idx) 3

/-- BLOCK of a source's entry. -/
def State.reactBlock (s : State) (idx : Nat) : Nat := s.react idx / 16 % 16

/-- The real sticky bit of a source (R353). -/
def State.sticky (s : State) (idx : Nat) : Bool := testBit (s.fld (.hdrSticky (idx / 32))) (idx % 32)

/-- `s` with a real sticky bit set (R353). -/
def State.setSticky (s : State) (idx : Nat) : State := s.setFldBit (.hdrSticky (idx / 32)) (idx % 32) true

/-- PAGE_STAT.ANY of a page: OR of STICKY AND NOT STICKY_MASK (R31). -/
def State.pageAny (s : State) (p : Nat) : Bool :=
  ((s.reg (4096 * p + 0x18)) &&& ~~~(s.reg (4096 * p + 0x1C))) != 0

/-- Every page number of R427. -/
def allPages : List Nat := pageTable.flatMap (fun r => (List.range r.count).map (fun i => r.first + i))

/-- The pages of R427 that carry fault sources. -/
def sourcePages : List Nat :=
  pageTable.flatMap (fun r => if r.nsrc = 0 then [] else (List.range r.count).map (fun i => r.first + i))

/-- The pages that drive IRQ_N: IRQEN set and ANY reading 1 (R363), lowest number first. -/
def State.irqPages (s : State) : List Nat :=
  allPages.filter (fun p => s.flag (.hdrCtrlIrqen p) && s.pageAny p)

/-- IRQ_N is driven low (R363). -/
def State.irqLow (s : State) : Bool := !s.irqPages.isEmpty

/-- Some source whose entry has PIN set has its real sticky bit set (R362). -/
def State.pinSticky (s : State) : Bool :=
  sourcePages.any (fun p => (List.range 10).any (fun b => s.sticky (srcIndex p b) && s.reactPin (srcIndex p b)))

/-- FAULT_N is driven low (R362): from a full reset until STAGE 5 and while chuck holds, during thermal shutdown, and
while a source with PIN has its real sticky bit set. -/
def State.faultLow (s : State) : Bool :=
  s.ths.shutdown || s.boot.inReset || (!s.boot.warm && decide (s.fld .devBootstatStage < 5)) ||
    s.fld .devBootstatStage == 8 || s.pinSticky

/-- Some page of block `b` reads PAGE_STAT.ANY 1 (R449). -/
def State.blockAny (s : State) (b : Nat) : Bool :=
  pageTable.any (fun r => r.block == b && (List.range r.count).any (fun i => s.pageAny (r.first + i)))

/-- Some source whose class is safe-dark has its real sticky bit set (R355). -/
def State.darkSticky (s : State) : Bool :=
  sourcePages.any (fun p => (List.range 10).any (fun b => s.sticky (srcIndex p b) && s.reactClass (srcIndex p b) == 2))

/-- The pages of a block (R449). -/
def blockPages (b : Nat) : List Nat :=
  pageTable.flatMap (fun r => if r.block = b then (List.range r.count).map (fun i => r.first + i) else [])

/-- All pages of a page type. -/
def typePages (t : PageType) : List Nat :=
  pageTable.flatMap (fun r => if r.type = t then (List.range r.count).map (fun i => r.first + i) else [])

/-- The consumer pages masked for a reset of a block (R359). -/
def consumerPages (b : Nat) : List Nat :=
  let ts : List PageType := match b with
    | 0 => [.ing, .flw, .mon, .tim]
    | 1 => [.flw, .cmp]
    | 2 => [.stk, .cue, .chp, .pair]
    | 4 => [.chp, .pck, .mon, .pair]
    | 5 => [.kls, .chp, .stk, .cue, .scn, .pck, .pair]
    | 6 => [.kls, .chp, .stk, .cue, .scn, .pck, .pair]
    | 7 => [.ing, .flw, .mon, .cmp, .chp, .cue, .grn, .pck]
    | 9 => [.scn, .pck]
    | 10 => [.pck, .snk]
    | 11 => [.scn, .snk, .pck, .cal]
    | 12 => [.pck, .cal]
    | 14 => [.snk, .grn, .cal]
    | _ => []
  ts.flatMap typePages

/-- A page is covered by the open masking window of some block (R358). -/
def State.masked (s : State) (p : Nat) : Bool :=
  s.flt.windows.any (fun w => (blockPages w.block).contains p || (consumerPages w.block).contains p)

/-- `s` with the masking window of a block opened, or its count restarted (R358). -/
def State.openWindow (s : State) (b : Nat) : State :=
  let w : MaskWin := ⟨b, s.fld .fltCtrlMaskwin⟩
  { s with flt.windows := s.flt.windows.filter (fun x => x.block != b) ++ [w] }

/-- One stroke boundary for every open window whose block is ready: the window closes at the MASKWIN-th (R358). -/
def State.countWindows (s : State) : State :=
  let step := fun (w : MaskWin) =>
    if testBit s.boot.ready w.block then (if w.left ≤ 1 then none else some { w with left := w.left - 1 })
    else some w
  { s with flt.windows := s.flt.windows.filterMap step }

/-- The lowest page with a secondary bit set (R358). -/
def State.secAny (s : State) : Option Nat := (s.flt.secondary.find? (fun e => e.2 != 0)).map (fun e => e.1)

/-- `s` with a secondary bit of a source set (R358). -/
def State.setSecondary (s : State) (idx : Nat) : State :=
  let bits := setBit (assocGet s.flt.secondary (idx / 32) 0) (idx % 32) true
  { s with flt.secondary := assocPut s.flt.secondary (idx / 32) 0 bits }

/-- `s` with an event recorded in FLT.LOG (R364): the newest entry overwrites the oldest, and EVENTS advances. -/
def State.logFault (s : State) (idx : Nat) (real proof sec bw : Bool) (cls : Nat) : State :=
  let i := s.fld .fltLogstatNext
  let n := s.fld .fltLogstatCount
  let s := s.setReg (0x11100 + 8 * i)
    (Word.ofNat (idx + 2 ^ 16 * bit real + 2 ^ 17 * bit proof + 2 ^ 18 * bit sec + 2 ^ 19 * bit bw + 2 ^ 20 * cls))
  let s := s.setReg (0x11104 + 8 * i) (Word.ofNat s.stroke)
  let s := s.setFld .fltLogstatNext ((i + 1) % 32)
  let s := s.setFld .fltLogstatCount (if n < 32 then n + 1 else 32)
  s.bump .fltEvents 1

/-- A write of 1 bits to STICKY (R7, R351): the bits clear, and those of level sources whose pair still reads error set
again at once. -/
def State.clearSticky (s : State) (p : Nat) (bits : Word) : State :=
  let held := (List.range 32).foldl (fun (w : Word) b =>
    if s.flt.pairs.any (fun x => x.index == srcIndex p b && x.code == 2 && x.taken) then w ||| Word.ofNat (2 ^ b) else w) 0
  let old := s.reg (4096 * p + 0x18)
  s.setReg (4096 * p + 0x18) ((old &&& ~~~bits) ||| (old &&& held))

end Sys2Proof.Machine
end

