-- ==== Sys2Proof/Machine/Budget.lean ====
section
/-!
DEFINITION. The budgets of R20 to R23: line slots, chain ports, DRAM traffic. Each is computed from a register reader, so that a profile, a commit or the running state can be judged alike.
-/

namespace Sys2Proof.Machine

/-- Reads a register word: of the running state, or of the state a commit or a profile would make. -/
abbrev Reader := Nat → Word

/-- A field through a reader. -/
def Reader.fld (rd : Reader) (f : Fld) : Nat := f.get (rd f.addr)

/-! ### Line slots (R20) -/

/-- The line-slot ceiling of PWM width `n`: `floor(1 / (2^n * 156.25 ps + 0.48 us))` per second (R20). -/
def slotCeiling (n : Nat) : Nat := 4 * 10 ^ 12 / (2 ^ n * 625 + 1920000)

/-- Line slots per second of a profile, rounded up (R20). -/
def slotDemand (p : Profile) : Nat :=
  (p.rateNum * p.views * p.rows * p.subfr + p.rateDen - 1) / max 1 p.rateDen

/-- The line-slot budget holds (R20): the slots fit under the ceiling. -/
def slotFits (p : Profile) : Bool :=
  decide (p.rateNum * p.views * p.rows * p.subfr ≤ slotCeiling p.pwmBits * p.rateDen)

/-- A line slot with its row-change gap in ns: `2^n * 156.25 ps + 0.48 us` (R20), in units of 1/4 ps times 1000. -/
def slotQuarterPs (n : Nat) : Nat := 2 ^ n * 625 + 1920000

/-- The nominal stroke in ns. -/
def Profile.strokeNs (p : Profile) : Nat := p.rateDen * 10 ^ 9 / max 1 p.rateNum

/-- One view slot in ns (R212): rows times sub-frames line slots. -/
def Profile.viewNs (p : Profile) : Nat := p.rows * p.subfr * slotQuarterPs p.pwmBits / 4000

/-! ### Chain ports (R21, R207) -/

/-- Lane rate of a rate code in b/s (R58). -/
def rateBps (code : Nat) : Nat := [3125000000, 6250000000, 10312500000, 12500000000].getD code 3125000000

/-- Guaranteed payload of `lanes` lanes at a rate (R21), rate × 1,024/1,112 × 8/9 each, exactly: in b/s times 10,008. -/
def chainGuarantee (code lanes : Nat) : Nat := rateBps code * lanes * 8192

/-- Width and height counted for position `pos` of chain port `n`: as enumerated, or 170 × 96 (R207). -/
def Reader.tileSize (rd : Reader) (n pos : Nat) : Nat × Nat :=
  if rd.fld (.chpEnumrec3Valid n pos) == 1 then (rd.fld (.chpEnumrec2Tw n pos), rd.fld (.chpEnumrec2Th n pos))
  else (170, 96)

/-- Video cells per stroke of a tile of w by h pixels (R192). -/
def tileCells (views w h : Nat) : Nat := views * ((3 * w * h + 63) / 64)

/-- An ENUMR record stands at position `pos` of chain port `n` (R199). -/
def Reader.enumerated (rd : Reader) (n pos : Nat) : Bool := rd.fld (.chpEnumrec3Valid n pos) == 1

/-- The footprint of an enumerated tile lies within the canvas (R155). -/
def Reader.placeFits (rd : Reader) (n pos : Nat) : Bool :=
  let wh := rd.tileSize n pos
  let turned := rd.fld (.plcEntryRot n pos) % 2 == 1
  let w := if turned then wh.2 else wh.1
  let h := if turned then wh.1 else wh.2
  decide (rd.fld (.plcEntryX n pos) + w ≤ rd.fld .cmpCanvasWidth) &&
    decide (rd.fld (.plcEntryY n pos) + h ≤ rd.fld .cmpCanvasHeight)

/-- Position `pos` of chain port `n` counts as enabled (R155): its entry is, and once enumerated its footprint fits. -/
def Reader.placed (rd : Reader) (n pos : Nat) : Bool :=
  rd.fld (.plcEntryEn n pos) == 1 && (!rd.enumerated n pos || rd.placeFits n pos)

/-- Video cells per stroke of chain port `n` (R207): the sum over its enabled positions. -/
def Reader.chainCells (rd : Reader) (n views : Nat) : Nat :=
  ((List.range 64).map (fun p =>
    if rd.placed n p then
      let wh := rd.tileSize n p
      tileCells views wh.1 wh.2
    else 0)).sum

/-- Allowances of KLS.ALLOW in b/s (R207). -/
def Reader.allowBps (rd : Reader) : Nat :=
  (10 * rd.fld .klsAllowCue + 10 * rd.fld .klsAllowTunnel + rd.fld .klsAllowImage) * 10 ^ 6

/-- Demand of chain port `n` in b/s times `rateDen` times 128 times 10,008, exactly (R207). -/
def Reader.chainDemandScaled (rd : Reader) (n views rateNum rateDen g : Nat) : Nat :=
  ((rd.chainCells n views * 1024 + 4096) * rateNum * 128 + rd.allowBps * rateDen * 128) * 10008 + g * rateDen

/-- The demand of chain port `n` does not exceed its guaranteed payload `g` (R21, R207). -/
def Reader.chainFits (rd : Reader) (n views rateNum rateDen g : Nat) : Bool :=
  decide (rd.chainDemandScaled n views rateNum rateDen g ≤ g * rateDen * 128)

/-- Lanes that a chain port runs on: with a lane down it has half the payload (R180). -/
def State.lanesUp (s : State) (n : Nat) : Nat := 2 - bit (s.port n).lane0.down - bit (s.port n).lane1.down

/-- g of chain port `n` in force: at the chain rate over the lanes that run (R179, R180). -/
def State.chainG (s : State) (n : Nat) : Nat :=
  chainGuarantee (s.fld (.chpStatChainrate n)) (if s.lanesUp n == 1 then 1 else 2)

/-! ### Composition load and deadline (R161, R162) -/

/-- Length of the interval from `x` of length `w` clipped to `0 .. lim` (R161). -/
def clipLen (x w lim : Nat) : Nat := min (x + w) lim - min x lim

/-- Load of an enabled layer of area `a` and steps `sx`, `sy` (R161). -/
def layerLoad (a sx sy : Nat) : Nat := if sx * sy ≤ 2 ^ 32 then a else (a * sx * sy + 2 ^ 32 - 1) / 2 ^ 32

/-- Load of slot `i` of view `v` (R161). -/
def Reader.slotLoad (rd : Reader) (v i : Nat) : Nat :=
  let cw := rd.fld .cmpCanvasWidth
  let ch := rd.fld .cmpCanvasHeight
  if rd.fld (.vwLctrlEn v i) = 0 then 0
  else if rd.fld (.vwLctrlKind v i) = 2 then cw * ch
  else
    layerLoad (clipLen (rd.fld (.vwLdstX v i)) (rd.fld (.vwLdsizeW v i)) cw *
      clipLen (rd.fld (.vwLdstY v i)) (rd.fld (.vwLdsizeH v i)) ch) (rd.fld (.vwLstepx v i)) (rd.fld (.vwLstepy v i))

/-- `CMP.LOAD` (R161): the sum over the enabled layers of the composed views. -/
def Reader.load (rd : Reader) (views : Nat) : Nat :=
  ((List.range views).map (fun v => ((List.range 16).map (rd.slotLoad v)).sum)).sum

/-- Positions of chain port `n` that are enabled and enumerated. -/
def Reader.shownTiles (rd : Reader) (n : Nat) : List Nat :=
  (List.range 64).filter (fun p => rd.enumerated n p && rd.placed n p)

/-- What chain port `n` adds to D in µs, rounded up (R162): `bits(p) / g(p) + 1.2 us * n(p)`. -/
def Reader.portTime (rd : Reader) (n views g : Nat) : Nat :=
  let px := ((rd.shownTiles n).map (fun p => (rd.tileSize n p).1 * (rd.tileSize n p).2)).sum
  let tiles := ((List.range 64).filter (rd.enumerated n)).length
  (px * 48 * views * 10 ^ 7 * 10008 + 12 * tiles * g + 10 * g - 1) / max 1 (10 * g)

/-- D of R162 in µs, as `CMP.DEADLINE` reports it; `g` gives each port's guaranteed payload (times 10,008). -/
def Reader.deadline (rd : Reader) (views feather : Nat) (g : Nat → Nat) : Nat :=
  feather + ((List.range 8).map (fun n => rd.portTime n views (g n))).foldl max 0

/-- WINDOW of R162 in µs: `floor(LEAD * nominal stroke length - D)`, and 0 where D is longer. -/
def Reader.composeWindow (rd : Reader) (p : Profile) (g : Nat → Nat) : Nat :=
  (rd.fld .stkCtrlLead * p.rateDen * 10 ^ 6 - rd.deadline p.views p.feather g * p.rateNum) / max 1 p.rateNum

/-- The composition load fits (R162): at most 12,000 layer-pixels per µs of the window. -/
def Reader.loadFits (rd : Reader) (p : Profile) (g : Nat → Nat) : Bool :=
  decide (rd.load p.views ≤ 12000 * rd.composeWindow p g)

/-! ### DRAM traffic (R23, R304) -/

/-- Bytes and pixels of a pixel group (R138): SAMPLING 0 and 1 are 4:4:4, 2 is 4:2:2; DEPTH 0, 1, 2 are 10, 12, 16 bits.
None for a combination outside the table. -/
def pgroup (sampling depth : Nat) : Option (Nat × Nat) :=
  match sampling, depth with
  | 0, 0 => some (15, 4) | 0, 1 => some (9, 2) | 0, 2 => some (6, 1)
  | 1, 0 => some (15, 4) | 1, 1 => some (9, 2) | 1, 2 => some (6, 1)
  | 2, 0 => some (5, 2) | 2, 1 => some (6, 2) | 2, 2 => some (8, 2)
  | _, _ => none

/-- The stride of a flow surface line (R138): whole pixel groups, rounded up to a multiple of 64 bytes. -/
def flowStride (sampling depth width : Nat) : Nat :=
  match pgroup sampling depth with
  | none => 0
  | some (bytes, px) => ((width + px - 1) / px * bytes + 63) / 64 * 64

/-- Bytes of one stored frame of flow `n`. -/
def Reader.flowBytes (rd : Reader) (n : Nat) : Nat :=
  flowStride (rd.fld (.flwFmtSampling n)) (rd.fld (.flwFmtDepth n)) (rd.fld (.flwSizeWidth n)) * rd.fld (.flwSizeHeight n)

/-- Ingest in Mb/s at the subscribed rates: each enabled flow is written once, at the rate it declares (R23, R136; log entry 109). -/
def Reader.ingestMbps (rd : Reader) : Nat :=
  ((List.range 16).map (fun n => if rd.fld (.flwCtrlEnable n) = 1 then rd.fld (.flwRateMbps n) else 0)).sum

/-- Bytes per stroke, times 12, of R23's list without ingest and the journal: composition, staging written and read,
writeback and monitor reads. -/
def Reader.strokeBytes12 (rd : Reader) (views : Nat) : Nat :=
  let canvas := rd.fld .cmpCanvasWidth * rd.fld .cmpCanvasHeight
  let tiles := ((List.range 8).map (fun n => ((List.range 64).map (fun p =>
    if rd.placed n p then (rd.tileSize n p).1 * (rd.tileSize n p).2 else 0)).sum)).sum
  let mon := rd.fld .monCtrlEnable == 1
  let back := ((List.range views).filter (fun v =>
    rd.fld (.vwCtrlWben v) == 1 || (mon && rd.fld .monCtrlView == v))).length
  12 * (8 * rd.load views + 12 * tiles * views + 6 * canvas * back) +
    (if mon then 72 * canvas / (rd.fld .monCtrlDiv + 1) else 0)

/-- Planned traffic of R23 in bytes per second, times 12 times `rateDen`; the journal of a paired sender counts 0.1 GB/s. -/
def Reader.plan12 (rd : Reader) (p : Profile) : Nat :=
  rd.strokeBytes12 p.views * p.rateNum + 12 * p.rateDen * (125000 * rd.ingestMbps + (if p.pair = 1 then 10 ^ 8 else 0))

/-- Peak of a channel at an operating point in units of 10 MB/s (R304). -/
def opPeak (op : Nat) : Nat := [3413, 2560, 1706, 1280].getD op 1280

/-- The DRAM budget of R304 holds at operating point `op` over `n` channels. -/
def Reader.dramFits (rd : Reader) (p : Profile) (n op : Nat) (ecc : Bool) : Bool :=
  decide (rd.plan12 p * (if ecc then 9 else 8) ≤ 6 * n * opPeak op * 10 ^ 7 * (12 * p.rateDen))

/-- PLAN of `DRC.BUDGET` in 0.1 GB/s, rounded (R304). -/
def Reader.planTenths (rd : Reader) (p : Profile) (ecc : Bool) : Nat :=
  (roundDiv (rd.plan12 p * (if ecc then 9 else 8) : Nat) (96 * max 1 p.rateDen * 10 ^ 8)).toNat

/-- LIMIT of `DRC.BUDGET` in 0.1 GB/s, rounded (R304). -/
def limitTenths (n op : Nat) : Nat := (roundDiv (3 * n * opPeak op : Nat) 40).toNat

/-! ### The running configuration -/

/-- The composition load of the running configuration fails its budget (R162). -/
def State.composeOver (s : State) : Bool :=
  match s.boot.profile with
  | none => false
  | some p => decide (0 < s.fld .cmpCanvasWidth) && !(Reader.loadFits s.reg p s.chainG)

/-- `CHPn.BUDGET` and the CHAINBUDGET source follow the port's demand and guaranteed payload (R207); COMPBUDGET follows the
composition load as D changes (R162). -/
def State.judgeChain (s : State) (n : Nat) : State :=
  if !s.isSender then s
  else
    let g := s.chainG n
    let den := max 1 (s.prof (·.rateDen))
    let rd : Reader := s.reg
    let d := rd.chainDemandScaled n (s.prof (·.views)) (s.prof (·.rateNum)) den g
    let s := s.setFld (.chpBudgetDemand n) (min 65535 (d / (den * 128 * 10008 * 10 ^ 6)))
    let s := s.setFld (.chpBudgetGuar n) (min 65535 (g / (10008 * 10 ^ 6)))
    let running := decide (2 ≤ s.fld (.chpStatState n)) && s.flag (.chpCtrlEnable n)
    let s := s.level (srcChpChainbudget n) (running && !rd.chainFits n (s.prof (·.views)) (s.prof (·.rateNum)) den g)
    s.level srcCmpCompbudget s.composeOver

end Sys2Proof.Machine
end

