-- ==== Sys2Proof/Machine/Time.lean ====
section
/-!
DEFINITION. Network time, strokes and camera phases (spec/04, R80 to R105): the time counter, transmit timestamps, the PTP servo, the stroke generator of a sender, the marker follower of a tile, and the SHUT inputs.
-/

namespace Sys2Proof.Machine

/-! ### Offset and rate (R81 to R85) -/

/-- The largest rate, 500 ppm in units of 2^-40 (R82). -/
def rateLimit : Int := 549755813

/-- Take a rate: the correction so far folds into the offset and the base moves to frc, so t is continuous (R82). -/
def State.takeRate (s : State) (rate : Int) : State :=
  let s := { s with time.offset := s.time.offset + s.corr, time.base := s.frc }
  s.setSfld .timRate (clampInt (-rateLimit) rateLimit rate)

/-- A write of TIM.RATE (R82, R85): ignored in a tile; a value outside the range is stored as the nearer limit and
raises RATECLAMP. -/
def writeRate (s : State) (data : Word) : State :=
  if s.isTile then s
  else
    let rate := signed 32 data.toNat
    let s := s.takeRate rate
    if rate < -rateLimit ∨ rateLimit < rate then s.raise srcTimRateclamp else s

/-- Instants of the clock that are kept while t steps move by the step, since what they stand for does not move (R83, R95; DEDUCED, log entry
115): the last catch, the last reference edge, the SHUT edges, and in a tile the coming catch, the last marker and the last latch. -/
def State.shiftInstants (s : State) (delta : Int) : State :=
  { s with
    time.catchAt := s.time.catchAt + delta
    time.lastEdge := s.time.lastEdge.map (· + delta)
    time.shut := s.time.shut.map (fun x => { x with rise := x.rise.map (· + delta) })
    time.marker := s.time.marker.map (fun m => (m.1, m.2 + delta))
    scan.markerAt := s.scan.markerAt + delta
    scan.latchAt := s.scan.latchAt + delta }

/-- A step of t by `delta` (R83, R85). -/
def State.stepTime (s : State) (delta : Int) : State :=
  ({ s with time.offset := s.time.offset + delta }).shiftInstants delta

/-- A step applied to the offset (R83): SEQ advances and RESULT reads 1. -/
def State.applyStep (s : State) (delta : Int) : State :=
  let s := s.stepTime delta
  (s.advance .timStepstatSeq).setFld .timStepstatResult 1

/-- The signed 64-bit step of STEPHI and STEPLO (R83). -/
def State.stepDelta (s : State) : Int := signed 64 (s.fld .timStephi * 2 ^ 32 + s.fld .timSteplo)

/-- A step refused as a jump (R83). -/
def State.refuseStep (s : State) : State := ((s.setFld .timStepstatResult 2).advance .timStepstatRefused).raise srcTimJumpref

/-- A write of STEPCMD.GO (R83, R85). -/
def stepGo (s : State) (force : Bool) : State :=
  if s.isTile then s.setFld .timStepstatResult 3
  else if s.stepDelta.natAbs ≤ s.fld .timJumplim ∨ force then
    let s := if force then { s with time.timeSet := true } else s
    s.applyStep s.stepDelta
  else s.refuseStep

/-! ### Transmit timestamps (R88, R89) -/

/-- A write of TXQPOP (R88, R105): the oldest entry goes; an empty queue is left as it is. -/
def popTxq (s : State) (q : Nat) : State := { s with time.txq := listModify s.time.txq q (fun l => l.drop 1) }

/-- A transmit timestamp is taken on port `q` (R86, R88, R89): the identifier is consumed; the entry is queued, or with
64 entries queued it is discarded, LOST advances and TXTSOVF is raised. -/
def takeTxStamp (s : State) (q : Nat) : State :=
  let id := s.time.txId.getD q 0
  let lat := s.fld (.timPortlatTxlat q)
  let ns := wrap32 (unsigned 64 (s.now + lat))
  let s := { s with time.txId := listModify s.time.txId q (fun n => (n + 1) % 2 ^ 16) }
  if testBit s.boot.testing 2 then s
  else if 64 ≤ (s.time.txq.getD q []).length then
    (s.advance (.timTxqstatLost q)).raise srcTimTxtsovf
  else
    { s with time.txq := listModify s.time.txq q (fun l => l ++ [⟨id, ns, s.fld .timStepstatSeq % 16⟩]) }

/-- PTP_TX_TIMESTAMP: a frame sent with a timestamp request is timestamped as it leaves (R88, R89). -/
def execPtpTxTimestamp (queue : Nat) (s : State) : Result := run s (takeTxStamp · queue)

/-! ### The PTP servo (R90, R91) -/

/-- One data set precedes another in the order of comparison of the best master clock algorithm (R90). -/
def betterMaster : List Nat → List Nat → Bool
  | [], _ => false
  | _, [] => false
  | a :: as, b :: bs => decide (a < b) || (a == b && betterMaster as bs)

/-- The port that carries the PTP session of the MC: NP port PORT with OWNER 0, MP with OWNER 1 (R90). -/
def State.ptpPort (s : State) : Nat := if s.fld .timPtpcfgOwner == 0 then s.fld .timPtpcfgPort else 4

/-- The MC owns the servo: OWNER is 0 or 1 (R90). -/
def State.servoRuns (s : State) : Bool := s.isSender && decide (s.fld .timPtpcfgOwner < 2)

/-- An Announce in the configured domain: the better data set is the master; from free run or holdover the servo acquires (R91). -/
def ptpAnnounce (s : State) (domain : Nat) (ds : List Nat) : State :=
  if !s.servoRuns || domain != s.fld .timPtpcfgDomain then s
  else
    let sel := match s.time.master with
      | none => ds
      | some m => if betterMaster ds m then ds else m
    let s := { s with time.master := some sel }
    if s.fld .timPtpstatState == 0 || s.fld .timPtpstatState == 3 then
      let again := s.fld .timPtpstatState == 3
      (({ s with time.syncGood := 0, time.syncBad := 0, time.rejoined := again }).setFld .timPtpstatState 1).lower srcTimHoldover
    else s

/-- The state that a Sync's offset leads to (R91), with the run lengths of good and bad offsets. -/
def syncState (state good bad : Nat) : Nat :=
  if state == 1 && 16 ≤ good then 2 else if state == 2 && 4 ≤ bad then 1 else state

/-- While it acquires, the servo may also step within JUMPLIM (R91): by how much is open, so the step is a free value. -/
def State.servoStep (s : State) : State :=
  let (n, s) := s.draw
  let lim : Int := s.fld .timJumplim
  let d := clampInt (-lim) lim (Config.freeInt n)
  if d == 0 then s else s.applyStep d

/-- The first Sync after holdover (R91): the step that would close the gap is refused under R83 when it is beyond JUMPLIM. -/
def State.rejoinStep (s : State) (offset : Int) : State :=
  let s := { s with time.rejoined := false }
  if s.fld .timJumplim < offset.natAbs then s.refuseStep else s.servoStep

/-- Offset from the master of a Sync (R86, R90): the receive timestamp, RXLAT subtracted, minus the master's, minus the path delay. `raw` is
the difference of the two timestamps before RXLAT is subtracted. -/
def State.syncOffset (s : State) (raw : Int) : Int := raw - s.fld (.timPortlatRxlat s.ptpPort) - s.fld .timPtpdelay

/-- The run lengths of good and bad offsets and the state they lead to (R91). -/
def State.judgeSync (s : State) (offset : Int) : State :=
  let good := if offset.natAbs ≤ 40 then s.time.syncGood + 1 else 0
  let bad := if 200 < offset.natAbs then s.time.syncBad + 1 else 0
  let state := s.fld .timPtpstatState
  let next := syncState state good bad
  { s with time.syncGood := if next == state then good else 0, time.syncBad := if next == state then bad else 0 }.setFld .timPtpstatState next

/-- A Sync of the selected master (R91): the first offset is a forced step; later corrections are made by rate and, while acquiring, by steps
within JUMPLIM. Their control law is open, so the new rate is a free value within the range of R82. -/
def ptpSync (s : State) (ds : List Nat) (raw : Int) : State :=
  if !s.servoRuns || s.time.master != some ds || !(s.fld .timPtpstatState == 1 || s.fld .timPtpstatState == 2) then s
  else
    let offset := s.syncOffset raw
    let acquiring := s.fld .timPtpstatState == 1
    let s := (s.setSfld .timPtpoffset (clampInt (-2 ^ 31) (2 ^ 31 - 1) offset)).judgeSync offset
    if !s.time.servoStepped then
      ({ s with time.servoStepped := true, time.timeSet := true, time.rejoined := false }).applyStep (-offset)
    else
      let (n, s) := s.draw
      let s := s.takeRate (Config.freeInt n)
      if s.time.rejoined then s.rejoinStep offset else if acquiring then s.servoStep else s

/-- A delay measurement towards the selected master (R86, R90): `both` is the sum of the two one-way differences before the port's latencies
are taken into account, the same for either delay mechanism; the mean path delay is half of it, rounded down and 0 at least. -/
def ptpDelay (s : State) (ds : List Nat) (both : Int) : State :=
  if !s.servoRuns || s.time.master != some ds then s
  else
    let q := s.ptpPort
    let d := Int.fdiv (both - s.fld (.timPortlatRxlat q) - s.fld (.timPortlatTxlat q)) 2
    s.setFld .timPtpdelay (min (2 ^ 32 - 1) d.toNat)

/-- No Announce or Sync for 3 announce intervals (R91): holdover with the last rate kept. -/
def ptpHoldover (s : State) : State :=
  if s.servoRuns && (s.fld .timPtpstatState == 1 || s.fld .timPtpstatState == 2) then
    (({ s with time.master := none }).setFld .timPtpstatState 3).raise srcTimHoldover
  else s

/-- PTP_HOLDOVER (R91). -/
def execPtpHoldover (s : State) : Result := run s ptpHoldover

/-- A write of TIM.PTPCFG (R90): in a tile only OWNER 3 is stored; PTPSTAT follows the owner. -/
def afterPtpcfg (s : State) : State :=
  let s := if s.isTile then s.setFld .timPtpcfgOwner 3 else s
  let owner := s.fld .timPtpcfgOwner
  let free := fun (s : State) => { s with time.master := none, time.servoStepped := false }
  if owner == 2 then ((free s).setFld .timPtpstatState 4).lower srcTimHoldover
  else if owner == 3 then ((free s).setFld .timPtpstatState 0).lower srcTimHoldover
  else if s.fld .timPtpstatState == 4 then s.setFld .timPtpstatState 0
  else s

/-! ### The stroke generator of a sender (R92 to R97, R100) -/

/-- T(k) of R92. -/
def catchTime (num den : Nat) (phase : Int) (k : Nat) : Int :=
  (((k * den * 10 ^ 9 + num - 1) / (max num 1) : Nat) : Int) + phase

/-- T(k) with the profile's rate and STK.PHASE (R92). -/
def State.catchOf (s : State) (k : Nat) : Int :=
  catchTime (s.prof (·.rateNum)) (s.prof (·.rateDen)) (s.sfld .stkPhase) k

/-- The nominal length of stroke k (R95). -/
def State.nominal (s : State) (k : Nat) : Nat := (s.catchOf (k + 1) - s.catchOf k).toNat

/-- The frame count of R92 nearest an instant (R94). -/
def State.nearestFrame (s : State) (t : Int) : Nat :=
  (roundDiv ((t - s.sfld .stkPhase) * (s.prof (·.rateNum) : Int)) (max 1 (s.prof (·.rateDen) * 10 ^ 9))).toNat

/-- FRAMEREF_OUT goes to its active level at a catch when OUTEN is set (R100). -/
def State.pulseOut (s : State) : State := if s.flag .stkRefioOuten then { s with time.refOut := true } else s

/-- The level of the FRAMEREF_OUT pin (R100): OUTPOL 0 makes the pulse high. -/
def State.refOutHigh (s : State) : Bool := s.time.refOut != s.flag .stkRefioOutpol

/-- FRAMEREF_OUT_PULSE_END: the pulse ends OUTWIDTH after the catch (R100). -/
def execFramerefOutPulseEnd (s : State) : Result := run s fun s => { s with time.refOut := false }

/-- The spare time in ns (R95): what the feather interval and the line slots, with the gaps between views, leave of the shortest nominal
stroke, under the schedule in force. -/
def State.spareNs (s : State) : Nat :=
  match s.boot.profile with
  | none => 0
  | some p =>
    let start := if s.isTile then (s.scan.sched.getD (p.views - 1) ⟨0, 0, 0⟩).start else (s.time.starts.getD (p.views - 1) (0, false)).1
    (p.strokeNs * 4000 - (p.feather + start) * 4000000 - p.rows * p.subfr * slotQuarterPs p.pwmBits) / 4000

/-- The adjustment of the coming stroke's length (R95). -/
def strokeAdjust (source : Nat) (slewNs spareNs : Nat) (err freq : Int) : Int :=
  let lim : Int := slewNs
  let adj := if source == 0 then clampInt (-lim) lim err else clampInt (-lim) lim (Int.fdiv err 8 + freq)
  if adj < -(spareNs : Int) then -(spareNs : Int) else adj

/-- The reference instant nearest an instant and its frame count (R92, R94): T(k) with source 0, else the last valid edge plus phase, carried
on by whole nominal strokes (DEDUCED, log entry 45); with no valid edge the instant itself. -/
def State.referenceAt (s : State) (t : Int) : Int × Nat :=
  let k := s.nearestFrame t
  if s.prof (·.strokeSrc) == 0 then (s.catchOf k, k)
  else match s.time.lastEdge with
    | none => (t, k)
    | some e =>
      let num : Int := max 1 (s.prof (·.rateNum))
      let den := max 1 (s.prof (·.rateDen) * 10 ^ 9)
      let at0 := e + s.sfld .stkPhase
      let r := at0 + roundDiv (roundDiv ((t - at0) * num) den * (den : Int)) num.toNat
      (r, s.nearestFrame r)

/-- The predicted catch (R95): one length after the last catch; the present instant before any catch was placed. -/
def State.dueCatch (s : State) : Int := if s.time.running then s.time.catchAt + s.time.length else s.now

/-- The generator takes its first catch since it started, or jumps before STAGE 7 (R94, R95): the number is the frame
count nearest the reference, or with an edge source and no time set it starts at 0 with NOEPOCH. -/
def State.placeFirst (s : State) : State :=
  let src := s.prof (·.strokeSrc)
  let (reference, counted) := s.referenceAt s.dueCatch
  let epoch := src == 0 || s.time.timeSet
  let k := if epoch then counted else (if s.time.running then s.time.frame + 1 else 0)
  let s := { s with time.running := true, time.frame := k, time.catchAt := reference,
                    time.freq := 0, time.length := s.nominal k }
  let s := s.setFld .stkStatNoepoch (bit (!epoch))
  (s.setFld .stkNow k).setFld .stkLen (s.nominal (k - 1))

/-- A catch in service (R95, R96): one stroke on, err measured against the reference, the next length set, and the running
number compared with the reference's. NUMSKEW keeps the last difference once the numbers agree again (DESIGN CHOICE, log entry 116). -/
def State.placeNext (s : State) : State :=
  let src := s.prof (·.strokeSrc)
  let k := s.time.frame + 1
  let due := s.dueCatch
  let (reference, near) := s.referenceAt due
  let fly := s.fld .stkStatLock == 2
  let err := if fly then 0 else reference - due
  let freq := if src == 0 || fly then s.time.freq else s.time.freq + Int.fdiv err 256
  let adj := strokeAdjust src (1000 * s.fld .stkCtrlSlew) s.spareNs err freq
  let next := if fly then s.time.length else ((s.nominal k : Int) + adj).toNat
  let s := (s.setFld .stkLen s.time.length).setSfld .stkPherr (clampInt (-2 ^ 31) (2 ^ 31 - 1) err)
  let s := { s with time.frame := k, time.catchAt := due, time.freq := freq, time.length := next }
  let s := s.setFld .stkNow k
  let counted : Int := if src == 0 || s.time.timeSet then near else k
  if fly || counted == k then s
  else (s.setSfld .stkNumskew (counted - k)).raise srcStkNumskew

/-- A catch can be placed (R94): the generator runs, or its source has given a reference. -/
def State.mayCatch (s : State) : Bool := s.time.running || s.prof (·.strokeSrc) == 0 || s.time.lastEdge.isSome

/-- The generator no longer jumps (R69, R95, R105): in service, in a warm restart with hold-through, and while it flywheels. -/
def State.steady (s : State) : Bool :=
  s.time.running && (s.fld .devBootstatStage == 7 || (s.boot.warm && s.boot.holdThrough) || s.fld .stkStatLock == 2)

/-- The generator measures err and sets the length of the coming stroke (R95, R96); FRAMEREF_OUT pulses (R100). -/
def senderCatch (s : State) : State :=
  if !s.isSender || !s.mayCatch then s
  else
    let s := if s.steady then s.placeNext else s.placeFirst
    let s := s.setFld .stkStatSrc (s.prof (·.strokeSrc))
    let s := if s.prof (·.strokeSrc) == 0 then s.setFld .stkStatLock 1 else s
    s.pulseOut

/-- An interval lies within 0.1 % of the nominal stroke (R94). -/
def State.validInterval (s : State) (d : Int) : Bool :=
  let nom : Int := (s.prof (·.rateDen) : Nat) * 10 ^ 9
  decide ((d * (s.prof (·.rateNum) : Nat) - nom).natAbs * 1000 ≤ nom.natAbs)

/-- FRAMEREF_IN_EDGE (R94): `source` 1 is FRAMEREF_IN, whose active edge REFIO.INEDGE selects, 2 is SHUT0, whose rising
edge counts. An edge out of range is ignored and treated as missing; four valid edges lock. -/
def framerefEdge (s : State) (source : Nat) (rising : Bool) (t : Int) : State :=
  let active := if source == 1 then rising != s.flag .stkRefioInedge else rising
  if !s.isSender || s.prof (·.strokeSrc) != source || source == 0 || !active then s
  else
    let ok := match s.time.lastEdge with
      | none => true
      | some e => s.validInterval (t - e)
    if !ok then s
    else
      let n := if s.time.lastEdge.isNone then 1 else min 4 (s.time.edges + 1)
      let s := { s with time.lastEdge := some t, time.edges := n }
      if 4 ≤ n then (s.setFld .stkStatLock 1).lower srcStkReflost else s

/-- FRAMEREF_IN_EDGE (R94). -/
def execFramerefInEdge (source : Nat) (rising : Bool) (instant : Int) (s : State) : Result :=
  run s (framerefEdge · source rising instant)

/-- Three strokes without a valid reference edge (R94): REFLOST, and the generator flywheels. -/
def refLost (s : State) : State :=
  if s.isSender && (s.prof (·.strokeSrc) == 1 || s.prof (·.strokeSrc) == 2) then
    (({ s with time.edges := 0, time.lastEdge := none }).setFld .stkStatLock 2).raise srcStkReflost
  else s

/-- REFLOST (R94). -/
def execReflost (s : State) : Result := run s refLost

/-! ### SHUT inputs and views (R101, R103) -/

/-- The sum of measurements in ns. -/
def sumNs (l : List (Nat × Int)) : Int := l.foldl (fun a x => a + x.2) 0

/-- The mean of measurements in ns, rounded to 1 µs (R101). -/
def meanUs (l : List (Nat × Int)) : Nat := if l.isEmpty then 0 else (roundDiv (sumNs l) (1000 * l.length)).toNat

/-- A measurement of frame count `k` joins an average (R101): those of the last 8 strokes count; the fourth in a row more than 10 µs from the
average, whose run length is `run`, restarts it. The new list and run length. -/
def joinAverage (k : Nat) (l : List (Nat × Int)) (run : Nat) (x : Int) : List (Nat × Int) × Nat :=
  let out := !l.isEmpty && decide (10000 * l.length < (x * l.length - sumNs l).natAbs)
  if out && decide (3 ≤ run) then ([(k, x)], 0)
  else (l.filter (fun y => decide (k < y.1 + 8)) ++ [(k, x)], if out then run + 1 else 0)

/-- A rising edge of a SHUT input (R101): the phase joins its average. -/
def ShutState.rising (x : ShutState) (k : Nat) (t phase : Int) : ShutState :=
  let r := joinAverage k x.phases x.phaseOut phase
  { x with phases := r.1, phaseOut := r.2, rise := some t, lost := false }

/-- A falling edge of a SHUT input (R101): the width since the rising edge joins its average. -/
def ShutState.falling (x : ShutState) (k : Nat) (t : Int) : ShutState :=
  match x.rise with
  | none => x
  | some e =>
    let r := joinAverage k x.widths x.widthOut (t - e)
    { x with widths := r.1, widthOut := r.2, rise := none, lost := false }

/-- VIEWMEAS of the views that select SHUT input `n` shows its averages (R101). -/
def State.showShut (s : State) (n : Nat) : State :=
  let x := s.time.shut.getD n ShutState.reset
  iterate 4 (fun s v =>
    if v != 0 && s.fld (.stkViewcfgSrc v) == n + 1 then
      (s.setFld (.stkViewmeasPhase v) (meanUs x.phases)).setFld (.stkViewmeasWidth v) (meanUs x.widths)
    else s) s

/-- SHUT_EDGE: an edge of SHUTn (R101). The phase is the offset from the last catch. SHUTLOST ends once no input is lost. -/
def shutEdge (s : State) (n : Nat) (rising : Bool) (t : Int) : State :=
  if !s.isSender then s
  else
    let f := fun x => if rising then ShutState.rising x s.time.frame t (t - s.time.catchAt) else ShutState.falling x s.time.frame t
    let s := { s with time.shut := listModify s.time.shut n f }
    let s := s.showShut n
    s.level srcStkShutlost (s.time.shut.any (·.lost))

/-- SHUT_EDGE (R101). -/
def execShutEdge (input : Nat) (rising : Bool) (instant : Int) (s : State) : Result :=
  run s (shutEdge · input rising instant)

/-- A SHUT input with no edge for 3 strokes keeps its values and raises SHUTLOST (R101). -/
def shutLost (s : State) (n : Nat) : State :=
  if !s.isSender || 4 ≤ n then s
  else ({ s with time.shut := listModify s.time.shut n (fun x => { x with lost := true }) }).raise srcStkShutlost

/-- SHUTLOST (R101). -/
def execShutlost (input : Nat) (s : State) : Result := run s (shutLost · input)

/-- The stroke length in µs that START and windows are taken modulo (R101), rounded down to whole µs (DESIGN CHOICE, log entry 117). -/
def State.strokeUs (s : State) : Nat := max 1 (s.nominal s.time.frame / 1000)

/-- START of view `v` that the configuration asks for (R101): fixed, or tracked from a SHUT input. -/
def State.viewStartOf (s : State) (v : Nat) : Nat :=
  if v == 0 then 0
  else
    let src := s.fld (.stkViewcfgSrc v)
    let off := s.fld (.stkViewcfgOffset v)
    if src == 0 then off
    else (meanUs (s.time.shut.getD (src - 1) ShutState.reset).phases + off) % s.strokeUs

/-- The exposure window of view `v` (R101): start and length in µs, the start taken modulo the stroke. -/
def State.viewExposure (s : State) (v : Nat) : Nat × Nat :=
  let src := s.fld (.stkViewcfgSrc v)
  if v == 0 || src == 0 then (s.fld (.stkViewexpExpoff v), s.fld (.stkViewexpExplen v))
  else
    let x := s.time.shut.getD (src - 1) ShutState.reset
    let g := s.fld .stkCtrlGuard
    ((meanUs x.phases + s.strokeUs - g % s.strokeUs) % s.strokeUs, meanUs x.widths + 2 * g)

/-- The schedule of every view in force (R103). -/
def State.schedule (s : State) : List ViewSched :=
  (List.range (s.prof (·.views))).map (fun v =>
    ⟨(s.time.starts.getD v (0, false)).1, (s.viewExposure v).1, (s.viewExposure v).2⟩)

/-- The received or computed schedule as VIEWSTAT shows it (R103). -/
def State.showSchedule (s : State) (l : List ViewSched) : State :=
  iterate l.length (fun s v =>
    let x := l.getD v ⟨0, 0, 0⟩
    (s.setFld (.stkViewstatStart v) x.start).setFld (.stkViewstatExpstart v) x.expStart) s

/-! ### The follower of a tile (R85, R98, R99) -/

/-- A marker's catch instant on the tile's timescale, in ns: arrival plus 200 µs minus the accumulated delay (R98). -/
def markerCatch (arrival accum : Nat) : Int := Int.fdiv ((arrival : Int) + 3200000 - accum) 16

/-- A stroke's catch was placed, or is about to be, under the missing-marker rule (R99): its number comes after the newest marker and is not
after the newest catch placed. -/
def State.placedWithout (s : State) (k : Nat) : Bool :=
  match s.time.lastMarker with
  | none => false
  | some m =>
    let newest := match s.time.marker with
      | some (c, _) => c.stroke
      | none => s.stroke
    strokeAfter k m && strokeAtOrAfter newest k

/-- A marker from the serving port (R98, R99): `accum` has the link's delay added. One whose catch has been placed under the missing-marker
rule is late and discarded; one that is not the predicted stroke is adopted with NUMSKEW. -/
def takeMarker (s : State) (c : StrokeCell) (accum arrival : Nat) : State :=
  if s.time.locked && s.placedWithout c.stroke then s
  else
    let s := s.setFld .stkAccum (accum / 16)
    let at_ := markerCatch arrival accum
    let skew := s.time.locked && c.stroke != wrap32 (s.stroke + 1)
    let s := if skew then
        (s.setSfld .stkNumskew (signed 32 (strokesAhead c.stroke (s.stroke + 1)))).raise srcStkNumskew else s
    let iv := if s.time.lastMarker == some (wrap32 (c.stroke + 2 ^ 32 - 1)) && s.time.locked then
        (at_ - s.time.catchAt).toNat else c.length
    { s with time.marker := some (c, at_), time.interval := iv, time.lastMarker := some c.stroke,
             scan.markerAt := Int.fdiv arrival 16 }

/-- MARKER_MISSING: the marker has not arrived by its catch (R99): the tile places the catch one stroke length after the
previous one, under the next number; MISSED advances and MARKERMISS is raised. -/
def markerMissing (s : State) : State :=
  if !s.isTile || !s.time.locked || s.time.marker.isSome then s
  else
    let c : StrokeCell := ⟨wrap32 (s.stroke + 1), 0, 0, s.time.interval, false,
      (List.range (s.prof (·.views))).map (fun v =>
        ⟨s.fld (.stkViewstatStart v), s.fld (.stkViewstatExpstart v), 0⟩)⟩
    let s := { s with time.marker := some (c, s.time.catchAt + s.time.interval) }
    (s.advance .stkMarkerMissed).raise srcStkMarkermiss

/-- MARKER_MISSING (R99). -/
def execMarkerMissing (s : State) : Result := run s markerMissing

/-- The follower places its catch (R85, R98, R99, R103): the number is the marker's, or one on; the schedule of a received
marker applies; t steps to the marker's catch time and the rate is taken from recent markers, by a law the manual leaves
open, so it is a free value. TIM.RATE shows that rate (DESIGN CHOICE, log entry 108). -/
def State.followCatch (s : State) : State :=
  match s.time.marker with
  | none =>
    let s := { s with time.catchAt := s.time.catchAt + s.time.interval, time.length := s.time.interval }
    s.setFld .stkNow (s.stroke + 1)
  | some (c, at_) =>
    let s := s.setFld .stkLen (at_ - s.time.catchAt).toNat
    let real := s.time.lastMarker == some c.stroke
    let s := { s with time.marker := none, time.locked := true, time.catchAt := at_, time.length := c.length,
                      chain.unchanged := c.unchanged }
    let s := (s.setFld .stkNow c.stroke).setFld .stkStatSrc 3
    let s := s.setFld .stkStatLock (if real then 1 else 2)
    if real then
      let (n, s) := s.draw
      let s := (s.takeRate (Config.freeInt n)).showSchedule c.views
      let s := s.shiftInstants ((c.tk : Int) - at_)
      { s with time.offset := s.time.offset + ((c.tk : Int) - s.now) }
    else s

end Sys2Proof.Machine
end

