-- ==== Sys2Proof/Machine/Net.lean ====
section
/-!
DEFINITION. Network ports (spec/05, R115 to R135): frame counts, pause, low-power idle, LLDP, ARP and ICMP, and the MP packet path. Ports are numbered 0 to 3 for NP0 to NP3 and 4 for MP.
-/

namespace Sys2Proof.Machine

/-! ### Ports and counters (R115, R128) -/

/-- The page of a port. -/
def netPage (q : Nat) : Nat := if q == 4 then 4 else 0x100 + q

/-- The NETPORTS code of an NP port (R58, R115): 0 is off. NP ports exist in SENDER role only. -/
def State.portCode (s : State) (q : Nat) : Nat := if s.isSender then s.prof (·.netPorts) / 16 ^ q % 16 else 0

/-- Sub-links of a port (R115). -/
def State.sublinks (s : State) (q : Nat) : Nat :=
  if q == 4 then 1
  else match s.portCode q with
    | 1 => 1 | 2 => 1 | 3 => 1 | 4 => 4 | 5 => 4
    | _ => 0

/-- The port has this sub-link. -/
def State.hasSublink (s : State) (q l : Nat) : Bool := decide (l < s.sublinks q)

/-- Line rate of a sub-link in Mb/s. -/
def State.lineMbps (s : State) (q : Nat) : Nat :=
  match s.portCode q with
  | 1 => 100000 | 2 => 100000 | 3 => 100000 | 4 => 25000 | 5 => 10000
  | _ => 0

/-- The type of a port, as a number of the model's own: the NETPORTS code, or 16 plus MPCFG. -/
def State.portType (s : State) (q : Nat) : Nat := if q == 4 then 16 + s.prof (·.mpCfg) else s.portCode q

/-- A port comes up with its type (R86, R115): the MC writes the device's latency into PORTLAT. -/
def State.bringUpPort (s : State) (q : Nat) : State := s.setReg (Fld.addr (.timPortlatRxlat q)) (Config.portLatency (s.portType q))

/-- The port's type may define LPI (R115, R122): not 1000BASE-X and not 100GBASE-SR4. -/
def State.lpiType (s : State) (q : Nat) : Bool :=
  if q == 4 then s.prof (·.mpCfg) % 4 != 0 else s.portCode q != 0 && s.portCode q != 3

/-- Counter `i` of sub-link `l` of a port advances by `n`; passing 2^31 sets its STATHALF bit and source (R128). -/
def State.count (s : State) (q l i n : Nat) : State :=
  let a := 4096 * netPage q + 0x200 + 0x80 * l + 4 * i
  let old := (s.live a).toNat
  let s := s.setLive a (s.live a + Word.ofNat n)
  if old < 2 ^ 31 && decide (2 ^ 31 ≤ (s.live a).toNat) then
    (s.setFldBit (.netStathalfHalf (netPage q) l) i true).raise (srcNetStathalf (netPage q))
  else s

/-- What the far end and the PHY do on a sub-link and no command gives, by the number of the counter (R122, R128): the FEC codewords of a 100G
type, receive LPI on a type that defines it, and PCS errors. -/
def State.unseenOn (s : State) (q l i : Nat) : Bool :=
  s.hasSublink q l && (i == 23 || (i == 21 && s.lpiType q) ||
    ((i == 19 || i == 20) && q != 4 && decide (1 ≤ s.portCode q) && decide (s.portCode q ≤ 3)))

/-- Sub-links of a port that may be in receive LPI, as a mask: the link is up and the type defines LPI (R122). -/
def State.mayRxLpi (s : State) (q : Nat) : Nat :=
  if s.lpiType q then s.fld (.netStatusLink (netPage q)) % 2 ^ s.sublinks q else 0

/-- A sub-link. -/
def State.link (s : State) (q l : Nat) : Sublink := (s.net.links.getD q []).getD l Sublink.reset

/-- `s` with a sub-link changed. -/
def State.onLink (s : State) (q l : Nat) (f : Sublink → Sublink) : State :=
  { s with net.links := listModify s.net.links q (fun ls => listModify ls l f) }

/-! ### Transmission (R119, R122) -/

/-- Octets of a frame that was sent, with its FCS. A DAP packet stands in a UDP datagram over IPv4 (R50). -/
def Sent.octets : Sent → Nat
  | .frame _ _ _ n _ _ _ => n
  | .dap tag r => max 64 (62 + 8 * r.results.length + (if tag.isSome then 4 else 0))
  | _ => 0

/-- The address of sub-link `l` of a port (R118): MACHI:MACLO plus `l`. -/
def State.linkMac (s : State) (q l : Nat) : Nat :=
  (s.fld (.netMaclo (netPage q)) + 2 ^ 32 * s.fld (.netMachiAddr (netPage q)) + l) % 2 ^ 48

/-- A frame leaves a sub-link: it is counted (R128), and timestamped where it asks for that (R88). The timestamp of a message of the MC's own is
taken from the queue by the MC (R90), so its entry does not stay there. -/
def State.emit (s : State) (q l : Nat) (x : Sent) (stamp : Bool) : State :=
  let s := ((s.count q l 16 1).count q l 15 x.octets).send x
  if stamp then { takeTxStamp s q with time.txq := s.time.txq } else s

/-- The VLAN identifier that every frame of a port carries with TAGTX set (R117). -/
def State.txTag (s : State) (q : Nat) : Option Nat :=
  if s.flag (.netCtrlTagtx (netPage q)) then some (s.fld (.netCtrlVid (netPage q))) else none

/-- Octets of a frame as it is sent (R117, R135): with its tag, padded to 64. -/
def State.txOctets (s : State) (q octets : Nat) : Nat := max 64 (octets + (if (s.txTag q).isSome then 4 else 0))

/-- The transmitter is stopped by pause (R119). -/
def State.paused (s : State) (q l : Nat) : Bool := (s.link q l).pause != 0

/-- A frame of the device's own is handed to a sub-link: the transmitter leaves LPI first (R122); while stopped by pause the frame waits, and its
timestamp with it (R119). -/
def State.handOver (s : State) (q l : Nat) (x : Sent) (stamp : Bool) : State :=
  if s.paused q l then s.onLink q l (fun k => { k with waiting := k.waiting ++ [(x, stamp)] })
  else (s.setFldBit (.netStatusTxlpi (netPage q)) l false).emit q l x stamp

/-- A frame of the device's own, from the sub-link's address (R117, R118). -/
def State.ownFrame (s : State) (q l kind octets : Nat) (data : List Nat) : Sent :=
  .frame q l kind (s.txOctets q octets) (s.txTag q) (some (s.linkMac q l)) data

/-- A frame of the device's own leaves by a sub-link (R117 to R119, R122). -/
def State.transmit (s : State) (q l kind octets : Nat) (data : List Nat) : State := s.handOver q l (s.ownFrame q l kind octets data) false

/-- A DAP packet leaves by MP as any frame does (R50, R117, R119). -/
def State.sendDap (s : State) (r : DapReply) : State := s.handOver 4 0 (.dap (s.txTag 4) r) false

/-! ### Reception (R117, R125, R128) -/

/-- The device is in wake-pattern-only mode (R125). -/
def State.wakeOnly (s : State) : Bool := s.flag .devModestatWakeonly

/-- No frame is received on NP port `q`: its MAC or receive buffers are under test (R386), or its block is unpowered, in a cold standby (R331) or in
wake-pattern-only mode (R125). -/
def State.netTested (s : State) (q : Nat) : Bool :=
  decide (q < 4) && (s.cold || s.wakeOnly || s.bist.running.any (fun g => g == q || g == 19 || g == 20))

/-- The sub-link receives frames. -/
def State.receives (s : State) (q l : Nat) : Bool := s.hasSublink q l && !s.netTested q

/-- A frame arrives on a sub-link that receives (R117, R128): it is counted, and the second value says whether it goes on to a consumer. One outside
64 to 9,216 octets does not, and in wake-pattern-only mode none does (R125). -/
def State.frameIn (s : State) (q l octets : Nat) (dest : FrameDest) (fcsOk : Bool) : State × Bool :=
  let s := (s.count q l 1 1).count q l 0 octets
  let s := match dest with
    | .unicast => s
    | .multicast => s.count q l 2 1
    | .broadcast => s.count q l 3 1
  let s := if fcsOk then s else s.count q l 4 1
  if octets < 64 then (s.count q l (if fcsOk then 5 else 7) 1, false)
  else if 9216 < octets then (s.count q l (if fcsOk then 6 else 8) 1, false)
  else if s.wakeOnly then (s.count q l 11 1, false)
  else (s, true)

/-- A sound frame of `octets` arrives on a sub-link, and `f` takes it where it goes on. -/
def State.takeFrame (s : State) (q l octets : Nat) (dest : FrameDest) (f : State → State) : State :=
  if !s.receives q l then s
  else
    let r := s.frameIn q l octets dest true
    if r.2 then f r.1 else r.1

/-! ### The MP packet memory and its rings (R129 to R135) -/

/-- A packet memory address, modulo 256 KB. -/
def mpWrap (a : Nat) : Nat := a % 0x40000

/-- `n` bytes of the packet memory. -/
def State.mpNat (s : State) (a n : Nat) : Nat := memNat s.net.mpMem (mpWrap a) n

/-- `s` with bytes of the packet memory written. -/
def State.mpPut (s : State) (a : Nat) (bs : List Byte) : State := { s with net.mpMem := memWrite s.net.mpMem (mpWrap a) bs }

/-- Descriptors in the receive ring and in the transmit ring. -/
def State.rxRing (s : State) : Nat := 2 ^ s.fld .mpRxringLog2n
/-- Descriptors in the transmit ring. -/
def State.txRing (s : State) : Nat := 2 ^ s.fld .mpTxringLog2n

/-- Address of receive descriptor `i`. -/
def State.rxDesc (s : State) (i : Nat) : Nat := s.fld .mpRxringBase + 16 * (i % s.rxRing)
/-- Address of transmit descriptor `i`. -/
def State.txDesc (s : State) (i : Nat) : Nat := s.fld .mpTxringBase + 16 * (i % s.txRing)

/-- FLAGS of a descriptor. -/
def State.descFlags (s : State) (a : Nat) : Nat := s.mpNat (a + 10) 2

/-- OWN of a descriptor: the device owns it. -/
def State.descOwn (s : State) (a : Nat) : Bool := testBit (s.descFlags a) 15

/-- Free receive descriptors: those the device owns (R120). -/
def State.rxFree (s : State) : Nat := ((List.range s.rxRing).filter (fun i => s.descOwn (s.rxDesc i))).length

/-- A pause frame leaves MP (R120). -/
def State.mpPauseSend (s : State) (quanta : Nat) : State := (s.count 4 0 17 1).transmit 4 0 0 64 [quanta]

/-- MP tells its partner to pause or to resume as the free descriptors cross XOFF and XOFF + 8 (R120). -/
def State.mpPauseCheck (s : State) : State :=
  if !s.flag (.netCtrlPausetx 4) then s
  else
    let free := s.rxFree
    let x := s.fld .mpPausecfgXoff
    if !s.net.xoff && decide (free ≤ x) then
      ({ s with net.xoff := true } : State).mpPauseSend (s.fld .mpPausecfgQuanta)
    else if s.net.xoff && decide (x + 8 ≤ free) then
      ({ s with net.xoff := false } : State).mpPauseSend 0
    else s

/-- MP_PAUSE_REPEAT: the pause frame is repeated while free descriptors stay at or below XOFF (R120). -/
def mpPauseRepeat (s : State) : State :=
  if s.net.xoff && s.flag (.netCtrlPausetx 4) && decide (s.rxFree ≤ s.fld .mpPausecfgXoff) then
    s.mpPauseSend (s.fld .mpPausecfgQuanta)
  else s

/-- MP_PAUSE_REPEAT (R120). -/
def execMpPauseRepeat (s : State) : Result := run s mpPauseRepeat

/-- Frame bytes laid into descriptors in ring order (R132, R133): the descriptors filled, each with the bytes it took, and
whether the frame was cut off. `n` is how many descriptors of the ring are still untried. -/
def State.fillRing (s : State) : Nat → Nat → List Byte → List (Nat × List Byte) × Bool
  | 0, _, _ => ([], true)
  | n + 1, i, bs =>
    let a := s.rxDesc i
    if !s.descOwn a then ([], true)
    else
      let len := s.mpNat (a + 4) 2
      if bs.length ≤ len then ([(a, bs)], false)
      else
        let r := s.fillRing n (i + 1) (bs.drop len)
        ((a, bs.take len) :: r.1, r.2)

/-- A filled descriptor is returned (R131, R132): the data, TS, then LEN and FLAGS with OWN clear. -/
def State.returnRx (s : State) (a : Nat) (bs : List Byte) (flags ts : Nat) : State :=
  let s := s.mpPut (s.mpNat a 4 % 0x40000) bs
  let s := s.mpPut (a + 12) (leBytes 4 ts)
  s.mpPut (a + 8) (leBytes 2 bs.length ++ leBytes 2 flags)

/-- A frame for the receive ring (R131 to R133). Its timestamp stands in the START descriptor when software owns PTP (R87). -/
def ringFrame (s : State) (bs : List Byte) (fcsOk tagged ptp : Bool) : State :=
  let i := s.fld .mpRingstatRxnext
  let (ds, cut) := s.fillRing s.rxRing i bs
  if ds.isEmpty then (s.count 4 0 14 1).raise (srcNetRxnodesc 4)
  else
    let last := ds.length - 1
    let stamp := ptp && s.fld .timPtpcfgOwner == 2
    let ts := wrap32 (unsigned 64 (s.now - (s.fld (.timPortlatRxlat 4) : Int)))
    let flagsOf := fun j => bit (j == 0) + 2 * bit (j == last) + 4 * bit cut + 8 * bit (j == last && !cut && !fcsOk) +
      16 * bit (j == 0 && stamp) + (if j == 0 && stamp then 32 * (s.fld .timStepstatSeq % 16) else 0) + 512 * bit (j == 0 && tagged)
    let s := (List.range ds.length).foldl (fun s j =>
      let d := ds.getD j (0, [])
      s.returnRx d.1 d.2 (flagsOf j) (if j == 0 && stamp then ts else 0)) s
    let s := s.setFld .mpRingstatRxnext ((i + ds.length) % s.rxRing)
    let s := if cut then (s.count 4 0 13 1).raise (srcNetRxtrunc 4) else s
    s.mpPauseCheck

/-- The destination is the broadcast address. -/
def isBroadcast (bs : List Byte) : Bool := (bs.take 6).all (· == 0xFF)

/-- The destination that a frame's first bytes give. -/
def destOf (bs : List Byte) : FrameDest :=
  if isBroadcast bs then .broadcast else if (bs.headD 0).getLsbD 0 then .multicast else .unicast

/-- Transmit and receive wake times of a sub-link (R123): those that its partner's TLV led to, until then those of its port type's clause. -/
def State.wakeTimes (s : State) (q l : Nat) : Nat × Nat :=
  match (s.link q l).wake with
  | some x => x
  | none => (Config.wakeTime (s.portType q) % 65536, Config.wakeTime (s.portType q) / 65536 % 65536)

/-- LPIWAKE of a port (R123): the largest value over its sub-links, on a type that defines LPI. -/
def State.lpiWake (s : State) (q : Nat) : Nat × Nat :=
  if s.lpiType q then
    (List.range (s.sublinks q)).foldl (fun m l => (max m.1 (s.wakeTimes q l).1, max m.2 (s.wakeTimes q l).2)) (0, 0)
  else (0, 0)

/-- The MC negotiates wake times on a sub-link (R122, R123): LPIEN is set and the type defines LPI. -/
def State.negotiates (s : State) (q l : Nat) : Bool := s.hasSublink q l && s.flag (.netCtrlLpien (netPage q)) && s.lpiType q

/-- LLDP_TX: an LLDP frame with the EEE TLV and the wake times in force leaves a sub-link that negotiates. `partner` is what the partner's TLV has led
to, where one was received (R123). The frame's length is left open. -/
def lldpTx (s : State) (q l : Nat) (partner : Option (Nat × Nat)) : State :=
  if s.negotiates q l then
    let s := match partner with
      | some x => s.onLink q l (fun k => { k with wake := some (x.1 % 65536, x.2 % 65536) })
      | none => s
    let (n, s) := s.draw
    s.transmit q l 1 (Config.freeNat n) [(s.wakeTimes q l).1, (s.wakeTimes q l).2]
  else s

/-- LLDP_TX (R123). -/
def execLldpTx (port sublink : Nat) (partner : Option (Nat × Nat)) (s : State) : Result := run s (lldpTx · port sublink partner)

/-- A partner's TLV leads to wake times (R123): a change of those in force is told by an LLDP frame. -/
def takeWake (s : State) (q l tx rx : Nat) : State :=
  if s.negotiates q l && s.wakeTimes q l != (tx % 65536, rx % 65536) then lldpTx s q l (some (tx, rx)) else s

/-- A frame on MP goes to the first consumer that matches (R129): DAP packets, PTP messages and frames for the MC are taken by consumers whose own
commands say what they do; LLDP sets the wake times. A DAP packet with ENABLE 0 is discarded (R50). -/
def mpConsume (s : State) (kind : MpKind) (bs : List Byte) (fcsOk tagged : Bool) : State :=
  let filter := s.count 4 0 11 1
  let ring := fun (event : Bool) => if s.flag (.netCtrlRxen 4) then ringFrame s bs fcsOk tagged event else filter
  if !fcsOk then ring false
  else match kind with
    | .udp p => if p == s.fld .devDapcfgPort then (if s.flag .devDapcfgEnable then s else filter) else ring false
    | .ptp event => if s.fld .timPtpcfgOwner == 1 then s else ring event
    | .mc => s
    | .lldp tx rx => takeWake s 4 0 tx rx
    | .other => ring false

/-- MP_RX_FRAME: a frame received on MP, FCS excluded (R117, R125, R128, R129). -/
def mpRxFrame (s : State) (kind : MpKind) (bs : List Byte) (fcsOk tagged : Bool) : State :=
  let r := s.frameIn 4 0 (bs.length + 4) (destOf bs) fcsOk
  if r.2 then mpConsume r.1 kind bs fcsOk tagged else r.1

/-- MP_RX_FRAME (R129). -/
def execMpRxFrame (kind : MpKind) (frame : List Byte) (fcsOk tagged : Bool) (s : State) : Result :=
  run s (mpRxFrame · kind frame fcsOk tagged)

/-- The transmit frame that starts at descriptor `i` (R134, R135): how many descriptors it has and whether END was reached; 0 where
software owns one of them first. At most 16 are examined. -/
def State.txFrame (s : State) : Nat → Nat → Nat × Bool
  | 0, _ => (0, false)
  | n + 1, i =>
    let a := s.txDesc i
    if !s.descOwn a then (17, false)
    else if testBit (s.descFlags a) 0 then (1, true)
    else
      let r := s.txFrame n (i + 1)
      (1 + r.1, r.2)

/-- The bytes of a transmit frame of `n` descriptors from `i`. -/
def State.txBytes (s : State) (i n : Nat) : List Byte :=
  (List.range n).flatMap (fun j =>
    let a := s.txDesc (i + j)
    memRead s.net.mpMem (mpWrap (s.mpNat a 4 % 0x40000)) (s.mpNat (a + 4) 2))

/-- The word at 0x8 of `n` descriptors from `i` is written with the given bits of FLAGS, and TSID in the END descriptor (R135). -/
def State.returnTx (s : State) (i n done tsid : Nat) : State :=
  iterate n (fun s j =>
    let a := s.txDesc (i + j)
    let keep := s.descFlags a % 4
    let id := if testBit keep 0 && testBit keep 1 then tsid else s.mpNat (a + 8) 2
    s.mpPut (a + 8) (leBytes 2 id ++ leBytes 2 (keep + done))) s

/-- The next frame of the doorbell's run begins, or the run stops (R135): frames in error return with ERR and TXERR advances. None begins while
pause stops the transmitter (R119); it leaves LPI first (R122). -/
def State.startTx : Nat → State → State
  | 0, s => s
  | fuel + 1, s =>
    if s.paused 4 0 then s
    else if !s.flag (.netCtrlTxen 4) then { s with net.txRun := false }
    else
    let i := s.fld .mpRingstatTxnext
    let (n, ended) := s.txFrame 16 i
    if 16 < n then { s with net.txRun := false }
    else
      let bytes := s.txBytes i n
      if !ended || 9212 < bytes.length then
        let s := ((s.returnTx i n 8 0).setFld .mpRingstatTxnext ((i + n) % s.txRing)).count 4 0 18 1
        State.startTx fuel s
      else ({ s with net.txNow := some (i, n) } : State).setFldBit (.netStatusTxlpi 4) 0 false

/-- A write of MP.TXDOOR (R135): with the transmit ring enabled and no frame in progress, sending starts at TXNEXT. -/
def txDoor (s : State) : State :=
  if !s.flag (.netCtrlTxen 4) then s
  else
    let s := { s with net.txRun := true }
    if s.net.txNow.isSome then s else State.startTx s.txRing s

/-- MP_TX_COMPLETE: the frame in progress has been sent, pause or not (R88, R119, R135): its descriptors return with DONE, TSID stands in the END descriptor when
TSREQ was set and the timestamp is queued; the next frame begins. -/
def txComplete (s : State) : State :=
  match s.net.txNow with
  | none => s
  | some (i, n) =>
    let bytes := s.txBytes i n
    let req := testBit (s.descFlags (s.txDesc (i + n - 1))) 1
    let id := s.time.txId.getD 4 0
    let s := { s with net.txNow := none }
    let s := s.emit 4 0 (.frame 4 0 5 (s.txOctets 4 (bytes.length + 4)) (s.txTag 4) none (bytes.map (·.toNat))) false
    let s := if req then takeTxStamp s 4 else s
    let s := (s.returnTx i n 4 id).setFld .mpRingstatTxnext ((i + n) % s.txRing)
    if s.net.txRun then State.startTx s.txRing s else s

/-- MP_TX_COMPLETE (R135). -/
def execMpTxComplete (s : State) : Result := run s txComplete

/-! ### Pause (R119 to R121) -/

/-- The transmitter resumes: the frames that waited leave, and the doorbell's run goes on (R119, R135). -/
def State.resumeLink (s : State) (q l : Nat) : State :=
  let ws := (s.link q l).waiting
  let s := (s.onLink q l (fun k => { k with pause := 0, waiting := [] })).setFldBit (.netStatusPaused (netPage q)) l false
  let s := ws.foldl (fun s x => s.handOver q l x.1 x.2) s
  if q == 4 && s.net.txRun && s.net.txNow.isNone then State.startTx s.txRing s else s

/-- PAUSE_FRAME_RX: a MAC control frame of 64 octets to a group address (R119, R121, R128): with another opcode it is counted as unsupported; with
PAUSERX clear a pause frame is counted only; quanta 0 resumes at once. -/
def pauseFrame (s : State) (q l opcode quanta : Nat) : State :=
  s.takeFrame q l 64 .multicast fun s =>
    if opcode != 1 then s.count q l 10 1
    else
      let s := s.count q l 9 1
      if !s.flag (.netCtrlPauserx (netPage q)) then s
      else if quanta == 0 then s.resumeLink q l
      else (s.onLink q l (fun k => { k with pause := quanta })).setFldBit (.netStatusPaused (netPage q)) l true

/-- PAUSE_FRAME_RX (R119). -/
def execPauseFrameRx (port sublink opcode quanta : Nat) (s : State) : Result := run s (pauseFrame · port sublink opcode quanta)

/-- PAUSE_EXPIRE: the pause count runs out (R119). -/
def execPauseExpire (port sublink : Nat) (s : State) : Result := run s (State.resumeLink · port sublink)

/-! ### Low-power idle (R27, R122, R124) -/

/-- Transmit LPI is inhibited on a port that carries the PTP session or the monitor flow (R27, R90): the session is on NP port PORT with OWNER 0 and
on MP with OWNER 1 or 2. -/
def State.lpiInhibited (s : State) (q : Nat) : Bool :=
  let owner := s.fld .timPtpcfgOwner
  (s.flag .monCtrlEnable && q != 4 && s.fld .monCtrlPort == q) ||
    (s.isSender && ((owner == 0 && s.fld .timPtpcfgPort == q) || ((owner == 1 || owner == 2) && q == 4)))

/-- LPI is permitted on a port's transmitters: LPIEN on a type that defines it, no inhibition, and on MP only with MODE 1 of LPMODE (R122, R124). -/
def State.lpiPermitted (s : State) (q : Nat) : Bool :=
  s.flag (.netCtrlLpien (netPage q)) && s.lpiType q && !s.lpiInhibited q && (q != 4 || s.fld .mpLpmodeMode == 1)

/-- A port whose transmitters may not stay in LPI leaves it (R122). -/
def State.judgeLpi (s : State) (q : Nat) : State := if s.lpiPermitted q then s else s.setFld (.netStatusTxlpi (netPage q)) 0

/-- Nothing to send on a sub-link whose link is up (R122). -/
def State.quiet (s : State) (q l : Nat) : Bool :=
  testBit (s.fld (.netStatusLink (netPage q))) l && (s.link q l).waiting.isEmpty && (q != 4 || s.net.txNow.isNone)

/-- LPI_ENTER: 50 µs with nothing to send (R122): the transmitter enters low-power idle where it is permitted. -/
def lpiEnter (s : State) (q l : Nat) : State :=
  let p := netPage q
  if s.receives q l && !s.wakeOnly && s.lpiPermitted q && s.quiet q l && !testBit (s.fld (.netStatusTxlpi p)) l then
    (s.setFldBit (.netStatusTxlpi p) l true).count q l 22 1
  else s

/-- LPI_ENTER (R122). -/
def execLpiEnter (port sublink : Nat) (s : State) : Result := run s (lpiEnter · port sublink)

/-! ### Group membership and PTP on a port (R90, R137) -/

/-- The IGMP version in use on a sub-link: the oldest whose querier is present (R137). -/
def State.igmpVersion (s : State) (q l : Nat) : Nat :=
  if s.net.compat.contains (q, l, 1) then 1 else if s.net.compat.contains (q, l, 2) then 2 else 3

/-- A report or leave of a group (R137): `mode` 1 INCLUDE with the source, 2 EXCLUDE with an empty list, 3 leave. Source filtering is lost below
version 3, and version 1 has no leave. -/
def State.igmpSend (s : State) (q l mode group source : Nat) : State :=
  let v := s.igmpVersion q l
  if mode == 3 && v == 1 then s
  else
    let incl := mode == 1 && v == 3
    s.transmit q l 3 64 [v, if mode == 3 then 3 else if incl then 1 else 2, group, if incl then source else 0]

/-- The group of the PTP profile, 224.0.1.129 (R90). -/
def ptpGroup : Nat := 0xE0000181

/-- The port on which the PTP group is to be joined (R90): with OWNER 0 the NP port PORT, while its link is up. -/
def State.ptpGroupPort (s : State) : Option Nat :=
  let q := s.fld .timPtpcfgPort
  if s.isSender && s.fld .timPtpcfgOwner == 0 && s.hasSublink q 0 && testBit (s.fld (.netStatusLink (netPage q))) 0 then some q else none

/-- The PTP group is joined and left as its port changes (R90). -/
def State.judgePtpJoin (s : State) : State :=
  let want := s.ptpGroupPort
  if want == s.net.ptpJoin then s
  else
    let s := match s.net.ptpJoin with
      | some q => if testBit (s.fld (.netStatusLink (netPage q))) 0 then s.igmpSend q 0 3 ptpGroup 0 else s
      | none => s
    let s := { s with net.ptpJoin := want }
    match want with
    | some q => s.igmpSend q 0 2 ptpGroup 0
    | none => s

/-- A PTP message of the MC leaves the session's port (R88, R90): `kind` 1 Delay_Req, 2 Pdelay_Req, 3 Pdelay_Resp, 4 Pdelay_Resp_Follow_Up; all but
the last are event messages and are timestamped. The message's length is left open. -/
def State.sendPtp (s : State) (kind : Nat) : State :=
  let (n, s) := s.draw
  s.handOver s.ptpPort 0 (s.ownFrame s.ptpPort 0 7 (Config.freeNat n) [kind]) (kind != 4)

/-- After a Sync of the selected master the MC may measure the path (R90): when it does is left open, so a free value decides. -/
def State.mayMeasure (s : State) : State :=
  let (n, s) := s.draw
  if Config.freeNat n % 2 == 1 then s.sendPtp (if s.flag .timPtpcfgP2p then 2 else 1) else s

/-- A PTP message in the session of the MC (R90, R91). -/
def ptpTake (s : State) (msg : PtpMessage) : State :=
  match msg with
  | .announce domain ds => ptpAnnounce s domain ds
  | .sync ds raw =>
    let t := ptpSync s ds raw
    if s.servoRuns && s.time.master == some ds then t.mayMeasure else t
  | .delay ds both => ptpDelay s ds both
  | .pdelayReq => if s.flag .timPtpcfgP2p then (s.sendPtp 3).sendPtp 4 else s

/-- PTP_MESSAGE_RX: a PTP message arrives on a port (R87, R90, R116). One for the receive ring of MP arrives as MP_RX_FRAME; the MC takes no message on
a port that does not carry its session. -/
def ptpMessage (s : State) (q octets : Nat) (dest : FrameDest) (msg : PtpMessage) : State :=
  if q == 4 && s.fld .timPtpcfgOwner != 1 then s
  else s.takeFrame q 0 octets dest fun s => if s.servoRuns && s.ptpPort == q then ptpTake s msg else s

/-- PTP_MESSAGE_RX (R91). -/
def execPtpMessageRx (port octets : Nat) (dest : FrameDest) (msg : PtpMessage) (s : State) : Result :=
  run s (ptpMessage · port octets dest msg)

/-! ### ARP, ICMP and links (R118, R365) -/

/-- ARP_ICMP_RX: an ARP or ICMP echo request for the sub-link's own address is answered to the source's MAC and IPv4 address, in a frame as long
as it is (R118). -/
def arpIcmp (s : State) (q l target srcMac srcIp octets : Nat) (dest : FrameDest) : State :=
  s.takeFrame q l octets dest fun s =>
    if target != 0 && s.fld (.netIpaddr (netPage q) l) == target then s.transmit q l 2 octets [srcMac, srcIp, target] else s

/-- ARP_ICMP_RX (R118). -/
def execArpIcmpRx (port sublink target srcMac srcIp octets : Nat) (dest : FrameDest) (s : State) : Result :=
  run s (arpIcmp · port sublink target srcMac srcIp octets dest)

/-- LINKDOWN stands while a sub-link of the port is down (R365). -/
def State.judgeLink (s : State) (q : Nat) : State :=
  s.level (srcNetLinkdown (netPage q)) (s.fld (.netStatusLink (netPage q)) != 2 ^ s.sublinks q - 1)

/-- SUBLINK_LINK_CHANGE: a sub-link's link goes down or comes up (R141): STATUS follows, LINKDOWN stands while a sub-link of the port is down, and the
PTP group is joined anew as the session's port comes up (R90). -/
def linkChange (s : State) (q l : Nat) (up : Bool) : State :=
  if !s.hasSublink q l then s
  else
    let p := netPage q
    let s := s.setFldBit (.netStatusLink p) l up
    let s := if q != 4 && decide (s.portCode q ≤ 3) then s.setFld (.netStatusFecalign p) (bit up) else s
    let s := if up then s else
      (((s.onLink q l (fun _ => Sublink.reset)).setFldBit (.netStatusPaused p) l false).setFldBit
        (.netStatusTxlpi p) l false).setFldBit (.netStatusRxlpi p) l false
    (s.judgeLink q).judgePtpJoin

/-- SUBLINK_LINK_CHANGE (R141). -/
def execSublinkLinkChange (port sublink : Nat) (up : Bool) (s : State) : Result := run s (linkChange · port sublink up)

/-! ### Wake frames (R126) -/

/-- The MAC address of MP as its six bytes in frame order. -/
def State.mpMac (s : State) : List Byte :=
  (leBytes 6 (s.fld (.netMaclo 4) + 2 ^ 32 * s.fld (.netMachiAddr 4))).reverse

/-- A list of bytes begins with another. -/
def startsWith (bs xs : List Byte) : Bool := bs.take xs.length == xs

/-- A list of bytes holds another somewhere. -/
def holds (xs : List Byte) : List Byte → Bool
  | [] => xs.isEmpty
  | b :: bs => startsWith (b :: bs) xs || holds xs bs

/-- The magic packet's run: 6 bytes of 0xFF and 16 repetitions of the MAC address (R126). -/
def magicRun (mac : List Byte) : List Byte := List.replicate 6 0xFF ++ (List.replicate 16 mac).flatten

/-- Pattern `p` matches (R126): the CRC-32 of the masked bytes among the first LEN equals WAKECRC. -/
def State.patternHit (s : State) (p : Nat) (bs : List Byte) : Bool :=
  let len := s.fld (.mpWakelenLen p)
  let pick := (List.range len).filterMap (fun b =>
    if testBit (s.fld (.mpWakemask p (b / 32))) (b % 32) then bs[b]? else none)
  testBit (s.fld .mpWakecfgPaten) p && decide (0 < len) && decide (len ≤ 128) && decide (len ≤ bs.length) &&
    (crc32 pick).toNat == s.fld (.mpWakecrc p)

/-- The WAKESTAT bits that a frame with good FCS sets (R126): bit 0 magic, bits 1 to 4 the patterns; 0 is no wake frame. -/
def State.wakeBits (s : State) (bs : List Byte) : Nat :=
  if !(startsWith bs s.mpMac || isBroadcast bs) then 0
  else
    bit (s.flag .mpWakecfgMagic && holds (magicRun s.mpMac) bs) +
      ((List.range 4).map (fun p => if s.patternHit p bs then 2 ^ (p + 1) else 0)).sum

end Sys2Proof.Machine
end

