-- ==== Sys2Proof/Machine/Chain.lean ====
section
/-!
DEFINITION. KorovLink chains (spec/07, R174 to R211): lane training and rate stepping, lanes down, electrical idle, link delays, enumeration, the cox mark, marker forwarding, tunnel credit.
-/

namespace Sys2Proof.Machine

/-! ### Ports and lanes -/

/-- The chain port whose lanes carry a path: the cross-link of a pair, path 8, runs on KL14 and KL15, the lanes of CP7 (R12, R13; log entry 124). -/
def linkPort (n : Nat) : Nat := if n == 8 then 7 else n

/-- The other port of a tile: A is 0, B is 1. -/
def otherPort (n : Nat) : Nat := 1 - n

/-- The ports the role drives: two in a tile, eight in a sender, of which a paired sender uses seven (R12, R13). -/
def State.chainPorts (s : State) : List Nat :=
  if s.isTile then [0, 1] else if s.prof (·.pair) == 1 then List.range 7 else List.range 8

/-- Lanes 14 and 15 of this sender are the cross-link (R13). -/
def State.crossPort (s : State) (n : Nat) : Bool := s.isSender && s.prof (·.pair) == 1 && n == 7

/-- The port is powered: both of a tile, a sender's with ENABLE set, and the cross-link of a paired sender (R13). -/
def State.hopOn (s : State) (n : Nat) : Bool := s.isTile || s.flag (.chpCtrlEnable n) || s.crossPort n

/-- A port is in service or degraded: cells run on it. -/
def State.portUp (s : State) (n : Nat) : Bool := decide (2 ≤ s.fld (.chpStatState n))

/-- The ports of a sender that are in chain service: enabled and up (R13). -/
def State.servicePorts (s : State) : List Nat :=
  s.chainPorts.filter (fun n => s.flag (.chpCtrlEnable n) && s.portUp n)

/-- The lane of a path that carries the cells meant for lane `l`: that lane, or the other one while it is down (R175, R180). -/
def State.outLane (s : State) (n l : Nat) : Nat := if ((s.port (linkPort n)).lane l).down then 1 - l else l

/-- A transmitter leaves electrical idle with a wake burst (R181). -/
def State.wakeLane (s : State) (n l : Nat) : State :=
  ((s.onPort n (·.onLane l (fun x => { x with eidle := false }))).setFldBit (.chpStatEidle n) l false).send (.wakeBurst n l)

/-- The wake burst that a cell for a lane in electrical idle brings about (R181). -/
def State.wakes (s : State) (n l : Nat) : List Sent := if testBit (s.fld (.chpStatEidle n)) l then [.wakeBurst n l] else []

/-- Something leaves on a lane of a path, which first leaves electrical idle by itself (R181); CELLSTX advances. -/
def State.emitOn (s : State) (n l : Nat) (x : Sent) : State :=
  let q := linkPort n
  ((if testBit (s.fld (.chpStatEidle q)) l then s.wakeLane q l else s).bump (.chpCellstx q) 1).send x

/-- A cell leaves on a lane of a path. -/
def State.sendOn (s : State) (n l : Nat) (c : Cell) : State := s.emitOn n l (.cell n l c)

/-- A LINK cell leaves on a lane with the next sequence number (R189, R198). -/
def State.sendLink (s : State) (n l : Nat) (c : LinkCell) : State :=
  (s.onPort n (fun p => { p with linkSeq := (p.linkSeq + 1) % 65536 })).sendOn n l (.link (s.port n).linkSeq c)

/-- The class of a cell for priority (R189, R206, R321): LINK goes with class 0, and so do PAIR and JOURNAL. -/
def Cell.cls : Cell → Nat
  | .link _ _ => 0
  | .stroke _ => 0
  | .cox _ => 0
  | .yield _ => 0
  | .pair _ => 0
  | .journal _ _ _ => 0
  | .video _ => 1
  | .health _ => 1
  | .cue _ _ _ => 2
  | .tunreq _ => 3
  | .tunrsp _ => 3
  | .image _ => 4
  | .enumerate _ _ => 4
  | .enumr _ _ => 4

/-- A unit of a pair that a mismatch keeps out of it, and that has no control, sends only IDLE, LINK and PAIR cells (R323). -/
def State.onlyPairs (s : State) : Bool :=
  s.isSender && s.prof (·.pair) == 1 && s.fld .pairStatState == 0 && !s.pairing.control

/-- What a sender does not send before it is in service (R69, R75): video cells at any start; in a warm restart also cue, tunnel and image cells, and
without hold-through every cell but those that bring its chains up. DEDUCED: LINK and ENUM cells are excepted, since the unit cannot come back
into service without them (log entry 125). -/
def State.withholds (s : State) (c : Cell) : Bool :=
  let early := s.isSender && s.fld .devBootstatStage != 7
  let silent := early && s.boot.warm && !s.boot.holdThrough
  match c with
  | .link _ _ => false
  | .pair _ => silent
  | .enumerate _ _ => s.onlyPairs
  | .video _ => s.onlyPairs || early
  | .cue _ _ _ => s.onlyPairs || (early && s.boot.warm)
  | .tunreq _ => s.onlyPairs || (early && s.boot.warm)
  | .image _ => s.onlyPairs || (early && s.boot.warm)
  | _ => s.onlyPairs || silent

/-- A cell of stroke `k` is submitted to a path (R206): class 0 leaves at once, on lane 0 unless it is down, and so does every cell of the cross-link (log
entry 126); every other cell waits for a cell boundary. -/
def State.submit (s : State) (n k : Nat) (c : Cell) : State :=
  if c.cls == 0 || n == 8 then (if s.withholds c then s else s.sendOn n (s.outLane n 0) c)
  else s.onPort n (fun p => { p with queue := p.queue ++ [(k, c)] })

/-- A cell that belongs to the current stroke is submitted. -/
def State.sendCell (s : State) (n : Nat) (c : Cell) : State := s.submit n s.stroke c

/-- A cell leaves on the cross-link, when that is up (R321, R327). -/
def State.sendCross (s : State) (c : Cell) : State := if s.portUp 7 then s.sendCell 8 c else s

/-- A tile passes a cell that came on lane `l` of port `n` on, out of its other port on the lane of the same number; with that hop down it ends the
cell there (R201, R202). -/
def State.forward (s : State) (n l : Nat) (c : Cell) : State :=
  let o := otherPort n
  if s.portUp o then s.sendOn o (s.outLane o l) c else s

/-! ### Cell boundaries (R206) -/

/-- The cells of a class that the allowance of KLS.ALLOW admits in a stroke: its rate over the stroke's length, in whole cells of 1,024 payload
bits (R206; log entry 126). -/
def State.allowance (s : State) (c : Nat) : Nat :=
  let mbps := match c with
    | 2 => 10 * s.fld .klsAllowCue
    | 3 => 10 * s.fld .klsAllowTunnel
    | _ => s.fld .klsAllowImage
  mbps * s.time.length / 1024000

/-- A waiting cell may begin on a lane: video and health cells on either, the others on lane 0, or on lane 1 while that is down (R175). A video cell of
stroke k waits for T(k - 1) (R219). -/
def State.mayBegin (s : State) (n l : Nat) (x : Nat × Cell) : Bool :=
  !s.withholds x.2 && (x.2.cls == 1 || l == s.outLane n 0) &&
    (match x.2 with
      | .video _ => !strokeAfter x.1 (s.stroke + 1)
      | _ => true)

/-- The oldest waiting cell of a class that may begin. -/
def State.nextOf (s : State) (n l c : Nat) : Option (Nat × Cell) := (s.port n).queue.find? (fun x => x.2.cls == c && s.mayBegin n l x)

/-- A class has not used its allowance for the stroke. -/
def State.within (s : State) (n c : Nat) : Bool := decide (2 ≤ c) && decide ((s.port n).used.getD (c - 2) 0 < s.allowance c)

/-- The cell that a transmitter chooses at a cell boundary (R206): classes 2, 3 and 4 while within their allowances, then class 1, 2, 3, 4; within a class in
the order of submission. -/
def State.nextCell (s : State) (n l : Nat) : Option (Nat × Cell) :=
  (([2, 3, 4].filter (s.within n)) ++ [1, 2, 3, 4]).findSome? (s.nextOf n l)

/-- A cell boundary of a lane: the chosen cell leaves, and counts against its class's allowance (R206). -/
def State.sendNext (s : State) (n l : Nat) : State :=
  if ((s.port n).lane l).down then s
  else match s.nextCell n l with
    | none => s
    | some x =>
      let c := x.2.cls
      let used := fun (u : List Nat) => if s.within n c then listModify u (c - 2) (· + 1) else u
      (s.onPort n (fun p => { p with queue := p.queue.erase x, used := used p.used })).sendOn n l x.2

/-- A cell boundary of every lane of the ports that are up (R206). -/
def State.cellBoundary (s : State) : State :=
  s.chainPorts.foldl (fun s n => if s.portUp n then (s.sendNext n 0).sendNext n 1 else s) s

/-- A stroke has begun: the allowances are whole again (R206). -/
def State.freshAllowances (s : State) : State :=
  { s with chain.ports := s.chain.ports.map (fun p => { p with used := [0, 0, 0] }) }

/-- VIDEO_CELL_DROP: the deadline of the oldest stroke whose video cells wait on the port has come: those not begun are dropped, VIDLATE advances for
each and the VIDLATE source sets (R206). -/
def videoCellDrop (s : State) (n : Nat) : State :=
  let video := fun (x : Nat × Cell) => match x.2 with
    | .video _ => true
    | _ => false
  match (s.port n).queue.find? video with
  | none => s
  | some (k, _) =>
    let gone := fun (x : Nat × Cell) => video x && x.1 == k
    let lost := ((s.port n).queue.filter gone).length
    let s := s.onPort n (fun p => { p with queue := p.queue.filter (fun x => !gone x) })
    (s.bump (.chpVidlate n) lost).raise (srcChpVidlate n)

/-- VIDEO_CELL_DROP (R206). -/
def execVideoCellDrop (port : Nat) (s : State) : Result := run s (videoCellDrop · port)

/-! ### Arrival (R186, R189, R202) -/

/-- A damaged cell is discarded and counted; the fourth in a row on a lane ends its alignment, advances REALIGN and
raises FRAMEERR (R186, R189). -/
def State.badCell (s : State) (n l : Nat) (d : CellDamage) : State :=
  let s := if d = .framing then s.bump (.chpFrameerr n) 1 else s.bump (.chpCrcerr n) 1
  let r := ((s.port n).lane l).badRun + 1
  if 4 ≤ r then
    let s := s.onPort n (·.onLane l (fun x => { x with badRun := 0, aligned := false, commas := 0 }))
    ((s.setFldBit (.chpStatLaneup n) l false).bump (.chpRealign n) 1).raise (srcChpFrameerr n)
  else s.onPort n (·.onLane l (fun x => { x with badRun := r }))

/-- A sound cell has arrived: CELLSRX advances (R189), and a run of damaged ones ends (R186). -/
def State.goodCell (s : State) (n l : Nat) : State :=
  (s.bump (.chpCellsrx n) 1).onPort n (·.onLane l (fun x => { x with badRun := 0 }))

/-- A cell arrives on lane `l` of path `n`: `f` is what a sound one does. A damaged one is discarded and counted (R189); where it has begun to leave by
the other port of a tile (`through`), it goes on with a CRC that every later receiver discards (R202). -/
def State.arrive (s : State) (n l : Nat) (d : CellDamage) (through : Bool) (f : State → State) : State :=
  let q := linkPort n
  if d = .none then f (s.goodCell q l)
  else
    let s := s.badCell q l d
    let o := otherPort n
    if through && s.isTile && s.portUp o then s.emitOn o (s.outLane o l) (.damaged o (s.outLane o l)) else s

/-! ### The journal (R326, R327, R329) -/

/-- Units of 16 bytes in a record (R327). -/
def JournalRec.units (r : JournalRec) : Nat := 1 + (r.extra.length + 15) / 16

/-- The replay buffer's 4 MB hold 262,144 units: the oldest records leave when it is full (R329). -/
def trimReplay : List JRec → List JRec
  | [] => []
  | r :: rs => if ((r :: rs).map (fun x => x.body.units)).sum ≤ 262144 then r :: rs else trimReplay rs

/-- The active sender of a pair journals an event (R326): it takes the next JSEQ, is kept for replay, and leaves on the cross-link. -/
def State.journal (s : State) (r : JournalRec) : State :=
  if s.isSender && s.prof (·.pair) == 1 && s.fld .pairStatState == 2 then
    let seq := wrap32 (s.fld .pairJseq + 1)
    let s := s.setFld .pairJseq seq
    let s := { s with pairing.replay := trimReplay (s.pairing.replay ++ [({ seq := seq, stroke := s.stroke, body := r } : JRec)]) }
    if s.flag .pairStatXlink then s.sendCross (.journal seq s.stroke [r]) else s
  else s

/-! ### Training and rate stepping (R176 to R179) -/

/-- The tap presets of a rate: |c(-1)|, |c(+1)| and c(0) (R176). -/
def tapPreset (code : Nat) : Nat × Nat × Nat := if code < 2 then (0, 4, 36) else (2, 8, 30)

/-- `s` with both lanes' taps at the presets of a rate. -/
def State.presetTaps (s : State) (n code : Nat) : State :=
  let t := tapPreset code
  iterate 2 (fun s l =>
    ((s.setFld (.chpTapsPre n l) t.1).setFld (.chpTapsPost n l) t.2.1).setFld (.chpTapsMain n l) t.2.2) s

/-- A lane that trains afresh. -/
def Lane.untrained (x : Lane) : Lane :=
  { x with localReady := false, farReady := false, aligned := false, commas := 0, eidle := false }

/-- The hop's cap: the LANERATE field of the port (R58, R178). -/
def State.ownCap (s : State) (n : Nat) : Nat := s.prof (·.laneRate) / 4 ^ n % 4

/-- The target rate: the lower of the two caps, and for a capped hop the rate that its failure brought it back to (R178). -/
def State.targetRate (s : State) (n : Nat) : Nat :=
  let r := min (s.ownCap n) ((s.port n).farCap.getD 0)
  if s.flag (.chpStatCapped n) then min r ((s.port n).capRate.getD r) else r

/-- The chain rate: the lowest hop rate on the chain (R179), of the port's own hop, the hops before the enumerated tiles, and in a pair the hop behind
the last one, which leads to the other sender (R174; log entry 127). -/
def State.chainRateOf (s : State) (n : Nat) : Nat :=
  let tiles := (List.range 64).filter (fun p => s.flag (.chpEnumrec3Valid n p))
  let rates := tiles.map (fun p => s.fld (.chpEnumrec3Rates n p) % 4)
  let far := if s.prof (·.pair) == 1 then (tiles.getLast?.map (fun p => s.fld (.chpEnumrec3Rates n p) / 4 % 4)).toList else []
  (rates ++ far).foldl min (s.fld (.chpStatRate n))

/-- `CHPn.STAT.CHAINRATE` follows (R179): in a tile it equals RATE. -/
def State.showChainRate (s : State) (n : Nat) : State :=
  s.setFld (.chpStatChainrate n) (if s.isTile then s.fld (.chpStatRate n) else s.chainRateOf n)

/-- Both lanes of a hop begin to train at a rate (R178): each end sends its cap, and the receiver of each lane its first request, which asks for no
change (R177). -/
def State.startHop (s : State) (n code : Nat) : State :=
  let s := (s.presetTaps n code).onPort n (fun p =>
    { p with lane0 := p.lane0.untrained, lane1 := p.lane1.untrained, nextRate := none })
  let s := (s.setFld (.chpStatRate n) code).setFld (.chpStatState n) 1
  let s := (s.setFld (.chpStatLaneup n) 0).setFld (.chpStatEidle n) 0
  let s := s.sendLink n (s.outLane n 0) (.cap ⟨s.ownCap n, 0xFF, 0xFF⟩)
  let s := iterate 2 (fun s l => s.sendLink n l (.train ⟨0, 0, 0, 0, false, l⟩)) s
  (s.showChainRate n).judgeChain n

/-- A hop is down (R178). A tile's enumeration from port A ends with its hop (R199). -/
def State.hopDown (s : State) (n : Nat) : State :=
  let s := if s.isTile && n == 0 then { s with chain.hopsA := none } else s
  let s := s.onPort n (fun p => { p with lane0 := p.lane0.untrained, lane1 := p.lane1.untrained })
  (((s.setFld (.chpStatState n) 0).setFld (.chpStatLaneup n) 0).setFld (.chpStatEidle n) 0).judgeChain n

/-- The hop restarts at 3.125 Gb/s (R178). Without a reference the lane synthesisers do not lock, and it stays down (R74). -/
def State.restartHop (s : State) (n : Nat) : State :=
  let s := (s.hopDown n).onPort n (fun p =>
    { p with farCap := none, prevRate := 0, lane0 := { p.lane0 with down := false }, lane1 := { p.lane1 with down := false } })
  let s := s.lower (srcChpLanedegr n)
  if s.referenced then s.startHop n 0 else s

/-- One tap moved by a request (R177): the new magnitude and the status. `lim` is the largest magnitude of the tap, whose
value runs from `-lim` to 0: an increment lowers the magnitude. -/
def moveTap (mag lim req : Nat) : Nat × Nat :=
  match req with
  | 1 => if mag = 0 then (0, 3) else (mag - 1, 1)
  | 2 => if lim ≤ mag then (mag, 2) else (mag + 1, 1)
  | _ => (mag, 0)

/-- Both directions of a lane report READY; a lane that is down is not waited for (R177, R211). -/
def Lane.settled (x : Lane) : Bool := x.down || (x.localReady && x.farReady)

/-- The lane directions of a hop report READY (R177). -/
def ChainPort.trained (p : ChainPort) : Bool := p.lane0.settled && p.lane1.settled

/-- The lanes of a port that are not down, as LANEUP shows them after training. -/
def ChainPort.upMask (p : ChainPort) : Nat := bit (!p.lane0.down) + 2 * bit (!p.lane1.down)

/-- TRAIN_CELL_RX (R177): the transmitter applies the request to its taps and answers with a status for each; READY of the
far receiver is kept; the local receiver's own adaptation (`localReady`, and what it asks for next) comes from outside. The lane is the one that the
cell came on. -/
def trainCell (s : State) (n l : Nat) (c : TrainCell) (ready : Bool) (askPre askPost : Nat) : State :=
  let pre := moveTap (s.fld (.chpTapsPre n l)) 6 c.reqPre
  let post := moveTap (s.fld (.chpTapsPost n l)) 12 c.reqPost
  let s := ((s.setFld (.chpTapsPre n l) pre.1).setFld (.chpTapsPost n l) post.1).setFld
    (.chpTapsMain n l) (40 - pre.1 - post.1)
  let s := s.onPort n (·.onLane l (fun x => { x with farReady := c.ready, localReady := ready }))
  s.sendLink n l (.train ⟨askPre, askPost, pre.2, post.2, ready, l⟩)

/-- TRAIN_CELL_RX (R177). -/
def execTrainCellRx (port lane : Nat) (cell : TrainCell) (damage : CellDamage) (localReady : Bool) (askPre askPost : Nat) (s : State) : Result :=
  run s fun s => s.arrive port lane damage false (trainCell · port lane cell localReady askPre askPost)

/-- Training or verification has failed (R178): above 3.125 Gb/s the hop returns to the previous rate, stays there and
sets CAPPED and RATECAP; a further failure takes it one rate lower again. At 3.125 Gb/s it is down. -/
def State.hopFailed (s : State) (n : Nat) : State :=
  if s.fld (.chpStatRate n) == 0 then s.hopDown n
  else
    let s := (s.setFld (.chpStatCapped n) 1).raise (srcChpRatecap n)
    let r := (s.port n).prevRate
    (s.onPort n (fun p => { p with prevRate := r - 1, capRate := some r })).startHop n r

/-- TRAIN_TIMEOUT (R177): training that is not READY on all four lane directions fails. -/
def execTrainTimeout (port : Nat) (s : State) : Result :=
  run s fun s => if s.fld (.chpStatState port) == 1 && !(s.port port).trained then s.hopFailed port else s

/-- This end proposes rates: it is nearer the port-A end of the chain (R178), so a tile's port B, or a sender. A sender whose neighbour proposes has
found itself at the port-B end (R174; log entry 128). -/
def State.proposes (s : State) (n : Nat) : Bool := if s.isTile then n == 1 else !(s.port n).endB

/-- CAP_CELL_RX (R178): the far cap is kept; a proposal is acknowledged; an acknowledgement or the acknowledged proposal
stands until the change of rate. -/
def capCell (s : State) (n : Nat) (c : CapCell) : State :=
  let s := s.onPort n (fun p => { p with farCap := some (c.cap % 4) })
  let s := if c.propose < 4 then
      (s.onPort n (fun p => { p with nextRate := some c.propose, endB := !s.isTile })).sendLink n (s.outLane n 0)
        (.cap ⟨s.ownCap n, 0xFF, c.propose⟩)
    else s
  if c.ack < 4 then s.onPort n (fun p => { p with nextRate := some c.ack }) else s

/-- CAP_CELL_RX (R178). -/
def execCapCellRx (port lane : Nat) (cell : CapCell) (damage : CellDamage) (s : State) : Result :=
  run s fun s => s.arrive port lane damage false (capCell · port cell)

/-- RATE_VERIFY_DONE (R178): a clean 2 ms verifies the rate; below the target the end nearer port A proposes the next rate,
otherwise the hop is in service. A failed verification fails the hop. -/
def rateVerified (s : State) (n : Nat) (clean : Bool) : State :=
  if s.fld (.chpStatState n) != 1 || !(s.port n).trained then s
  else if !clean then s.hopFailed n
  else
    let rate := s.fld (.chpStatRate n)
    let up := (s.port n).upMask
    let s := (s.setFld (.chpStatLaneup n) up).onPort n (fun p =>
      { p with lane0 := { p.lane0 with aligned := !p.lane0.down }, lane1 := { p.lane1 with aligned := !p.lane1.down } })
    if rate < s.targetRate n then
      if s.proposes n then s.sendLink n (s.outLane n 0) (.cap ⟨s.ownCap n, rate + 1, 0xFF⟩) else s
    else ((s.setFld (.chpStatState n) (if up == 3 then 2 else 3)).showChainRate n).judgeChain n

/-- RATE_VERIFY_DONE (R178). -/
def execRateVerifyDone (port : Nat) (clean : Bool) (s : State) : Result := run s (rateVerified · port clean)

/-- RATE_CHANGE (R178): both ends take the acknowledged rate and train at it. -/
def execRateChange (port : Nat) (s : State) : Result :=
  run s fun s => match (s.port port).nextRate with
    | none => s
    | some r => (s.onPort port (fun p => { p with prevRate := s.fld (.chpStatRate port) })).startHop port r

/-- HOP_RETRY (R178): a hop that is down retries from 3.125 Gb/s. -/
def execHopRetry (port : Nat) (s : State) : Result :=
  run s fun s => if s.fld (.chpStatState port) == 0 && s.hopOn port then s.restartHop port else s

/-- A write of CHPn.CTRL.RETRAIN (R178): CAPPED clears and the hop of a powered port restarts. -/
def retrainHop (s : State) (n : Nat) : State :=
  let s := (s.setFld (.chpStatCapped n) 0).lower (srcChpRatecap n)
  if s.hopOn n then s.restartHop n else s

/-- LANE_DOWN (R180): a lane of a hop that is in service has been out of alignment for 100 µs outside electrical idle, and is down. The port runs on the
other lane with LANEDEGR, and its budget is checked again; with both lanes down the hop restarts. A reference source that loses alignment passes to
the other port when that one is aligned (R74). -/
def laneDown (s : State) (n l : Nat) : State :=
  if !s.portUp n || ((s.port n).lane l).down then s
  else
    let s := s.onPort n (·.onLane l (fun x => { x with aligned := false, localReady := false, farReady := false, down := true }))
    let s := s.setFldBit (.chpStatLaneup n) l false
    if (s.port n).upMask == 0 then
      let o := otherPort n
      let s := if s.isTile && s.boot.refSource == some n && decide (0 < s.fld (.chpStatLaneup o)) then
          { s with boot.refSource := some o } else s
      s.restartHop n
    else ((s.setFld (.chpStatState n) 3).raise (srcChpLanedegr n)).judgeChain n

/-- LANE_DOWN (R180). -/
def execLaneDown (port lane : Nat) (s : State) : Result := run s (laneDown · port lane)

/-- LANE_RETRAIN_TIMER (R180): a lane that is down is retrained at the hop's rate; the other lane is not disturbed. -/
def execLaneRetrainTimer (port lane : Nat) (s : State) : Result :=
  run s fun s =>
    if s.fld (.chpStatState port) == 3 && ((s.port port).lane lane).down then
      let t := tapPreset (s.fld (.chpStatRate port))
      let s := ((s.setFld (.chpTapsPre port lane) t.1).setFld (.chpTapsPost port lane) t.2.1).setFld (.chpTapsMain port lane) t.2.2
      (s.onPort port (·.onLane lane Lane.untrained)).sendLink port lane (.train ⟨0, 0, 0, 0, false, lane⟩)
    else s

/-- LANE_ALIGNED (R186): two commas, each followed by a sound cell, align the lane; a degraded port whose lanes are both
aligned is in service again and LANEDEGR ends. -/
def laneAligned (s : State) (n l : Nat) : State :=
  let s := s.onPort n (·.onLane l (fun x => { x with aligned := true, commas := 2, badRun := 0, down := false }))
  let s := s.setFldBit (.chpStatLaneup n) l true
  if s.fld (.chpStatState n) == 3 && s.fld (.chpStatLaneup n) == 3 then
    ((s.setFld (.chpStatState n) 2).lower (srcChpLanedegr n)).judgeChain n
  else s

/-- LANE_ALIGNED (R186). -/
def execLaneAligned (port lane : Nat) (s : State) : Result := run s (laneAligned · port lane)

/-! ### Electrical idle (R181) -/

/-- Some enumerated tile of chain port `n` reported REFSRC 1 (R181, R197); a tile knows of its own. -/
def State.chainRefsrc (s : State) (n : Nat) : Bool :=
  if s.isTile then s.prof (·.flags) % 2 == 1
  else (List.range 64).any (fun p => s.flag (.chpEnumrec3Valid n p) && testBit (s.fld (.chpEnumrec3Rates n p)) 4)

/-- The chain is in a static stroke (R208): in a sender the stroke is sent as static; in a tile the marker carried UNCHANGED. -/
def State.staticStroke (s : State) : Bool := if s.isTile then s.chain.unchanged else s.chain.static

/-- EIDLE_ENTER (R181): a transmitter that has sent only idle cells for IDLEHOLD µs in a static stroke enters electrical
idle, when EIDLEEN is set and no tile of the chain reported REFSRC 1. -/
def execEidleEnter (port lane : Nat) (s : State) : Result :=
  run s fun s =>
    if s.flag .klsCtrlEidleen && s.portUp port && (s.port port).queue.isEmpty && s.staticStroke && !s.chainRefsrc port &&
        !testBit (s.fld (.chpStatEidle port)) lane then
      ((s.onPort port (·.onLane lane (fun x => { x with eidle := true }))).setFldBit (.chpStatEidle port) lane true).bump
        (.chpEidleent port) 1
    else s

/-- WAKE_BURST_RX (R181): a tile starts a wake burst on the same lane of its other port. -/
def execWakeBurstRx (port lane : Nat) (s : State) : Result :=
  run s fun s => if s.isTile then s.wakeLane (otherPort port) lane else s

/-- MARKER_WAKE_LEAD (R181): before a stroke marker the sender wakes every lane of its ports that is in electrical idle. -/
def execMarkerWakeLead (s : State) : Result :=
  run s fun s =>
    if s.isSender then
      s.servicePorts.foldl (fun s n => iterate 2 (fun s l =>
        if testBit (s.fld (.chpStatEidle n)) l then s.wakeLane n l else s) s) s
    else s

/-! ### Link delay (R203) -/

/-- DLY_EXCHANGE: the port sends DLYREQ on a lane and records its departure; during electrical idle the last value of LINKDLY stays in
force and no exchange begins (R203). Every instant is in 1/16 ns. -/
def execDlyExchange (port lane departure : Nat) (s : State) : Result :=
  run s fun s =>
    if testBit (s.fld (.chpStatEidle port)) lane || ((s.port port).lane lane).down then s
    else (s.onPort port (·.onLane lane (fun x => { x with t1 := some departure }))).sendLink port lane .dlyreq

/-- DLYREQ_RX: the neighbour answers with the turnaround of its previous exchange and keeps this one's (R203). -/
def dlyreq (s : State) (n l arrival departure : Nat) : State :=
  let turn := ((s.port n).lane l).turn
  (s.onPort n (·.onLane l (fun x => { x with turn := departure - arrival }))).sendLink n l (.dlyrsp turn)

/-- DLYREQ_RX (R203). -/
def execDlyreqRx (port lane arrival departure : Nat) (damage : CellDamage) (s : State) : Result :=
  run s fun s => s.arrive port lane damage false (dlyreq · port lane arrival departure)

/-- The mean of the measurements in 1/16 ns, rounded once (R203): each is kept doubled, as (t4 - t1) - (t3 - t2). -/
def delayMean (l : List Int) : Nat := if l.isEmpty then 0 else (roundDiv (l.foldl (· + ·) 0) (2 * l.length)).toNat

/-- DLYRSP_RX: TURN completes the previous exchange: ((t4 - t1) - (t3 - t2)) / 2; LINKDLY is the mean of the last 16 (R203). -/
def dlyrsp (s : State) (n l turn arrival : Nat) : State :=
  let x := (s.port n).lane l
  match x.t1 with
  | none => s
  | some t1 =>
    let ds := match x.span with
      | none => x.delays
      | some sp => (x.delays ++ [sp - turn]).drop (x.delays.length + 1 - 16)
    let s := s.onPort n (·.onLane l (fun x => { x with t1 := none, span := some ((arrival : Int) - t1), delays := ds }))
    s.setFld (.chpLinkdly n l) (delayMean ds)

/-- DLYRSP_RX (R203). -/
def execDlyrspRx (port lane turn arrival : Nat) (damage : CellDamage) (s : State) : Result :=
  run s fun s => s.arrive port lane damage false (dlyrsp · port lane turn arrival)

/-! ### Enumeration (R199) -/

/-- NEXP: the highest enabled PLCn position plus one (R197). -/
def State.nexp (s : State) (n : Nat) : Nat :=
  ((List.range 64).map (fun p => if s.flag (.plcEntryEn n p) then p + 1 else 0)).foldl max 0

/-- Enumeration starts on a port (R199): ENUM leaves with INDEX 0. -/
def startEnum (s : State) (n : Nat) : State :=
  if s.isSender && s.chainPorts.contains n then
    let s := iterate 64 (fun s p => s.setReg (Fld.addr (.chpEnumrec3Valid n p)) (s.reg (Fld.addr (.chpEnumrec3Valid n p)) &&& 0xFFFDFFFF#32)) s
    let s := ((s.setFldBit .klsEnumcmdBusy n true).setFldBit .klsEnumcmdConflict n false).setFld (.chpStatNtiles n) 0
    (s.onPort n (fun p => { p with enumerating := true, chainLen := none, clashed := [] })).sendCell n (.enumerate 0 (s.nexp n))
  else s

/-- ENUM_START (R199): start-up, ENUMCMD or a changed hop rate. -/
def execEnumStart (port : Nat) (s : State) : Result := run s (startEnum · port)

/-- How many positions of a port hold a valid record. -/
def State.tilesOf (s : State) (n : Nat) : Nat :=
  ((List.range 64).filter (fun p => s.flag (.chpEnumrec3Valid n p))).length

/-- An enumeration conflict on a port (R199). -/
def State.enumConflict (s : State) (n : Nat) : State := (s.setFldBit .klsEnumcmdConflict n true).raise srcKlsEnumconflict

/-- The records of a port count again (R179, R199): NTILES, the chain rate and the budget follow. -/
def State.countTiles (s : State) (n : Nat) : State :=
  ((s.setFld (.chpStatNtiles n) (s.tilesOf n)).showChainRate n).judgeChain n

/-- The enumeration of a port ends: positions that do not cover 0 to N - 1 once each conflict, and a record beyond the chain's length is invalid (R199). -/
def State.endEnum (s : State) (n : Nat) : State :=
  let s := (s.onPort n (fun p => { p with enumerating := false })).setFldBit .klsEnumcmdBusy n false
  let len := (s.port n).chainLen.getD (s.nexp n)
  let cover := (List.range len).all (fun p => s.flag (.chpEnumrec3Valid n p)) && s.tilesOf n == len
  let s := if cover then s else s.enumConflict n
  (iterate 64 (fun s p => if len ≤ p then s.setFld (.chpEnumrec3Valid n p) 0 else s) s).countTiles n

/-- The life-cycle state: the count of state bits blown (R394). -/
def State.lcs (s : State) : Nat :=
  ((List.range 5).filter (fun i => decide (2 ≤ (s.life.blown.filter (fun c => testBit c i)).length))).length

/-- The ENUMR a tile answers with (R197). -/
def State.enumrOf (s : State) : EnumrCell :=
  let ok := s.flag .snkStatMapok
  { unitId := s.life.unitId,
    tw := if ok then s.fld .snkStatTw else 0,
    th := if ok then s.fld .snkStatTh else 0,
    prim := if ok then 3 + s.fld .snkStatPrim4 else 0,
    pos := if s.flag .klsTstatPosvalid then s.fld .klsTstatPos else 0xFF,
    hopsB := if s.flag .klsTstatHopsbvalid then s.fld .klsTstatHopsb else 0xFF,
    rates := s.fld (.chpStatRate 0) + 4 * s.fld (.chpStatRate 1) + 16 * (s.prof (·.flags) % 2) + 32 * s.lcs,
    fwver := s.fld .updVer }

/-- ENUM_CELL_RX (R199): a tile records its hop count, takes its position, answers ENUMR inbound (not during a warm restart, R211) and
forwards ENUM with INDEX + 1; a sender learns the chain length. -/
def enumCell (s : State) (n index nexp : Nat) : State :=
  if s.isTile then
    let s := if n == 0 then { s with chain.hopsA := some index } else s
    let s := if n == 1 then
        (s.setFld .klsTstatHopsb (if index < 64 then index else 0)).setFld .klsTstatHopsbvalid (bit (decide (index < 64)))
      else s
    let s := if n == 0 then
        (s.setFld .klsTstatPos (if index < 64 then index else 0)).setFld .klsTstatPosvalid (bit (decide (index < 64)))
      else if s.chain.hopsA.isNone then
        let ok := decide (index < nexp) && decide (nexp - 1 - index < 64)
        (s.setFld .klsTstatPos (if ok then nexp - 1 - index else 0)).setFld .klsTstatPosvalid (bit ok)
      else s
    let s := if s.restarting then s else s.sendCell n (.enumr index s.enumrOf)
    if s.portUp (otherPort n) then s.sendCell (otherPort n) (.enumerate (index + 1) nexp) else s
  else if s.isSender && (s.port n).enumerating then
    (s.onPort n (fun p => { p with chainLen := some index })).endEnum n
  else s

/-- ENUM_CELL_RX (R199). -/
def execEnumCellRx (port lane index nexp : Nat) (damage : CellDamage) (s : State) : Result :=
  run s fun s => s.arrive port lane damage false (enumCell · port index nexp)

/-- `s` with the ENUMR record of a position written (R199). -/
def State.putEnumrec (s : State) (n : Nat) (c : EnumrCell) (valid : Bool) : State :=
  let p := c.pos
  let s := (s.setFld (.chpEnumrec0 n p) c.unitId).setFld (.chpEnumrec1 n p) (c.unitId / 2 ^ 32)
  let s := (s.setFld (.chpEnumrec2Tw n p) c.tw).setFld (.chpEnumrec2Th n p) c.th
  let s := (s.setFld (.chpEnumrec3Hopsb n p) c.hopsB).setFld (.chpEnumrec3Rates n p) (c.rates % 32)
  let s := (s.setFld (.chpEnumrec3Lcs n p) (c.rates / 32)).setFld (.chpEnumrec3Prim4 n p) (bit (c.prim == 4))
  s.setFld (.chpEnumrec3Valid n p) (bit valid)

/-- ENUMR_CELL_RX (R199): a sender records it; a second tile at a position, or a tile without one, conflicts, and the
conflicting record is marked invalid until the next enumeration. A tile passes another tile's ENUMR on. -/
def enumrCell (s : State) (n l index : Nat) (c : EnumrCell) : State :=
  if s.isTile then s.forward n l (.enumr index c)
  else if !s.isSender then s
  else if 64 ≤ c.pos then s.enumConflict n
  else
    let had := s.flag (.chpEnumrec3Valid n c.pos)
    let same := s.fld (.chpEnumrec0 n c.pos) == c.unitId % 2 ^ 32 && s.fld (.chpEnumrec1 n c.pos) == c.unitId / 2 ^ 32
    let clash := (had && !same) || (s.port n).clashed.contains c.pos
    let s := s.putEnumrec n c (!clash)
    let s := if clash then (s.onPort n (fun p => { p with clashed := c.pos :: p.clashed })).enumConflict n else s
    let misfit := s.flag (.plcEntryEn n c.pos) && !Reader.placed s.reg n c.pos
    let s := if misfit then s.raise srcCmpPlacefit else s
    let s := s.countTiles n
    if (s.port n).enumerating && s.tilesOf n == s.nexp n then
      (s.onPort n (fun p => { p with chainLen := some (s.nexp n) })).endEnum n
    else s

/-- ENUMR_CELL_RX (R199). -/
def execEnumrCellRx (port lane index : Nat) (cell : EnumrCell) (damage : CellDamage) (s : State) : Result :=
  run s fun s => s.arrive port lane damage true (enumrCell · port lane index cell)

/-! ### The cox mark (R200) -/

/-- The serving port of a tile: 0 is A, 1 is B. -/
def State.serving (s : State) : Option Nat :=
  match s.fld .klsTstatServ with
  | 1 => some 0
  | 2 => some 1
  | _ => none

/-- Cells of this port are consumed: it is the serving port (R201). -/
def State.serves (s : State) (n : Nat) : Bool := s.serving == some n

/-- The port that carries the mark becomes the serving port (R200); with REFSRC 1 the reference source follows it (R74). -/
def State.setServing (s : State) (n : Nat) (relay : Bool) : State :=
  let s := ((s.setFld .klsTstatServ (n + 1)).setFld .klsTstatRelay (bit relay)).setFld .devModestatSplit (bit relay)
  if s.prof (·.flags) % 2 == 1 then { s with boot.refSource := some n } else s

/-- The current mark is held in COXID and COXEPOCH (R200). -/
def State.holdCox (s : State) (c : CoxCell) : State :=
  let s := { s with chain.cox := some c }
  ((s.setFld .klsCoxidlo c.senderId).setFld .klsCoxidhi (c.senderId / 2 ^ 32)).setFld .klsCoxepoch c.epoch

/-- A new mark is adopted (R200): its port serves, the stroke is witnessed (R225), and the cell maps of the receiving buffers are
cleared, so regions complete only from cells of the new serving port (R232). -/
def State.adoptCox (s : State) (n : Nat) (c : CoxCell) : State :=
  let s := (s.holdCox c).setServing n c.relay
  let clear := fun (v : ScanView) => { v with cells := [] }
  { s with scan.witnessed := true, scan.views := s.scan.views.map clear }

/-- COX_CELL_RX in a tile (R200): a newer epoch is adopted; the same mark makes its port serve, with port A first; an older
epoch or another sender's same epoch counts in NOTSERVING. The cell is forwarded (R201). -/
def coxCell (s : State) (n l : Nat) (c : CoxCell) : State :=
  if !s.isTile then s
  else
    let s := if n == 0 then { s with chain.coxA := true } else { s with chain.coxB := true }
    let s := match s.chain.cox with
      | none => (s.adoptCox n c).raise srcKlsCoxnew
      | some m =>
        if strokeAfter c.epoch m.epoch then
          let s := if c.senderId != m.senderId then s.raise srcKlsCoxnew else s
          s.adoptCox n c
        else if c.epoch == m.epoch && c.senderId == m.senderId then
          let s := { s with scan.witnessed := true }
          if n == 1 && s.chain.coxA && s.serves 0 then s else (s.holdCox c).setServing n c.relay
        else s.bump (.chpNotserving n) 1
    s.forward n l (.cox c)

/-- COX_CELL_RX (R200). -/
def execCoxCellRx (port lane : Nat) (cell : CoxCell) (damage : CellDamage) (s : State) : Result :=
  run s fun s => s.arrive port lane damage true (coxCell · port lane cell)

/-! ### Stroke markers along the chain (R98, R202, R204) -/

/-- STROKE_CELL_RX (R204): the tile adds the link delay of the lane, follows the marker if it came on the serving port, and
sends it on with its residence time added. A marker with a bad CRC is not forwarded (R202). -/
def strokeCell (s : State) (n l : Nat) (c : StrokeCell) (arrival departure : Nat) : State :=
  if !s.isTile then s
  else
    let accum := wrap32 (c.accum + s.fld (.chpLinkdly n l))
    let s := if s.serves n && !s.restarting then takeMarker s c accum arrival else s
    s.forward n l (.stroke { c with accum := wrap32 (accum + (departure - arrival)) })

/-- STROKE_CELL_RX (R204). -/
def execStrokeCellRx (port lane : Nat) (cell : StrokeCell) (arrival departure : Nat) (damage : CellDamage) (s : State) : Result :=
  run s fun s => s.arrive port lane damage false (strokeCell · port lane cell arrival departure)

/-! ### Tunnel credit of a sender (R54, R55, R209) -/

/-- Operations a sender has outstanding on a chain port (R54). -/
def State.tunnelOut (s : State) (n : Nat) : Nat :=
  ((s.access.tunnel.filter (fun t => t.port == n)).map (·.ops.length)).sum

/-- Credit used at a position of a chain port: a tile queues 64 tunnel operations (R209). -/
def State.tunnelUsed (s : State) (n pos : Nat) : Nat := assocGet (s.port n).tunnelUsed pos 0

/-- The partner serves a position in split drive (R339): it reports the port split, and no HEALTH cell of the position reaches this unit. -/
def State.passedOver (s : State) (n pos : Nat) : Bool :=
  s.isSender && s.prof (·.pair) == 1 && s.pairing.partner.any (fun c => testBit c.split n) &&
    !(s.port n).healthSeen.contains pos && !(s.port n).healthLast.contains pos

/-- A tunnel request leaves: on its chain port, or over the cross-link to the partner that serves the position in split drive (R209, R339). -/
def State.sendTunreq (s : State) (t : TunnelReq) : State :=
  let c : TunreqCell := { tag := t.tag, pos := t.pos, bcast := false, ops := t.ops, chain := 0 }
  if s.passedOver t.port t.pos then s.sendCross (.tunreq { c with chain := t.port }) else s.sendCell t.port (.tunreq c)

/-- A waiting cell goes out while the sender holds credit for every operation in it; cells for one tile keep their order (R209). -/
def State.sendTunnel (s : State) (t : TunnelReq) : State :=
  let used := s.tunnelUsed t.port t.pos
  let first := s.access.tunnel.find? (fun x => x.port == t.port && x.pos == t.pos && !x.sent)
  if first.map (·.tag) != some t.tag || 64 < used + t.ops.length then s
  else
    let mark := fun (x : TunnelReq) => if x.tag == t.tag then { x with sent := true } else x
    let s := { s with access.tunnel := s.access.tunnel.map mark }
    let s := s.onPort t.port (fun p => { p with tunnelUsed := assocPut p.tunnelUsed t.pos 0 (used + t.ops.length) })
    s.sendTunreq t

/-- Every waiting cell that may go out now goes, in order (R209). -/
def State.sendTunnels (s : State) : State := (s.access.tunnel.filter (fun t => !t.sent)).foldl State.sendTunnel s

/-- One cell's operations join the outstanding ones under a fresh tag (R209). -/
def State.addTunnel (n pos session seq : Nat) (s : State) (off : Nat) (ops : List AccessOp) : State :=
  let tag := s.access.nextTag
  let t : TunnelReq := { tag := tag, port := n, pos := pos, session := session, seq := seq, off := off, ops := ops, sent := false }
  { s with access.nextTag := (tag + 1) % 65536, access.tunnel := s.access.tunnel ++ [t] }

/-- Operations go to a tile, 15 to a cell (R209). -/
def State.tunnelTo (s : State) (n pos session seq : Nat) (ops : List AccessOp) : State :=
  let cells := (List.range ((ops.length + 14) / 15)).map (fun i => (15 * i, (ops.drop (15 * i)).take 15))
  (cells.foldl (fun s c => s.addTunnel n pos session seq c.1 c.2) s).sendTunnels

/-- The answers of a cell unanswered for 4 ms, or of a session taken away: TIMEOUT for each operation (R55). -/
def TunnelReq.timedOut (t : TunnelReq) : List OpResult := t.ops.map (fun o => ⟨7, o.addr, 0⟩)

/-- The results of a cell take their places in the response that its request waits for (R52). -/
def TunnelReq.note (t : TunnelReq) (rs : List OpResult) (d : DapTunnel) : DapTunnel :=
  if d.session == t.session && d.seq == t.seq then
    let place := fun (i : Nat) (old : OpResult) => if t.off ≤ i ∧ i < t.off + t.ops.length then rs.getD (i - t.off) old else old
    { d with results := d.results.mapIdx place }
  else d

/-- A tunnelled request has its last answer (R52, R53): the response leaves once for the request and once for every repeat that waited, and is
kept while the session has executed no later one. -/
def State.answerTunnel (s : State) (session seq : Nat) : State :=
  match s.access.tunnelled.find? (fun d => d.session == session && d.seq == seq) with
  | none => s
  | some d =>
    let r : DapReply := { mac := d.mac, ip := d.ip, type := 2, session := session, seq := seq, retry := 0, status := 0, target := d.target, results := d.results }
    let keep := fun (x : DapSession) => if x.id == session && x.lastSeq == some seq then { x with stored := some r } else x
    let s := { s with access.tunnelled := s.access.tunnelled.filter (fun x => !(x.session == session && x.seq == seq)),
                      access.sessions := s.access.sessions.map keep }
    (List.replicate d.asked r).foldl State.sendDap s

/-- An outstanding cell is over: its credit returns, and a DAP session gets its response with the last cell of its request (R52, R54,
R209). -/
def State.endTunnel (s : State) (t : TunnelReq) (rs : List OpResult) : State :=
  let used := s.tunnelUsed t.port t.pos
  let s := if t.sent then s.onPort t.port (fun p => { p with tunnelUsed := assocPut p.tunnelUsed t.pos 0 (used - t.ops.length) }) else s
  let s := { s with access.tunnel := s.access.tunnel.filter (fun x => x.tag != t.tag) }
  let s := { s with access.tunnelled := s.access.tunnelled.map (t.note rs) }
  let s := s.sendTunnels
  if t.session < 8 && !s.access.tunnel.any (fun x => x.session == t.session && x.seq == t.seq) then s.answerTunnel t.session t.seq
  else s

/-- TUNRSP_CELL_RX (R209): a sender takes the statuses and read data; a tile passes it on, and so does a standby in split drive, over the cross-link
(R339). -/
def tunrspCell (s : State) (n l : Nat) (c : TunrspCell) : State × Option (List OpResult) :=
  if s.isTile then (s.forward n l (.tunrsp c), none)
  else if !s.drives && n < 8 && testBit (s.fld .pairStatSplit) n then (s.sendCross (.tunrsp c), none)
  else match s.access.tunnel.find? (fun t => t.tag == c.tag && (n == 8 || t.port == n) && t.sent) with
    | none => (s, none)
    | some t => (s.endTunnel t c.results, if t.session == 8 then some c.results else none)

/-- TUNNEL_TIMEOUT (R55): a tunnel operation unanswered for 4 ms is answered TIMEOUT, also one that still waits for credit. -/
def tunnelTimeout (s : State) (tag : Nat) : State × Option (List OpResult) :=
  match s.access.tunnel.find? (fun t => t.tag == tag) with
  | none => (s, none)
  | some t => (s.endTunnel t t.timedOut, if t.session == 8 then some t.timedOut else none)

end Sys2Proof.Machine
end

