-- ==== Sys2Proof/Machine/Cue.lean ====
section
/-!
DEFINITION. The cue queue (spec/04, R106 to R114): the check of an entry, insertion and lateness, cancelling, distribution to tiles and reception from the chain. Executing a cue's writes is in Machine/Catch.lean.
-/

namespace Sys2Proof.Machine

/-! ### Routing of chain cells (R201) -/

/-- A cell that the tile passes on out of its other port. With that hop down the tile ends it: an addressed VIDEO, CUE, TUNREQ
or IMAGE cell is counted in MISADDR of the port it arrived on. -/
def State.passOn (s : State) (n l : Nat) (bcast : Bool) (c : Cell) : State :=
  if s.portUp (otherPort n) then s.forward n l c
  else if bcast then s else s.bump (.chpMisaddr n) 1

/-- A position is this tile's own. -/
def State.mine (s : State) (pos : Nat) : Bool := s.flag .klsTstatPosvalid && pos == s.fld .klsTstatPos

/-- A VIDEO, CUE, TUNREQ or IMAGE cell that arrives on port `n` begins to leave by the other port as it comes in: every one but a cell addressed to this
tile on its serving port (R201, R202). -/
def State.through (s : State) (n pos : Nat) (bcast : Bool) : Bool := bcast || !(s.serves n && s.mine pos)

/-- What becomes of a VIDEO, CUE, TUNREQ or IMAGE cell that arrives on lane `l` of port `n` (R201): whether it is consumed here, and the
state with it counted and passed on. A sender that meets another sender's cell for an absent position counts it in MISADDR. During a warm restart
cells to this tile are discarded (R69). -/
def State.route (s : State) (n l pos : Nat) (bcast : Bool) (c : Cell) : State × Bool :=
  if !s.isTile then (if s.isSender && !bcast then s.bump (.chpMisaddr n) 1 else s, false)
  else if !s.serves n then ((s.bump (.chpNotserving n) 1).passOn n l bcast c, false)
  else if bcast then (s.passOn n l true c, !s.restarting)
  else if s.mine pos then (s, !s.restarting)
  else (s.passOn n l false c, false)

/-! ### Entries (R106, R108) -/

/-- The entry assembled in CUE.IN0 to IN15 (R106). -/
def State.cueIn (s : State) : CueEntry :=
  let w := fun i => s.fld (.cueIn i)
  { stroke := w 0, action := w 1 % 256, count := w 1 / 256 % 256, attr := w 1 / 65536, target := w 2 % 65536,
    tag := w 2 / 65536, addr := w 3, data := (List.range 8).map (fun i => s.reg (Fld.addr (.cueIn (4 + i)))) }

/-- Entry `i` of the page list of a commit or snapshot cue: sixteen 16-bit entries in DATA (R106). -/
def CueEntry.pageEntry (e : CueEntry) (i : Nat) : Nat := (e.data.getD (i / 2) 0).toNat / 65536 ^ (i % 2) % 65536

/-- The 64 bytes of an entry as stored, with its SEQ (R106). -/
def CueEntry.bytes (e : CueEntry) (seq : Nat) : List Byte :=
  leBytes 4 e.stroke ++ leBytes 1 e.action ++ leBytes 1 e.count ++ leBytes 2 e.attr ++ leBytes 2 e.target ++ leBytes 2 e.tag ++
    leBytes 4 e.addr ++ ((List.range 8).flatMap (fun i => leBytes 4 (e.data.getD i 0).toNat)) ++ leBytes 4 seq ++ List.replicate 12 0

/-- The entry that 64 bytes spell (R106). -/
def entryOf (b : List Byte) : CueEntry :=
  let at_ := fun o n => leNat ((b.drop o).take n)
  { stroke := at_ 0 4, action := at_ 4 1, count := at_ 5 1, attr := at_ 6 2, target := at_ 8 2, tag := at_ 10 2, addr := at_ 12 4,
    data := (List.range 8).map (fun i => Word.ofNat (at_ (16 + 4 * i) 4)) }

/-- The entry is malformed (R108). -/
def CueEntry.malformed (e : CueEntry) (tile : Bool) : Bool :=
  let a := e.action
  let badAction := a == 0 || decide (5 < a)
  let badCount :=
    if a == 1 || a == 2 then e.count != 1
    else if a == 3 then e.count == 0 || decide (8 < e.count)
    else e.count == 0 || decide (16 < e.count)
  let badAttr := decide (4 ≤ e.attr)
  let t := e.target
  let badTarget :=
    t / 64 % 16 != 0 || (testBit t 10 && !testBit t 11) || (!testBit t 15 && t % 32768 != 0) || (tile && t != 0)
  let badAddr := if a ≤ 3 then decide (2 ^ 24 ≤ e.addr) else e.addr != 0
  let badPages := decide (4 ≤ a) && (List.range e.count).any (fun i => decide (4096 ≤ e.pageEntry i))
  badAction || badCount || badAttr || badTarget || badAddr || badPages

/-- ATTR.DROP_LATE (R106). -/
def CueEntry.dropLate (e : CueEntry) : Bool := testBit e.attr 0

/-- ATTR.FENCE (R106). -/
def CueEntry.fence (e : CueEntry) : Bool := testBit e.attr 1

/-- The cue is addressed to tiles (R106). -/
def CueEntry.toTiles (e : CueEntry) : Bool := testBit e.target 15

/-- Entries the queue holds: 131,072 in a sender, 4,096 in a tile (R108). -/
def State.cueRoom (s : State) : Nat := if s.isTile then 4096 else 131072

/-- Free entries, `CUE.STAT.FREE`. -/
def State.cueFree (s : State) : Nat := s.cueRoom - s.cue.queue.length

/-- `x` stands after `y` in the queue's order: by stroke (R93), then by SEQ (R108). -/
def cueAfter (x y : Cue) : Bool :=
  strokeAfter x.entry.stroke y.entry.stroke || (wrap32 x.entry.stroke == wrap32 y.entry.stroke && strokeAfter x.seq y.seq)

/-- The queue with a cue at its place (R108). -/
def cueInsert (c : Cue) : List Cue → List Cue
  | [] => [c]
  | x :: xs => if cueAfter x c then c :: x :: xs else x :: cueInsert c xs

/-- The stroke that the unit's last stroke boundary began (R41): the current stroke in a tile, the stroke of the last compose lead point in a
sender. -/
def State.boundary (s : State) : Nat := if s.isTile then s.stroke else s.access.prepared

/-- A cue that enters now is late: at or after the latch instant that prepares its stroke, or with its stroke past (R110). -/
def State.cueLate (s : State) (stroke : Nat) : Bool := !strokeAfter stroke s.access.prepared || strokeBefore stroke s.stroke

/-- A cue is late: ATTR.LATE, the boundary `due` at which it executes or is discarded, and, unless DROP_LATE is set, one more in LATECNT
(R110). -/
def State.lateCue (s : State) (c : Cue) (due : Nat) : State × Cue :=
  (if c.entry.dropLate then s else s.bump .cueLatecnt 1,
    { c with entry := { c.entry with attr := setBit c.entry.attr 2 true }, late := true, due := wrap32 due })

/-- A sound entry enters the queue and takes the next SEQ (R108, R110). -/
def State.enterCue (s : State) (e : CueEntry) : State :=
  let c : Cue := { entry := e, seq := s.cue.nextSeq, late := false, due := 0, prepared := false, status := 0 }
  let r := if !e.toTiles && s.cueLate e.stroke then s.lateCue c (s.boundary + 1) else (s, c)
  { r.1 with cue.nextSeq := wrap32 (c.seq + 1), cue.queue := cueInsert r.2 s.cue.queue }

/-- A write of CUE.PUSH.GO (R108): the status for its access path and the new state. -/
def pushCue (s : State) : State × Nat :=
  let e := s.cueIn
  if e.malformed s.isTile then (s.setFld .cuePushResult 3, 0)
  else if s.cueFree == 0 then (s.setFld .cuePushResult 2, 1)
  else
    let late := !e.toTiles && s.cueLate e.stroke
    let seq := s.cue.nextSeq
    let s := s.enterCue e
    let s := s.journal ⟨3, 0, 0, 0, 0, seq, ({ e with attr := setBit e.attr 2 late } : CueEntry).bytes seq⟩
    ((s.setFld .cuePushResult (if late then 5 else 1)).setFld .cuePushSeq seq, 0)

/-- A write of CUE.CANCEL.GO (R112): every queued cue with the tag goes, and CANCELN reports how many. -/
def cancelCues (s : State) (tag : Nat) : State :=
  let gone := (s.cue.queue.filter (fun c => c.entry.tag == tag)).length
  let s := s.journal ⟨4, 0, 0, 0, 0, tag, []⟩
  ({ s with cue.queue := s.cue.queue.filter (fun c => c.entry.tag != tag) }).setFld .cueCancelnCount gone

/-! ### Errors (R107) -/

/-- A cue has failed (R107): LASTERR names it with the status of the first failing item, ERRCNT advances once, EXECERR is raised. -/
def State.cueError (s : State) (e : CueEntry) (status : Nat) : State :=
  (((s.setFld .cueLasterrTag e.tag).setFld .cueLasterrStatus status).setFld .cueLasterrAction e.action |>.bump .cueErrcnt 1).raise
    srcCueExecerr

/-! ### Distribution to tiles (R111) -/

/-- The chain ports a tile-addressed cue names. -/
def CueEntry.ports (e : CueEntry) : List Nat := if testBit e.target 10 then List.range 8 else [e.target / 4096 % 8]

/-- The tiles a cue addresses, as (port, position). A cue to all ports takes the ports in service. -/
def State.cueTiles (s : State) (e : CueEntry) : List (Nat × Nat) :=
  let ports := if testBit e.target 10 then s.servicePorts else e.ports
  ports.flatMap (fun n =>
    if testBit e.target 11 then
      ((List.range 64).filter (fun p => s.flag (.chpEnumrec3Valid n p))).map (fun p => (n, p))
    else [(n, e.target % 64)])

/-- The cue names a port out of service or a position not enumerated (R111). -/
def State.cueBadTarget (s : State) (e : CueEntry) : Bool :=
  (!testBit e.target 10 && !(s.servicePorts.contains (e.target / 4096 % 8))) ||
    (!testBit e.target 11 && !s.flag (.chpEnumrec3Valid (e.target / 4096 % 8) (e.target % 64)))

/-- Credit held for a tile (R111). -/
def State.cueCredit (s : State) (n p : Nat) : Nat := assocGet s.cue.credits (64 * n + p) 0

/-- `s` with one credit of a tile used. -/
def State.useCredit (s : State) (n p : Nat) : State :=
  { s with cue.credits := assocPut s.cue.credits (64 * n + p) 0 (s.cueCredit n p - 1) }

/-- One cue of the queue is judged for distribution (R111): not yet due, discarded as BADTARGET, held for credit, or sent
on every addressed port. `latched` is the newest stroke whose latch instant at the tiles has passed. -/
def distributeOne (latched : Nat) (s : State) (c : Cue) : State :=
  let e := c.entry
  let ahead := strokesAhead e.stroke s.stroke
  let due := decide (ahead ≤ s.fld .cueCfgDistlead) || strokeBefore e.stroke s.stroke
  if !e.toTiles || !due then s
  else
    let drop := fun (s : State) => { s with cue.queue := s.cue.queue.filter (fun x => x.seq != c.seq) }
    if s.cueBadTarget e then (drop s).cueError e 9
    else
      let tiles := s.cueTiles e
      if tiles.all (fun t => decide (0 < s.cueCredit t.1 t.2)) then
        let s := tiles.foldl (fun s t => s.useCredit t.1 t.2) (drop s)
        let s := { s with cue.held := s.cue.held.filter (· != c.seq) }
        let bc := testBit e.target 11
        let s := (tiles.map (·.1)).eraseDups.foldl (fun s n =>
          s.submit n (wrap32 e.stroke) (.cue (e.target % 64) bc [{ e with target := 0 }])) s
        let mask := (tiles.map (·.1)).eraseDups.foldl (fun m n => setBit m n true) 0
        s.journal ⟨5, 0, 0, 0, mask, c.seq, []⟩
      else
        let s := if s.cue.held.contains c.seq then s
          else ({ s with cue.held := s.cue.held ++ [c.seq] }).bump .cueHeldcnt 1
        if strokeAtOrAfter latched e.stroke then s.raise srcCueCreditwait else s

/-- CUE_DISTRIBUTE: a sender in control goes through its queue in order (R111, R331). -/
def execCueDistribute (tilesLatched : Nat) (s : State) : Result :=
  run s fun s => if s.drives then s.cue.queue.foldl (distributeOne tilesLatched) s else s

/-- CUE_CELL_RX: a tile inserts the entries of a CUE cell from its serving port (R111, R193, R201); an entry with ACTION 0 is an
empty slot. -/
def cueCell (s : State) (n l pos : Nat) (bcast : Bool) (es : List CueEntry) : State :=
  let (s, mine) := s.route n l pos bcast (.cue pos bcast es)
  if mine then
    es.foldl (fun s e =>
      let e := { e with target := 0 }
      if e.action == 0 || e.malformed true then s
      else if testBit s.boot.testing 3 then s.cueError e 4
      else if s.cueFree == 0 then s else s.enterCue e) s
  else s

/-- CUE_CELL_RX (R111). -/
def execCueCellRx (port lane pos : Nat) (bcast : Bool) (entries : List CueEntry) (damage : CellDamage) (s : State) : Result :=
  run s fun s => s.arrive port lane damage (s.through port pos bcast) (cueCell · port lane pos bcast entries)

end Sys2Proof.Machine
end

