-- ==== Sys2Proof/Machine/Reset.lean ====
section
/-!
DEFINITION. A full reset as one shared operation (R66 to R68), and the reset of a page's registers (R39).
-/

namespace Sys2Proof.Machine

/-- The bits of DEV.RSTCAUSE (R67). -/
inductive Cause where
  | por | pin | supply | thermal | swFull | swWarm | wdog | regatta | escalate | htExpire
  deriving DecidableEq, Repr

/-- The bit of a cause in DEV.RSTCAUSE. -/
def Cause.bit : Cause → Nat
  | .por => 0 | .pin => 1 | .supply => 2 | .thermal => 3 | .swFull => 4 | .swWarm => 5 | .wdog => 6
  | .regatta => 7 | .escalate => 8 | .htExpire => 9

/-- Fresh challenge bytes from the entropy source (R397): free values. -/
def freshBytes (n k : Nat) : List Byte := (List.range k).map (fun i => BitVec.ofNat 8 (Config.freeNat (n + i)))

/-- A new challenge is drawn (R397). -/
def State.drawChallenge (s : State) : State :=
  { s with life.challenge := freshBytes s.free 32, free := s.free + 32 }

/-- A full reset (R66, R68): everything but the fuses, the event store and the boot flash takes its reset value; the counter
restarts at 0; RSTCAUSE keeps only its own cause and THERMAL. `select` is the profile a keyed write named; otherwise the
pins select. A reset that nothing holds ends at once and samples the pins, whose level no command gives then: a free value (R62, log entry
112); one that is `held` samples them at RESET_RELEASE. The commands that wait are not the device's, so they stay. -/
def fullReset (s : State) (cause : Cause) (select : Option Nat) (held : Bool) : State :=
  let thermal := testBit (s.fld .devRstcauseCause) 3
  let pins := if held then s.boot.pins else Config.freeNat s.free % 4
  let t := State.reset
  let t := { t with pending := s.pending, free := s.free + 1, sent := s.sent, reply := s.reply }
  let t := { t with boot.store := s.boot.store, boot.flash := s.boot.flash, boot.pins := pins, boot.frHigh := s.boot.frHigh,
                    boot.supplyLatch := s.boot.supplyLatch, boot.refclk := s.boot.refclk,
                    boot.select := select, boot.inReset := held }
  let t := { t with life := { s.life with token := State.reset.life.token, auth := State.reset.life.auth,
                                          pub := State.reset.life.pub, lastRefusal := none } }
  let t := { t with bist.fuses := s.bist.fuses }
  let t := { t with ths.ignored := s.ths.ignored, ths.coolRun := s.ths.coolRun, ths.hotRun := s.ths.hotRun }
  -- a running build ends with STATE 3 and REASON 5 (R164)
  let t := s.cmp.builds.foldl (fun t b => (t.setFld (.undStatState b.view) 3).setFld (.undStatReason b.view) 5) t
  let t := t.setFld .devRstcauseCause (setBit (2 ^ cause.bit) 3 (thermal || cause == .thermal))
  (t.setFld .devProfstatPins pins).drawChallenge

/-- The register addresses of a page. -/
def pageOf (a : Nat) : Nat := a / 4096

/-- A field word after a reset of its page: fields that the tables mark live keep reflecting their condition. -/
def liveMask (a : Nat) : Word :=
  let off := a % 4096
  match pageInfo (a / 4096) with
  | none => 0
  | some p =>
    match findReg p.type off with
    | none => 0
    | some r => r.fields.foldl (fun (w : Word) f =>
        if f.live then w ||| Word.ofNat ((2 ^ f.width - 1) * 2 ^ f.lo) else w) 0

/-- The word of address `a` after its page is reset (R39): STICKY and STICKY_MASK keep their values, COMMIT is left to the
caller, a live field keeps its condition, every other field takes its reset value. -/
def resetWordOf (a : Nat) (w : Word) : Word :=
  let off := a % 4096
  if off == 0x18 || off == 0x1C || off == 0x10 then w
  else (w &&& liveMask a) ||| (regReset a &&& ~~~liveMask a)

/-- The words of the pages that satisfy `p` take their reset values (R39); running counters of those pages clear. -/
def State.resetPages (s : State) (p : Nat → Bool) : State :=
  let keep := s.regs.filterMap (fun e =>
    if p (pageOf e.1) then
      let w := resetWordOf e.1 e.2
      if w = regReset e.1 then none else some (e.1, w)
    else some e)
  { s with regs := keep, counters := sparseDrop (fun a => p (pageOf a)) s.counters }

end Sys2Proof.Machine
end

