-- ==== Sys2Proof/Machine/Thermal.lean ====
section
/-!
DEFINITION. Thermal management and supply events (spec/15, R367 to R381; spec/03, R76 to R78; spec/01, R18): sensors, the panel thermistor, throttle and warning, fixed shutdown, supply warnings, and the adaptive core voltage.
-/

namespace Sys2Proof.Machine

/-! ### Sensors (R367, R368) -/

/-- A list of integers in ascending order. -/
def insertAsc (x : Int) : List Int → List Int
  | [] => [x]
  | y :: ys => if x ≤ y then x :: y :: ys else y :: insertAsc x ys

/-- A list sorted ascending. -/
def sortAsc (l : List Int) : List Int := l.foldr insertAsc []

/-- Twice the median of eight readings: the sum of the fourth and fifth ascending (R368). -/
def median2 (l : List Int) : Int := (sortAsc l).getD 3 0 + (sortAsc l).getD 4 0

/-- A reading is more than 10 °C off the median, in 1/16 °C (R368). -/
def offMedian (l : List Int) (r : Int) : Bool := decide (320 < (2 * r - median2 l).natAbs)

/-- Exclusion of sensor `i` after this sample (R368): excluded at 8 samples off the median in a row, readmitted at 1,000 near it. -/
def judgeSensor (readings : List Int) (s : State) (i : Nat) : State :=
  let off := offMedian readings (readings.getD i 0)
  let outRun := if off then s.ths.outRuns.getD i 0 + 1 else 0
  let inRun := if off then 0 else s.ths.inRuns.getD i 0 + 1
  let s := { s with ths.outRuns := listModify s.ths.outRuns i (fun _ => outRun),
                    ths.inRuns := listModify s.ths.inRuns i (fun _ => inRun) }
  let was := s.flag (.thsSensorExcl i)
  let s := s.setSfld (.thsSensorT i) (readings.getD i 0)
  if !was && 8 ≤ outRun then
    ((s.setFld (.thsSensorExcl i) 1).raise srcThsSensorfail).logEvent 8 i 0 0
  else if was && 1000 ≤ inRun then s.setFld (.thsSensorExcl i) 0
  else s

/-- The sensors that are not excluded. -/
def State.validSensors (s : State) : List Nat := (List.range 8).filter (fun i => !s.flag (.thsSensorExcl i))

/-- TJMAX: the highest reading of the sensors left, its sensor and their number (R367). -/
def State.takeJunction (s : State) : State :=
  let ok := s.validSensors
  let pick := fun (m : Nat) i => if s.sfld (.thsSensorT m) < s.sfld (.thsSensorT i) then i else m
  let src := match ok with
    | [] => 0
    | i :: is => is.foldl pick i
  let s := if ok.isEmpty then s else (s.setSfld .thsTjmaxTj (s.sfld (.thsSensorT src))).setFld .thsTjmaxSrc src
  (s.setFld .thsTjmaxValidn ok.length).level srcThsSensorfail (decide (ok.length < 8))

/-! ### The panel thermistor (R369) -/

/-- 2^60, the scale of the fixed-point logarithm. -/
def fixOne : Nat := 2 ^ 60

/-- Partial sums of artanh: the sum over odd k of z^k / k, at scale 2^60. -/
def artanhSum (z z2 : Int) : Nat → Nat → Int
  | 0, _ => 0
  | n + 1, k => Int.fdiv z k + artanhSum (Int.fdiv (z * z2) fixOne) z2 n (k + 2)

/-- ln of `a / b` for a ratio in [1, 2], at scale 2^60: 2 artanh((a - b) / (a + b)). -/
def lnNear (a b : Nat) : Int :=
  let z := Int.fdiv ((a : Int) - b) 1 * fixOne / (a + b : Nat)
  2 * artanhSum z (Int.fdiv (z * z) fixOne) 24 1

/-- ln 2 at scale 2^60. -/
def lnTwo : Int := lnNear 2 1

/-- ln of `a / b` at scale 2^60, halving or doubling towards [1, 2] first. -/
def lnFix : Nat → Nat → Nat → Int
  | 0, a, b => lnNear a b
  | n + 1, a, b => if a < b then lnFix n (2 * a) b - lnTwo else if 2 * b < a then lnFix n a (2 * b) + lnTwo else lnNear a b

/-- The panel temperature of R369 in 1/16 °C from the ratio `vNum / vDen`, RNOM in 10 Ω units and BETA in K; none where the
formula divides by zero or leaves the logarithm's domain. -/
def panelTemp (vNum vDen rnom beta : Nat) : Option Int :=
  if vNum = 0 ∨ vDen ≤ vNum ∨ rnom = 0 ∨ beta = 0 then none
  else
    let l := lnFix 64 (1000 * vNum) (rnom * (vDen - vNum))
    let d : Int := 100 * beta * fixOne + 29815 * l
    if d ≤ 0 then none
    else some (roundDiv (1600 * 29815 * beta * fixOne - 437040 * d) (100 * d).toNat)

/-- TEMP_EXT is sampled (R369): open above 0.98 and short below 0.02 for 8 samples raise TEMPEXT, and TP holds the last valid reading; a
thermistor declared not fitted reads 25 °C. Where the formula gives no value the reading is a free value. DEDUCED: a reading outside 0.02 to
0.98 is not valid, so TP holds before the eighth sample too, and a fault ends with the first valid sample (log entry 132). -/
def sampleText (s : State) (vNum vDen : Nat) : State :=
  if s.flag .thsTextcfgNone then
    (({ s with ths.openRun := 0, ths.shortRun := 0 }).setFld .thsTextState 3).setSfld .thsTextTp 400 |>.lower srcThsTempext
  else
    let open_ := decide (98 * vDen < 100 * vNum)
    let short := decide (100 * vNum < 2 * vDen)
    let s := { s with ths.openRun := if open_ then s.ths.openRun + 1 else 0,
                      ths.shortRun := if short then s.ths.shortRun + 1 else 0 }
    let was := s.fld .thsTextState
    let state := if 8 ≤ s.ths.openRun then 1 else if 8 ≤ s.ths.shortRun then 2
      else if (open_ || short) && was != 3 then was else 0
    let s := s.setFld .thsTextState state
    let s := if (state == 1 || state == 2) && was != state then (s.raise srcThsTempext).logEvent 9 8 0 0 else s
    let s := if state == 0 then s.lower srcThsTempext else s
    if open_ || short then s.setSfld .thsTextTp s.ths.panel
    else match panelTemp vNum vDen (s.fld .thsTextcfgRnom) (s.fld .thsTextcfgBeta) with
      | some t => ({ s with ths.panel := t }).setSfld .thsTextTp t
      | none =>
        let (n, s) := s.draw
        ({ s with ths.panel := Config.freeInt n }).setSfld .thsTextTp (Config.freeInt n)

/-! ### Throttle and warning (R370 to R372) -/

/-- The throttle temperature T in 1/16 °C (R370): with SRC 1 and a TEMP_EXT fault standing it is the junction maximum. -/
def State.throttleT (s : State) : Int :=
  let st := s.fld .thsTextState
  if s.flag .thsThrcfgSrc && !(st == 1 || st == 2) then s.sfld .thsTextTp else s.sfld .thsTjmaxTj

/-- The INDEX of a record of T's crossings (R380): the sensor of the junction maximum, or 8 where T is the panel temperature. -/
def State.throttleIndex (s : State) : Nat :=
  let st := s.fld .thsTextState
  if s.flag .thsThrcfgSrc && !(st == 1 || st == 2) then 8 else s.fld .thsTjmaxSrc

/-- thr(n) in 1/16 °C (R370). -/
def State.threshold (s : State) (n : Nat) : Int :=
  16 * ((s.fld .thsThrcfgStart : Int) + ((n : Int) - 1) * s.fld .thsThrcfgSpacing)

/-- The requested step changes (R370): recorded with KIND 3, counted, and the dwell restarts. -/
def State.setStep (s : State) (n : Nat) : State :=
  let old := s.fld .thsThrstatStep
  if n == old then s
  else
    let s := ({ s with ths.dwell := 0 }).setFld .thsThrstatStep n
    let s := (s.setFld .thsThrstatDwell 0).logEvent 3 0xFF 0 0
    if old < n then s.bump .thsThrup 1 else s.bump .thsThrdown 1

/-- The requested step after one evaluation (R370). -/
def State.nextStep (s : State) : Nat :=
  let n := s.fld .thsThrstatStep
  let top := s.fld .thsThrcfgNsteps
  let dwellOk := decide (1000 ≤ s.ths.dwell)
  if n < top && decide (s.threshold (n + 1) ≤ s.throttleT) && dwellOk then n + 1
  else if 0 < n && decide (s.throttleT < s.threshold n - 48) && dwellOk then n - 1
  else n

/-- The throttle is evaluated at a sample (R370): only in a tile with EN set; with fewer than four sensors left the step is NSTEPS
at once (R368). DEDUCED: EN clear keeps the step 0 then too (log entry 133). -/
def evalThrottle (s : State) : State :=
  if !s.isTile || !s.flag .thsThrcfgEn then s.setStep 0
  else if s.validSensors.length < 4 then s.setStep (s.fld .thsThrcfgNsteps)
  else s.setStep s.nextStep

/-- THERMWARN (R372): from T at START until T below START - 3 °C, and while fewer than four sensors are left (R368). -/
def evalWarn (s : State) : State :=
  let t := s.throttleT
  let few := decide (s.validSensors.length < 4)
  let start : Int := 16 * s.fld .thsThrcfgStart
  let above := decide (start ≤ t) || (s.ths.above && !decide (t < start - 48))
  let s := { s with ths.above := above }
  let on := few || above
  if on == s.ths.warn then s
  else
    let s := ({ s with ths.warn := on }).level srcThsThermwarn on
    s.logEvent (if on then 1 else 2) s.throttleIndex 0 0

/-- THS_SAMPLE: every 1 ms (R367 to R373). `sensors` are the eight readings in 1/16 °C with their fused trims, `vNum / vDen` the
TEMP_EXT ratio. The MC removes the TSENS offsets; the fixed-shutdown comparator does not. -/
def thsSample (s : State) (sensors : List Int) (vNum vDen : Nat) : State :=
  let hot := sensors.any (fun r => decide (2000 ≤ r))
  let cool := sensors.all (fun r => decide (r < 1760))
  let s := { s with ths.hotRun := if hot then s.ths.hotRun + 1 else 0,
                    ths.raw := sensors,
                    ths.coolRun := if cool then s.ths.coolRun + 1 else 0,
                    ths.uptimeMs := s.ths.uptimeMs + 1,
                    cal.lockedMs := if s.flag .ltbStatLocked then s.cal.lockedMs + 1 else 0 }
  if s.ths.shutdown || s.restarting || s.boot.inReset then s
  else
    let ofs := fun i => if i % 2 == 0 then s.sfld (.calTsofsLo (i / 2)) else s.sfld (.calTsofsHi (i / 2))
    let readings := (List.range 8).map (fun i => sensors.getD i 0 - ofs i)
    let s := iterate 8 (judgeSensor readings) s
    let s := sampleText s.takeJunction vNum vDen
    let s := { s with ths.dwell := s.ths.dwell + 1 }
    let s := s.setFld .thsThrstatDwell (min 65535 s.ths.dwell)
    evalThrottle (evalWarn s)

/-- A write of THS.THRCFG after its fields are stored (R370): NSTEPS below s sets s at once, and EN clear sets it to 0. -/
def afterThrcfg (s : State) : State :=
  if !s.isTile || !s.flag .thsThrcfgEn then s.setStep 0
  else if s.fld .thsThrcfgNsteps < s.fld .thsThrstatStep then s.setStep (s.fld .thsThrcfgNsteps)
  else s

/-- At a catch the requested step comes into force (R371): the ceiling is 16 - s, THROTTLE follows. The caller leaves it out during
a supply warning; a calibration step ends before the catch (R291). -/
def State.applyThrottle (s : State) : State :=
  let n := s.fld .thsThrstatStep
  let s := ((s.setFld .thsThrstatInforce n).setFld .snkStatCeil (16 - n)).setFld .devModestatThrottle n
  s.level srcThsThrottle (decide (0 < n))

/-! ### Fixed shutdown (R373 to R375) -/

/-- THERMAL_SHUTDOWN: at the 8th sample in a row at or above 125 °C (R373, R374): the queue of non-volatile writes is abandoned,
the record of KIND 4 is written with SHUTPEND in the pointer word, the rows and VLED_ADJ keep their idle levels (R438), and every domain but VDD_AON is cut.
DEDUCED: of several sensors at the
threshold the record names the lowest (log entry 133). -/
def thermalShutdown (s : State) : State :=
  if s.ths.shutdown || s.ths.hotRun < 8 then s
  else
    let i := ((List.range 8).find? (fun i => decide (2000 ≤ s.ths.raw.getD i 0))).getD (s.fld .thsTjmaxSrc)
    let s := s.writeEvent (s.eventRec 4 i 0 0xFFFFFFFF) true
    let t := fullReset s .por none true
    let t := t.setFld .devRstcauseCause (s.fld .devRstcauseCause)
    let kept : KeptPins := ⟨s.flag .ltbRowcfgEnpol, !s.flag .ltbRowcfgDischpol, s.lamp.rowAddr, s.fld .snkServolimStart⟩
    { t with ths.shutdown := true, ths.keeper := if s.isTile && testBit s.boot.ready 11 then some kept else none, ths.ignored := 0, ths.coolRun := 0 }

/-- THERMAL_SHUTDOWN (R374). -/
def execThermalShutdown (s : State) : Result := run s thermalShutdown

/-- SHUTPEND of the event log's pointer word (R380). -/
def State.shutPend (s : State) : Bool := testBit s.evFlags 0

/-- The shutdown's exit (R375): THERMAL is set, a record of KIND 5 with the resets ignored is written and SHUTPEND clears. -/
def State.endShutdown (s : State) : State :=
  let s := s.setFldBit .devRstcauseCause 3 true
  let s := s.writeEvent (s.eventRec 5 s.ths.ignored 0 0xFFFFFFFF) false
  { s with ths.ignored := 0 }

/-! ### Supply warnings (R76, R78, R376 to R378) -/

/-- The warning and reset levels of a rail in mV (R76), in the order of its table; VDDIO_FR takes the column that its level at reset release
has selected (R434). -/
def railLevels (frHigh : Bool) (rail : Nat) : Option (Nat × Nat) :=
  let low : List (Nat × Nat) := [(760, 720), (680, 640), (760, 720), (810, 770), (1140, 1080), (1000, 950), (470, 440), (1700, 1600), (1700, 1600), (3100, 2900)]
  if frHigh && rail == 8 then some (3100, 2900) else low[rail]?

/-- The voltage lies below a rail's warning level (R76). -/
def State.belowWarning (s : State) (rail mv : Nat) : Bool := (railLevels s.boot.frHigh rail).any (fun l => decide (mv < l.1))

/-- The voltage lies below a rail's reset level (R76). -/
def State.belowReset (s : State) (rail mv : Nat) : Bool := (railLevels s.boot.frHigh rail).any (fun l => decide (mv < l.2))

/-- SUPPLY_WARNING: a rail has been below its warning level for 2 µs (R78): SUPWARN, the freeze, and the queue of non-volatile
writes. `rail` counts in the order of R76, `lowest` is in mV; a voltage that is not below the level is no warning. -/
def supplyWarning (s : State) (rail lowest : Nat) : State :=
  if s.ths.shutdown || s.boot.inReset || !s.belowWarning rail lowest then s
  else
    let s := if s.boot.warning then s
      else (({ s with boot.warning := true, boot.resuming := false, boot.warnLowest := lowest }).setFld .thsRailstatFirst rail).bump
        .thsSupwarns 1
    let s := if s.fld .thsRailstatFirst == rail then { s with boot.warnLowest := min s.boot.warnLowest lowest } else s
    (s.setFldBit .thsRailstatWarn rail true).raise srcThsSupwarn

/-- SUPPLY_WARNING_CLEAR: every rail has stood above its recovery level for 100 µs (R78, R377, R378): the queued writes are
issued in order, then records of KIND 10 and KIND 6; service resumes at the next boundary. -/
def supplyClear (s : State) (duration : Nat) : State :=
  if !s.boot.warning then s
  else
    let q := s.boot.nvQueue
    let lost := s.boot.nvLost
    let s := { s with boot.warning := false, boot.resuming := true, boot.nvQueue := [], boot.nvLost := 0 }
    let s := ((s.setFld .thsRailstatWarn 0).setFld .thsNvqQueued 0).lower srcThsSupwarn
    let s := q.foldl (fun s w => s.doNvWrite w) s
    let s := if lost == 0 then s else s.logEvent 10 0xFF lost 0xFFFFFFFF
    s.logEvent 6 (s.fld .thsRailstatFirst) s.boot.warnLowest (min duration 0xFFFFFFFF)

/-- SUPPLY_RESET: a rail has been below its reset level for 0.5 µs (R76, R78, R378): queued writes are lost, the supervisor latches
the rail and its lowest voltage unless VDD_AON itself fell, and a full reset is held until RESET_RELEASE. -/
def supplyReset (s : State) (rail lowest : Nat) : State :=
  let t := fullReset s (if rail == 0 then .por else .supply) none true
  let t := { t with ths.shutdown := s.ths.shutdown && rail != 0, ths.keeper := if rail == 0 then none else s.ths.keeper }
  if rail == 0 then { t with boot.supplyLatch := none, ths.ignored := 0 } else { t with boot.supplyLatch := some (rail, lowest) }

/-- SUPPLY_RESET (R76). -/
def execSupplyReset (rail lowest : Nat) (s : State) : Result :=
  run s fun s => if s.belowReset rail lowest then supplyReset s rail lowest else s

/-- POWER_ON: VDD_AON has risen through its reset level (R67, R375): the VDD_AON state clears with the full reset. -/
def powerOn (s : State) : State :=
  let t := fullReset s .por none true
  { t with ths.shutdown := false, ths.ignored := 0, ths.coolRun := 0, ths.hotRun := 0, boot.supplyLatch := none, boot.nvQueue := [] }

/-- POWER_ON (R67). -/
def execPowerOn (s : State) : Result := run s powerOn

/-- RESET_N_PIN: RESET_N low for at least 1 µs (R67, R375): a full reset; during a thermal shutdown it is ignored and counted
while hot, and after 8 cool samples it ends the shutdown with THERMAL. DEDUCED: a pulse between the last hot sample and the eighth cool one is
ignored and counted as well (log entry 133). -/
def resetN (s : State) : State :=
  if s.ths.shutdown then
    if s.ths.coolRun < 8 then { s with ths.ignored := min 254 (s.ths.ignored + 1) }
    else
      let t := fullReset s .pin none true
      let t := t.setFldBit .devRstcauseCause 3 true
      { t with ths.shutdown := false }
  else fullReset s .pin none true

/-- RESET_N_PIN (R67). -/
def execResetNPin (s : State) : Result := run s resetN

/-- RESET_RELEASE: the supervisor hold ends or RESET_N is released (R76): the pins are sampled (R62), the level of VDDIO_FR, in mV, selects its
I/O levels (R434), and chuck may start. -/
def resetRelease (s : State) (pins vddioFr : Nat) : State :=
  if !s.boot.inReset || s.ths.shutdown then s
  else
    let s := { s with boot.inReset := false, boot.pins := pins % 4, boot.frHigh := decide (2500 < vddioFr) }
    (s.setFld .devProfstatPins pins).setFld .devBootstatStage 1

/-- RESET_RELEASE (R76). -/
def execResetRelease (pins vddioFr : Nat) (s : State) : Result := run s (resetRelease · pins vddioFr)

/-! ### Adaptive VCORE (R18) -/

/-- The setpoint changes (R18): the regulator at the profile's bus address is written, the consecutive counts restart. -/
def State.setVcore (s : State) (v : Nat) : State :=
  ({ s with boot.vset := v, boot.vLow := 0, boot.vHigh := 0 }).send (.pmbus (s.prof (·.pmbusAdr)) v)

/-- The setpoint from which the loop steps (R18). DESIGN CHOICE: the spec gives none for the first step; it starts at the measured voltage,
held between FLOOR and CEIL (log entry 107). -/
def State.setpoint (s : State) : Nat :=
  if s.boot.vset = 0 then max (s.fld .devVcorectlFloor) (min (s.fld .devVcorectlVnow) (s.fld .devVcorectlCeil)) else s.boot.vset

/-- VCORE_ADAPT_STEP: once per stroke, on the worst slack fraction `slackNum / slackDen` (R18). `answered` says whether the regulator
answered; three unanswered commands in a row clear ADAPT and raise PMBUS. With no bus address in the profile there is no regulator, and
nothing is written (R58). -/
def vcoreAdapt (s : State) (underrun : Bool) (slackNum slackDen : Nat) (answered : Bool) (vnow : Nat) : State :=
  let s := s.setFld .devVcorectlVnow vnow
  if !s.flag .devVcorectlAdapt || s.prof (·.pmbusAdr) == 0 then s
  else
    let floor := s.fld .devVcorectlFloor
    let ceil := s.fld .devVcorectlCeil
    let low := decide (10 * slackNum < slackDen)
    let high := decide (3 * slackDen < 10 * slackNum)
    let s := { s with boot.vLow := if low then s.boot.vLow + 1 else 0, boot.vHigh := if high then s.boot.vHigh + 1 else 0 }
    let v := s.setpoint
    let acts := underrun || 4 ≤ s.boot.vLow || 256 ≤ s.boot.vHigh
    let s := if underrun then s.setVcore (min (v + 2) ceil)
      else if 4 ≤ s.boot.vLow then s.setVcore (min (v + 1) ceil)
      else if 256 ≤ s.boot.vHigh then s.setVcore (max (v - 1) floor)
      else s
    if !acts then s
    else if answered then ({ s with boot.vMiss := 0 }).setFld .devVcorectlPmbusOk 1
    else
      let m := s.boot.vMiss + 1
      let s := ({ s with boot.vMiss := m }).setFld .devVcorectlPmbusOk 0
      if 3 ≤ m then ((({ s with boot.vMiss := 0 }).setFld .devVcorectlAdapt 0).raise srcThsPmbus) else s

/-- VCORE_ADAPT_STEP (R18). -/
def execVcoreAdaptStep (underrun : Bool) (slackNum slackDen : Nat) (answered : Bool) (vnow : Nat) (s : State) : Result :=
  run s (vcoreAdapt · underrun slackNum slackDen answered vnow)

end Sys2Proof.Machine
end

