-- ==== Sys2Proof/Machine/Curve.lean ====
section
/-!
DEFINITION. The built-in curves of R263 in fixed-point arithmetic: linear, PQ (SMPTE ST 2084), gamma 2.4 and the inverse OETF of HLG (ITU-R BT.2100). The constants of PQ and HLG are those of the standards that R263 names (PRESUMED, log entry 14).
-/

namespace Sys2Proof.Machine

/-- Partial sums of the exponential series: the sum over i from `k` on of the terms that follow `t`, at scale 2^60. -/
def expTail (r : Int) : Nat → Nat → Int → Int
  | 0, _, t => t
  | n + 1, k, t => t + expTail r n (k + 1) (Int.fdiv (Int.fdiv (t * r) fixOne) k)

/-- exp of a fixed-point number at scale 2^60, halving towards [0, ln 2). -/
def expFix (x : Int) : Nat :=
  let k := Int.fdiv x lnTwo
  let r := x - k * lnTwo
  let m := (expTail r 22 1 fixOne).toNat
  if 0 ≤ k then m * 2 ^ k.toNat else m / 2 ^ (-k).toNat

/-- `(a / b) ^ (p / q)` at scale 2^60, for positive `a` and `b`. -/
def powFix (a b p q : Nat) : Nat := if a = 0 then 0 else expFix (Int.fdiv (lnFix 64 a b * p) q)

/-- The PQ EOTF of n = `a / b`, as a fraction of 10,000 cd/m², at scale 2^60. -/
def pqFix (a b : Nat) : Nat :=
  let e := powFix a b 32 2523
  let num := 128 * e - 107 * fixOne
  let den := 2413 * fixOne - 2392 * e
  if num = 0 then 0 else powFix num den 8192 1305

/-- The inverse OETF of HLG of n = `a / b`, at scale 2^60. -/
def hlgFix (a b : Nat) : Nat :=
  if 2 * a ≤ b then a * a * fixOne / (3 * b * b)
  else
    let x : Int := Int.fdiv (((a * 10 ^ 8 : Nat) : Int) - (55991073 * b : Nat)) 1 * fixOne / (17883277 * b : Nat)
    (expFix x + 28466892 * fixOne / 10 ^ 8) / 12

/-- f of R263 at n = 16 k / 65535, at scale 2^60. Entry 4,095 stands for code 65,520. -/
def curveFix (curve peak k : Nat) : Nat :=
  match curve with
  | 2 => min (pqFix (16 * k) 65535 * 10000 / max 1 peak) fixOne
  | 3 => powFix (16 * k) 65535 12 5
  | 4 => hlgFix (16 * k) 65535
  | _ => 16 * k * fixOne / 65535

/-- The exact light of entry `k` of a built-in curve (R263). -/
def curveLight (curve peak k : Nat) : Nat := (curveFix curve peak k * (2 ^ 24 - 1) + fixOne / 2) / fixOne

/-- Entry `k` of a built-in curve as the MC computes it: at most one unit of its encoding from the exact value (R263). -/
def curveEntry (encode : Nat → Nat) (curve peak k : Nat) : Nat :=
  let c := encode (curveLight curve peak k)
  let m := c % 2 ^ 18 + (Config.curveSlip curve peak k).val - 1
  c / 2 ^ 18 * 2 ^ 18 + min m (2 ^ 18 - 1)

end Sys2Proof.Machine
end

