-- ==== Sys2Proof/Machine/Dram.lean ====
section
/-!
DEFINITION. The DRAM controller (spec/12, R299 to R320): the address map, operating points, training records, refresh, self-refresh, inline ECC and its log.
-/

namespace Sys2Proof.Machine

/-! ### Channels and the address map (R299 to R303) -/

/-- The populated channels of a profile. -/
def Profile.channels (p : Profile) : List Nat := (List.range 8).filter (fun c => testBit p.dramPop c)

/-- The channels in service: those that `DCn.STAT.READY` shows, or that a self-refresh state holds. -/
def State.channels (s : State) : List Nat :=
  (List.range 8).filter (fun c => s.flag (.dcStatReady c) || s.flag (.dcStatSr c))

/-- The unit is a standby sender (R13, R324). -/
def State.isStandby (s : State) : Bool := s.isSender && s.fld .devRolestatPairpos == 2

/-- ECC is enabled as the channels were brought up: always in a tile, by ECCEN in a sender, whose later writes are ignored (R314). -/
def State.eccOn (s : State) : Bool := s.isTile || s.flag .drcMapEcc

/-- The unit has channel `c` in service (R306, R309). -/
def State.hasChannel (s : State) (c : Nat) : Bool := decide (c < 8) && s.flag (.dcStatReady c)

/-- S of R301 in MB: the usable capacity less the 128 MB local area. -/
def interleavedMb (capGb : Nat) (ecc : Bool) : Nat := (if ecc then 896 * capGb else 1024 * capGb) - 128

/-- U of R301 in MB for `n` channels. -/
def userMb (n capGb : Nat) (ecc : Bool) : Nat := n * (interleavedMb capGb ecc - 256)

/-- U of R301 in bytes, as the running channels give it. -/
def State.userBytes (s : State) : Nat := s.fld .drcMapUsermb * 2 ^ 20

/-- Channel and local offset of an interleaved address over 2^k channels (R301). -/
def dramPlace (k a : Nat) : Nat × Nat :=
  let b := a / 4096
  let n := 2 ^ k
  ((b ^^^ (b / n) ^^^ (b / (n * n))) % n, b / n * 4096 + a % 4096)

/-- S of R301 in bytes, as the running channels give it. -/
def State.channelBytes (s : State) : Nat := (s.fld .drcMapUsermb / max 1 (s.fld .drcMapNch) + 256) * 2 ^ 20

/-- Where the interleaved space ends (R301): the local areas of the channels follow one another above it. -/
def State.localBase (s : State) : Nat := s.fld .drcMapNch * s.channelBytes

/-- The channel of a sender's address in a local area, and the place there: 128 MB for each channel (R301). -/
def State.localPlace (s : State) (a : Nat) : Nat × Nat := ((a - s.localBase) / 2 ^ 27 % 8, (a - s.localBase) % 2 ^ 27)

/-- Channel and channel-local address of a memory address: interleaved, then local areas, in a sender; DC0 in a tile (R301, R302). -/
def State.dramPlaceOf (s : State) (a : Nat) : Nat × Nat :=
  if s.isTile then (0, a)
  else if a < s.localBase then dramPlace (Nat.log2 (max 1 (s.fld .drcMapNch))) a
  else ((s.localPlace a).1, s.channelBytes + (s.localPlace a).2)

/-! ### The error log and ECC (R314 to R317) -/

/-- `DRC.LOG` takes an entry (R317); the newest overwrites the oldest. -/
def State.dramLog (s : State) (chan local_ kind port syndrome init : Nat) : State :=
  let i := s.fld .drcLogstatNext
  let s := s.setReg (Fld.addr (.drcLog0 i)) (Word.ofNat local_)
  let s := s.setReg (Fld.addr (.drcLog1Kind i)) (Word.ofNat (local_ / 2 ^ 32 % 4 + 16 * chan + 256 * kind + 2048 * port +
    65536 * (syndrome % 256) + 2 ^ 24 * (init % 16)))
  let s := s.setReg (Fld.addr (.drcLog2 i)) (Word.ofNat s.stroke)
  (s.setFld .drcLogstatNext ((i + 1) % 16)).setFld .drcLogstatCount (min 16 (s.fld .drcLogstatCount + 1))

/-- A block is poisoned (R315). -/
def State.poisoned (s : State) (a : Nat) : Bool := s.dram.poison.contains (a / 64)

/-- A correctable error was corrected (R315): CE advances, the log takes it, DRAMCE is raised. -/
def State.eccCorrected (s : State) (chan local_ kind port syndrome init : Nat) : State :=
  (((s.bump .drcCe 1).bump (.dcCe chan) 1).dramLog chan local_ kind port syndrome init).raise srcDrcDramce

/-- An uncorrectable error poisons the block at memory address `a` (R315). -/
def State.eccPoison (s : State) (a port syndrome init : Nat) : State :=
  let (chan, loc) := s.dramPlaceOf a
  let s := if s.poisoned a then s else ({ s with dram.poison := s.dram.poison ++ [a / 64] }).bump .drcPoisoned 1
  (((s.bump .drcUe 1).bump (.dcUe chan) 1).dramLog chan loc 1 port syndrome init).raise srcDrcDramue

/-- The block `b` is written whole or in part: a poisoned block that is written in part takes zeros elsewhere and is logged
with KIND 2; either way it is sound again (R314, R315). -/
def State.mendBlock (s : State) (port init addr len b : Nat) : State :=
  if s.dram.poison.contains b then
    let whole := decide (addr ≤ 64 * b) && decide (64 * b + 64 ≤ addr + len)
    let (chan, loc) := s.dramPlaceOf (64 * b)
    let s := { s with dram.poison := s.dram.poison.filter (· != b) }
    if whole then s
    else ({ s with dram.mem := memWrite s.dram.mem (64 * b) (List.replicate 64 0) }).dramLog chan loc 2 port 0 init
  else s

/-- A DRAM write of bytes by one of the ports of R318. -/
def State.dramWrite (s : State) (port init addr : Nat) (bs : List Byte) : State :=
  if bs.isEmpty then s
  else
    let first := addr / 64
    let n := (addr + bs.length - 1) / 64 + 1 - first
    let s := (List.range n).foldl (fun s i => s.mendBlock port init addr bs.length (first + i)) s
    { s with dram.mem := memWrite s.dram.mem addr bs }

/-- A window read of a word (R315): a word of a poisoned block reads 0xFFFF_FFFF. -/
def State.dramWord (s : State) (addr : Nat) : Word :=
  if s.poisoned addr then 0xFFFFFFFF#32 else Word.ofNat (memNat s.dram.mem addr 4)

/-- A window access out of range (R303): not performed; ADDRRANGE, and the address in the log with KIND 4. -/
def State.dramRange (s : State) (addr init : Nat) : State := (s.dramLog 0 addr 4 5 0 init).raise srcDrcAddrrange

/-- DRC.LOGSTAT.CLR empties the log (R317). -/
def dramLogClear (s : State) : State := (s.setFld .drcLogstatCount 0).setFld .drcLogstatNext 0

/-! ### Refresh (R309 to R311) -/

/-- tRFCab of a die density in Gb, in ns (R310). -/
def trfcNs (density : Nat) : Nat := if density ≤ 8 then 210 else if density ≤ 16 then 280 else 380

/-- Refresh cost in 0.1 %, rounded, at rate code 0, 1, 2 for ×1, ×2, ×4 (R310). -/
def refreshCost (trfc code : Nat) : Nat := (roundDiv (trfc * 2 ^ code * 1000 : Nat) 3906).toNat

/-- The rate in force and its cost follow R_req and PRIV (R309, R310). -/
def State.setRefresh (s : State) (c : Nat) : State :=
  let req := s.fld (.dcStatMr4rate c)
  let rate := if s.flag (.dcCfgPriv c) then max 1 req else req
  (s.setFld (.dcStatRefrate c) rate).setFld (.dcRefcostCost c) (refreshCost (s.fld (.dcRefcostTrfc c)) rate)

/-- MR4_POLL: the refresh rate that channel `c` requires, coded 0, 1, 2 for ×1, ×2, ×4, is read and applied; HOTDRAM stands while
any channel requires ×4 (R309, R311). -/
def mr4Poll (s : State) (c rate : Nat) : State :=
  if !s.hasChannel c then s
  else
    let s := (s.setFld (.dcStatMr4rate c) (min rate 2)).setRefresh c
    s.level srcDrcHotdram (s.channels.any (fun c => s.fld (.dcStatMr4rate c) == 2))

/-- MR4_POLL (R309). -/
def execMr4Poll (channel rate : Nat) (s : State) : Result := run s (mr4Poll · channel rate)

/-! ### Training records (R305) -/

/-- Address of the training record of a channel and operating point in the event store (R379). -/
def trainAddr (c op : Nat) : Nat := 0x1A000 + 1024 * (4 * c + op)

/-- The event store holds a valid record for a channel with identity `ident` (R305). Bytes 0 to 3 hold a mark and bytes 4 to 7 the
identity: the record's layout is the model's (the manual gives none). -/
def State.trainValid (s : State) (c op ident : Nat) : Bool :=
  memNat s.boot.store (trainAddr c op) 4 == 0x4E415254 && memNat s.boot.store (trainAddr c op + 4) 4 == ident

/-- The identity that a stored record of a channel carries. -/
def State.trainIdent (s : State) (c op : Nat) : Nat := memNat s.boot.store (trainAddr c op + 4) 4

/-- Training results of a channel are queued as a non-volatile write (R305). -/
def State.storeTraining (s : State) (c op ident : Nat) : State :=
  s.nvWrite (.bytes (trainAddr c op) (leBytes 4 0x4E415254 ++ leBytes 4 ident))

/-- OPSTAT.TRAINED: bit o is set when every channel has a valid record for point o. -/
def State.showTrained (s : State) : State :=
  s.setFld .drcOpstatTrained
    (((List.range 4).map (fun o => if s.channels.all (fun c => testBit (s.fld (.dcStatTrained c)) o) then 2 ^ o else 0)).sum)

/-! ### Gathering and operating points (R304, R306 to R308) -/

/-- Some channel is gathering (R306). -/
def State.gathering (s : State) : Bool := s.channels.any (fun c => s.flag (.dcStatGather c))

/-- OSCILLATOR_SAMPLE: a channel starts its oscillator sample, or ends it with the drift measured in ps (R306). -/
def oscillatorSample (s : State) (c : Nat) (ended : Bool) (drift : Int) : State :=
  if !s.hasChannel c then s
  else if ended then
    ((s.setFld (.dcStatGather c) 0).setSfld (.dcDriftnowPs c) (clampInt (-32768) 32767 drift)).bump (.dcOscsamples c) 1
  else s.setFld (.dcStatGather c) 1

/-- OSCILLATOR_SAMPLE (R306). -/
def execOscillatorSample (channel : Nat) (ended : Bool) (drift : Int) (s : State) : Result :=
  run s (oscillatorSample · channel ended drift)

/-- A retrain step of channel `c` may be due: its drift exceeds DRIFT, or RETRAIN is not 0 and its minutes have passed (R306). -/
def State.retrainDue (s : State) (c : Nat) : Bool :=
  decide (s.fld (.dcCfgDrift c) < (s.sfld (.dcDriftnowPs c)).natAbs) || s.fld (.dcCfgRetrain c) != 0

/-- RETRAIN_STEP: a channel starts or ends a retrain step (R306); at its end the eyes are centred and the drift is 0. -/
def retrainStep (s : State) (c : Nat) (ended : Bool) : State :=
  if !s.hasChannel c || !(ended || s.retrainDue c) then s
  else if ended then ((s.setFld (.dcStatGather c) 0).setFld (.dcDriftnowPs c) 0).bump (.dcRetrains c) 1
  else s.setFld (.dcStatGather c) 2

/-- RETRAIN_STEP (R306). -/
def execRetrainStep (channel : Nat) (ended : Bool) (s : State) : Result := run s (retrainStep · channel ended)

/-- The canvas is 0 × 0. -/
def State.noCanvas (s : State) : Bool := s.fld .cmpCanvasWidth == 0 && s.fld .cmpCanvasHeight == 0

/-- The budget of R304 at operating point `op` for the running configuration. -/
def State.dramFitsAt (s : State) (op : Nat) : Bool :=
  match s.boot.profile with
  | none => true
  | some p => !s.isSender || Reader.dramFits s.reg p (s.fld .drcMapNch) op s.eccOn

/-- A write of DRC.OPREQ with GO (R307, R320): a later request replaces a held one, and its checks run in order. -/
def opRequest (s : State) (op : Nat) : State :=
  if s.dram.training.isSome || s.channels.any (fun c => s.flag (.dcStatSr c)) then s.setFld .drcOpstatResult 4
  else
    let s := { s with dram.held := none }
    if op == s.fld .drcOpstatCur then s.setFld .drcOpstatResult 3
    else if !s.dramFitsAt op then (s.setFld .drcOpstatResult 5).raise srcDrcOprefused
    else if !testBit (s.fld .drcOpstatTrained) op then
      if s.isSender && !(s.isStandby || s.noCanvas) then s.setFld .drcOpstatResult 7
      else ({ s with dram.training := some op, dram.trainedNow := [] }).setFld .drcOpstatResult 2
    else ({ s with dram.held := some op }).setFld .drcOpstatResult 1

/-- DRAM_OP_SWITCH: the held request's switch is made, once no channel gathers and no supply warning stands (R307, R308, R320). -/
def opSwitch (s : State) : State :=
  match s.dram.held with
  | none => s
  | some op =>
    if s.gathering || s.boot.warning || s.channels.any (fun c => s.flag (.dcStatSr c)) then s
    else (({ s with dram.held := none }).setFld .drcOpstatCur op).setFld .drcOpstatResult 3

/-- DRAM_OP_SWITCH (R308). -/
def execDramOpSwitch (s : State) : Result := run s opSwitch

/-- DRAM_TRAINING_DONE: full training of a channel ends (R305, R307): its results are stored, and the last one leads to the switch;
a failure leaves the point in force with RESULT 6 and TRAINFAIL. -/
def trainingDone (s : State) (c ident : Nat) (ok : Bool) : State :=
  match s.channels.contains c, s.dram.training with
  | false, _ => s
  | _, none => s
  | _, some op =>
    if !ok then (({ s with dram.training := none, dram.trainedNow := [] }).setFld .drcOpstatResult 6).raise srcDrcTrainfail
    else
      let s := ((s.storeTraining c op ident).setFldBit (.dcStatTrained c) op true).showTrained
      let s := { s with dram.trainedNow := s.dram.trainedNow ++ [c] }
      if s.channels.all (s.dram.trainedNow.contains ·) then
        ({ s with dram.training := none, dram.trainedNow := [], dram.held := some op }).setFld .drcOpstatResult 1
      else s

/-- DRAM_TRAINING_DONE (R305). -/
def execDramTrainingDone (channel ident : Nat) (ok : Bool) (s : State) : Result := run s (trainingDone · channel ident ok)

/-- GATHER_BOUND_EXCEEDED: a gathering has run past its bound, so the held request is refused; the gathering goes on (R307). -/
def gatherBound (s : State) (c : Nat) : State :=
  if s.dram.held.isSome && s.flag (.dcStatGather c) then ({ s with dram.held := none }).setFld .drcOpstatResult 4 else s

/-- GATHER_BOUND_EXCEEDED (R307). -/
def execGatherBoundExceeded (channel : Nat) (s : State) : Result := run s (gatherBound · channel)

/-! ### Bring-up (R299 to R301, R305) -/

/-- A channel fails bring-up (R300): it does not answer, differs from DC0, or fails training without a valid record. -/
def State.channelBad (s : State) (op : Nat) (found : List ChannelFound) (c : Nat) : Bool :=
  match found[c]? with
  | none => true
  | some x =>
    let z := found.headD x
    !x.answers || x.capGb != z.capGb || x.densGb != z.densGb || (!s.trainValid c op x.ident && !x.eyesOk)

/-- A channel is brought up at an operating point, from its record or by full training (R305). -/
def State.raiseChannel (op : Nat) (found : List ChannelFound) (s : State) (c : Nat) : State :=
  let x := found.getD c ⟨false, 0, 0, 0, false⟩
  let s := if s.trainValid c op x.ident then s else s.storeTraining c op x.ident
  let known := ((List.range 4).map (fun o => if o == op || s.trainValid c o x.ident then 2 ^ o else 0)).sum
  let s := ((s.setFld (.dcStatReady c) 1).setFld (.dcStatSr c) 0).setFld (.dcStatTrained c) known
  (s.setFld (.dcRefcostTrfc c) (trfcNs x.densGb)).setRefresh c

/-- The DRAM channels of the profile come up (R300, R301, R305): the state, and whether start-up may go on. A failure among DC4
to DC7 leaves those four unpowered with CHANDOWN. -/
def State.bringUpDram (s : State) (found : List ChannelFound) : State × Bool :=
  let pop := match s.boot.profile with
    | none => []
    | some p => p.channels
  let op := s.prof (·.dramOp)
  let untrained := fun c => match found[c]? with
    | none => false
    | some (x : ChannelFound) => x.answers && !s.trainValid c op x.ident && !x.eyesOk
  let bad := pop.filter (s.channelBad op found)
  let s := if pop.any untrained then s.raise srcDrcTrainfail else s
  if bad.any (· < 4) then (s, false)
  else
    let run := if bad.isEmpty then pop else pop.filter (· < 4)
    let s := if bad.isEmpty then s.lower srcDrcChandown else s.raise srcDrcChandown
    let s := run.foldl (State.raiseChannel op found) s
    let cap := (found.headD ⟨false, 0, 0, 0, false⟩).capGb
    let s := ((s.setFld .drcMapNch run.length).setFld .drcMapCapgb cap).setFld .drcMapEcc (bit (s.isTile || s.flag .drcCfgEccen))
    let s := s.setFld .drcMapUsermb (if s.isTile then 0 else userMb run.length cap s.eccOn)
    ((s.setFld .drcOpstatCur op).showTrained, true)

/-! ### Self-refresh (R312) -/

/-- Every channel in service takes a self-refresh state (R312): 0 returns to service. -/
def State.selfRefresh (s : State) (sr : Nat) : State :=
  let s := s.channels.foldl (fun s c => (s.setFld (.dcStatSr c) sr).setFld (.dcStatReady c) (bit (sr == 0))) s
  s.setFld .drcSrcmdState (if sr == 0 then 0 else 1)

end Sys2Proof.Machine
end

