-- ==== Sys2Proof/Machine/Surface.lean ====
section
/-!
DEFINITION. Surfaces (spec/06, R149 to R153), the in-use range table and retire notices (R166 to R168), and the CMP window (R151).
-/

namespace Sys2Proof.Machine

/-! ### Descriptors (R149, R150) -/

/-- Descriptor `i` of the surface table. -/
def State.surface (s : State) (i : Nat) : Surface :=
  let a := 32 * i
  let t := s.cmp.table
  { base := memNat t a 8, size := memNat t (a + 8) 4, stride := memNat t (a + 12) 4, width := memNat t (a + 16) 2,
    height := memNat t (a + 18) 2, format := memNat t (a + 20) 1, flags := memNat t (a + 21) 1, fmt := memNat t (a + 22) 2 }

/-- The bytes of a descriptor (R149). -/
def Surface.bytes (d : Surface) : List Byte :=
  leBytes 8 d.base ++ leBytes 4 d.size ++ leBytes 4 d.stride ++ leBytes 2 d.width ++ leBytes 2 d.height ++
    leBytes 1 d.format ++ leBytes 1 d.flags ++ leBytes 2 d.fmt ++ leBytes 8 0

/-- `s` with descriptor `i` written. -/
def State.setSurface (s : State) (i : Nat) (d : Surface) : State :=
  { s with cmp.table := memWrite s.cmp.table (32 * i) d.bytes }

/-- VALID of a descriptor. -/
def Surface.valid (d : Surface) : Bool := testBit d.flags 0

/-- FLOWOWNED of a descriptor. -/
def Surface.owned (d : Surface) : Bool := testBit d.flags 1

/-- The least stride of a descriptor's format (R150); none for a format outside R149. -/
def Surface.minStride (d : Surface) : Option Nat :=
  match d.format with
  | 0 => if pgroup (d.fmt % 4) (d.fmt / 4 % 4) = none then none else some (flowStride (d.fmt % 4) (d.fmt / 4 % 4) d.width)
  | 1 => some (6 * d.width)
  | 2 => some (8 * d.width)
  | _ => none

/-- A descriptor's range lies within the user space (R150, R301). -/
def State.inUser (s : State) (d : Surface) : Bool := decide (d.base + d.size ≤ s.userBytes)

/-- A descriptor is valid (R150). -/
def State.surfaceOk (s : State) (d : Surface) : Bool :=
  d.valid && (match d.minStride with
    | none => false
    | some m => decide (m ≤ d.stride)) && decide (d.stride * d.height ≤ d.size) && s.inUser d

/-- A surface is a valid RGB16 surface of at least a size (R163, R169). -/
def State.rgbSurface (s : State) (i w h : Nat) : Bool :=
  let d := s.surface i
  s.surfaceOk d && d.format == 1 && decide (w ≤ d.width) && decide (h ≤ d.height)

/-! ### The in-use range table (R166 to R168) -/

/-- The bytes of `lo .. lo + len - 1` and of an entry share a 64-byte block (R167). -/
def InUse.hit (e : InUse) (lo len : Nat) : Bool :=
  decide (0 < len) && decide (0 < e.len) && decide (lo / 64 ≤ (e.lo + e.len - 1) / 64) && decide (e.lo / 64 ≤ (lo + len - 1) / 64)

/-- The newer of two entries by stroke (R93). -/
def newerEntry (a b : InUse) : InUse := if strokeAfter b.stroke a.stroke then b else a

/-- Stroke `k` is no longer marked unchanged, as far as it is still in composition or the newest (R170). -/
def State.unmark (s : State) (k : Nat) : State :=
  let here := s.cmp.newest == k || s.cmp.flights.any (fun f => f.stroke == k)
  let s := { s with
    cmp.flights := s.cmp.flights.map (fun (f : Flight) => if f.stroke == k then { f with unchanged := false, static := false } else f),
    cmp.lastChanged := if here && strokeAfter k s.cmp.lastChanged then k else s.cmp.lastChanged,
    cmp.staticStrokes := s.cmp.staticStrokes.filter (· != k) }
  if s.cmp.newest == k then s.setFld .cmpStatUnchanged 0 else s

/-- A REUSE event or an underrun concerns stroke `k` (R170): neither it nor the stroke after it is unchanged. -/
def State.mar (s : State) (k : Nat) : State :=
  (({ s with cmp.marred := s.cmp.marred || s.cmp.newest == k } : State).unmark k).unmark (wrap32 (k + 1))

/-- A DRAM write is compared with the in-use table (R167): a hit is reported as REUSE. Writers: 0 ING, 1 window, 2 engine. `own` names the entry
that stands for the write itself: a writeback and a build do not hit the buffer they write. A hit on an entry of a stroke ends the unchanged mark
(R170). -/
def State.checkReuse (s : State) (own : InUse → Bool) (writer flow init lo len : Nat) : State :=
  match s.cmp.inUse.filter (fun e => !own e && e.hit lo len) with
  | [] => s
  | e :: es =>
    let s := ((e :: es).filter (fun e => e.kind != 3)).foldl (fun s e => s.mar e.stroke) s
    let e := es.foldl newerEntry e
    let s := (s.bump .cmpReusecnt 1).setFld .cmpReusestroke e.stroke
    let s := ((s.setFld .cmpReuseinfoView e.view).setFld .cmpReuseinfoSlot e.slot).setFld .cmpReuseinfoEntry e.kind
    let s := ((s.setFld .cmpReuseinfoWriter writer).setFld .cmpReuseinfoFlow (if writer == 0 then flow else 0)).setFld
      .cmpReuseinfoInitiator (if writer == 1 then init else 0)
    s.raise srcCmpReuse

/-- A write into user space by ING (port 0) or the window (5): performed, and reported when it hits the table. -/
def State.userWrite (s : State) (port writer flow init addr : Nat) (bs : List Byte) : State :=
  (s.checkReuse (fun _ => false) writer flow init addr bs.length).dramWrite port init addr bs

/-- The engine writes a line of pixels as RGB16 (R150, R163, R169): performed, and reported when it hits an entry that is not its own (R167). -/
def State.engineWrite (s : State) (own : InUse → Bool) (addr : Nat) (px : List Px) : State :=
  let bs := px.flatMap (fun q => leBytes 2 q.r ++ leBytes 2 q.g ++ leBytes 2 q.b)
  (s.checkReuse own 2 0 0 addr bs.length).dramWrite 3 0 addr bs

/-- The newest stroke such that no entry for it or an earlier one remains (R168): layer sources and writeback buffers count. -/
def State.retireOf (s : State) : Nat :=
  (s.cmp.inUse.filter (fun e => e.kind % 2 == 0)).foldl
    (fun k e => if strokeAfter k (wrap32 (e.stroke + 2 ^ 32 - 1)) then wrap32 (e.stroke + 2 ^ 32 - 1) else k) s.cmp.newest

/-- RETIRE advances only; each advance is a notice (R168). -/
def State.advanceRetire (s : State) : State :=
  let k := s.retireOf
  if strokeAfter k (s.fld .cmpRetire) then (s.setFld .cmpRetire k).raise srcCmpRetire else s

/-- Entries of the table that satisfy `p` leave it. -/
def State.release (s : State) (p : InUse → Bool) : State :=
  ({ s with cmp.inUse := s.cmp.inUse.filter (fun e => !p e) } : State).advanceRetire

/-- The entry a surface makes (R166). -/
def Surface.entry (d : Surface) (view slot kind stroke : Nat) : InUse := ⟨d.base, d.stride * d.height, view, slot, kind, stroke⟩

/-- Every stroke in composition is abandoned without a fill (R173): its entries leave. -/
def State.abandonStrokes (s : State) : State :=
  (({ s with cmp.flights := [] } : State).setFld .cmpStatInflight 0).release (fun e => e.kind % 2 == 0)

/-! ### Underlay buffers (R163, R164) -/

/-- VALID of underlay buffer `b` of view `v`. -/
def State.underlayValid (s : State) (v b : Nat) : Bool := s.flag (if b == 0 then .undStatValid0 v else .undStatValid1 v)

/-- `s` with VALID of an underlay buffer set. -/
def State.setUnderlay (s : State) (v b : Nat) (on : Bool) : State :=
  s.setFld (if b == 0 then .undStatValid0 v else .undStatValid1 v) (bit on)

/-- A running build of view `v` ends with STATE 3 and REASON 5, leaving its buffer invalid (R164). -/
def State.abortBuild (s : State) (v : Nat) : State :=
  match s.cmp.builds.find? (fun b => b.view == v) with
  | none => s
  | some b =>
    let s := { s with cmp.builds := s.cmp.builds.filter (fun x => x.view != v) }
    let s := ((s.setUnderlay v b.buf false).setFld (.undStatState v) 3).setFld (.undStatReason v) 5
    s.release (fun e => e.kind == 3 && e.view == v)

/-- Every running build ends (R164). -/
def State.abortBuilds (s : State) : State := iterate 4 State.abortBuild s

/-! ### The window (R151, R152, R303) -/

/-- The conversion and LUT bank in force, and the one that a pending commit names (R159). -/
def State.bankHeld (s : State) (b : Nat) : Bool :=
  s.fld .cmpCtrlCnvbank == b ||
    (s.access.commits.any (fun c => c.page == 7) && s.fld (Fld.shadow .cmpCtrlCnvbank) == b)

/-- The DRAM address of window offset `x` (R151). DESIGN CHOICE: where WINBASE + x passes 2^32 it carries into bits [36:32], and the sum is taken
modulo 2^37 (log entry 119). -/
def State.winAddr (s : State) (x : Nat) : Nat :=
  (s.fld .cmpWinctrlHiaddr * 2 ^ 32 + s.fld .cmpWinbase / 4 * 4 + x) % 2 ^ 37

/-- The target address of window offset `x`, for the targets that are not DRAM. -/
def State.winOffset (s : State) (x : Nat) : Nat := s.fld .cmpWinbase / 4 * 4 + x

/-- A window read (R151): the word, and the state after it. A reserved target, and an address outside the target's range,
read 0. -/
def State.winRead (s : State) (init x : Nat) : State × Word :=
  let o := s.winOffset x
  match s.fld .cmpWinctrlTarget with
  | 0 =>
    let a := s.winAddr x
    if s.userBytes ≤ a then (s.dramRange a init, 0) else (s, s.dramWord a)
  | 1 => (s, if o < 0x20000 then Word.ofNat (memNat s.cmp.table o 4) else 0)
  | 2 => (s, if o < 0x400 then Word.ofNat (memNat s.cmp.conv o 4) else 0)
  | 3 => (s, if o < 0x400 then Word.ofNat (memNat s.cmp.conv (0x400 + o) 4) else 0)
  | 4 => (s, if o < 0x10000 then Word.ofNat (memNat s.cmp.luts o 4) else 0)
  | 5 => (s, if o < 0x10000 then Word.ofNat (memNat s.cmp.luts (0x10000 + o) 4) else 0)
  | _ => (s, 0)

/-- A window write (R151): to DRAM with the REUSE check, to a descriptor unless a flow owns it (R150), to a bank unless it is
live or named by a pending commit (R159). -/
def State.winWrite (s : State) (init x : Nat) (data : Word) : State :=
  let o := s.winOffset x
  let bs := leBytes 4 data.toNat
  match s.fld .cmpWinctrlTarget with
  | 0 =>
    let a := s.winAddr x
    if s.userBytes ≤ a then s.dramRange a init else s.userWrite 5 1 0 init a bs
  | 1 =>
    if 0x20000 ≤ o then s
    else if (s.surface (o / 32)).owned then s.raise srcCmpDesclock
    else { s with cmp.table := memWrite s.cmp.table o bs }
  | 2 => if 0x400 ≤ o then s else if s.bankHeld 0 then s.raise srcCmpBankwrite
    else { s with cmp.conv := memWrite s.cmp.conv o bs }
  | 3 => if 0x400 ≤ o then s else if s.bankHeld 1 then s.raise srcCmpBankwrite
    else { s with cmp.conv := memWrite s.cmp.conv (0x400 + o) bs }
  | 4 => if 0x10000 ≤ o then s else if s.bankHeld 0 then s.raise srcCmpBankwrite
    else { s with cmp.luts := memWrite s.cmp.luts o bs }
  | 5 => if 0x10000 ≤ o then s else if s.bankHeld 1 then s.raise srcCmpBankwrite
    else { s with cmp.luts := memWrite s.cmp.luts (0x10000 + o) bs }
  | _ => s

/-! ### SURFACE-SEED (R153) -/

/-- One record of the region SURFACE-SEED at flash address `a`: the data, then the descriptor with VALID as read, or, with a bad
CRC, a descriptor with VALID 0 and SEEDBAD. Answers the next record's address. -/
def State.loadSeed (s : State) (a : Nat) : State × Nat :=
  let f := s.boot.flash
  let i := memNat f (a + 4) 2 % 4096
  let d : Surface := { base := memNat f (a + 8) 8, size := memNat f (a + 16) 4, stride := memNat f (a + 20) 4,
                       width := memNat f (a + 24) 2, height := memNat f (a + 26) 2, format := memNat f (a + 28) 1,
                       flags := memNat f (a + 29) 1 % 2, fmt := memNat f (a + 30) 2 }
  let len := memNat f (a + 0x28) 8
  let ok := (crc32 (memRead f a (0x30 + len))).toNat == memNat f (a + 0x30 + len) 4
  let next := (a + 0x34 + len + 63) / 64 * 64
  if ok then (({ s with dram.mem := memWrite s.dram.mem d.base (memRead f (a + 0x30) len) }).setSurface i d, next)
  else ((s.setSurface i { d with flags := 0 }).raise srcCmpSeedbad, next)

/-- The records of SURFACE-SEED from address `a` below `lim`, until a record's MAGIC is not that of R153; at most `n` records. -/
def State.loadSeedsFrom : Nat → Nat → Nat → State → State
  | 0, _, _, s => s
  | n + 1, a, lim, s =>
    if lim ≤ a || memNat s.boot.flash a 4 != 0x44454553 then s
    else
      let r := s.loadSeed a
      State.loadSeedsFrom n r.2 lim r.1

end Sys2Proof.Machine
end

