-- ==== Sys2Proof/Machine/Ingest.lean ====
section
/-!
DEFINITION. Video flows (spec/05, R136 to R145): enable checks, IGMP, packet acceptance and frame assembly, ST 2022-7 merging, frame synchronisation and shedding; and the monitor flow (R146, R147).
-/

namespace Sys2Proof.Machine

/-! ### A flow's legs and format -/

/-- Flow `n`. -/
def State.flow (s : State) (n : Nat) : FlowState := s.ing.flows.getD n FlowState.reset

/-- `s` with flow `n` changed. -/
def State.onFlow (s : State) (n : Nat) (f : FlowState → FlowState) : State :=
  { s with ing.flows := listModify s.ing.flows n f }

/-- A leg of a flow: port, sub-link, UDP port, destination and source address. Leg 0 is A, leg 1 is B. -/
structure Leg where
  port : Nat
  sublink : Nat
  udp : Nat
  group : Nat
  source : Nat
  deriving DecidableEq, Repr

/-- Leg `l` of flow `n`. -/
def State.leg (s : State) (n l : Nat) : Leg :=
  if l == 0 then ⟨s.fld (.flwLegaPort n), s.fld (.flwLegaSublink n), s.fld (.flwLegaUdpport n), s.fld (.flwGrpa n), s.fld (.flwSrca n)⟩
  else ⟨s.fld (.flwLegbPort n), s.fld (.flwLegbSublink n), s.fld (.flwLegbUdpport n), s.fld (.flwGrpb n), s.fld (.flwSrcb n)⟩

/-- The legs a flow uses (R141). -/
def State.legs (s : State) (n : Nat) : List Nat := if s.flag (.flwCtrlDual n) then [0, 1] else [0]

/-- Flow `n` is enabled. -/
def State.flowOn (s : State) (n : Nat) : Bool := s.flag (.flwCtrlEnable n)

/-- An IPv4 address is multicast. -/
def isMulticast (a : Nat) : Bool := a / 2 ^ 28 == 14

/-- The bits of a flow's FMT that a descriptor keeps (R149). -/
def State.flowFmt (s : State) (n : Nat) : Nat := (s.reg (Fld.addr (.flwFmtSampling n))).toNat % 512

/-- The stride of a flow's surface lines (R138). -/
def State.flowStrideOf (s : State) (n : Nat) : Nat :=
  flowStride (s.fld (.flwFmtSampling n)) (s.fld (.flwFmtDepth n)) (s.fld (.flwSizeWidth n))

/-- Surface index of buffer `b` of flow `n`. -/
def State.flowSurf (s : State) (n b : Nat) : Nat := s.fld (.flwSurfFirst n) + b

/-! ### Enable checks (R136, R138, R143) -/

/-- Declared load in Mb/s that the enabled flows and flow `n` put on a sub-link, and in total when `q` is 4 (R22). -/
def State.legLoad (s : State) (n q l : Nat) : Nat :=
  ((List.range 16).map (fun m =>
    if m == n || s.flowOn m then
      ((s.legs m).map (fun k =>
        let g := s.leg m k
        if q == 4 || (g.port == q && g.sublink == l) then s.fld (.flwRateMbps m) else 0)).sum
    else 0)).sum

/-- REASON 1 (R22): a leg's sub-link, or the 400 Gb/s of all ports, would be exceeded. A sub-link that does not exist is judged
under REASON 5. -/
def State.rateFails (s : State) (n : Nat) : Bool :=
  decide (400000 < s.legLoad n 4 0) ||
    (s.legs n).any (fun k =>
      let g := s.leg n k
      s.hasSublink g.port g.sublink && decide (s.lineMbps g.port < s.legLoad n g.port g.sublink))

/-- REASON 2 (R138): a format field is outside the supported set. -/
def State.formatFails (s : State) (n : Nat) : Bool :=
  let w := s.fld (.flwSizeWidth n)
  let h := s.fld (.flwSizeHeight n)
  pgroup (s.fld (.flwFmtSampling n)) (s.fld (.flwFmtDepth n)) == none || s.fld (.flwFmtColorimetry n) == 3 ||
    s.fld (.flwFmtTcs n) == 3 || decide (w < 16) || decide (7680 < w) || decide (h < 16) || decide (4320 < h)

/-- REASON 3: a named surface is too small, or is not a surface. -/
def State.surfacesFail (s : State) (n : Nat) : Bool :=
  (List.range (s.fld (.flwSurfNbuf n))).any (fun b =>
    let i := s.flowSurf n b
    let d := s.surface i
    decide (4096 ≤ i) || !d.valid || !s.inUser d || decide (d.size < s.flowStrideOf n * s.fld (.flwSizeHeight n)))

/-- The least NBUF of R143. -/
def State.minBuffers (s : State) (n : Nat) : Nat :=
  let lead := s.fld .stkCtrlLead + 2
  if s.flag (.flwCtrlSyncmode n) then
    let num := s.prof (·.rateNum)
    let den := max 1 (s.prof (·.rateDen))
    lead + (s.fld (.flwSyncLat n) * num + den * 10 ^ 6 - 1) / (den * 10 ^ 6)
  else lead

/-- The REASON of R136 that refuses flow `n`, the first in the order of its table, or 0. -/
def State.flowReason (s : State) (n : Nat) : Nat :=
  if s.rateFails n then 1
  else if s.formatFails n then 2
  else if s.surfacesFail n then 3
  else if s.fld (.flwSurfNbuf n) < s.minBuffers n then 4
  else if (s.legs n).any (fun k => !s.hasSublink (s.leg n k).port (s.leg n k).sublink) then 5
  else 0

/-! ### IGMP (R137) -/

/-- A report or leave of a leg's group (R137): INCLUDE with the source when SSM is set and the source is not 0.0.0.0, else EXCLUDE. A unicast
address sends none. -/
def State.igmp (s : State) (n k : Nat) (leave : Bool) : State :=
  let g := s.leg n k
  if !isMulticast g.group then s
  else
    let incl := s.flag (.flwCtrlSsm n) && g.source != 0
    s.igmpSend g.port g.sublink (if leave then 3 else if incl then 1 else 2) g.group g.source

/-- Every leg of a flow reports, or leaves. -/
def State.igmpAll (s : State) (n : Nat) (leave : Bool) : State := (s.legs n).foldl (fun s k => s.igmp n k leave) s

/-- IGMP_REPORT_REPEAT: the second unsolicited report, 1 s after the first (R137). -/
def igmpRepeat (s : State) (n : Nat) : State :=
  if (s.flow n).reportDue && s.flowOn n then
    (s.onFlow n (fun f => { f with reportDue := false })).igmpAll n false
  else s

/-- IGMP_REPORT_REPEAT (R137). -/
def execIgmpReportRepeat (flow : Nat) (s : State) : Result := run s (igmpRepeat · flow)

/-- The flows with a leg that has joined a group on a sub-link. -/
def State.flowsOn (s : State) (q l : Nat) : List (Nat × Nat) :=
  (List.range 16).flatMap (fun n =>
    if s.flowOn n then ((s.legs n).filter (fun k =>
      (s.leg n k).port == q && (s.leg n k).sublink == l && isMulticast (s.leg n k).group)).map (fun k => (n, k))
    else [])

/-- A query is answered for every joined group that it concerns; group 0 asks for all (R90, R137). -/
def State.answerQuery (s : State) (q l group : Nat) : State :=
  let s := if s.net.ptpJoin == some q && l == 0 && (group == 0 || group == ptpGroup) then s.igmpSend q 0 2 ptpGroup 0 else s
  (s.flowsOn q l).foldl (fun s x => if group == 0 || (s.leg x.1 x.2).group == group then s.igmp x.1 x.2 false else s) s

/-- IGMP_QUERY_RX: a query of version 1 or 2 makes the sub-link fall back, source filtering is lost and IGMPCOMPAT sets; the query is answered (R137).
`aged` lists the versions whose querier has not been heard for the time of RFC 3376 and is present no more. -/
def igmpQuery (s : State) (q l version group octets : Nat) (aged : List Nat) : State :=
  s.takeFrame q l octets .multicast fun s =>
    let s := { s with net.compat := s.net.compat.filter (fun c => !(c.1 == q && c.2.1 == l && (aged.contains c.2.2 || c.2.2 == version))) }
    let s := if 3 ≤ version then s
      else (s.flowsOn q l).foldl (fun s x => s.raise (srcFlwIgmpcompat x.1)) { s with net.compat := s.net.compat ++ [(q, l, version)] }
    s.answerQuery q l group

/-- IGMP_QUERY_RX (R137). -/
def execIgmpQueryRx (port sublink version group octets : Nat) (aged : List Nat) (s : State) : Result :=
  run s (igmpQuery · port sublink version group octets aged)

/-! ### Enable and disable (R136, R150) -/

/-- ING writes the flow's format into the descriptors of its ring and sets FLOWOWNED (R150). -/
def State.ownSurfaces (s : State) (n : Nat) : State :=
  iterate (s.fld (.flwSurfNbuf n)) (fun s b =>
    let i := s.flowSurf n b
    let d := s.surface i
    s.setSurface i { d with format := 0, fmt := s.flowFmt n, width := s.fld (.flwSizeWidth n),
                            height := s.fld (.flwSizeHeight n), stride := s.flowStrideOf n,
                            flags := setBit d.flags 1 true }) s

/-- FLOWOWNED clears when the flow is disabled (R150). -/
def State.freeSurfaces (s : State) (n : Nat) : State :=
  iterate (s.fld (.flwSurfNbuf n)) (fun s b =>
    let i := s.flowSurf n b
    let d := s.surface i
    s.setSurface i { d with flags := setBit d.flags 1 false }) s

/-- A buffer is overwritten (R144): a complete frame that was never latched advances SKIP. -/
def State.dropBuf (s : State) (n b : Nat) : State :=
  match (s.flow n).bufs.getD b none with
  | some x => if x.complete && !x.latched then s.bump (.flwSkip n) 1 else s
  | none => s

/-- A write that sets ENABLE (R136): the checks; a refused flow stays disabled with STATE 3; an accepted one joins, and its ring starts empty. -/
def flowStart (s : State) (n : Nat) : State :=
  if s.flowOn n then s
  else
    let r := s.flowReason n
    if r != 0 then (s.setFld (.flwStatState n) 3).setFld (.flwStatReason n) r
    else
      let s := ((s.setFld (.flwCtrlEnable n) 1).setFld (.flwStatState n) 1).setFld (.flwStatReason n) 0
      let s := iterate 8 (fun s b => s.dropBuf n b) s
      let s := s.onFlow n (fun f => { FlowState.reset with reportDue := true, latched := f.latched })
      (s.ownSurfaces n).igmpAll n false

/-- A write that clears ENABLE (R136, R137, R150): the flow leaves its groups, its buffers and the newest frame stay. -/
def flowStop (s : State) (n : Nat) : State :=
  if !s.flowOn n then (s.setFld (.flwStatState n) 0).setFld (.flwStatReason n) 0
  else
    let s := (s.igmpAll n true).freeSurfaces n
    let s := ((s.setFld (.flwCtrlEnable n) 0).setFld (.flwStatState n) 0).setFldBit .ingStatActive n false
    let s := ((s.setFld (.flwStatLegaup n) 0).setFld (.flwStatLegbup n) 0).lower (srcFlwLeglost n)
    let s := (s.setFldBit .ingStatShedding n false).setFld (.flwStatShedding n) 0
    let s := { s with ing.shed := s.ing.shed.filter (· != n) }
    s.onFlow n (fun f => { f with open_ := none, reportDue := false })

/-! ### Frames (R140, R143, R144) -/

/-- The frame count of stroke number `k`, which is that count modulo 2^32 (R92, R96): the one nearest the running count. -/
def State.frameOf (s : State) (k : Nat) : Nat := ((s.time.frame : Int) + signed 32 (strokesAhead k s.time.frame)).toNat

/-- RTP timestamp of T(k) of stroke number `k` on the 90 kHz clock, `lag` nanoseconds before it (R144, R146). -/
def State.rtpOf (s : State) (k lag : Nat) : Nat :=
  (Int.fdiv ((s.catchOf (s.frameOf k) - lag) * 90000) (10 ^ 9) % (2 ^ 32 : Nat)).toNat

/-- The complete frames that flow `n` holds, as (buffer, frame). -/
def FlowState.complete (f : FlowState) : List (Nat × FlowBuf) :=
  (List.range f.bufs.length).filterMap (fun b => match f.bufs.getD b none with
    | some x => if x.complete then some (b, x) else none
    | none => none)

/-- The newest complete frame. -/
def FlowState.newest (f : FlowState) : Option (Nat × FlowBuf) :=
  f.complete.foldl (fun m x => match m with
    | none => some x
    | some y => if y.2.order < x.2.order then some x else some y) none

/-- The eligible frame for stroke `k` (R144): the newest, or with SYNCMODE 1 the one with the greatest RTP timestamp that
qualifies against the target. -/
def State.selectFrame (s : State) (n k : Nat) : Option (Nat × FlowBuf) :=
  let f := s.flow n
  if s.flag (.flwCtrlSyncmode n) then
    let target := s.rtpOf k (s.fld (.flwSyncLat n) * 1000)
    let lag := fun (x : Nat × FlowBuf) => (target + 2 ^ 32 - x.2.rtp % 2 ^ 32) % 2 ^ 32
    (f.complete.filter (fun x => decide (lag x < 2 ^ 31))).foldl (fun m x => match m with
      | none => some x
      | some y => if lag x < lag y then some x else some y) none
  else f.newest

/-- Buffer `b` of flow `n` lies in an in-use range: it is latched for a view being composed or transmitted (R143, R166). -/
def State.bufBusy (s : State) (n b : Nat) : Bool :=
  let d := s.surface (s.flowSurf n b)
  s.cmp.inUse.any (fun e => e.hit d.base (d.stride * d.height))

/-- The buffers that a new frame may take (R143). -/
def State.freeBufs (s : State) (n : Nat) : List Nat :=
  let keep := (s.selectFrame n (s.access.prepared + 1)).map (·.1)
  (List.range (s.fld (.flwSurfNbuf n))).filter (fun b => !s.bufBusy n b && keep != some b)

/-- The order by which buffers are taken (R143): one that has held no frame first, then the oldest frame, complete or not. -/
def FlowState.bufAge (f : FlowState) (b : Nat) : Nat :=
  match f.bufs.getD b none with
  | some x => x.order + 1
  | none => 0

/-- The buffer a new frame takes, or none (R143). -/
def State.chooseBuf (s : State) (n : Nat) : Option Nat :=
  (s.freeBufs n).foldl (fun m b => match m with
    | none => some b
    | some c => if (s.flow n).bufAge b < (s.flow n).bufAge c then some b else some c) none

/-- The run of received numbers grows by those that follow it (R140). -/
def FlowState.absorb : Nat → FlowState → FlowState
  | 0, f => f
  | fuel + 1, f =>
    match f.upTo with
    | none => f
    | some u =>
      let next := wrap32 (u + 1)
      if f.ahead.contains next then FlowState.absorb fuel { f with upTo := some next, ahead := f.ahead.filter (· != next) } else f

/-- A number has been received (R140). -/
def FlowState.receive (f : FlowState) (ext : Nat) : FlowState :=
  let old := match f.upTo with
    | some u => !strokeAfter ext u
    | none => false
  if old || f.ahead.contains ext then f else FlowState.absorb (f.ahead.length + 1) { f with ahead := ext :: f.ahead }

/-- The run begins afresh after a frame's marker packet, or ends when that packet was not received (R140). -/
def FlowState.restartRun (f : FlowState) (marker : Option Nat) : FlowState :=
  match marker with
  | none => { f with upTo := none, ahead := [] }
  | some m =>
    let done := match f.upTo with
      | some u => !strokeAfter m u
      | none => false
    if done then f
    else
      let rest := f.ahead.filter (fun x => strokeAfter x m)
      FlowState.absorb (rest.length + 1) { f with upTo := some m, ahead := rest }

/-- The open frame of a flow is closed (R140): without completing it is counted in INCOMPLETE, unless it was discarded. -/
def State.closeFrame (s : State) (n : Nat) : State :=
  match (s.flow n).open_ with
  | none => s
  | some o =>
    let s := if o.buf.isSome then s.bump (.flwIncomplete n) 1 else s
    s.onFlow n (fun f => { f.restartRun o.marker with open_ := none })

/-- A new frame begins (R143, R145): discarded and counted while the flow sheds or with no buffer free. -/
def State.openFrame (s : State) (n rtp : Nat) : State :=
  let s := s.closeFrame n
  let s := s.onFlow n (fun f => { f with lastRtp := some rtp })
  let none_ := fun (s : State) => s.onFlow n (fun f => { f with open_ := some ⟨rtp, none, none⟩ })
  if s.ing.shed.contains n then none_ (s.bump (.flwShed n) 1)
  else match s.chooseBuf n with
    | none => none_ ((s.bump (.flwNobuf n) 1).raise (srcFlwNobuf n))
    | some b =>
      (s.dropBuf n b).onFlow n (fun f =>
        { f with open_ := some ⟨rtp, some b, none⟩, order := f.order + 1,
                 bufs := listModify f.bufs b (fun _ => some ⟨rtp, f.order, false, false⟩) })

/-- An SRD is malformed (R139). -/
def State.srdBad (s : State) (n : Nat) (r : Srd) : Bool :=
  match pgroup (s.fld (.flwFmtSampling n)) (s.fld (.flwFmtDepth n)) with
  | none => true
  | some (bytes, px) =>
    decide (s.fld (.flwSizeHeight n) ≤ r.row) || r.offset % px != 0 ||
      decide (s.flowStrideOf n < r.offset / px * bytes + r.data.length)

/-- An SRD is written into the flow's buffer `b` (R139). -/
def State.writeSrd (n b : Nat) (s : State) (r : Srd) : State :=
  match pgroup (s.fld (.flwFmtSampling n)) (s.fld (.flwFmtDepth n)) with
  | none => s
  | some (bytes, px) =>
    let d := s.surface (s.flowSurf n b)
    s.userWrite 0 0 n 0 (d.base + r.row * s.flowStrideOf n + r.offset / px * bytes) r.data

/-- The open frame of a flow has completed (R140): it is counted and on offer from the next lead point. -/
def State.checkComplete (s : State) (n : Nat) : State :=
  let f := s.flow n
  match f.open_ with
  | some ⟨rtp, some b, some m⟩ =>
    let whole := match f.upTo with
      | none => false
      | some u => !strokeAfter m u
    if whole then
      let s := s.onFlow n (fun f =>
        { f with open_ := none,
                 bufs := listModify f.bufs b (fun x => x.map (fun x => { x with complete := true })) })
      ((s.bump (.flwFrames n) 1).setFld (.flwLastrtp n) rtp).setFld (.flwStatNewest n) b
    else s
  | _ => s

/-! ### Packets (R139, R141, R142) -/

/-- Numbers that left the merge window with a leg missing are counted (R141). -/
def State.judgeMisses (s : State) (n : Nat) : State :=
  let win := s.fld (.flwSyncMergewin n) * 10 ^ 6
  let due := (s.flow n).seqs.filter (fun x => !x.judged && decide (x.at_ + win < s.frc))
  let s := (s.bump (.flwLegamiss n) (due.filter (fun x => x.legs == 2)).length).bump (.flwLegbmiss n)
    (due.filter (fun x => x.legs == 1)).length
  s.onFlow n (fun f => { f with seqs := f.seqs.map (fun (x : SeqRec) =>
    if decide (x.at_ + win < s.frc) then { x with judged := true } else x) })

/-- ING accepts a packet for leg `k` of flow `n` (R139): it arrives on the leg's sub-link, for its address and UDP port, from its source when SSM is
set, and with the flow's RTP fields. -/
def State.acceptsPacket (s : State) (n k : Nat) (p : VideoPacket) : Bool :=
  let g := s.leg n k
  g.port == p.port && g.sublink == p.sublink && g.group == p.dst && g.udp == p.udp &&
    (!s.flag (.flwCtrlSsm n) || g.source == p.src) && p.version == 2 && p.pt == s.fld (.flwFmtPt n)

/-- The leg that a packet is accepted for, if any. -/
def State.acceptLeg (s : State) (n : Nat) (p : VideoPacket) : Option Nat :=
  if s.flowOn n then (s.legs n).find? (fun k => s.acceptsPacket n k p) else none

/-- An enabled flow has subscribed on the packet's sub-link to the address it is sent to (R139). -/
def State.subscribed (s : State) (p : VideoPacket) : Bool :=
  (List.range 16).any (fun n => s.flowOn n && (s.legs n).any (fun k =>
    let g := s.leg n k
    g.port == p.port && g.sublink == p.sublink && g.group == p.dst))

/-- A leg has accepted a packet: it is up (R141), and the flow receives. -/
def State.legUp (s : State) (n k : Nat) : State :=
  let s := if k == 0 then (s.setFld (.flwStatLegaup n) 1).bump (.flwLegapkt n) 1
    else (s.setFld (.flwStatLegbup n) 1).bump (.flwLegbpkt n) 1
  let s := (s.setFld (.flwStatState n) 2).setFldBit .ingStatActive n true
  if (s.legs n).all (fun k => s.flag (if k == 0 then .flwStatLegaup n else .flwStatLegbup n)) then s.lower (srcFlwLeglost n) else s

/-- The number is no longer in the record of the last 65,536 (R141). -/
def FlowState.tooOld (f : FlowState) (ext : Nat) : Bool :=
  match f.seqs with
  | [] => false
  | x :: _ => !strokeAfter ext x.ext && decide (65536 ≤ strokesAhead x.ext ext)

/-- A number is recorded as received on leg `k`. The record is kept newest first. -/
def FlowState.record (f : FlowState) (ext k now : Nat) : FlowState :=
  let r : SeqRec := ⟨ext, k + 1, now, false⟩
  let newer := f.seqs.takeWhile (fun x => strokeAfter x.ext ext)
  let older := f.seqs.dropWhile (fun x => strokeAfter x.ext ext)
  { f with seqs := (newer ++ r :: older).take 65536 }

/-- The first copy of a packet is written (R139, R140): a new RTP timestamp closes the open frame. One is new when it is after the last, or when
its packet is the newest of the sequence. A packet of an earlier, closed frame is discarded; a marker packet among them is the predecessor's
marker that was missing. -/
def State.placePacket (s : State) (n : Nat) (p : VideoPacket) : State :=
  let f := s.flow n
  let newest := match f.seqs.head? with
    | some x => x.ext == p.ext
    | none => true
  let opens := match f.lastRtp with
    | none => true
    | some r => p.rtp != r && (strokeAfter p.rtp r || newest)
  let s := (if opens then s.openFrame n p.rtp else s).onFlow n (fun f => f.receive p.ext)
  match (s.flow n).open_ with
  | none => s
  | some o =>
    if o.rtp != p.rtp then
      (if p.marker && (s.flow n).upTo.isNone then (s.onFlow n (fun f => f.restartRun (some p.ext))).checkComplete n
      else s)
    else
      let s := match o.buf with
        | none => s
        | some b => p.srds.foldl (State.writeSrd n b) s
      let s := if p.marker then s.onFlow n (fun f => { f with open_ := f.open_.map (fun o => { o with marker := some p.ext }) }) else s
      s.checkComplete n

/-- A packet accepted for leg `k` of flow `n` (R139 to R141): malformed packets are discarded whole; with DUAL later copies are
counted and discarded. -/
def State.flowPacket (s : State) (n k : Nat) (p : VideoPacket) : State :=
  let s := (s.legUp n k).bump .ingPkts 1
  let s := if s.flag (.flwCtrlDual n) then s.judgeMisses n else s
  if p.srds.any (s.srdBad n) then s.bump (.flwMalformed n) 1
  else
    let f := s.flow n
    if s.flag (.flwCtrlDual n) && f.tooOld p.ext then s.bump (.flwLatedup n) 1
    else match f.seqs.find? (fun x => x.ext == p.ext) with
      | some x =>
        let win := s.fld (.flwSyncMergewin n) * 10 ^ 6
        let seen := s.onFlow n (fun f => { f with seqs := f.seqs.map (fun (y : SeqRec) =>
          if y.ext == p.ext && !testBit y.legs k then { y with legs := y.legs + 2 ^ k } else y) })
        if s.flag (.flwCtrlDual n) then
          (if s.frc ≤ x.at_ + win then seen.bump (.flwDuplicate n) 1 else seen.bump (.flwLatedup n) 1)
        else s.placePacket n p
      | none => (s.onFlow n (fun f => f.record p.ext k s.frc)).placePacket n p

/-- Size of a port's receive buffer in bytes (R142). -/
def rxBuffer : Nat := 2 * 2 ^ 20

/-- The next flow to shed: the highest PRIO not yet shedding, ties to the higher index; PRIO 0 never (R145). -/
def State.nextShed (s : State) : Option Nat :=
  (List.range 16).foldl (fun m n =>
    if s.flowOn n && !s.ing.shed.contains n && decide (0 < s.fld (.flwCtrlPrio n)) then
      match m with
      | none => some n
      | some c => if s.fld (.flwCtrlPrio c) ≤ s.fld (.flwCtrlPrio n) then some n else some c
    else m) none

/-- A flow enters shedding (R145): its frame in progress is abandoned and counted in SHED. -/
def State.beginShed (s : State) : State :=
  match s.nextShed with
  | none => s
  | some n =>
    let busy := match (s.flow n).open_ with
      | some o => o.buf.isSome
      | none => false
    let s := if busy then
        (s.bump (.flwShed n) 1).onFlow n (fun f => { f with open_ := f.open_.map (fun o => { o with buf := none }) })
      else s
    let s := (s.setFldBit .ingStatShedding n true).setFld (.flwStatShedding n) 1
    ({ s with ing.shed := s.ing.shed ++ [n] } : State).raise srcIngShed

/-- `held` bytes of a receive buffer are above HIGH percent (R145). -/
def State.aboveHigh (s : State) (held : Nat) : Bool := decide (s.fld .ingShedcfgHigh * rxBuffer < 100 * held)

/-- The time in ns that `bytes` of a port's receive buffer last at the line rate of the whole port (R142). -/
def State.bufferNs (s : State) (q bytes : Nat) : Nat := bytes * 8000 / max 1 (s.lineMbps q * s.sublinks q)

/-- SLACK: the least time that the remaining buffer lasts at line rate in this stroke, in ns (R142). -/
def State.takeSlack (s : State) (q held : Nat) : State :=
  let ns := s.bufferNs q (rxBuffer - held)
  let least := match s.ing.slack with
    | none => ns
    | some x => min x ns
  ({ s with ing.slack := some least } : State).setLiveFld .ingSlack least

/-- A stroke begins (R142): SLACK starts from empty buffers, the least over the ports. -/
def State.startSlack (s : State) : State :=
  let l := ((List.range 4).filter (fun q => s.sublinks q != 0)).map (fun q => s.bufferNs q rxBuffer)
  ({ s with ing.slack := none } : State).setLiveFld .ingSlack (l.foldl min (l.headD 0))

/-- VIDEO_PACKET_RX: a video packet arrives (R117, R139 to R142, R145); another packet on a subscribed group is counted in RXFILTER. `held` is how many bytes the port's receive
buffer then holds: above 2 MB it overflows and the packet is discarded. -/
def videoPacket (s : State) (p : VideoPacket) (held : Nat) : State :=
  if !s.receives p.port p.sublink then s
  else
    let r := s.frameIn p.port p.sublink p.octets (if isMulticast p.dst then .multicast else .unicast) p.fcsOk
    if !r.2 || !p.fcsOk then r.1
    else
      let s := r.1.takeSlack p.port (min held rxBuffer)
      let s := if s.aboveHigh held && s.ing.shed.isEmpty then s.beginShed else s
      if rxBuffer < held then (s.count p.port p.sublink 12 1).raise srcIngRxovf
      else
        let takers := (List.range 16).filterMap (fun n => (s.acceptLeg n p).map (fun k => (n, k)))
        if takers.isEmpty then (if s.subscribed p then s.count p.port p.sublink 11 1 else s)
        else takers.foldl (fun s x => s.flowPacket x.1 x.2 p) s

/-- VIDEO_PACKET_RX (R139). -/
def execVideoPacketRx (packet : VideoPacket) (held : Nat) (s : State) : Result := run s (videoPacket · packet held)

/-- LEG_DOWN: a leg with no accepted packet for 100 ms is down (R141). -/
def legDown (s : State) (n k : Nat) : State :=
  if s.flowOn n && (s.legs n).contains k then
    let s := (s.setFld (if k == 0 then .flwStatLegaup n else .flwStatLegbup n) 0).raise (srcFlwLeglost n)
    if s.flag (.flwStatLegaup n) || s.flag (.flwStatLegbup n) then s else s.setFldBit .ingStatActive n false
  else s

/-- LEG_DOWN (R141). -/
def execLegDown (flow leg : Nat) (s : State) : Result := run s (legDown · flow leg)

/-- SHED_ESCALATE: occupancy still above HIGH after ESC µs makes the next flow enter shedding (R145). -/
def execShedEscalate (held : Nat) (s : State) : Result :=
  run s fun s => if s.aboveHigh held && !s.ing.shed.isEmpty then s.beginShed else s

/-- SHED_END: the flow that entered shedding last stops (R145); its next frame is written from its first packet. -/
def shedEnd (s : State) : State :=
  match s.ing.shed.getLast? with
  | none => s
  | some n =>
    let s := { s with ing.shed := s.ing.shed.dropLast }
    let s := (s.setFldBit .ingStatShedding n false).setFld (.flwStatShedding n) 0
    if s.ing.shed.isEmpty then s.lower srcIngShed else s

/-- SHED_END (R145). -/
def execShedEnd (s : State) : Result := run s shedEnd

/-- At the lead point of stroke `k` composition latches a frame of flow `n` (R144): REPEAT advances when it is the one of the
stroke before, also of a disabled flow whose newest frame is on offer (R136), or when none is eligible for an enabled flow. -/
def State.latchFlow (k : Nat) (s : State) (n : Nat) : State :=
  let f := s.flow n
  match s.selectFrame n k with
  | none => if s.flowOn n then s.bump (.flwRepeat n) 1 else s
  | some (b, x) =>
    let again := f.latched == some b && x.latched
    let s := if again then s.bump (.flwRepeat n) 1 else s
    let s := s.onFlow n (fun f => { f with latched := some b,
                                           bufs := listModify f.bufs b (fun x => x.map (fun x => { x with latched := true })) })
    s.setFld (.flwStatLatched n) b

/-! ### The monitor flow (R146, R147) -/

/-- Wire bytes of one monitor frame of a canvas of `w` by `h` (R146): whole pixel groups of one line in packets of at most PAYLOAD
bytes, with the 86 bytes of overhead a packet carries on the wire. -/
def monFrameBytes (w h payload bytes px : Nat) : Nat :=
  let groups := (w + px - 1) / px
  let per := max 1 (payload / bytes)
  h * (groups * bytes + (groups + per - 1) / per * 86)

/-- The REASON of R146 that refuses the monitor, or 0. A format outside the table has no rate, so it is judged first. -/
def State.monReason (s : State) : Nat :=
  match pgroup (s.fld .monFmtSampling) (s.fld .monFmtDepth) with
  | none => 2
  | some (bytes, px) =>
    if 2 ≤ s.fld .monFmtColorimetry || s.fld .monFmtTcs == 3 then 2
    else
      let b := monFrameBytes (s.fld .cmpCanvasWidth) (s.fld .cmpCanvasHeight) (s.fld .monPktPayload) bytes px
      let rate := b * 8 * s.prof (·.rateNum)
      let span := max 1 (s.prof (·.rateDen)) * (s.fld .monCtrlDiv + 1)
      if s.lineMbps (s.fld .monCtrlPort) * 10 ^ 6 * span < rate || !s.hasSublink (s.fld .monCtrlPort) (s.fld .monCtrlSublink)
      then 1 else 0

/-- A write that sets MON.CTRL.ENABLE (R146). -/
def monStart (s : State) : State :=
  if s.flag .monCtrlEnable then s
  else
    let r := s.monReason
    if r != 0 then (s.setFld .monStatRefused 1).setFld .monStatReason r
    else
      let s := ((s.setFld .monStatRefused 0).setFld .monStatReason 0).setFld .monCtrlEnable 1
      (({ s with ing.monCount := 0, ing.monNow := none } : State).setFld .monStatActive 1).judgeLpi (s.fld .monCtrlPort)

/-- The monitor frame in progress has been sent complete: FRAMES advances, and its buffer leaves the in-use table (R166). -/
def State.monDone (s : State) : State :=
  match s.ing.monNow with
  | none => s
  | some k =>
    let s := ({ s with ing.monNow := none } : State).bump .monFrames 1
    s.release (fun e => e.kind == 2 && e.stroke == k && !(s.cmp.flights.any (fun f => f.stroke == k)))

/-- A write that clears MON.CTRL.ENABLE: the flow ends. -/
def monStop (s : State) : State := (s.monDone.setFld .monCtrlEnable 0).setFld .monStatActive 0

/-- The monitor sends view `v` (R146). -/
def State.monWants (s : State) (v : Nat) : Bool := s.flag .monCtrlEnable && s.fld .monCtrlView == v

/-- The writeback buffer of stroke `k` in the device's own interleaved region (R169, R301): four of 64 MB from 256 MB into the region. Their places
are the model's (DESIGN CHOICE, log entry 123). -/
def State.ownBuffer (s : State) (k : Nat) : Surface :=
  { base := s.userBytes + 0x10000000 + 0x4000000 * (k % 4), size := 0x4000000, stride := (6 * s.fld .cmpCanvasWidth + 63) / 64 * 64,
    width := s.fld .cmpCanvasWidth, height := s.fld .cmpCanvasHeight, format := 1, flags := 1, fmt := 0 }

/-- The writeback surface of view `v` for stroke `k` (R169): a surface with WBEN, else a buffer of the own region while the monitor sends the view. -/
def State.backSurface (s : State) (v k : Nat) : Option Surface :=
  if s.flag (.vwCtrlWben v) then
    some (s.surface (s.fld (.vwCtrlWbfirst v) + k % max 1 (s.fld (.vwCtrlWbn v))))
  else if s.monWants v then some (s.ownBuffer k)
  else none

/-- The bytes of line `y` of the monitor frame of stroke `k` (R146): the line of the canvas written back, 16 bits a primary, in the format of FMT.
Without a writeback no canvas stands there. -/
def State.monLine (s : State) (k y : Nat) : List Nat :=
  Config.monitorLine (s.reg (Fld.addr .monFmtSampling)).toNat (match s.backSurface (s.fld .monCtrlView) k with
    | none => []
    | some d => (List.range (3 * s.fld .cmpCanvasWidth)).map (fun i => memNat s.dram.mem (d.base + y * d.stride + 2 * i) 2))

/-- Where the packets of a monitor frame begin (R146): line, first pixel group and groups; whole groups of one line, at most PAYLOAD bytes. -/
def monPackets (w h payload bytes px : Nat) : List (Nat × Nat × Nat) :=
  let groups := (w + px - 1) / px
  let per := max 1 (payload / bytes)
  (List.range h).flatMap (fun y => (List.range ((groups + per - 1) / per)).map (fun j => (y, j * per, min per (groups - j * per))))

/-- The packets of the monitor frame of stroke `k`, in order (R146), each as the octets of its frame and its contents: RTP timestamp, sequence number
and marker, SSRC, destination and UDP port, type, the line and the offset of its one SRD, and the SRD's bytes. -/
def State.monFrame (s : State) (k : Nat) : List (Nat × List Nat) :=
  match pgroup (s.fld .monFmtSampling) (s.fld .monFmtDepth) with
  | none => []
  | some (bytes, px) =>
    let ps := monPackets (s.fld .cmpCanvasWidth) (s.fld .cmpCanvasHeight) (s.fld .monPktPayload) bytes px
    ps.zipIdx.map (fun (x, i) =>
      (66 + x.2.2 * bytes,
        [s.rtpOf k 0, (s.ing.monSeq + i) % 65536, bit (i + 1 == ps.length), s.fld .monSsrc, s.fld .monDest, s.fld .monCtrlUdpport,
          s.fld .monCtrlType, x.1, x.2.1 * px] ++ ((s.monLine k x.1).drop (x.2.1 * bytes)).take (x.2.2 * bytes)))

/-- MON_FRAME_START: at T(k) + 20 µs the monitor begins the frame of stroke k, one in every DIV + 1 strokes (R146); its packets are handed to the
sub-link in order. The frame before is then complete. -/
def monFrameStart (s : State) (k : Nat) : State :=
  if !s.flag .monCtrlEnable then s
  else
    let s := s.monDone
    let c := s.ing.monCount
    let s := { s with ing.monCount := c + 1 }
    if c % (s.fld .monCtrlDiv + 1) != 0 then s
    else
      let ps := s.monFrame k
      let s := { s with ing.monNow := some k, ing.monSeq := (s.ing.monSeq + ps.length) % 65536 }
      ps.foldl (fun s x => s.transmit (s.fld .monCtrlPort) (s.fld .monCtrlSublink) 6 x.1 x.2) s

/-- MON_FRAME_START (R146). -/
def execMonFrameStart (stroke : Nat) (s : State) : Result := run s (monFrameStart · stroke)

/-- A packet of the monitor flow. -/
def Sent.isMonitor : Sent → Bool
  | .frame _ _ kind _ _ _ _ => kind == 6
  | _ => false

/-- MON_FRAME_CUT: the frame is cut at T(k) plus one stroke length (R147): its packets that wait are skipped, SKIPPED advances and MONSKIP is raised. -/
def monFrameCut (s : State) : State :=
  match s.ing.monNow with
  | none => s
  | some k =>
    let s := s.onLink (s.fld .monCtrlPort) (s.fld .monCtrlSublink)
      (fun l => { l with waiting := l.waiting.filter (fun x => !x.1.isMonitor) })
    let s := (({ s with ing.monNow := none } : State).bump .monSkipped 1).raise srcMonMonskip
    s.release (fun e => e.kind == 2 && e.stroke == k)

/-- MON_FRAME_CUT (R147). -/
def execMonFrameCut (s : State) : Result := run s monFrameCut

end Sys2Proof.Machine
end

