-- ==== Sys2Proof/Machine/Compose.lean ====
section
/-!
DEFINITION. Composition (spec/06, R154 to R173): sampling, conversion, keying and blending of layers, flips and fences, the lead point's latch, completion and deadline of views, tile regions, underlay builds; and a sender's SRC picture checks (spec/08, R228 to R231).
-/

namespace Sys2Proof.Machine

/-! ### Sampling (R158) -/

/-- A sample of `d` bits expanded to 16 bits by bit replication (R158). -/
def expand16 (d c : Nat) : Nat := if d = 16 then c else (c * 2 ^ (16 - d)) ||| (c / 2 ^ (2 * d - 16))

/-- Sample `i` of depth `d` within a pixel group, packed from its first bit on (R138). -/
def groupSample (bs : List Byte) (d i : Nat) : Nat := beNat bs / 2 ^ (8 * bs.length - (i + 1) * d) % 2 ^ d

/-- Bits per sample of a FMT depth code (R138). -/
def depthBits (code : Nat) : Nat := match code with
  | 0 => 10 | 1 => 12 | _ => 16

/-- The pixel group of column `x`: its byte address in the line and its length, and the column's place in it. -/
def groupOf (sampling depth x : Nat) : Nat × Nat × Nat :=
  match pgroup sampling depth with
  | none => (0, 0, 0)
  | some (bytes, px) => (x / px * bytes, bytes, x % px)

/-- Raw components of column `x` of a flow-packed line at address `a` (R138, R158): R, G, B, or Y, Cb, Cr. In 4:4:4 video the group
order is Cb, Y, Cr; in 4:2:2 it is Cb, Y0, Cr, Y1, and the chroma is that of the even column. -/
def flowRaw (mem : List Host.Cell) (fmt a x : Nat) : Px :=
  let sampling := fmt % 4
  let depth := fmt / 4 % 4
  let d := depthBits depth
  let g := groupOf sampling depth x
  let bs := memRead mem (a + g.1) g.2.1
  let at_ := fun i => expand16 d (groupSample bs d i)
  match sampling with
  | 0 => ⟨at_ (3 * g.2.2), at_ (3 * g.2.2 + 1), at_ (3 * g.2.2 + 2)⟩
  | 1 => ⟨at_ (3 * g.2.2 + 1), at_ (3 * g.2.2), at_ (3 * g.2.2 + 2)⟩
  | _ => ⟨at_ (1 + 2 * g.2.2), at_ 0, at_ 2⟩

/-- The mean of two chroma samples (R158). -/
def chromaMean (a b : Nat) : Nat := (a + b + 1) / 2

/-- Components of a flow surface's pixel, with 4:2:2 chroma of odd columns interpolated (R158). -/
def flowPixel (mem : List Host.Cell) (d : Surface) (x y : Nat) : Px :=
  let a := d.base + y * d.stride
  let p := flowRaw mem d.fmt a x
  if d.fmt % 4 = 2 ∧ x % 2 = 1 then
    let l := flowRaw mem d.fmt a (x - 1)
    if x + 1 < d.width then
      let r := flowRaw mem d.fmt a (x + 1)
      ⟨p.r, chromaMean l.g r.g, chromaMean l.b r.b⟩
    else ⟨p.r, l.g, l.b⟩
  else p

/-- A source pixel's components and ap (R150, R158). -/
def surfacePixel (mem : List Host.Cell) (d : Surface) (pixalpha : Bool) (x y : Nat) : Px × Nat :=
  match d.format with
  | 0 => (flowPixel mem d x y, 32768)
  | 1 =>
    let a := d.base + y * d.stride + 6 * x
    (⟨memNat mem a 2, memNat mem (a + 2) 2, memNat mem (a + 4) 2⟩, 32768)
  | _ =>
    let a := d.base + y * d.stride + 8 * x
    (⟨memNat mem a 2, memNat mem (a + 2) 2, memNat mem (a + 4) 2⟩,
      if pixalpha then (memNat mem (a + 6) 2 * 32768 + 32767) / 65535 else 32768)

/-- A source pixel lies in a poisoned block (R315). -/
def surfacePoison (poison : List Nat) (d : Surface) (x y : Nat) : Bool :=
  let a := d.base + y * d.stride
  let span : Nat → Nat × Nat := fun x => match d.format with
    | 0 => let g := groupOf (d.fmt % 4) (d.fmt / 4 % 4) x; (a + g.1, g.2.1)
    | 1 => (a + 6 * x, 6)
    | _ => (a + 8 * x, 8)
  let bad := fun x => let r := span x
    decide (0 < r.2) && poison.any (fun b => decide (r.1 / 64 ≤ b) && decide (b ≤ (r.1 + r.2 - 1) / 64))
  bad x || (d.format == 0 && d.fmt % 4 == 2 && x % 2 == 1 && decide (x + 1 < d.width) && bad (x + 1))

/-- One step of linear interpolation with a weight of 64ths (R158). -/
def lerp64 (a b f : Nat) : Nat := (a * (64 - f) + b * f + 32) / 64

/-- Interpolation of a pixel and its alpha. -/
def lerpPx (a b : Px × Nat) (f : Nat) : Px × Nat :=
  (⟨lerp64 a.1.r b.1.r f, lerp64 a.1.g b.1.g f, lerp64 a.1.b b.1.b f⟩, lerp64 a.2 b.2 f)

/-- The crop's last column or line (R158): a crop length of 0 means the surface's less the origin. -/
def cropLast (origin len size : Nat) : Nat := origin + (if len = 0 then size - origin else len) - 1

/-- A layer's filtered sample at canvas pixel (x, y) (R158); none where it reads a poisoned block (R315). -/
def LayerPlan.sample (mem : List Host.Cell) (poison : List Nat) (l : LayerPlan) (x y : Nat) : Option (Px × Nat) :=
  let px := (l.srcX + (x - l.dstX) * l.stepX) % 2 ^ 32
  let py := (l.srcY + (y - l.dstY) * l.stepY) % 2 ^ 32
  let cx := clampNat l.cropX (cropLast l.cropX l.cropW l.desc.width)
  let cy := clampNat l.cropY (cropLast l.cropY l.cropH l.desc.height)
  let get := surfacePixel mem l.desc l.pixalpha
  let bad := surfacePoison poison l.desc
  if l.bilinear then
    let x0 := cx (px / 65536)
    let x1 := cx (px / 65536 + 1)
    let y0 := cy (py / 65536)
    let y1 := cy (py / 65536 + 1)
    let fx := px / 1024 % 64
    let fy := py / 1024 % 64
    if bad x0 y0 || bad x1 y0 || bad x0 y1 || bad x1 y1 then none
    else some (lerpPx (lerpPx (get x0 y0) (get x1 y0) fx) (lerpPx (get x0 y1) (get x1 y1) fx) fy)
  else
    let sx := cx ((px + 0x8000) / 65536)
    let sy := cy ((py + 0x8000) / 65536)
    if bad sx sy then none else some (get sx sy)

/-! ### Conversion (R159) -/

/-- A signed Q3.13 coefficient of a conversion set at address `a`. -/
def coeff (m : List Host.Cell) (a i : Nat) : Int := signed 16 (memNat m (a + 2 * i) 2)

/-- Row `i` of a matrix product over 8192, rounded and clamped (R159). -/
def matRow (m : List Host.Cell) (a i : Nat) (v : Int × Int × Int) : Nat :=
  (clampInt 0 65535 (roundDiv (coeff m a (3 * i) * v.1 + coeff m a (3 * i + 1) * v.2.1 + coeff m a (3 * i + 2) * v.2.2) 8192)).toNat

/-- A 1,025-entry LUT at address `a`, interpolated (R159). -/
def lutAt (m : List Host.Cell) (a v : Nat) : Nat :=
  let k := v / 64
  let f := v % 64
  let l0 : Int := memNat m (a + 2 * k) 2
  let l1 : Int := memNat m (a + 2 * (k + 1)) 2
  (l0 + roundDiv ((l1 - l0) * f) 64).toNat

/-- Conversion of a pixel by set `cnv` of a bank, or none with CNV 31 (R159). -/
def convert (conv luts : List Host.Cell) (bank cnv : Nat) (p : Px) : Px :=
  if cnv = 31 then p
  else
    let a := 0x400 * bank + 64 * cnv
    let flags := memNat conv (a + 0x2C) 1
    let lut := fun (off v : Nat) =>
      let i := memNat conv (a + off) 1
      if i = 0xFF then v else lutAt luts (0x10000 * bank + 0x1000 * (i % 16)) v
    let luts3 := fun (off : Nat) (q : Px) => (⟨lut off q.r, lut off q.g, lut off q.b⟩ : Px)
    let o := fun i => (memNat conv (a + 0x12 + 2 * i) 2 : Int)
    let mat := fun (b : Nat) (v : Int × Int × Int) => (⟨matRow conv b 0 v, matRow conv b 1 v, matRow conv b 2 v⟩ : Px)
    let q := if testBit flags 0 then p else mat a ((p.r : Int) - o 0, (p.g : Int) - o 1, (p.b : Int) - o 2)
    let q := luts3 0x2A q
    let q := if testBit flags 1 then q else mat (a + 0x18) (q.r, q.g, q.b)
    luts3 0x2B q

/-! ### Keying and blending (R160) -/

/-- The key's alpha for a pixel (R160). -/
def keyAlpha (klo khi : Nat) (s : Px) : Nat :=
  let y := (13933 * s.r + 46871 * s.g + 4732 * s.b + 32768) / 65536
  if y ≤ klo then 0 else if khi ≤ y then 32768 else (y - klo) * 32768 / (khi - klo)

/-- One component blended (R160): 0 over, 1 add, 2 multiply, 3 replace. -/
def blend1 (mode s d a : Nat) : Nat :=
  match mode with
  | 0 => (s * a + d * (32768 - a) + 16384) / 32768
  | 1 => min (d + (s * a + 16384) / 32768) 65535
  | 2 => (d * ((s * a + 65535 * (32768 - a) + 16384) / 32768) + 32767) / 65535
  | _ => s

/-- A layer's pixel blended over the canvas (R160). -/
def LayerPlan.blendPx (l : LayerPlan) (s : Px) (ap : Nat) (d : Px) : Px :=
  let a := (l.alpha * ap + 16384) / 32768
  let a := if l.keyen then (a * keyAlpha l.klo l.khi s + 16384) / 32768 else a
  ⟨blend1 l.blend s.r d.r a, blend1 l.blend s.g d.g a, blend1 l.blend s.b d.b a⟩

/-- The layer covers canvas pixel (x, y). -/
def LayerPlan.covers (l : LayerPlan) (x y : Nat) : Bool :=
  l.whole || (decide (l.dstX ≤ x) && decide (x < l.dstX + l.dstW) && decide (l.dstY ≤ y) && decide (y < l.dstY + l.dstH))

/-- A layer drawn on a canvas pixel (R158 to R160); none where a poisoned block is read. -/
def drawLayer (c : ComposeState) (mem : List Host.Cell) (poison : List Nat) (bank : Nat) (x y : Nat) (d : Option Px)
    (l : LayerPlan) : Option Px :=
  match d with
  | none => none
  | some p =>
    if !l.covers x y then some p
    else if l.whole then
      (if surfacePoison poison l.desc x y then none else some (surfacePixel mem l.desc false x y).1)
    else match l.sample mem poison x y with
      | none => none
      | some (s, ap) => some (l.blendPx (convert c.conv c.luts bank l.cnv s) ap p)

/-- A canvas pixel of a view, drawn in slot order over the background (R157). -/
def ViewPlan.pixel (c : ComposeState) (mem : List Host.Cell) (poison : List Nat) (bank : Nat) (v : ViewPlan) (x y : Nat) : Option Px :=
  v.layers.foldl (drawLayer c mem poison bank x y) (some v.bg)

/-- A line of a view: from the first pixel that reads a poisoned block to its end it takes the background (R315). -/
def ViewPlan.line (c : ComposeState) (mem : List Host.Cell) (poison : List Nat) (bank w : Nat) (v : ViewPlan) (y : Nat) : List Px :=
  let ps := (List.range w).map (fun x => v.pixel c mem poison bank x y)
  let good := (ps.takeWhile (·.isSome)).map (fun p => p.getD v.bg)
  good ++ List.replicate (w - good.length) v.bg

/-- The canvas of a view in canvas order. -/
def ViewPlan.canvas (c : ComposeState) (mem : List Host.Cell) (poison : List Nat) (bank w h : Nat) (v : ViewPlan) : List Px :=
  (List.range h).flatMap (v.line c mem poison bank w)

/-! ### Tiles' regions (R155) -/

/-- The canvas pixel of tile pixel (u, v) at position `pos` of chain port `n` (R155). -/
def Reader.tilePixel (rd : Reader) (n pos u v : Nat) : Nat × Nat :=
  let wh := rd.tileSize n pos
  let x0 := rd.fld (.plcEntryX n pos)
  let y0 := rd.fld (.plcEntryY n pos)
  let u' := if rd.fld (.plcEntryMirror n pos) = 1 then wh.1 - 1 - u else u
  match rd.fld (.plcEntryRot n pos) with
  | 0 => (x0 + u', y0 + v)
  | 1 => (x0 + wh.2 - 1 - v, y0 + u')
  | 2 => (x0 + wh.1 - 1 - u', y0 + wh.2 - 1 - v)
  | _ => (x0 + v, y0 + wh.1 - 1 - u')

/-- The pixel of a picture at canvas (x, y). -/
def Picture.at_ (p : Picture) (x y : Nat) : Px := p.px.getD (y * p.width + x) ⟨0, 0, 0⟩

/-- A tile's region of a view in tile order: row outer, column inner (R155). -/
def State.region (s : State) (p : Picture) (n pos : Nat) : List Px :=
  let wh := Reader.tileSize s.reg n pos
  (List.range wh.2).flatMap (fun v => (List.range wh.1).map (fun u =>
    let c := Reader.tilePixel s.reg n pos u v
    p.at_ c.1 c.2))

/-- The samples of pixels, three each. -/
def pxSamples (ps : List Px) : List Nat := ps.flatMap (fun p => [p.r, p.g, p.b])

/-! ### Picture CRCs (R228 to R231) -/

/-- The bytes that a picture CRC takes of a pixel: R, G, B, most significant byte first (R229). -/
def pxBytes (p : Px) : List Byte :=
  [p.r, p.g, p.b].flatMap (fun c => [BitVec.ofNat 8 (c / 256), BitVec.ofNat 8 c])

/-- Window `w` is computed for a tile of tw by th pixels (R228). -/
def Reader.windowOn (rd : Reader) (views tw th w : Nat) : Bool :=
  testBit (rd.fld .pckCtrlWinen) w && decide (rd.fld .pckWinviewView / 4 ^ w % 4 < views) &&
    decide (rd.fld (.pckWinU w) + rd.fld (.pckWinW w) ≤ tw) && decide (rd.fld (.pckWinV w) + rd.fld (.pckWinH w) ≤ th)

/-- The view of window `w`. -/
def Reader.windowView (rd : Reader) (w : Nat) : Nat := rd.fld .pckWinviewView / 4 ^ w % 4

/-- The pixels of window `w` out of a region in tile order. -/
def Reader.windowPixels (rd : Reader) (region : List Px) (tw w : Nat) : List Px :=
  (List.range (rd.fld (.pckWinH w))).flatMap (fun j => (List.range (rd.fld (.pckWinW w))).map (fun i =>
    region.getD ((rd.fld (.pckWinV w) + j) * tw + rd.fld (.pckWinU w) + i) ⟨0, 0, 0⟩))

/-- The SRC or RX value of window `w` over a region (R229). -/
def Reader.windowCrc (rd : Reader) (region : List Px) (tw w : Nat) : Word :=
  crc32 ((rd.windowPixels region tw w).flatMap pxBytes)

/-- At most four strokes of a tile and window are kept, newest first (R231). -/
def keepSrc (l : List SrcKept) (x : SrcKept) : List SrcKept :=
  let same := fun (y : SrcKept) => y.port == x.port && y.pos == x.pos && y.win == x.win
  x :: ((l.filter (fun y => same y && y.stroke != x.stroke)).take 3 ++ l.filter (fun y => !same y))

/-! ### Sending a view (R169, R219, R229) -/

/-- VIDEO cells go to a position of a chain port: every one in control, and in split drive on the port those whose HEALTH cells reach it
(R339). -/
def State.sendsTo (s : State) (n pos : Nat) : Bool :=
  s.drives || (testBit (s.fld .pairStatSplit) n && ((s.port n).healthSeen.contains pos || (s.port n).healthLast.contains pos))

/-- The VIDEO cells of a view of a tile: 64 samples each, the last padded with 0 (R192). -/
def videoCells (pos view : Nat) (samples : List Nat) : List VideoCell :=
  (List.range ((samples.length + 63) / 64)).map (fun i =>
    ⟨view, i, pos, (List.range 64).map (fun j => samples.getD (64 * i + j) 0)⟩)

/-- The VIDEO cells of a view are submitted for every enabled, enumerated tile (R206), and the SRC values of its windows are taken. -/
def State.sendView (s : State) (p : Picture) : State :=
  s.servicePorts.foldl (fun s n =>
    (Reader.shownTiles s.reg n).foldl (fun s pos =>
      let r := s.region p n pos
      let wh := Reader.tileSize s.reg n pos
      let s := if s.sendsTo n pos then
          (videoCells pos p.view (pxSamples r)).foldl (fun s c => s.submit n p.stroke (.video c)) s
        else s
      iterate 8 (fun s w =>
        let rd : Reader := s.reg
        if rd.windowOn (s.prof (·.views)) wh.1 wh.2 w && rd.windowView w == p.view then
          { s with cmp.srcKept := keepSrc s.cmp.srcKept ⟨n, pos, w, p.stroke, s.fld .pckCtrlGen, rd.windowCrc r wh.1 w⟩ }
        else s) s) s) s

/-- For an unchanged stroke the SRC values of the stroke before are carried forward (R229). -/
def State.carrySrc (s : State) (stroke : Nat) : State :=
  let prev := wrap32 (stroke + 2 ^ 32 - 1)
  let old := s.cmp.srcKept.filter (fun x => x.stroke == prev)
  { s with cmp.srcKept := old.foldl (fun l x => keepSrc l { x with stroke := stroke }) s.cmp.srcKept }

/-- A view's picture is staged, its digest taken in a pair (R333), written back, and sent unless the stroke is static (R169, R208). WBSTAT shows the
writebacks of WBEN. -/
def State.putPicture (s : State) (f : Flight) (v : ViewPlan) (px : List Px) : State :=
  let p : Picture := ⟨v.view, f.stroke, f.width, px⟩
  let s := { s with cmp.pictures := s.cmp.pictures.filter (fun q => q.view != v.view) ++ [p] }
  let s := if s.prof (·.pair) != 1 then s
    else { s with pairing.digests := (f.stroke, v.view, crc32 (px.flatMap pxBytes)) :: s.pairing.digests.take 15 }
  let s := match v.back with
    | none => s
    | some d =>
      let own := fun (e : InUse) => e.kind == 2 && e.view == v.view && e.stroke == f.stroke
      let s := (List.range f.height).foldl (fun s y =>
        s.engineWrite own (d.base + y * d.stride) ((px.drop (y * f.width)).take f.width)) s
      if s.userBytes ≤ d.base then s else s.setFld (.vwWbstat v.view) f.stroke
  if f.static then s else s.sendView p

/-- `s` with the plan of view `v` of a stroke replaced. -/
def State.setPlan (s : State) (stroke : Nat) (v : ViewPlan) : State :=
  { s with cmp.flights := s.cmp.flights.map (fun (f : Flight) =>
    if f.stroke == stroke then { f with views := f.views.map (fun (x : ViewPlan) => if x.view == v.view then v else x) } else f) }

/-- A view of a stroke is finished: its layer entries leave, and its writeback entry unless the monitor sends it (R166). -/
def State.finishView (s : State) (f : Flight) (v : ViewPlan) : State :=
  let s := s.setPlan f.stroke { v with done := true, sent := !f.static }
  s.release (fun e => e.stroke == f.stroke && e.view == v.view &&
    (e.kind == 0 || (e.kind == 2 && !s.monWants v.view)))

/-- A stroke whose views are all done leaves composition. -/
def State.endFlight (s : State) (stroke : Nat) : State :=
  match s.cmp.flights.find? (fun f => f.stroke == stroke) with
  | none => s
  | some f =>
    if f.views.all (·.done) then
      let s := { s with cmp.flights := s.cmp.flights.filter (fun f => f.stroke != stroke) }
      s.setFld .cmpStatInflight s.cmp.flights.length
    else s

/-- The finished views of a stroke whose cells were withheld are sent after all, once it is no longer static (R208). -/
def State.sendWithheld (s : State) (f : Flight) : State :=
  (f.views.filter (fun v => v.done && !v.sent)).foldl (fun s v =>
    match s.cmp.pictures.find? (fun p => p.view == v.view && p.stroke == f.stroke) with
    | none => s
    | some p => (s.sendView p).setPlan f.stroke { v with sent := true }) s

/-- VIEW_COMPOSED: a view finishes composition with its slack in ns (R169, R171). Views are composed in order, and a stroke after the one before it is
composed (R156, R171), so it is the first unfinished view of the oldest stroke in composition. -/
def viewComposed (s : State) (stroke view : Nat) (slack : Int) : State :=
  match s.cmp.flights.head? with
  | none => s
  | some f =>
    match f.views.find? (fun v => !v.done) with
    | none => s
    | some v =>
      if f.stroke != stroke || v.view != view then s
      else
        let px := v.canvas s.cmp s.dram.mem s.dram.poison f.bank f.width f.height
        let s := if f.static then s else s.sendWithheld f
        let s := s.putPicture f v px
        let s := s.setLiveFld (.cmpSlack view) (unsigned 32 (clampInt (-2 ^ 31) (2 ^ 31 - 1) slack))
        (s.finishView f v).endFlight stroke

/-- VIEW_COMPOSED (R171). -/
def execViewComposed (stroke view : Nat) (slackNs : Int) (s : State) : Result := run s (viewComposed · stroke view slackNs)

/-- A view abandoned at (line, pixel): what was composed stands, the rest takes the background (R172). -/
def ViewPlan.abandoned (c : ComposeState) (mem : List Host.Cell) (poison : List Nat) (bank w h line pixel : Nat) (v : ViewPlan) : List Px :=
  (List.range h).flatMap (fun y =>
    if y < line then v.line c mem poison bank w y
    else if y = line then (v.line c mem poison bank w y).take pixel ++ List.replicate (w - min pixel w) v.bg
    else List.replicate w v.bg)

/-- One view of a stroke at its deadline (R172): `progress` gives the first uncomposed line and pixel of each view that is not complete. -/
def State.abandonView (f : Flight) (progress : List (Nat × Nat × Nat)) (s : State) (v : ViewPlan) : State :=
  if v.done then s
  else
    let at_ := ((progress.find? (fun p => p.1 == v.view)).map (·.2)).getD (0, 0)
    let px := v.abandoned s.cmp s.dram.mem s.dram.poison f.bank f.width f.height at_.1 at_.2
    let s := s.putPicture f v px
    (s.setLiveFld (.cmpSlack v.view) 0x80000000).finishView f v

/-- COMPOSE_DEADLINE: every incomplete view of the stroke is abandoned and filled, and an underrun is recorded (R172). -/
def composeDeadline (s : State) (stroke : Nat) (progress : List (Nat × Nat × Nat)) : State :=
  match s.cmp.flights.find? (fun f => f.stroke == stroke) with
  | none => s
  | some f =>
    match f.views.find? (fun v => !v.done) with
    | none => s
    | some first =>
      let at_ := ((progress.find? (fun p => p.1 == first.view)).map (·.2)).getD (0, 0)
      let s := ((s.setFld .cmpUnderposView first.view).setFld .cmpUnderposLine at_.1).setFld .cmpUnderposPixel at_.2
      let s := ((s.setFld .cmpUnderstroke stroke).bump .cmpUnderruns 1).raise srcCmpUnderrun
      let s := (s.sendWithheld f).mar stroke
      let f := { f with static := false }
      let s := (f.views.foldl (State.abandonView f progress) s).endFlight stroke
      { s with pairing.digests := s.pairing.digests.filter (fun d => d.1 != stroke) }

/-- COMPOSE_DEADLINE (R172). -/
def execComposeDeadline (stroke : Nat) (progress : List (Nat × Nat × Nat)) (s : State) : Result :=
  run s (composeDeadline · stroke progress)

/-! ### Flips (R165) -/

/-- Layer slot `i` of view `v` at run time. -/
def State.rt (s : State) (v i : Nat) : LayerRt := s.cmp.rts.getD (16 * v + i) ⟨0, 0, 0, 0, none⟩

/-- `s` with a layer slot's run-time record replaced. -/
def State.setRt (s : State) (v i : Nat) (r : LayerRt) : State :=
  { s with cmp.rts := listModify s.cmp.rts (16 * v + i) (fun _ => r) }

/-- The fence of a layer has been reached (R165). -/
def State.fenceMet (s : State) (v i : Nat) : Bool :=
  decide (strokesAhead (s.fld (.cmpFence (s.fld (.vwLctrlFence v i)))) (s.fld (.vwLfencev v i)) < 2 ^ 31)

/-- A layer slot at the lead point of stroke `k` (R165): a change of source takes effect at once, or, with FENCEWAIT on a surface
layer, when its fence is met; a flip not taken in time is abandoned. -/
def State.judgeFlip (k v : Nat) (s : State) (i : Nat) : State :=
  let r := s.rt v i
  let kind := s.fld (.vwLctrlKind v i)
  let src := s.fld (.vwLctrlSrc v i)
  let changed := kind != r.wantKind || src != r.wantSrc
  let waits := s.flag (.vwLctrlEn v i) && kind == 0 && s.flag (.vwLctrlFencewait v i)
  let r := { r with wantKind := kind, wantSrc := src }
  let done : LayerRt := { r with kind := kind, src := src, flip := none }
  let flip := if !s.flag (.vwLctrlEn v i) then none else if changed then (if waits then some k else none) else r.flip
  let show_ := fun (s : State) (on wait : Nat) => (s.setFld (.vwLstatFlippend v i) on).setFld (.vwLstatWait v i) wait
  match flip with
  | none =>
    let s := if changed || !s.flag (.vwLctrlEn v i) then s.setRt v i done else s.setRt v i r
    show_ s 0 0
  | some at_ =>
    let waited := strokesAhead k at_
    if s.fenceMet v i then
      let s := if 0 < waited then s.bump .cmpFliplate 1 else s
      show_ (s.setRt v i done) 0 0
    else if s.fld .cmpCtrlFenceto ≤ waited then
      show_ (((s.setRt v i { r with flip := none }).bump .cmpMissedflips 1).raise srcCmpMissedflip) 0 0
    else show_ (s.setRt v i { r with flip := some at_ }) 1 (min 255 waited)

/-! ### The lead point's latch (R156, R157, R166, R169, R170) -/

/-- The surface index that a layer slot shows, if its source has one (R157): a surface, a flow's latched buffer, or a built
underlay buffer in slot 0. -/
def State.layerSurf (s : State) (v i : Nat) : Option Nat :=
  let r := s.rt v i
  match r.kind with
  | 0 => some r.src
  | 1 => ((s.flow (r.src % 16)).latched).map (s.flowSurf (r.src % 16))
  | 2 => if i == 0 && s.underlayValid v (r.src % 2) then
      some (if r.src % 2 == 0 then s.fld (.undBufBuf0 v) else s.fld (.undBufBuf1 v)) else none
  | _ => none

/-- The settings of a layer slot of page VWn (`und` clear) or of a member slot of UNDn. -/
def State.layerPlan (s : State) (und : Bool) (v i surf : Nat) (desc : Surface) : LayerPlan :=
  let base := 4096 * (if und then 0x128 + v else 0x120 + v) + 0x100 + 0x40 * i
  let w := fun o => (s.reg (base + o)).toNat
  let c := w 0
  { slot := i, surf := surf, desc := desc, whole := !und && c / 2 % 4 == 2, blend := c / 8 % 4, bilinear := testBit c 5,
    keyen := testBit c 6, pixalpha := testBit c 7, cnv := c / 256 % 32,
    dstX := w 4 % 65536, dstY := w 4 / 65536, dstW := w 8 % 65536, dstH := w 8 / 65536,
    srcX := w 0xC, srcY := w 0x10, stepX := w 0x14, stepY := w 0x18,
    cropX := w 0x1C % 65536, cropY := w 0x1C / 65536, cropW := w 0x20 % 65536, cropH := w 0x20 / 65536,
    alpha := w 0x24 % 65536, klo := w 0x28 % 65536, khi := w 0x28 / 65536 }

/-- The enabled layers of view `v` latched at the lead point of stroke `k`, in slot order (R157): each is copied, or skipped. -/
def State.latchLayer (k v : Nat) (x : State × List LayerPlan) (i : Nat) : State × List LayerPlan :=
  let s := x.1
  if !s.flag (.vwLctrlEn v i) then (s.setFld (.vwLstatSkipped v i) 0, x.2)
  else match s.layerSurf v i with
    | none => (s.setFld (.vwLstatSkipped v i) 1, x.2)
    | some surf =>
      let d := s.surface surf
      if !s.surfaceOk d then (s.setFld (.vwLstatSkipped v i) 1, x.2)
      else
        let p := s.layerPlan false v i surf d
        let p := { p with whole := (s.rt v i).kind == 2 }
        let s := (s.setFld (.vwLstatSkipped v i) 0).setFld (.vwLstatSurf v i) surf
        let es := if p.whole then [] else [d.entry v i 0 k]
        ({ s with cmp.inUse := s.cmp.inUse ++ es }, x.2 ++ [p])

/-- The underlay buffer's entry (R166): it enters when slot 0 selects the buffer at a latch, built or not, and leaves when it does so no longer. -/
def State.latchUnderlay (k v : Nat) (s : State) : State :=
  let r := s.rt v 0
  let keep := s.cmp.inUse.filter (fun y => !(y.kind == 1 && y.view == v))
  let surf := if r.src % 2 == 0 then s.fld (.undBufBuf0 v) else s.fld (.undBufBuf1 v)
  let es := if s.flag (.vwLctrlEn v 0) && r.kind == 2 then [(s.surface surf).entry v 0 1 k] else []
  { s with cmp.inUse := keep ++ es }

/-- View `v` of stroke `k` as latched. -/
def State.latchView (k : Nat) (x : State × List ViewPlan) (v : Nat) : State × List ViewPlan :=
  let s := (iterate 16 (State.judgeFlip k v) x.1).latchUnderlay k v
  let (s, ls) := (List.range 16).foldl (State.latchLayer k v) (s, [])
  let back := s.backSurface v k
  let s := match back with
    | none => s
    | some d => { s with cmp.inUse := s.cmp.inUse ++ [d.entry v 0 2 k] }
  (s, x.2 ++ [⟨v, ⟨s.fld (.vwBgrgR v), s.fld (.vwBgrgG v), s.fld (.vwBgbB v)⟩, ls, back, false, false⟩])

/-- What a layer latched, for the comparison of R170: the surface, and the frame of a flow. -/
def State.latchMark (s : State) (p : LayerPlan) : Option (Nat × Nat) :=
  let stamp := (List.range 16).foldl (fun n f =>
    match (s.flow f).latched with
    | some b => if s.flowSurf f b == p.surf then
        (match (s.flow f).bufs.getD b none with
          | some y => y.rtp + 1
          | none => n) else n
    | none => n) 0
  some (p.surf, stamp)

/-- Every enumerated tile has shown the newest changed stroke (R208). -/
def State.tilesFull (s : State) : Bool :=
  s.servicePorts.all (fun n => (List.range 64).all (fun p =>
    !s.flag (.chpEnumrec3Valid n p) ||
      (assocGet (s.port n).lastFull p 0 != 0 && strokeAtOrAfter (assocGet (s.port n).lastFull p 0 - 1) s.cmp.lastChanged)))

/-- Composition of stroke `k` begins at its lead point (R156, R165, R166, R170, R208): frames, layers and descriptors are latched and
the stroke is marked. A canvas of 0 × 0 composes nothing (R154); nothing is composed while a supply warning stands (R173). -/
def State.beginCompose (s : State) (k : Nat) : State :=
  let s := iterate 16 (State.latchFlow k) s
  let (s, vs) := (List.range (s.prof (·.views))).foldl (State.latchView k) (s, [])
  let mark := vs.flatMap (fun v => (List.range 16).map (fun i => (v.layers.find? (fun l => l.slot == i)).bind s.latchMark))
  let same := mark == s.cmp.lastLatch && !s.cmp.touched && !s.cmp.marred
  let static := same && s.flag .klsCtrlStaticen && s.tilesFull
  let f : Flight := ⟨k, s.fld .cmpCanvasWidth, s.fld .cmpCanvasHeight, s.fld .cmpCtrlCnvbank, vs, same, static⟩
  let s := { s with cmp.lastLatch := mark, cmp.touched := false, cmp.marred := false, cmp.newest := k,
                    cmp.lastChanged := if same then s.cmp.lastChanged else k,
                    cmp.staticStrokes := if static then ((s.cmp.staticStrokes ++ [k]).drop (s.cmp.staticStrokes.length + 1 - 4))
                      else s.cmp.staticStrokes }
  let s := (s.setFld .cmpStatUnchanged (bit same))
  let s := if same then s.carrySrc k else s
  if s.noCanvas || testBit s.boot.testing 4 || testBit s.boot.testing 7 then s.release (fun e => e.stroke == k && e.kind % 2 == 0)
  else
    let s := { s with cmp.flights := s.cmp.flights ++ [f] }
    (s.setFld .cmpStatInflight s.cmp.flights.length).advanceRetire

/-- An error that composition reads of stroke `k` meet in DRAM (R315). -/
def State.composeErrors (s : State) (env : ComposeEnv) : State :=
  let s := env.corrected.foldl (fun s x =>
    let c := s.dramPlaceOf x.1
    s.eccCorrected c.1 c.2 0 1 x.2 0) s
  env.poisoned.foldl (fun s x => s.eccPoison (x.1) 1 x.2 0) s

/-! ### Underlay builds (R163, R164) -/

/-- VWn slot 0 selects underlay buffer `b`, live or in a pending commit (R163). -/
def State.underlaySelected (s : State) (v b : Nat) : Bool :=
  let sel := fun (kind en src : Nat) => en == 1 && kind == 2 && src % 2 == b
  sel (s.fld (.vwLctrlKind v 0)) (s.fld (.vwLctrlEn v 0)) (s.fld (.vwLctrlSrc v 0)) ||
    (s.access.commits.any (fun c => c.page == 0x120 + v) &&
      sel (s.fld (Fld.shadow (.vwLctrlKind v 0))) (s.fld (Fld.shadow (.vwLctrlEn v 0))) (s.fld (Fld.shadow (.vwLctrlSrc v 0))))

/-- A write of UNDn.CMD with GO (R163). -/
def buildGo (s : State) (v b : Nat) : State :=
  let fail := fun r => (s.setFld (.undStatState v) 3).setFld (.undStatReason v) r
  if s.underlaySelected v b then fail 3
  else if s.cmp.builds.any (fun x => x.view == v) then fail 4
  else
    let w := s.fld .cmpCanvasWidth
    let h := s.fld .cmpCanvasHeight
    let members := (List.range 16).filter (fun i => s.flag (.undLctrlEn v i))
    if !(s.rgbSurface (s.fld (.undBufBuf0 v)) w h && s.rgbSurface (s.fld (.undBufBuf1 v)) w h) then
      (fail 1).setUnderlay v b false
    else if members.any (fun i => s.fld (.undLctrlKind v i) != 0) then (fail 2).setUnderlay v b false
    else
      let target := s.surface (if b == 0 then s.fld (.undBufBuf0 v) else s.fld (.undBufBuf1 v))
      let ok := members.filter (fun i => s.surfaceOk (s.surface (s.fld (.undLctrlSrc v i))))
      let plans := ok.map (fun i => s.layerPlan true v i (s.fld (.undLctrlSrc v i)) (s.surface (s.fld (.undLctrlSrc v i))))
      let plan : ViewPlan := ⟨v, ⟨s.fld (.vwBgrgR v), s.fld (.vwBgrgG v), s.fld (.vwBgbB v)⟩, plans, none, false, false⟩
      let es := plans.map (fun p => p.desc.entry v p.slot 3 s.stroke) ++ [target.entry v 16 3 s.stroke]
      let s := { s with cmp.builds := s.cmp.builds ++ [(⟨v, b, target, w, h, s.fld .cmpCtrlCnvbank, plan⟩ : Build)],
                        cmp.inUse := s.cmp.inUse ++ es }
      let s := (s.setUnderlay v b false).setFld (.undStatState v) 1
      (s.setFld (.undStatReason v) 0).setFld (.undStatProgress v) 0

/-- UNDERLAY_BUILD_DONE: a build completes (R163): the picture stands in the buffer in canvas order; VALID sets and BUILT records
the current stroke. While views of a stroke are in composition the build is suspended, so it cannot complete (R164). Its writes are compared while
its members are in use (R167). -/
def buildDone (s : State) (v : Nat) : State :=
  match s.cmp.builds.find? (fun b => b.view == v) with
  | none => s
  | some b =>
    if !s.cmp.flights.isEmpty then s
    else
    let own := fun (e : InUse) => e.kind == 3 && e.view == v && e.slot == 16
    let s := (List.range b.height).foldl (fun s y =>
      s.engineWrite own (b.target.base + y * b.target.stride) (b.plan.line s.cmp s.dram.mem s.dram.poison b.bank b.width y)) s
    let s := { s with cmp.builds := s.cmp.builds.filter (fun x => x.view != v) }
    let s := s.release (fun e => e.kind == 3 && e.view == v)
    let s := (s.setUnderlay v b.buf true).setFld (.undStatState v) 2
    (s.setFld (.undStatProgress v) b.height).setFld (.undBuilt v) s.stroke

/-- UNDERLAY_BUILD_DONE (R163). -/
def execUnderlayBuildDone (view : Nat) (s : State) : Result := run s (buildDone · view)

/-! ### A block reset of CMP (R173) -/

/-- Strokes in flight are abandoned, the table is emptied, RETIRE takes the current stroke, every underlay buffer is invalid (R164,
R173). -/
def State.resetCompose (s : State) : State :=
  let s := s.abortBuilds
  let s := { s with cmp.flights := [], cmp.inUse := [], cmp.rts := ComposeState.reset.rts, cmp.lastLatch := [], cmp.touched := true }
  let s := iterate 4 (fun s v => (s.setUnderlay v 0 false).setUnderlay v 1 false) s
  (s.setFld .cmpStatInflight 0).setFld .cmpRetire s.stroke

/-! ### HEALTH and picture comparison (R231) -/

/-- One window of a HEALTH cell's CHECK (R231): reference, generation, comparison. -/
def State.checkWindow (n pos : Nat) (h : HealthCheck) (s : State) (w : Nat) : State :=
  if !testBit h.valid w then s
  else
    let region := h.regions.getD w 0
    match s.cmp.srcKept.find? (fun x => x.port == n && x.pos == pos && x.win == w && x.stroke % 65536 == region) with
    | none => s.bump .pckNoref 1
    | some x =>
      if x.gen != h.gen then s.bump .pckGenskew 1
      else
        let s := s.bump .pckChecks 1
        if x.crc == h.crcs.getD w 0 then s
        else
          let s := (s.bump .pckRxmismatch 1).raise srcPckRxmismatch
          let s := ((s.setFld .pckMisinfoPort n).setFld .pckMisinfoPos pos).setFld .pckMisinfoWin w
          (s.setFld .pckMisinfoRegion region).setFld .pckMisstroke x.stroke

/-- The SRC value and stroke that SRCSEL selects (R229, `PCK.SRCSEL`). -/
def State.srcSelected (s : State) : Option SrcKept :=
  (s.cmp.srcKept.filter (fun x => x.port == s.fld .pckSrcselPort && x.pos == s.fld .pckSrcselPos &&
    x.win == s.fld .pckSrcselWin))[s.fld .pckSrcselAge]?

end Sys2Proof.Machine
end

