-- ==== Sys2Proof/Machine/Drive.lean ====
section
/-!
DEFINITION. The lamp map and the drive arithmetic (spec/09, R233 to R247): the split-depth encoding, drive words, the split over sub-frames, pulse widths, row order, and the conditions that hold the sinks off.
-/

namespace Sys2Proof.Machine

/-! ### Split-depth values (R238 to R241) -/

/-- The 20-bit corrected value of a light L (R238): tier in bits 19:18, mantissa in 17:0. -/
def encodeLight (l : Nat) : Nat :=
  let t := if l < 2 ^ 18 then (3, l) else if l < 2 ^ 20 then (2, (l + 2) / 4)
    else if l < 2 ^ 22 then (1, (l + 8) / 16) else (0, (l + 32) / 64)
  t.1 * 2 ^ 18 + min t.2 (2 ^ 18 - 1)

/-- The light that a corrected value stands for, in units of 2^-24 (R238, R262). -/
def decodeLight (c : Nat) : Nat := c % 2 ^ 18 * 4 ^ (3 - c / 2 ^ 18 % 4)

/-- The drive word of a corrected value with `x` steps per view slot (R239): W in 19:0, the tier in 21:20. -/
def driveWord (x c : Nat) : Nat := c / 2 ^ 18 % 4 * 2 ^ 20 + (c % 2 ^ 18 * x + 2 ^ 17) / 2 ^ 18

/-- W of a drive word. -/
def wordWidth (w : Nat) : Nat := w % 2 ^ 20

/-- The tier of a drive word. -/
def wordTier (w : Nat) : Nat := w / 2 ^ 20 % 4

/-- Sub-frames that carry light (R240): concentration lights fewer of them for a dark lamp. -/
def litSubframes (conc : Bool) (subfr w : Nat) : Nat := if conc ∧ w < 16 * subfr then max 1 (w / 16) else subfr

/-- The rank of sub-frame `j` for sink `s` in scan row `r` of stroke `k` (R240). -/
def subframeRank (scramble : Bool) (subfr j r s k : Nat) : Nat := if scramble then (j + r + s + k) % subfr else j

/-- The width of a sub-frame of rank `rank` (R240). -/
def rankWidth (conc : Bool) (subfr w rank : Nat) : Nat :=
  let n := litSubframes conc subfr w
  if n ≤ rank then 0 else if rank < w % n then w / n + 1 else w / n

/-- The width w_j of a lamp in sub-frame `j` (R240). -/
def splitWidth (conc scramble : Bool) (subfr w j r s k : Nat) : Nat :=
  rankWidth conc subfr w (subframeRank scramble subfr j r s k)

/-- The width of a sink's pulse with its width offset (R243): limited to 1 .. 2^pwmbits, and 0 stays off. -/
def pulseWidth (w : Nat) (woff : Int) (pwmbits : Nat) : Nat :=
  if w = 0 then 0 else (clampInt 1 (2 ^ pwmbits : Nat) ((w : Int) + woff)).toNat

/-- The on edge of sink `s` in steps of 156.25 ps after the slot start (R243). -/
def onEdge (stagger : Bool) (s : Nat) : Nat := if stagger then 8 * (s % 8) else 0

/-- The scan row of line slot `i` of a sub-frame (R244). -/
def scanRow (rowfirst rowstep rows i : Nat) : Nat := (rowfirst + i * rowstep) % max 1 rows

/-- The current of a SINKRANGE code in mA (R233). -/
def rangeMa (code : Nat) : Nat := [5, 10, 20, 40].getD code 5

/-- The current of a sink in mA times 4096 times 4^tier (R233). -/
def sinkCurrent (range trim ceil : Nat) : Nat := rangeMa range * (128 + trim) * ceil

/-! ### The lamp map (R236, R237, R267) -/

/-- VBASE of a scan row. -/
def Reader.vbase (rd : Reader) (r : Nat) : Nat :=
  match r % 4 with
  | 0 => rd.fld (.ltbVbaseRow0 (r / 4))
  | 1 => rd.fld (.ltbVbaseRow1 (r / 4))
  | 2 => rd.fld (.ltbVbaseRow2 (r / 4))
  | _ => rd.fld (.ltbVbaseRow3 (r / 4))

/-- The enabled sinks. -/
def Reader.sinks (rd : Reader) : List Nat :=
  (List.range 512).filter (fun s => rd.fld (.skgSinkEn (s / 64) (s % 64)) == 1)

/-- A lamp: its pixel column and row and its primary. -/
structure Lamp where
  u : Nat
  v : Nat
  q : Nat
  deriving DecidableEq, Repr

/-- The lamp of sink `s` in scan row `r` (R236). -/
def Reader.lampOf (rd : Reader) (s r : Nat) : Lamp :=
  ⟨rd.fld (.skgSinkU (s / 64) (s % 64)), rd.vbase r + rd.fld (.skgSinkVoff (s / 64) (s % 64)), rd.fld (.skgSinkQ (s / 64) (s % 64))⟩

/-- The lamps that the map names over `rows` scan rows. -/
def Reader.lamps (rd : Reader) (rows : Nat) : List Lamp :=
  (List.range rows).flatMap (fun r => rd.sinks.map (fun s => rd.lampOf s r))

/-- A tile's size as a valid map gives it. -/
structure MapSize where
  tw : Nat
  th : Nat
  prim : Nat
  deriving DecidableEq, Repr

/-- The check of R237: distinct lamps that fill a rectangle of pixels from (0, 0) with primaries 0 to PRIM - 1 each, within the size
limit. -/
def Reader.mapSize (rd : Reader) (rows : Nat) : Option MapSize :=
  let l := rd.lamps rows
  let top := fun (f : Lamp → Nat) => (l.map (fun x => f x + 1)).foldl max 0
  let m : MapSize := ⟨top Lamp.u, top Lamp.v, top Lamp.q⟩
  if l.Nodup ∧ l.length = m.tw * m.th * m.prim ∧
      ((m.prim = 3 ∧ m.tw * m.th ≤ 16320) ∨ (m.prim = 4 ∧ m.tw * m.th ≤ 12288)) ∧ 0 < l.length then some m
  else none

/-- The result of the map check shows in SNK.STAT and MAPBAD (R237). -/
def State.checkMap (s : State) : State :=
  match Reader.mapSize s.reg (s.prof (·.rows)) with
  | some m =>
    let s := ((s.setFld .snkStatMapok 1).setFld .snkStatTw m.tw).setFld .snkStatTh m.th
    (s.setFld .snkStatPrim4 (bit (m.prim == 4))).lower srcSnkMapbad
  | none =>
    let s := ((s.setFld .snkStatMapok 0).setFld .snkStatTw 0).setFld .snkStatTh 0
    (s.setFld .snkStatPrim4 0).raise srcSnkMapbad

/-- PRIM of the map in force. -/
def State.prim (s : State) : Nat := 3 + s.fld .snkStatPrim4

/-- Pixels of the tile. -/
def State.tilePixels (s : State) : Nat := s.fld .snkStatTw * s.fld .snkStatTh

/-- Lamps of the map in force. -/
def State.lampCount (s : State) : Nat := s.tilePixels * s.prim

/-- The lamp index of a lamp (R267). -/
def State.lampIndex (s : State) (l : Lamp) : Nat := (l.v * s.fld .snkStatTw + l.u) * s.prim + l.q

/-- The lamp index of sink `s'` in scan row `r`. -/
def State.lampAt (s : State) (sink r : Nat) : Nat := s.lampIndex (Reader.lampOf s.reg sink r)

/-- Steps per lamp in one view slot (R239). -/
def State.slotSteps (s : State) : Nat := s.prof (·.subfr) * 2 ^ s.prof (·.pwmBits)

/-- The value of a sparse list of numbers, where an unlisted key reads 0. -/
def numAt (m : List (Nat × Nat)) (k : Nat) : Nat := assocGet m k 0

/-! ### The schedule (R212 to R215) -/

/-- 1 ns in units of 1/4 ps. -/
def qNs : Nat := 4000

/-- A view slot Tv in units of 1/4 ps (R212). -/
def Profile.viewQ (p : Profile) : Nat := p.rows * p.subfr * slotQuarterPs p.pwmBits

/-- The starts, in µs, keep the layout rules of R213. -/
def Profile.layoutOk (p : Profile) (starts : List Nat) : Bool :=
  let at_ := fun v => starts.getD v 0 * 1000 * qNs
  starts.length == p.views && decide (0 < p.views) && at_ 0 == 0 &&
    (List.range (p.views - 1)).all (fun v => decide (at_ v + p.viewQ + 40 * qNs ≤ at_ (v + 1))) &&
    decide (at_ (p.views - 1) + p.viewQ + p.feather * 1000 * qNs ≤ p.strokeNs * qNs)

/-- The packed schedule (R214): START(v) = v * ceil(Tv + 40 ns) in µs. -/
def Profile.packed (p : Profile) : List ViewSched :=
  let us := (p.viewQ + 40 * qNs + 1000 * qNs - 1) / (1000 * qNs)
  (List.range p.views).map (fun v => ⟨v * us, 0, 0⟩)

/-- The latch instant of the current stroke in t (R215). -/
def State.latchInstant (s : State) : Int :=
  let f : Int := s.prof (·.feather) * 1000
  let a := s.time.catchAt + s.time.length - f
  match s.time.marker with
  | some (_, at_) => if s.scan.markerAt < a then min a (max (at_ - f) s.scan.markerAt) else a
  | none => a

/-- Two spans, in the same unit, overlap when the first is read modulo `l`. -/
def overlaps (start len l x d : Int) : Bool :=
  decide (0 < len) && (decide (l ≤ len) || [(-1 : Int), 0, 1].any (fun k =>
    decide (start % l + k * l < x + d) && decide (x < start % l + k * l + len)))

/-- The span from `x` of length `d` lies wholly within the first span, read modulo `l`. -/
def lieswithin (start len l x d : Int) : Bool :=
  decide (l ≤ len) || [(-1 : Int), 0, 1].any (fun k =>
    decide (start % l + k * l ≤ x) && decide (x + d ≤ start % l + k * l + len))

/-- The stroke length in units of 1/4 ps. -/
def State.lengthQ (s : State) : Nat := max 1 s.time.length * qNs

/-- A span, in units of 1/4 ps after the catch, is clear of the exposure window of every view in force (R27, R258). -/
def State.clearOfExposure (s : State) (x d : Nat) : Bool :=
  s.scan.sched.all (fun e => !overlaps (e.expStart * 1000 * qNs : Nat) (e.expLen * 1000 * qNs : Nat) s.lengthQ x d)

/-- The windows of R258 in its order, as (kind, start, end) in units of 1/4 ps after the catch: the feather interval, the gaps between
views, spare time. -/
def State.freeWindows (s : State) : List (Nat × Nat × Nat) :=
  let p := fun (v : Nat) => (s.scan.sched.getD v ⟨0, 0, 0⟩).start * 1000 * qNs
  let tv := s.prof (·.rows) * s.prof (·.subfr) * slotQuarterPs (s.prof (·.pwmBits))
  let latch := if s.time.catchAt < s.scan.latchAt then s.scan.latchAt else s.latchInstant
  let fs := (latch - s.time.catchAt).toNat * qNs
  let fe := match s.time.marker with
    | some (_, at_) => (at_ - s.time.catchAt).toNat * qNs
    | none => s.lengthQ
  let n := s.scan.sched.length
  (1, fs, fe) :: (List.range (n - 1)).map (fun v => (2, p v + tv, p (v + 1))) ++ [(3, p (n - 1) + tv, fs)]

/-! ### Sinks off (R235) -/

/-- A block is under self-test (R32). -/
def State.testing (s : State) (b : Nat) : Bool := testBit s.boot.testing b

/-- A group that darkens the tile is under test, a group of 10 to 17 failed its last test, or the drive codes are being converted anew
(R382, R386, R388). -/
def State.darkTest (s : State) : Bool :=
  s.bist.running.any (fun g => g == 14 || g == 16 || g == 17) || s.bist.failed.any (fun g => decide (10 ≤ g) && decide (g ≤ 17)) ||
    s.bist.redraw

/-- Every sink is held off and the rows stay idle (R235, R355). -/
def State.sinksOff (s : State) : Bool :=
  !(s.fld .devBootstatStage == 7 || (s.boot.warm && s.boot.holdThrough && s.boot.wasServing)) || !s.flag .snkCtrlDrven || !s.flag .snkStatMapok || !s.flag .scnStatLayoutok ||
    !s.flag .ltbStatLocked || s.wakeOnly || s.lamp.switchOff || s.ths.shutdown || s.darkTest ||
    s.flt.safeDark || s.lamp.waitCatch || !s.isTile

/-- The rows go to the idle state and every sink is off (R246). -/
def State.idleRows (s : State) : State := { s with lamp.pulses := [], lamp.rowEn := false, lamp.rowDisch := true }

end Sys2Proof.Machine
end

