-- ==== Sys2Proof/Machine/Lamp.lean ====
section
/-!
DEFINITION. Lamp drive (spec/09, R242 to R259): line slots and their judged samples, open and short detection, row faults, probes, the headroom servo, thermal factors, exposure windows and the timebase's lock.
-/

namespace Sys2Proof.Machine

/-! ### Open and short detection (R254, R255) -/

/-- The name of a lamp by its scan row and sink. -/
def lampKey (row sink : Nat) : Nat := 512 * row + sink

/-- The lamp is flagged open or short (R255). -/
def State.flagged (s : State) (key : Nat) : Bool := s.lamp.opens.contains key || s.lamp.shorts.contains key

/-- FLAGCNT shows the number of flagged lamps (R255). -/
def State.showFlags (s : State) : State :=
  (s.setFld .snkFlagcntOpens (min 65535 s.lamp.opens.length)).setFld .snkFlagcntShorts (min 65535 s.lamp.shorts.length)

/-- A lamp's counted result (R255): 1 open, 2 short, 0 healthy. -/
def State.countResult (s : State) (key result : Nat) : State :=
  let put := fun (m : List (Nat × Nat)) (n : Nat) => assocPut m key 0 n
  match result with
  | 1 =>
    let n := numAt s.lamp.openRuns key + 1
    let s := { s with lamp.openRuns := put s.lamp.openRuns n, lamp.shortRuns := put s.lamp.shortRuns 0 }
    if max 1 (s.fld .snkDetcfgOpencnt) ≤ n then ({ s with lamp.opens := s.lamp.opens ++ [key] }).showFlags.raise srcSnkOpen else s
  | 2 =>
    let n := numAt s.lamp.shortRuns key + 1
    let s := { s with lamp.shortRuns := put s.lamp.shortRuns n, lamp.openRuns := put s.lamp.openRuns 0 }
    if max 1 (s.fld .snkDetcfgShortcnt) ≤ n then ({ s with lamp.shorts := s.lamp.shorts ++ [key] }).showFlags.raise srcSnkShort else s
  | _ => { s with lamp.openRuns := put s.lamp.openRuns 0, lamp.shortRuns := put s.lamp.shortRuns 0 }

/-- A judged sample of a lamp for detection (R254): only the first of each lamp in a stroke counts; `open_` is LOWV below the quorum,
`high` is HIGH. -/
def State.detect (s : State) (key : Nat) (open_ high : Bool) : State :=
  let first := !s.lamp.judged.contains key
  let s := { s with lamp.judged := if first then s.lamp.judged ++ [key] else s.lamp.judged,
                    lamp.sinceProbe := if s.lamp.sinceProbe.contains key then s.lamp.sinceProbe else s.lamp.sinceProbe ++ [key] }
  if !first || s.flagged key then s
  else if open_ then (if s.flag .snkCtrlOpenen then s.countResult key 1 else s)
  else if high then (if s.flag .snkCtrlShorten then s.countResult key 2 else s)
  else s.countResult key 0

/-- The comparator latches of a sink as the pins give them: bit 0 LOWV, 1 HR, 2 TIGHT, 3 HIGH (R250). -/
def latchesOf (samples : List (Nat × Nat)) (sink : Nat) : Nat := numAt samples sink

/-- The sinks of a row whose pulses give judged samples: at least 2,048 steps, of a lamp not flagged (R250, R255). -/
def State.judgedSinks (s : State) (row : Nat) (pulses : List Pulse) : List Nat :=
  (pulses.filter (fun p => decide (2048 ≤ p.width) && !s.flagged (lampKey row p.sink))).map (·.sink)

/-- The detection results of a line slot or a probe (R254). -/
def State.detectAll (s : State) (row : Nat) (sinks : List Nat) (quorum : Bool) (samples : List (Nat × Nat)) : State :=
  sinks.foldl (fun s k =>
    let b := latchesOf samples k
    s.detect (lampKey row k) (testBit b 0 && !quorum) (testBit b 3)) s

/-- The judged samples of a line slot (R250, R256): starved and tight samples for the servo, the row's standing towards the quorum,
then detection. -/
def State.judgeSlot (s : State) (row : Nat) (pulses : List Pulse) (samples : List (Nat × Nat)) : State :=
  let sinks := s.judgedSinks row pulses
  if sinks.isEmpty then s
  else
    let low := (sinks.filter (fun k => testBit (latchesOf samples k) 0)).length
    let quorum := decide (s.fld .snkDetcfgQuorum ≤ low)
    let starved := (sinks.filter (fun k =>
      let b := latchesOf samples k
      if testBit b 0 then quorum else testBit b 1)).length
    let tight := sinks.any (fun k => testBit (latchesOf samples k) 2)
    let s := { s with lamp.starved := s.lamp.starved + starved, lamp.tight := s.lamp.tight || tight,
                      lamp.rowHit := if quorum then s.lamp.rowHit ++ [row] else s.lamp.rowHit,
                      lamp.rowMiss := if quorum then s.lamp.rowMiss else s.lamp.rowMiss ++ [row] }
    s.detectAll row sinks quorum samples

/-! ### Line slots (R224, R240, R243 to R246) -/

/-- The background drive value of a view and primary (R224): 16 upper bits, the lower 4 are 0. -/
def State.background (s : State) (view q : Nat) : Nat :=
  16 * (match q with
    | 0 => s.fld (.scnBgloP0 view)
    | 1 => s.fld (.scnBgloP1 view)
    | 2 => s.fld (.scnBghiP2 view)
    | _ => s.fld (.scnBghiP3 view))

/-- View `v` of the frame store. -/
def State.view (s : State) (v : Nat) : ScanView := s.scan.views.getD v ScanView.reset

/-- `s` with view `v` of the frame store changed. -/
def State.onView (s : State) (v : Nat) (f : ScanView → ScanView) : State :=
  { s with scan.views := listModify s.scan.views v f }

/-- The pulse of sink `k` for drive word `w` in sub-frame `j` of scan row `r` (R240, R243): none for a width of 0 or a lamp that SHORTMASK
holds off (R255). -/
def State.pulseOf (s : State) (j r k w : Nat) : Option Pulse :=
  let wj := splitWidth (s.flag .ltbRowcfgConc) (s.flag .ltbRowcfgScramble) (s.prof (·.subfr)) (wordWidth w) j r k s.lamp.rank
  let width := pulseWidth wj (s.sfld (.skgSinkWoff (k / 64) (k % 64))) (s.prof (·.pwmBits))
  if width = 0 ∨ (s.flag .snkCtrlShortmask ∧ s.lamp.shorts.contains (lampKey r k)) then none
  else some ⟨k, onEdge (s.flag .ltbRowcfgStagger) k, width, wordTier w,
    sinkCurrent (s.fld .snkStatRange) (s.fld (.skgSinkTrim (k / 64) (k % 64))) (s.fld .snkStatCeil)⟩

/-- The word that sink `k` of scan row `r` takes in a slot that fails at sink `failAt` (R224). -/
def State.slotWord (s : State) (view r failAt k : Nat) : Nat :=
  if failAt ≤ k then driveWord s.slotSteps (s.background view (Reader.lampOf s.reg k r).q)
  else numAt (s.view view).drive (s.lampAt k r)

/-- A filled line slot is recorded (R224, R229): the first of the stroke gives its place, and the pixel rows it drives are noted. A row
whose conversion missed its deadline completes a burnish as a step (R283). -/
def State.slotFilled (s : State) (view j r failAt : Nat) (late : Bool) : State :=
  let s := if s.scan.underSeen then s
    else ((((({ s with scan.underSeen := true } : State).setFld .scnUnderposSink failAt).setFld .scnUnderposRow r).setFld
      .scnUnderposSubfr j).setFld .scnUnderposView view).setFld .scnUnderstroke s.stroke
  let s := (s.bump .scnUnderruns 1).raise srcScnUnderrun
  let rows := (Reader.sinks s.reg).map (fun k => 256 * view + (Reader.lampOf s.reg k r).v)
  let s := { s with scan.filled := s.scan.filled ++ rows.eraseDups }
  if late then { s with grain.burn := s.grain.burn.map (fun b => { b with step := true }) } else s

/-- The least slack of the view slot (R224): the first line slot starts afresh. -/
def State.noteSlack (s : State) (view slot : Nat) (slack : Int) : State :=
  let old := signed 32 (s.liveFld (.scnSlack view))
  let x := clampInt (-2 ^ 31) (2 ^ 31 - 1) slack
  s.setLiveFld (.scnSlack view) (unsigned 32 (if slot = 0 then x else min old x))

/-- The row events that lead into a line slot of scan row `r` (R245, R246): the sequence of ROWTIME from 480 ns before its start, with pre-charge while
ROWDISCH is active. -/
def State.rowLead (s : State) (r : Nat) : List (Nat × RowEvent) :=
  let pre := s.flag .ltbRowcfgPrechg
  [(10 * s.fld .ltbRowtimeRowoff, .enable false), (10 * s.fld .ltbRowtimeDischon, .discharge true)] ++
    (if pre then [(10 * s.fld .ltbRowtimeDischon, .precharge (100 * s.fld .ltbRowcfgPrechgv))] else []) ++
    [(10 * s.fld .ltbRowtimeAddrchg, .address r), (10 * s.fld .ltbRowtimeDischoff, .discharge false)] ++
    (if pre then [(10 * s.fld .ltbRowtimeDischoff, .prechargeEnd)] else []) ++ [(10 * s.fld .ltbRowtimeRowon, .enable true)]

/-- The row events of a probe of row `r`, in ns after P (R258): the times of ROWTIME counted from ADDRCHG, pulses of 400 ns latched after 300, then
ROWEN and ROWDISCH as at the start of a gap. -/
def State.rowProbe (s : State) (r : Nat) : List (Nat × RowEvent) :=
  let a := s.fld .ltbRowtimeAddrchg
  let on := 10 * (48 - a)
  [(0, .address r), (10 * (s.fld .ltbRowtimeDischoff - a), .discharge false), (10 * (s.fld .ltbRowtimeRowon - a), .enable true), (on, .sinksOn),
    (on + 300, .latch), (on + 400, .sinksOff), (on + 400 + 10 * s.fld .ltbRowtimeRowoff, .enable false),
    (on + 400 + 10 * s.fld .ltbRowtimeDischon, .discharge true)]

/-- The level of the ROWEN pin: ENPOL gives the active one (R245). -/
def State.rowEnHigh (s : State) : Bool := s.lamp.rowEn != s.flag .ltbRowcfgEnpol

/-- The level of the ROWDISCH pin: DISCHPOL gives the active one (R245). -/
def State.rowDischHigh (s : State) : Bool := s.lamp.rowDisch != s.flag .ltbRowcfgDischpol

/-- LINE_SLOT_START: line slot `slot` of a view's slot starts (R224, R240, R243 to R246, R250). `slack` is in ns; where it is negative the
fetch got to sink `fail`; where a row's conversion is late the point of failure is SK0. `samples` gives the comparator latches of
sinks. While R235 holds the sinks off the rows stay idle. -/
def lineSlot (s : State) (view slot : Nat) (slack : Int) (fail : Nat) (samples : List (Nat × Nat)) : State :=
  let rows := s.prof (·.rows)
  if !s.isTile || s.prof (·.views) ≤ view || rows * s.prof (·.subfr) ≤ slot then s
  else if s.sinksOff then ({ s with lamp.dark := true } : State).idleRows
  else
    let j := slot / rows
    let r := scanRow (s.fld .ltbRowcfgRowfirst) (s.fld .ltbRowcfgRowstep) rows (slot % rows)
    let sinks := Reader.sinks s.reg
    let late := sinks.any (fun k => (s.view view).late.contains (Reader.lampOf s.reg k r).v)
    let failAt := if late then 0 else if slack < 0 then fail else 512
    let s := s.noteSlack view slot slack
    let pulses := sinks.filterMap (fun k => s.pulseOf j r k (s.slotWord view r failAt k))
    let s := { s with lamp.pulses := pulses, lamp.rowEn := true, lamp.rowDisch := false, lamp.rowAddr := r, lamp.rowSeq := s.rowLead r }
    let s := if failAt < 512 then s.slotFilled view j r failAt late else s
    if s.boot.warning then s else s.judgeSlot r pulses samples

/-- LINE_SLOT_START (R224). -/
def execLineSlotStart (view slot : Nat) (slack : Int) (fail : Nat) (samples : List (Nat × Nat)) (s : State) : Result :=
  run s (lineSlot · view slot slack fail samples)

/-! ### Probes (R257, R258) -/

/-- The first window of R258 in which a probe fits, 1 µs after its start: its kind. -/
def State.probeWindow (s : State) : Option Nat :=
  (s.freeWindows.find? (fun w =>
    decide (w.2.1 + 2000 * qNs ≤ w.2.2) && s.clearOfExposure (w.2.1 + 1000 * qNs) (1000 * qNs))).map (·.1)

/-- The lamps of the probe row that need a pulse (R257). -/
def State.probeSinks (s : State) (row : Nat) : List Nat :=
  (Reader.sinks s.reg).filter (fun k =>
    let key := lampKey row k
    !s.flagged key && !s.lamp.sinceProbe.contains key)

/-- PROBE: a probe of row rp, at most one a stroke, or PROBESKIP where no window is free (R257, R258). It does not run with the sinks held
off, in a freeze, or in a warm restart. -/
def probe (s : State) (samples : List (Nat × Nat)) : State :=
  if !s.isTile || !s.flag .snkCtrlProbeen || s.sinksOff || s.boot.warning || s.restarting || s.lamp.probed then s
  else
    let s := { s with lamp.probed := true }
    match s.probeWindow with
    | none => (s.bump .snkProbeskip 1).raise srcSnkProbeskip
    | some kind =>
      let row := s.fld .snkProbestatRow
      let pulses := (s.probeSinks row).map (fun k =>
        (⟨k, onEdge (s.flag .ltbRowcfgStagger) k, 2560, 3,
          sinkCurrent (s.fld .snkStatRange) (s.fld (.skgSinkTrim (k / 64) (k % 64))) (s.fld .snkStatCeil)⟩ : Pulse))
      let sinks := s.judgedSinks row pulses
      let low := (sinks.filter (fun k => testBit (latchesOf samples k) 0)).length
      let s := s.detectAll row sinks (decide (s.fld .snkDetcfgQuorum ≤ low)) samples
      let s := { s with lamp.sinceProbe := s.lamp.sinceProbe.filter (fun key => key / 512 != row) }
      let s := { s with lamp.pulses := pulses, lamp.rowEn := false, lamp.rowDisch := true, lamp.rowAddr := row, lamp.rowSeq := s.rowProbe row }
      let next := (row + 1) % max 1 (s.prof (·.rows))
      let s := (s.setFld .snkProbestatRow next).setFld .snkProbestatLastwin kind
      let s := if next == 0 then s.advance .snkProbestatCycles else s
      s.bump .snkProbes 1

/-- PROBE (R258). -/
def execProbe (samples : List (Nat × Nat)) (s : State) : Result := run s (probe · samples)

/-- A write of SNK.FMAPSEL.CLR clears every flag and every count (R255). -/
def clearFlags (s : State) : State :=
  ({ s with lamp.opens := [], lamp.shorts := [], lamp.openRuns := [], lamp.shortRuns := [] } : State).showFlags

/-- The word that SNK.FMAPDATA shows (R255). -/
def State.flagWord (s : State) : Word :=
  let l := if s.flag .snkFmapselKind then s.lamp.shorts else s.lamp.opens
  let base := lampKey (s.fld .snkFmapselRow) (32 * s.fld .snkFmapselWord)
  (List.range 32).foldl (fun (w : Word) b => if l.contains (base + b) then w ||| Word.ofNat (2 ^ b) else w) 0

/-! ### Row faults (R256) -/

/-- The stroke that ends is judged for row faults (R256): a row all of whose judged line slots reached the quorum, while another row did
not; the third such stroke in a row records it. -/
def State.judgeRows (s : State) : State :=
  let suspect := fun r => s.lamp.rowHit.contains r && !s.lamp.rowMiss.contains r && s.lamp.rowMiss.any (· != r)
  let s := iterate (s.prof (·.rows)) (fun s r =>
    let n := if suspect r then numAt s.lamp.rowRuns r + 1 else 0
    let s := { s with lamp.rowRuns := assocPut s.lamp.rowRuns r 0 n }
    if n == 3 then ((s.setFld .snkRowfaultRow r).bump .snkRowfaults 1).raise srcSnkRowfault else s) s
  { s with lamp.rowHit := [], lamp.rowMiss := [] }

/-! ### The headroom servo (R251, R252) -/

/-- The code moved towards a higher LED supply by `n` (R251): DIR gives the sense. -/
def State.servoUp (s : State) (code n : Nat) : Nat :=
  if s.flag .snkServocfgDir then max (code - n) (s.fld .snkServolimMin) else min (code + n) (s.fld .snkServolimMax)

/-- The code moved towards a lower LED supply by `n` (R251). -/
def State.servoDown (s : State) (code n : Nat) : Nat :=
  if s.flag .snkServocfgDir then min (code + n) (s.fld .snkServolimMax) else max (code - n) (s.fld .snkServolimMin)

/-- STATE of SERVOSTAT for a code and a stroke's starved samples (R251). -/
def State.servoState (s : State) (code starved : Nat) : Nat :=
  if code == s.fld .snkServolimMax && decide (0 < starved) then 2
  else if code == s.fld .snkServolimMin then 3 else 1

/-- The servo at a catch (R251, R252): off, at START on every resumption, manual, or one step by the samples of the stroke that ended. -/
def State.servoCatch (s : State) (wasDark : Bool) : State :=
  let starved := s.lamp.starved
  let s := s.setFld .snkServostatStarved (min 65535 starved)
  let s := if 0 < starved then s.bump .snkStarvedstk 1 else s
  let calm := if s.lamp.tight then 0 else s.lamp.calm + 1
  let s := { s with lamp.starved := 0, lamp.tight := false, lamp.calm := calm }
  let start := s.fld .snkServolimStart
  if s.sinksOff then (s.setFld .snkServostatState 0).lower srcSnkServomax
  else if !s.flag .snkCtrlServoen then
    ((s.setFld .snkServostatCode start).setFld .snkServostatState 4).lower srcSnkServomax
  else if wasDark then
    ((({ s with lamp.calm := 0 } : State).setFld .snkServostatCode start).setFld .snkServostatState (s.servoState start 0)).lower srcSnkServomax
  else
    let code := s.fld .snkServostatCode
    let next := if 0 < starved then s.servoUp code (s.fld .snkServocfgUp)
      else if s.fld .snkServocfgDnhold ≤ calm then s.servoDown code (s.fld .snkServocfgDn) else code
    let s := if next == code then s else { s with lamp.calm := 0 }
    let st := s.servoState next starved
    ((s.setFld .snkServostatCode next).setFld .snkServostatState st).level srcSnkServomax (st == 2)

/-! ### Thermal factors (R253) -/

/-- F_q[i] of SNK.THERMF. -/
def State.thermTable (s : State) (q i : Nat) : Nat :=
  if i % 2 == 0 then s.fld (.snkThermfFlo q (i / 2)) else s.fld (.snkThermfFhi q (i / 2))

/-- target_q for a panel temperature in 1/16 °C (R253). -/
def State.thermTarget (s : State) (tp : Int) (q : Nat) : Nat :=
  let x := (clampInt 0 1920 (tp + 320)).toNat
  let i := min (x / 128) 14
  let f := x - 128 * i
  let a : Int := s.thermTable q i
  let b : Int := s.thermTable q (i + 1)
  (a + roundDiv ((b - a) * f) 128).toNat

/-- The panel temperature is taken at the latch instant and the targets follow; outside -20 to +100 °C THERMCLAMP holds (R253). -/
def State.takePanel (s : State) : State :=
  let tp := s.sfld .thsTextTp
  let s := s.setSfld .snkPaneltTp tp
  let s := { s with lamp.therm := (List.range 4).map (s.thermTarget tp) }
  s.level srcSnkThermclamp (decide (tp < -320) || decide (1600 < tp))

/-- The factor in force of primary `q`. -/
def State.thermNow (s : State) (q : Nat) : Nat :=
  if q % 2 == 0 then s.fld (.snkThermnowQa (q / 2)) else s.fld (.snkThermnowQb (q / 2))

/-- A value moved towards a target by at most `n`. -/
def slewTo (value target n : Nat) : Nat := if value ≤ target then min (value + n) target else max (value - n) target

/-- The factors in force move towards their targets at a catch (R253). -/
def State.moveTherm (s : State) : State :=
  let n := max 1 (s.fld .snkThslewSlew)
  iterate 4 (fun s q =>
    let v := slewTo (s.thermNow q) (s.lamp.therm.getD q 0x8000) n
    if q % 2 == 0 then s.setFld (.snkThermnowQa (q / 2)) v else s.setFld (.snkThermnowQb (q / 2)) v) s

/-! ### Exposure windows (R248) -/

/-- EXPSTAT at a catch (R248). -/
def State.judgeExposure (s : State) : State :=
  let tv := s.prof (·.rows) * s.prof (·.subfr) * slotQuarterPs (s.prof (·.pwmBits))
  let us := 1000 * qNs
  let s := iterate 4 (fun s v =>
    match s.scan.sched[v]? with
    | none => (s.setFldBit .ltbExpstatOutside v false).setFldBit .ltbExpstatNowin v false
    | some e =>
      let out := decide (0 < e.expLen) &&
        !lieswithin (e.expStart * us : Nat) (e.expLen * us : Nat) s.lengthQ (e.start * us : Nat) tv
      (s.setFldBit .ltbExpstatOutside v out).setFldBit .ltbExpstatNowin v (e.expLen == 0)) s
  s.level srcLtbExpoutside (s.fld .ltbExpstatOutside != 0)

/-! ### The timebase's lock (R74, R242) -/

/-- LTB_LOCK_LOST: LOCKED clears, LOCKLOST holds, and from the next line slot boundary the sinks are off (R242). With REFSRC 1 the loss is that
of the reference source after 100 ms without an aligned port (R74). -/
def execLtbLockLost (s : State) : Result :=
  run s fun s =>
    if !s.isTile || !s.flag .ltbStatLocked then s
    else (({ s with cal.lockedMs := 0 } : State).setFld .ltbStatLocked 0).raise srcLtbLocklost

/-- LTB_RELOCK: lock has held for 1 ms (R242): LOCKED sets again, with the tap table in force, and drive resumes at the next catch. While no
DLY set exists LOCKED waits for a DLY sequence, and without a reference LTB does not lock (R74). -/
def execLtbRelock (s : State) : Result :=
  run s fun s =>
    if !s.isTile || s.flag .ltbStatLocked || s.flag .calNosetDly || s.cal.dlyWait || !s.referenced then s
    else (({ s with lamp.waitCatch := true, cal.lockedMs := 0 } : State).setFld .ltbStatLocked 1).lower srcLtbLocklost

/-- REFERENCE_SOURCE_LOCK: with REFSRC 1 the first lane receiver to lock becomes the reference source; port A is taken when both lock in the
same millisecond (R74). The time counter, LTB and the MC relock to it, and rate stepping begins on both ports. -/
def execReferenceSourceLock (portA portB : Bool) (s : State) : Result :=
  run s fun s =>
    if !s.isTile || s.prof (·.flags) % 2 == 0 || s.boot.refSource.isSome || !(portA || portB) then s
    else
      let s := { s with boot.refSource := some (if portA then 0 else 1) }
      let s := s.setFld .ltbStatRecovered 1
      (s.restartHop 0).restartHop 1

end Sys2Proof.Machine
end

