-- ==== Sys2Proof/Machine/Grain.lean ====
section
/-!
DEFINITION. Grain tables and ageing (spec/10, R260 to R285): the correction pipeline, accumulators, checkpoints, the table file and its checks, installs, switches and burnishes; and the acceptance of a signature block (spec/17, R402, R403).
-/

namespace Sys2Proof.Machine

/-! ### Signature blocks (R402, R403) -/

/-- The enrolled customer key signs: VALID is blown and revocation is not (R400, R401). -/
def State.keyEnrolled (s : State) : Bool := s.life.keyValid && !s.life.keyRevoked

/-- An Omcia signature over a digest by key `k` verifies; a revoked key's does not (R397, R403). -/
def State.omciaOk (s : State) (k : Nat) (digest sig : List Byte) : Bool :=
  decide (k < 4) && !testBit s.life.okRevoked k && Config.ecdsaVerify (Config.omciaKey k) digest sig

/-- A customer signature over a digest verifies with the enrolled key (R403). -/
def State.customerOk (s : State) (digest sig : List Byte) : Bool :=
  s.keyEnrolled && Config.ecdsaVerify s.life.keyFuses digest sig

/-- The signature block at the end of `m`'s file at `base`, `sigoff` bytes in, is accepted in this life-cycle state (R402, R403): `grain` for a
grain table, else a firmware image. -/
def State.blockOk (s : State) (m : List Host.Cell) (base sigoff : Nat) (grain : Bool) : Bool :=
  let a := base + sigoff
  let flags := memNat m (a + 4) 1
  let digest := memRead m (a + 8) 48
  let form := memNat m a 4 == 0x4B4C4753 && decide (flags < 4) && memNat m (a + 6) 2 == 0 &&
    digest == Config.sha384 (memRead m base sigoff)
  let osig := testBit flags 0 && s.omciaOk (memNat m (a + 5) 1) digest (memRead m (a + 0x38) 96)
  let csig := testBit flags 1 && s.customerOk digest (memRead m (a + 0x98) 96)
  form && (match s.lcs with
    | 3 => if grain then (!s.keyEnrolled || csig) else osig && (!s.keyEnrolled || csig)
    | 1 | 2 | 4 => grain || osig
    | _ => false)

/-! ### The layout of DC0 (R302) and of the GRAIN region -/

/-- DC0 offset of working copy `c` (R302). -/
def copyBase (c : Nat) : Nat := 0x200000 + 0x800000 * c

/-- DC0 offset of the accumulators (R302). -/
def accBase : Nat := 0x1200000

/-- Bytes of the staging area (R302). -/
def stageSize : Nat := 2097152

/-- Flash address of grain table slot `c` (the place within GRAIN is the model's, log entry 16). -/
def grainSlot (c : Nat) : Nat := 0x30C0000 + 0x200000 * c

/-- Flash address of checkpoint slot `i` (the place within GRAIN is the model's, log entry 16). -/
def ckptSlot (i : Nat) : Nat := 0x34C0000 + 0x40000 * i

/-- The next multiple of 64. -/
def align64 (n : Nat) : Nat := (n + 63) / 64 * 64

/-- Copy `c`. -/
def State.copy (s : State) (c : Nat) : GrainCopy := s.grain.copies.getD c GrainCopy.reset

/-- `s` with copy `c` changed. -/
def State.onCopy (s : State) (c : Nat) (f : GrainCopy → GrainCopy) : State :=
  { s with grain.copies := listModify s.grain.copies c f }

/-- READY, PERSIST and the versions of TABSTAT, TABVER and TABVERALT follow the copies. -/
def State.showCopies (s : State) : State :=
  let c0 := s.copy 0
  let c1 := s.copy 1
  let s := s.setFld .grnTabstatReady (bit c0.ready + 2 * bit c1.ready)
  let s := s.setFld .grnTabstatPersist (bit c0.persist + 2 * bit c1.persist)
  let f := s.fld .grnTabstatInforce
  let s := s.setFld .grnTabver (if f == 0 then 0 else (s.copy (f - 1)).version)
  let alt := if f == 1 then c1 else c0
  s.setFld .grnTabveralt (if alt.ready && f != 0 then alt.version else if f == 0 && c1.ready then c1.version
    else if f == 0 && c0.ready then c0.version else 0)

/-- Offset of the matrices in a copy: three expanded curves stand before them (R284). -/
def GrainCopy.matOff : Nat := 49152

/-- Offset of the derate section in a copy. -/
def GrainCopy.derateOff (c : GrainCopy) : Nat := align64 (GrainCopy.matOff + c.nsets * c.tw * c.th * c.prim * 6)

/-- Offset of the thermal section in a copy. -/
def GrainCopy.thermOff (c : GrainCopy) : Nat := if c.hasDerate then align64 (c.derateOff + c.prim * 128) else c.derateOff

/-! ### The pipeline (R261 to R266) -/

/-- A curve table evaluated at a 16-bit code (R262). -/
def curveAt (entry : Nat → Nat) (code : Nat) : Nat :=
  let k := code / 16
  let e0 : Int := decodeLight (entry k)
  let e1 : Int := decodeLight (entry (min (k + 1) 4095))
  (e0 + Int.fdiv ((e1 - e0) * (code % 16 : Nat) + 8) 16).toNat

/-- Entry `k` of channel `j` in copy `c` (R274). -/
def State.copyEntry (s : State) (c j k : Nat) : Nat := memNat s.dram.mem (copyBase c + 16384 * j + 4 * k) 4 % 2 ^ 20

/-- Coefficient (q, j) of pixel `n` in set `i` of copy `c` (R274). -/
def State.copyCoeff (s : State) (c i n q j : Nat) : Int :=
  let g := s.copy c
  signed 16 (memNat s.dram.mem (copyBase c + GrainCopy.matOff + 6 * ((i * (g.tw * g.th) + n) * g.prim + q) + 2 * j) 2)

/-- The matrix coefficient at a copy's set position (R264). -/
def State.matrixAt (s : State) (c n q j : Nat) : Int :=
  let g := s.copy c
  if g.nsets ≤ 1 then s.copyCoeff c 0 n q j
  else
    let a := min (g.pos / 4096) (g.nsets - 2)
    let w := g.pos - a * 4096
    let lo := s.copyCoeff c a n q j
    lo + roundDiv ((s.copyCoeff c (a + 1) n q j - lo) * w) 4096

/-- The 64-bit accumulator of lamp `n` (R268). -/
def State.acc (s : State) (n : Nat) : Nat := memNat s.dram.mem (accBase + 8 * n) 8

/-- `s` with the accumulator of lamp `n` set. -/
def State.setAcc (s : State) (n v : Nat) : State := { s with dram.mem := memPutNat s.dram.mem (accBase + 8 * n) 8 v }

/-- Derate factor `i` of primary `q` in copy `c` (R274). -/
def State.derateAt (s : State) (c q i : Nat) : Nat := memNat s.dram.mem (copyBase c + (s.copy c).derateOff + 128 * q + 2 * i) 2

/-- The derate factor of lamp `n` of primary `q` (R265). -/
def State.derate (s : State) (c q n : Nat) : Nat :=
  let g := s.copy c
  if !g.hasDerate then 32768
  else
    let a := s.acc n / 2 ^ 32
    let sh := g.shifts.getD q 0
    let i := a / 2 ^ sh
    if 63 ≤ i then s.derateAt c q 63
    else
      let d0 : Int := s.derateAt c q i
      let d1 : Int := s.derateAt c q (i + 1)
      let f : Int := (a - i * 2 ^ sh : Nat)
      (d0 + Int.fdiv ((d1 - d0) * f + (2 ^ (sh - 1) : Nat)) (2 ^ sh : Nat)).toNat

/-- The largest light, 2^24 - 1. -/
def lightMax : Nat := 2 ^ 24 - 1

/-- A factor in Q1.15 applied with the limit of R261, and whether it limited. -/
def applyFactor (on : Bool) (f : Nat) (y : Nat × Bool) : Nat × Bool :=
  if on then
    let z := (y.1 * f + 16384) / 32768
    (min z lightMax, y.2 || decide (lightMax < z))
  else y

/-- The matrix sum brought to a light (R261), and whether it was limited (R266). -/
def clampLight (y : Int) : Nat × Bool :=
  let z := roundDiv y 16384
  ((clampInt 0 lightMax z).toNat, decide (z < 0) || decide ((lightMax : Int) < z))

/-- The light of the lamp of primary `q` of pixel `n` by a working copy, or by DEFCURVE and the identity with none (R261, R281). -/
def State.lightBy (s : State) (c : Option Nat) (n q : Nat) (code : List Nat) : Nat × Bool :=
  let entry := fun (j k : Nat) => match c with
    | some c => s.copyEntry c j k
    | none => curveEntry encodeLight ([s.fld .grnDefcurveR, s.fld .grnDefcurveG, s.fld .grnDefcurveB].getD j 3) (s.fld .grnDefcurvePeak) k
  let x := fun (j : Nat) => (curveAt (entry j) (code.getD j 0) : Int)
  let m := fun (j : Nat) => match c with
    | some c => s.matrixAt c n q j
    | none => if q == j then (16384 : Int) else 0
  let y := clampLight (m 0 * x 0 + m 1 * x 1 + m 2 * x 2)
  let y := applyFactor (s.flag .grnCtrlThermen) (s.thermNow q) y
  let d := match c with
    | some c => s.derate c q (n * s.prim + q)
    | none => 32768
  applyFactor (s.flag .grnCtrlDerateen) d y

/-- The copy in force, or none (R281). -/
def State.inForce (s : State) : Option Nat :=
  match s.fld .grnTabstatInforce with
  | 1 => some 0
  | 2 => some 1
  | _ => none

/-- b of R282 for a burnish: 256 from the catch on at which it is made a step (R283). -/
def Burnish.b (x : Burnish) : Nat := min 256 (256 * x.j / max 1 x.len)

/-- The light of a lamp, blended during a burnish (R282), and whether a limit acted. -/
def State.light (s : State) (n q : Nat) (code : List Nat) : Nat × Bool :=
  let new := s.lightBy s.inForce n q code
  match s.grain.burn with
  | none => new
  | some x =>
    let old := s.lightBy (some x.old) n q code
    (((old.1 : Int) + roundDiv (((new.1 : Int) - old.1) * x.b) 256).toNat, new.2 || old.2)

/-- One pixel converted (R220, R238, R239): drive words by lamp index, each with whether a limit acted. -/
def State.convertPixel (s : State) (n : Nat) (code : List Nat) : List (Nat × Nat × Bool) :=
  (List.range s.prim).map (fun q =>
    let l := s.light n q code
    (n * s.prim + q, driveWord s.slotSteps (encodeLight l.1), l.2))

/-- The three samples of pixel `n` in a buffer. -/
def pixelCode (buf : List (Nat × Nat)) (n : Nat) : List Nat := (List.range 3).map (fun j => numAt buf (3 * n + j))

/-- Pixel row `row` of a buffer converted. -/
def State.convertRow (s : State) (buf : List (Nat × Nat)) (row : Nat) : List (Nat × Nat × Bool) :=
  (List.range (s.fld .snkStatTw)).flatMap (fun u =>
    let n := row * s.fld .snkStatTw + u
    s.convertPixel n (pixelCode buf n))

/-- Drive words written into a code store. -/
def putWords (codes : List (Nat × Nat)) (ws : List (Nat × Nat × Bool)) : List (Nat × Nat) :=
  ws.foldl (fun m w => assocPut m w.1 0 w.2.1) codes

/-- CLIPS advances once per lamp value that a limit acted on, and CLIP is raised (R266). -/
def State.countClips (s : State) (ws : List (Nat × Nat × Bool)) : State :=
  let n := (ws.filter (fun w => w.2.2)).length
  if n == 0 then s else (s.bump .grnClips n).raise srcGrnClip

/-! ### Ageing (R268 to R270) -/

/-- The charge of one step in units of 2^-32 µC by SINKRANGE (R268). -/
def chargeStep (range : Nat) : Nat := [3355, 6711, 13422, 26844].getD range 3355

/-- The charge that a drive word adds (R268). -/
def chargeOf (range trim ceil w : Nat) : Nat :=
  wordWidth w * chargeStep range * (128 + trim) * ceil / 2 ^ (12 + 2 * wordTier w)

/-- An accumulator with a charge added: it saturates at 0xFFFF_FFFF µC with fraction 0 (R270). -/
def addCharge (acc inc : Nat) : Nat :=
  if 0xFFFFFFFF * 2 ^ 32 ≤ acc + inc then 0xFFFFFFFF * 2 ^ 32 else acc + inc

/-- The lamps of the map as (scan row, sink). -/
def State.mapPairs (s : State) : List (Nat × Nat) :=
  (List.range (s.prof (·.rows))).flatMap (fun r => (Reader.sinks s.reg).map (fun k => (r, k)))

/-- The fold of one lamp over `times` strokes (R268, R269): a lamp that SHORTMASK holds off adds nothing, and the accumulators of a poisoned
block take no fold (R315). -/
def State.foldLamp (times : Nat) (s : State) (rk : Nat × Nat) : State :=
  let (r, k) := rk
  if s.flag .snkCtrlShortmask && s.lamp.shorts.contains (lampKey r k) || s.poisoned (accBase + 8 * s.lampAt k r) then s
  else
    let n := s.lampAt k r
    let trim := s.fld (.skgSinkTrim (k / 64) (k % 64))
    let inc := ((List.range (s.prof (·.views))).map (fun v =>
      chargeOf (s.fld .snkStatRange) trim (s.fld .snkStatCeil) (numAt (s.view v).drive n))).sum
    s.setAcc n (addCharge (s.acc n) (times * inc))

/-- Lamps whose accumulator is saturated (R270). -/
def State.saturatedLamps (s : State) : Nat :=
  ((List.range s.lampCount).filter (fun n => s.acc n / 2 ^ 32 == 0xFFFFFFFF)).length

/-- SATURATED shows the count, and AGESAT is raised when it rises (R270). -/
def State.showSaturated (s : State) : State :=
  let n := s.saturatedLamps
  let rise := decide (s.grain.saturated < n)
  let s := ({ s with grain.saturated := n } : State).setFld .grnAgestatSaturated (min 65535 n)
  if rise then s.raise srcGrnAgesat else s

/-! ### Checkpoints (R271, R272) -/

/-- A checkpoint's bytes (R271). -/
def State.checkpointBytes (s : State) (seq : Nat) : List Byte :=
  let body := leBytes 4 0x4B504341 ++ leBytes 4 seq ++ leBytes 4 s.stroke ++ leBytes 4 s.lampCount ++
    (List.range s.lampCount).flatMap (fun n => leBytes 4 (s.acc n / 2 ^ 32))
  body ++ leBytes 4 (crc32 body).toNat

/-- SEQ of a valid checkpoint slot (R272). -/
def State.checkpointSeq (s : State) (i : Nat) : Option Nat :=
  let m := s.boot.flash
  let a := ckptSlot i
  let n := memNat m (a + 12) 4
  if memNat m a 4 == 0x4B504341 && n == s.lampCount &&
      (crc32 (memRead m a (16 + 4 * n))).toNat == memNat m (a + 16 + 4 * n) 4 then some (memNat m (a + 4) 4) else none

/-- Of two slots' SEQs, the slot in force: the valid one with the newer SEQ (R57, R272). -/
def newerSlot (a b : Option Nat) : Option Nat :=
  match a, b with
  | some x, some y => if strokeAfter y x then some 1 else some 0
  | some _, none => some 0
  | none, some _ => some 1
  | none, none => none

/-- A checkpoint is taken at a catch (R271): the older slot, one above the other slot's SEQ; with no valid slot it is 1 in slot 0 (the
model's choice, log entry 113). -/
def State.takeCheckpoint (s : State) : State :=
  if !s.grain.saveDue || s.grain.saving.isSome then s
  else
    let newest := newerSlot (s.checkpointSeq 0) (s.checkpointSeq 1)
    let slot := match newest with
      | some i => 1 - i
      | none => 0
    let seq := match newest with
      | some i => wrap32 ((s.checkpointSeq i).getD 0 + 1)
      | none => 1
    { s with grain.saveDue := false, grain.saving := some (slot, s.checkpointBytes seq) }

/-- The accumulators clear at a catch where OP 6 asked for it (R284). -/
def State.clearAccs (s : State) : State :=
  if !s.grain.clearDue then s
  else
    let s := iterate s.lampCount (fun s n => s.setAcc n 0)
      { s with dram.poison := s.dram.poison.filter (fun b => b < accBase / 64 || accBase / 64 + 8192 ≤ b) }
    ({ s with grain.clearDue := false, grain.saveDue := true } : State).showSaturated

/-- CHECKPOINT_TIMER: every CKPT minutes a checkpoint is asked for; 0 disables periodic saves (R271). -/
def execCheckpointTimer (s : State) : Result :=
  run s fun s => if s.isTile && s.fld .grnAgecfgCkpt != 0 then { s with grain.saveDue := true } else s

/-- CHECKPOINT_SAVED: the flash write of a checkpoint ends (R271): CKPTS advances, or a failed verification raises CKPTFAIL and leaves the
other slot standing. A supply warning suspends the write (R78, R271, R285). -/
def checkpointSaved (s : State) (ok : Bool) : State :=
  match s.boot.warning, s.grain.saving with
  | true, _ => s
  | _, none => s
  | _, some (slot, bytes) =>
    let s := { s with grain.saving := none }
    let running := s.fld .grnTabstatResult == 1 && s.grain.op.isNone && !s.grain.saveDue && !s.grain.clearDue
    if ok then
      let s := ({ s with grain.savedMs := s.ths.uptimeMs } : State).nvWrite (.flash (ckptSlot slot) bytes)
      let s := s.bump .grnCkpts 1
      if running then s.setFld .grnTabstatResult 2 else s
    else
      let s := s.raise srcGrnCkptfail
      if running then (s.setFld .grnTabstatResult 3).setFld .grnTabstatErr 9 else s

/-- CHECKPOINT_SAVED (R271). -/
def execCheckpointSaved (ok : Bool) (s : State) : Result := run s (checkpointSaved · ok)

/-- At a full reset the accumulators take the newest valid checkpoint, fractions 0, or 0 with LOST and AGELOST (R272). -/
def State.restoreAccs (s : State) : State :=
  match newerSlot (s.checkpointSeq 0) (s.checkpointSeq 1) with
  | some i =>
    let s := iterate s.lampCount (fun s n => s.setAcc n (memNat s.boot.flash (ckptSlot i + 16 + 4 * n) 4 * 2 ^ 32)) s
    (s.setFld .grnAgestatLost 0).showSaturated
  | none =>
    let s := iterate s.lampCount (fun s n => s.setAcc n 0) s
    (s.setFld .grnAgestatLost 1).raise srcGrnAgelost

/-- The accumulators of a poisoned block, reloaded by the MC from the newest valid checkpoint (R315), or at 0 with LOST where no slot is valid
(R272). -/
def State.reloadAccs (s : State) : State :=
  let bad := s.dram.poison.filter (fun b => decide (accBase / 64 ≤ b) && decide (8 * (b - accBase / 64) < s.lampCount))
  if bad.isEmpty then s
  else
    let from_ := newerSlot (s.checkpointSeq 0) (s.checkpointSeq 1)
    let value := fun (n : Nat) => match from_ with
      | some i => memNat s.boot.flash (ckptSlot i + 16 + 4 * n) 4 * 2 ^ 32
      | none => 0
    let lamps := (bad.flatMap (fun b => (List.range 8).map (fun i => 8 * (b - accBase / 64) + i))).filter (· < s.lampCount)
    let s := lamps.foldl (fun s n => s.setAcc n (value n)) { s with dram.poison := s.dram.poison.filter (fun b => !bad.contains b) }
    (if from_.isNone then (s.setFld .grnAgestatLost 1).raise srcGrnAgelost else s).showSaturated

/-- The fold after a catch (R268, R269): nothing with ACCEN clear, or for a stroke in which R235 held the sinks off. Then the MC reloads what
a poisoned block held (R315). -/
def State.fold (s : State) (times : Nat) : State :=
  (if !s.flag .grnCtrlAccen || s.lamp.dark || s.sinksOff || times == 0 then s
  else (s.mapPairs.foldl (State.foldLamp times) s).showSaturated).reloadAccs

/-- AGESTAT.SINCE: minutes since the last checkpoint (R271). -/
def State.ageSince (s : State) : Nat := min 4095 ((s.ths.uptimeMs - s.grain.savedMs) / 60000)

/-! ### Checking a table (R273 to R275) -/

/-- A table file: the memory it stands in and its base. -/
structure TableFile where
  mem : List Host.Cell
  base : Nat

/-- The `n`-byte number at offset `o` of a table. -/
def TableFile.num (t : TableFile) (o n : Nat) : Nat := memNat t.mem (t.base + o) n

/-- CRC-32 over bytes `lo` to `hi` - 1 of a table. -/
def TableFile.crc (t : TableFile) (lo hi : Nat) : Nat := (crc32 (memRead t.mem (t.base + lo) (hi - lo))).toNat

/-- The curve codes of a table. -/
def TableFile.curves (t : TableFile) : List Nat := (List.range 3).map (fun j => t.num (0x20 + j) 1)

/-- How many channels have a curve table (R274). -/
def TableFile.tables (t : TableFile) : Nat := (t.curves.filter (· == 0)).length

/-- The set tags (R273). -/
def TableFile.tags (t : TableFile) : List Int := (List.range 4).map (fun i => signed 16 (t.num (0x24 + 2 * i) 2))

/-- The shifts (R273). -/
def TableFile.shifts (t : TableFile) : List Nat := (List.range 4).map (fun q => t.num (0x2C + q) 1)

/-- Check 6 of R275: ranges and reserved bytes. -/
def TableFile.rangesOk (t : TableFile) : Bool :=
  let n := t.num 0x1D 1
  let derate := testBit (t.num 6 2) 0
  let prim := t.num 0x1C 1
  decide (1 ≤ n) && decide (n ≤ 4) &&
    (List.range 3).all (fun i => if i + 1 < n then decide (t.tags.getD i 0 + 16 ≤ t.tags.getD (i + 1) 0) else t.tags.getD (i + 1) 0 == 0) &&
    t.curves.all (fun c => decide (c ≤ 4)) &&
    decide (100 ≤ t.num 0x1E 2) && decide (t.num 0x1E 2 ≤ 10000) &&
    (List.range 4).all (fun q =>
      let sh := t.shifts.getD q 0
      if derate && decide (q < prim) then decide (12 ≤ sh) && decide (sh ≤ 26)
      else sh == 0 || (!derate && decide (q < prim) && decide (12 ≤ sh) && decide (sh ≤ 26))) &&
    decide (t.num 6 2 < 4) && t.num 0x23 1 == 0 && (List.range 52).all (fun i => t.num (0x44 + i) 1 == 0)

/-- The sections in order as (present, offset, size), the signature block last (R274). -/
def TableFile.sections (t : TableFile) : List (Bool × Nat × Nat) :=
  let flags := t.num 6 2
  let prim := t.num 0x1C 1
  [(decide (0 < t.tables), t.num 0x30 4, 16384 * t.tables),
   (true, t.num 0x34 4, t.num 0x1D 1 * t.num 0x18 2 * t.num 0x1A 2 * prim * 6),
   (testBit flags 0, t.num 0x38 4, prim * 128),
   (testBit flags 1, t.num 0x3C 4, prim * 32),
   (true, t.num 0x40 4, 248)]

/-- Sections present are aligned, ascending and within `len`; absent ones have offset 0 (check 7 of R275). -/
def sectionsOk (len : Nat) : Nat → List (Bool × Nat × Nat) → Bool
  | _, [] => true
  | lo, (present, off, size) :: l =>
    if present then decide (lo ≤ off) && decide (off % 64 = 0) && decide (off + size ≤ len) && sectionsOk len (off + size) l
    else off == 0 && sectionsOk len lo l

/-- The first failing check of R275, or 0. `staged` gives XFERLEN for a staged table. -/
def State.tableErr (s : State) (t : TableFile) (staged : Option Nat) : Nat :=
  let len := t.num 8 4
  let sig := t.num 0x40 4
  let lenOk := decide (len % 4 = 0) && decide (0x80 ≤ len) && decide (len ≤ stageSize) &&
    (match staged with
      | some n => len == n
      | none => true)
  if !(t.num 0 4 == 0x4E415247 && t.num 4 2 == 1 && lenOk) then 1
  else if t.crc 0 0x7C != t.num 0x7C 4 then 2
  else if len < sig || t.crc 0x80 sig != t.num 0x78 4 then 3
  else if !(t.num 0x10 8 == 0 || t.num 0x10 8 == s.life.unitId) then 4
  else if !(t.num 0x18 2 == s.fld .snkStatTw && t.num 0x1A 2 == s.fld .snkStatTh && t.num 0x1C 1 == s.prim) then 5
  else if !t.rangesOk then 6
  else if !(sectionsOk len 0x80 t.sections && sig + 248 == len) then 7
  else if !s.blockOk t.mem t.base sig true then 8
  else 0

/-! ### Installing (R278) -/

/-- The header of a table as a working copy that is not ready yet. -/
def TableFile.copy (t : TableFile) : GrainCopy :=
  { ready := false, persist := false, version := t.num 0xC 4, peak := t.num 0x1E 2, curves := t.curves, nsets := t.num 0x1D 1,
    prim := t.num 0x1C 1, tw := t.num 0x18 2, th := t.num 0x1A 2, tags := t.tags, shifts := t.shifts,
    hasDerate := testBit (t.num 6 2) 0, hasTherm := testBit (t.num 6 2) 1, pos := 0, target := 0 }

/-- The table section of channel `j`: how many channels with code 0 stand before it. -/
def TableFile.curveIndex (t : TableFile) (j : Nat) : Nat := ((t.curves.take j).filter (· == 0)).length

/-- Expand a table into copy `c` (R263, R278): curves, matrices, derate and thermal sections are placed. -/
def State.expand (s : State) (t : TableFile) (c : Nat) : State :=
  let g := t.copy
  let s := s.onCopy c (fun _ => g)
  let b := copyBase c
  let curve := fun (j : Nat) =>
    let code := g.curves.getD j 1
    if code == 0 then memRead t.mem (t.base + t.num 0x30 4 + 16384 * t.curveIndex j) 16384
    else (List.range 4096).flatMap (fun k => leBytes 4 (curveEntry encodeLight code g.peak k))
  let m := (List.range 3).foldl (fun m j => memWrite m (b + 16384 * j) (curve j)) s.dram.mem
  let m := memWrite m (b + GrainCopy.matOff) (memRead t.mem (t.base + t.num 0x34 4) (g.nsets * g.tw * g.th * g.prim * 6))
  let m := if g.hasDerate then memWrite m (b + g.derateOff) (memRead t.mem (t.base + t.num 0x38 4) (g.prim * 128)) else m
  let m := if g.hasTherm then memWrite m (b + g.thermOff) (memRead t.mem (t.base + t.num 0x3C 4) (g.prim * 32)) else m
  { s with dram.mem := m, dram.poison := s.dram.poison.filter (fun x => x < b / 64 || b / 64 + 131072 ≤ x) }

/-- The copies that conversions read, in force or blended out, of which a block is poisoned (R285, R315). -/
def State.poisonedCopies (s : State) : List Nat :=
  (s.inForce.toList ++ (s.grain.burn.map (·.old)).toList).filter (fun c =>
    s.dram.poison.any (fun x => decide (copyBase c / 64 ≤ x) && decide (x < copyBase c / 64 + 131072)))

/-- The MC expands a copy again from its flash slot, or marks it not READY if it is volatile (R285). -/
def State.mendCopy (s : State) (c : Nat) : State :=
  let g := s.copy c
  if g.persist then (s.expand ⟨s.boot.flash, grainSlot c⟩ c).onCopy c (fun _ => g)
  else (s.onCopy c (fun g => { g with ready := false })).showCopies

/-- A conversion has read a poisoned block of a working copy (R285). -/
def State.mendCopies (s : State) : State := s.poisonedCopies.foldl State.mendCopy s

/-- The staged table. -/
def State.staged (s : State) : TableFile := ⟨s.dram.mem, 0⟩

/-- A command of TABCMD ends with a result and an error. -/
def State.tabResult (s : State) (result err : Nat) : State := (s.setFld .grnTabstatResult result).setFld .grnTabstatErr err

/-- TABCMD OP 1: the staged table is checked (R275); with chunks missing it is refused (R285). -/
def tabCheck (s : State) : State :=
  if s.fld .grnXferstatMissing != 0 then s.tabResult 3 10
  else
    let e := s.tableErr s.staged (some (s.fld .grnXferlenLength))
    s.tabResult (if e == 0 then 2 else 3) e

/-- The copy that an install goes to: the one not in force (R278); with none in force, the one that TABSEL does not select. -/
def State.installTarget (s : State) : Nat :=
  match s.inForce with
  | some c => 1 - c
  | none => 1 - s.fld .grnCtrlTabsel

/-! #### The selection record (R280); its layout in the state records is the model's (log entry 17) -/

/-- Address of the selection record. -/
def selBase : Nat := 0x27000

/-- The flash slot that the selection record names, if there is a record. -/
def State.selected (s : State) : Option Nat :=
  let m := s.boot.store
  if memNat m selBase 4 == 0x4C455347 && (crc32 (memRead m selBase 16)).toNat == memNat m (selBase + 16) 4 then
    some (memNat m (selBase + 4) 4 % 2)
  else none

/-- The selection record naming slot `c` is queued (R279, R280). -/
def State.writeSelection (s : State) (c : Nat) : State :=
  let seq := wrap32 (memNat s.boot.store (selBase + 12) 4 + 1)
  let body := leBytes 4 0x4C455347 ++ leBytes 4 c ++ leBytes 4 (s.copy c).version ++ leBytes 4 seq
  s.nvWrite (.bytes selBase (body ++ leBytes 4 (crc32 body).toNat))

/-- The target copy is busy (R278): a pending commit on GRN names it, a burnish uses it, or with OP 2 the selection record names its slot. -/
def State.copyBusy (s : State) (c : Nat) (persist : Bool) : Bool :=
  ((s.access.commits.any (fun x => x.page == 0xC) && s.fld (Fld.shadow .grnCtrlTabsel) == c ||
      s.access.captured.any (fun e => e.1 == Fld.addr .grnCtrlTabsel && Fld.get .grnCtrlTabsel e.2 == c)) &&
    s.fld .grnCtrlTabsel != c) ||
    (match s.grain.burn with
      | some b => b.old == c
      | none => false) || (persist && s.selected == some c)

/-- TABCMD OP 2 and OP 3 (R278, R285): refused, or checked and expanded; the copy's READY is 0 until the install ends. With OP 2 the slot
is erased before it is written, so a reset leaves it invalid (R280). -/
def tabInstall (s : State) (persist : Bool) (key : Nat) : State :=
  let c := s.installTarget
  if key != 0xA5C3 then s.tabResult 3 12
  else if s.fld .grnXferstatMissing != 0 then s.tabResult 3 10
  else if s.copyBusy c persist then s.tabResult 3 11
  else
    let e := s.tableErr s.staged (some (s.fld .grnXferlenLength))
    if e != 0 then s.tabResult 3 e
    else
      let s := s.expand s.staged c
      let s := if persist then s.nvWrite (.flash (grainSlot c) (List.replicate 128 0xFF)) else s
      (({ s with grain.op := some ⟨c, persist⟩ } : State).showCopies).tabResult 1 0

/-- GRN_INSTALL_DONE: an install completes (R278): with OP 2 the file stands in the slot and `ok` says whether it read back. A supply warning
suspends it (R285). -/
def installDone (s : State) (ok : Bool) : State :=
  match s.boot.warning, s.grain.op with
  | true, _ => s
  | _, none => s
  | _, some x =>
    let s := { s with grain.op := none }
    if x.persist && !ok then s.tabResult 3 9
    else
      let s := if x.persist then s.nvWrite (.flash (grainSlot x.copy) (memRead s.dram.mem 0 (s.staged.num 8 4))) else s
      ((s.onCopy x.copy (fun g => { g with ready := true, persist := x.persist })).showCopies).tabResult 2 0

/-- GRN_INSTALL_DONE (R278). -/
def execGrnInstallDone (ok : Bool) (s : State) : Result := run s (installDone · ok)

/-- TABCMD OP 4: a running burnish completes as a step (R283). -/
def stopBurnish (s : State) : State :=
  ({ s with grain.burn := s.grain.burn.map (fun b => { b with step := true }) } : State).tabResult 2 0

/-- TABCMD OP 5: a checkpoint is saved (R271). -/
def saveCheckpoint (s : State) : State := ({ s with grain.saveDue := true } : State).tabResult 1 0

/-- TABCMD OP 6 with the key: every accumulator clears at the next catch, then a checkpoint is saved (R284). -/
def clearAccumulators (s : State) (key : Nat) : State :=
  if key != 0xA5C3 then s.tabResult 3 12 else ({ s with grain.clearDue := true } : State).tabResult 1 0

/-- A write of GRN.TABCMD (R278 to R285). While an install runs a command is ignored (log entry 18). -/
def tabCommand (s : State) (op key : Nat) : State :=
  if s.grain.op.isSome then s
  else match op with
    | 1 => tabCheck s
    | 2 => tabInstall s true key
    | 3 => tabInstall s false key
    | 4 => stopBurnish s
    | 5 => saveCheckpoint s
    | 6 => clearAccumulators s key
    | _ => s

/-! ### Transfers (R276, R277, R284) -/

/-- Chunks of the open transfer. -/
def State.chunkCount (s : State) : Nat := (s.fld .grnXferlenLength + 119) / 120

/-- XFERSTAT: the first missing chunk and how many are missing (R276). -/
def State.showChunks (s : State) : State :=
  let missing := if s.grain.mapped then (List.range s.chunkCount).filter (fun i => !s.grain.chunks.contains i) else []
  (s.setFld .grnXferstatFirstmiss (missing.headD 0xFFFF)).setFld .grnXferstatMissing (min 65535 missing.length)

/-- A write of GRN.XFERID opens a transfer (R276); it is ignored while CHECK or INSTALL runs (R285). -/
def openTransfer (s : State) (data : Word) : State :=
  if s.grain.op.isSome then s
  else
    let s := (s.setFld .grnXferidXfer data.toNat).setFld .grnXferidSrc (data.toNat / 65536)
    ({ s with grain.chunks := [], grain.mapped := !s.flag .grnXferidSrc } : State).showChunks

/-- An IMAGE cell of KIND 1 (R276): a chunk goes to staging, or is discarded and counted. -/
def grainChunk (s : State) (c : ImageCell) : State :=
  let len := s.fld .grnXferlenLength
  let want := min 120 (len - c.offset)
  let ok := s.grain.mapped && s.grain.op.isNone && c.xfer == s.fld .grnXferidXfer && c.offset % 120 == 0 && decide (c.offset < len) &&
    decide (len ≤ stageSize) && c.data.length == want
  if !ok then s.bump .grnChunkdisc 1
  else
    let i := c.offset / 120
    let s := s.dramWrite 5 2 c.offset c.data
    let s := { s with grain.chunks := if s.grain.chunks.contains i then s.grain.chunks else s.grain.chunks ++ [i] }
    (s.bump .grnChunks 1).showChunks

/-- A window write to the accumulator of lamp `n` sets its whole µC and clears the fraction (R284). -/
def accWrite (s : State) (init n : Nat) (data : Word) : State :=
  if s.lampCount ≤ n then s else (s.dramWrite 5 init (accBase + 8 * n) (leBytes 8 (data.toNat * 2 ^ 32))).showSaturated

/-- A write at window word `i` (R277, R284): staging or accumulators; the copies ignore writes. Beyond the staging area R303 applies. -/
def grainWinWrite (s : State) (init i : Nat) (data : Word) : State :=
  let a := s.fld .grnWinbaseBase / 4 * 4 + 4 * i
  match s.fld .grnWinctrlTarget with
  | 0 => if a + 4 ≤ stageSize then s.dramWrite 5 init a (leBytes 4 data.toNat) else s.dramRange a init
  | 1 => accWrite s init (a / 4) data
  | _ => s

/-- A read at window word `i` (R277, R284). Beyond the staging area it returns 0 and R303 applies. -/
def grainWinRead (s : State) (init i : Nat) : State × Word :=
  let a := s.fld .grnWinbaseBase / 4 * 4 + 4 * i
  match s.fld .grnWinctrlTarget with
  | 0 => if a + 4 ≤ stageSize then (s, s.dramWord a) else (s.dramRange a init, 0)
  | 1 => (s, if s.lampCount ≤ a / 4 then 0
      else if s.poisoned (accBase + 8 * (a / 4)) then 0xFFFFFFFF#32 else Word.ofNat (s.acc (a / 4) / 2 ^ 32))
  | t => (s, s.dramWord (copyBase (t - 2) + a))

/-! ### Switching and burnishing (R279, R282, R283) -/

/-- CURVEINFO shows the curves and PEAK of the table in force, or DEFCURVE's (GRN.CURVEINFO). -/
def State.showCurves (s : State) : State :=
  match s.inForce with
  | some c =>
    let g := s.copy c
    (((s.setFld .grnCurveinfoR (g.curves.getD 0 0)).setFld .grnCurveinfoG (g.curves.getD 1 0)).setFld .grnCurveinfoB
      (g.curves.getD 2 0)).setFld .grnCurveinfoPeak g.peak
  | none =>
    (((s.setFld .grnCurveinfoR (s.fld .grnDefcurveR)).setFld .grnCurveinfoG (s.fld .grnDefcurveG)).setFld .grnCurveinfoB
      (s.fld .grnDefcurveB)).setFld .grnCurveinfoPeak (s.fld .grnDefcurvePeak)

/-- The thermal section of copy `c` goes to the live and the shadow THERMF (R279). -/
def State.loadTherm (s : State) (c : Nat) : State :=
  let g := s.copy c
  if !g.hasTherm then s
  else
    let f := fun (s : State) (q i : Nat) => memNat s.dram.mem (copyBase c + g.thermOff + 32 * q + 2 * i) 2
    iterate g.prim (fun s q => iterate 8 (fun s j =>
      let lo := f s q (2 * j)
      let hi := f s q (2 * j + 1)
      let s := (s.setFld (.snkThermfFlo q j) lo).setFld (.snkThermfFhi q j) hi
      (s.setFld (Fld.shadow (.snkThermfFlo q j)) lo).setFld (Fld.shadow (.snkThermfFhi q j)) hi) s) s

/-- Copy `c` comes into force (R264, R279, R281): INFORCE, TABVER, its thermal section and its set position. -/
def State.enforce (s : State) (c : Nat) : State :=
  let s := s.onCopy c (fun g => { g with pos := g.target })
  let s := (s.setFld .grnTabstatInforce (c + 1)).showCopies
  ((s.loadTherm c).showCurves).lower srcGrnNograin

/-- A switch at the catch where a changed TABSEL becomes live (R279, R282, R283): a burnish, or a step where BURNLEN is 0 or 1 or no
table was in force. -/
def State.switchTable (s : State) (c : Nat) : State :=
  let old := s.inForce
  let len := s.fld .grnCtrlBurnlen
  let s := s.enforce c
  let s := match old with
    | some o =>
      if o == c || len ≤ 1 then s.setFld .grnTabstatBurnpos 256
      else ({ s with grain.burn := some ⟨o, len, 1, false⟩ } : State).setFld .grnTabstatBurning 1
    | none => s.setFld .grnTabstatBurnpos 256
  if (s.copy c).persist then s.writeSelection c else s

/-- A burnish ends (R282, R283): BURNING clears and the outgoing copy is released; `stepped` says that it completed as a step. -/
def State.endBurnish (s : State) (stepped : Bool) : State :=
  let s := (({ s with grain.burn := none } : State).setFld .grnTabstatBurning 0).setFld .grnTabstatBurnpos 256
  if stepped then (s.bump .grnBurnstepped 1).raise srcGrnBurnstep else s

/-- A burnish moves on at a catch (R282, R283): it ends, and BURNS advances, when codes converted with b = 256 begin to drive. One that is to
complete as a step takes b = 256 at this catch, so it ends at the next. -/
def State.moveBurnish (s : State) : State :=
  match s.grain.burn with
  | none => s
  | some b =>
    if b.len ≤ b.j then (s.endBurnish (decide (b.len < b.j))).bump .grnBurns 1
    else { s with grain.burn := some { b with j := if b.step then b.len + 1 else b.j + 1 } }

/-- BURNPOS shows b of a burnish that runs. -/
def State.showBurn (s : State) : State :=
  match s.grain.burn with
  | none => s
  | some b => s.setFld .grnTabstatBurnpos b.b

/-- A running burnish completes as a step at once, as a reset of GRN makes it (R283). -/
def State.stepBurnish (s : State) : State :=
  if s.grain.burn.isSome then s.endBurnish true else s

/-- ptarget of a copy for a panel temperature (R264). -/
def GrainCopy.targetFor (g : GrainCopy) (tp : Int) : Nat :=
  let t := fun i => g.tags.getD i 0
  if g.nsets ≤ 1 || tp ≤ t 0 then 0
  else if t (g.nsets - 1) ≤ tp then (g.nsets - 1) * 4096
  else
    let a := ((List.range (g.nsets - 1)).filter (fun i => t i ≤ tp)).foldl max 0
    a * 4096 + Int.toNat (Int.fdiv ((tp - t a) * 4096) (t (a + 1) - t a))

/-- The set targets are taken at the latch instant from PANELT; OUTSIDE and SETCLAMP hold while Tp lies outside the tags in force (R264). -/
def State.takeSetTarget (s : State) : State :=
  let tp := s.sfld .snkPaneltTp
  let aim := fun (g : GrainCopy) => { g with target := g.targetFor tp }
  let s := (s.onCopy 0 aim).onCopy 1 aim
  match s.inForce with
  | none => (s.setFld .grnSetstatOutside 0).lower srcGrnSetclamp
  | some c =>
    let g := s.copy c
    let out := decide (2 ≤ g.nsets) && (decide (tp < g.tags.getD 0 0) || decide (g.tags.getD (g.nsets - 1) 0 < tp))
    ((s.setFld .grnSetstatTarget g.target).setFld .grnSetstatOutside (bit out)).level srcGrnSetclamp out

/-- The set positions move at a catch (R264). -/
def State.moveSets (s : State) : State :=
  let n := max 1 (s.fld .grnCtrlSetslew)
  let move := fun (g : GrainCopy) => { g with pos := slewTo g.pos g.target n }
  let s := (s.onCopy 0 move).onCopy 1 move
  match s.inForce with
  | none => s.setFld .grnSetstatPos 0
  | some c => s.setFld .grnSetstatPos (s.copy c).pos

/-- Bring-up of a table at start (R281): the slot of the selection record, else the other with TABFAIL, else none with NOGRAIN. -/
def State.bringUpGrain (s : State) : State :=
  let file := fun (c : Nat) => (⟨s.boot.flash, grainSlot c⟩ : TableFile)
  let ok := fun (c : Nat) => s.tableErr (file c) none == 0
  let pick := match s.selected with
    | none => none
    | some c => if ok c then some (c, false) else if ok (1 - c) then some (1 - c, true) else none
  match pick with
  | none => ((s.setFld .grnTabstatInforce 0).showCopies.showCurves).raise srcGrnNograin
  | some (c, fell) =>
    let s := (s.expand (file c) c).onCopy c (fun g => { g with ready := true, persist := true, target := g.targetFor (s.sfld .snkPaneltTp) })
    let s := (s.setFld .grnCtrlTabsel c).setFld (Fld.shadow .grnCtrlTabsel) c
    let s := (s.enforce c).setFld .grnTabstatBurnpos 256
    if fell then s.raise srcGrnTabfail else s

end Sys2Proof.Machine
end

