-- ==== Sys2Proof/Machine/Scan.lean ====
section
/-!
DEFINITION. The tile's frame store and scan-out (spec/08, R212 to R232): receiving regions, conversions and refreshes, the flips of a catch, HOLD, the schedule in force, and the picture checks of a tile. The catch itself is in Machine/Catch.lean.
-/

namespace Sys2Proof.Machine

/-! ### Figures of the profile (R212, R214, R216) -/

/-- Ts, Tv and the line-slot budget of the profile in force (R212, R216). -/
def State.showSlots (s : State) : State :=
  match s.boot.profile with
  | none => s
  | some p =>
    let s := (s.setFld .scnSlotlen (slotQuarterPs p.pwmBits / qNs)).setFld .scnViewlen (p.viewQ / qNs)
    let s := (s.setFld .scnSlotdemand (slotDemand p)).setFld .scnSlotceil (slotCeiling p.pwmBits)
    s.setSfld .scnSlotmargin ((slotCeiling p.pwmBits : Int) - slotDemand p)

/-- A tile with no valid schedule takes the packed one, or keeps every sink off with LAYOUT (R214). -/
def State.packSchedule (s : State) : State :=
  match s.boot.profile with
  | none => s
  | some p =>
    if p.layoutOk (p.packed.map (·.start)) then
      (({ s with scan.sched := p.packed } : State).setFld .scnStatLayoutok 1).showSchedule p.packed
    else (({ s with scan.sched := [] } : State).setFld .scnStatLayoutok 0).raise srcScnLayout

/-- The schedule of a received marker is judged (R214): a valid one comes into force; another is not applied and LAYOUT holds. -/
def State.takeSchedule (s : State) (views : List ViewSched) : State :=
  match s.boot.profile with
  | none => s
  | some p =>
    if views.length == p.views && p.layoutOk (views.map (·.start)) then
      (({ s with scan.sched := views, scan.haveSched := true } : State).setFld .scnStatLayoutok 1).lower srcScnLayout
    else
      let s := s.raise srcScnLayout
      if s.scan.haveSched then s else s.packSchedule

/-! ### Receiving a region (R217, R218, R232) -/

/-- Samples of a region. -/
def State.regionSamples (s : State) : Nat := 3 * s.tilePixels

/-- Cells of a region (R217). -/
def State.regionCells (s : State) : Nat := (s.regionSamples + 63) / 64

/-- A view's region is complete: every cell is in its map (R217). -/
def State.regionComplete (s : State) (v : Nat) : Bool :=
  decide (0 < s.regionCells) && (List.range s.regionCells).all (fun i => (s.view v).cells.contains i)

/-- A buffer with samples written from sample `i` on; none past the region's end. -/
def putSamples (buf : List (Nat × Nat)) (lim i : Nat) : List Nat → List (Nat × Nat)
  | [] => buf
  | x :: xs => putSamples (if i < lim then assocPut buf i 0 (x % 65536) else buf) lim (i + 1) xs

/-- A VIDEO cell is written into the receiving buffer (R217): rows that it touches are to be converted (again), and a refresh of the view
is abandoned or its result discarded (R220, R222). -/
def State.writeCell (s : State) (c : VideoCell) : State :=
  let w := 3 * s.fld .snkStatTw
  let lo := 64 * c.index / max 1 w
  let hi := (64 * c.index + 63) / max 1 w
  let f := fun (v : ScanView) =>
    { v with recv := putSamples v.recv s.regionSamples (64 * c.index) (c.samples.take 64),
             cells := if v.cells.contains c.index then v.cells else v.cells ++ [c.index],
             rows := v.rows.filter (fun r => decide (r < lo) || decide (hi < r)),
             refreshing := false, refreshed := false }
  let s := s.onView c.view f
  s.setFld (.scnViewbufComplete c.view) (bit (s.regionComplete c.view))

/-- The tile consumes a VIDEO cell (R217, R218, R232), or counts it in BADCELL: a view whose frame store is under test loses its region
(R386). DEDUCED: a test of the drive-code store, group 14, leaves the cells of every view (log entry 134). -/
def State.consumeVideo (s : State) (c : VideoCell) : State :=
  if !s.scan.windowOpen || s.prof (·.views) ≤ c.view || s.regionCells ≤ c.index then s.bump .scnBadcell 1
  else if s.bist.running.contains (10 + c.view) then
    let lost := if s.bist.lostViews.contains c.view then s.bist.lostViews else s.bist.lostViews ++ [c.view]
    ({ s with bist.lostViews := lost } : State).bump .scnBadcell 1
  else s.writeCell c

/-- TILE_VIDEO_CELL_RX: a sound VIDEO cell arrives (R201, R217). -/
def videoCell (s : State) (n l : Nat) (c : VideoCell) : State :=
  let r := s.route n l c.pos false (.video c)
  if r.2 then r.1.consumeVideo c else r.1

/-- TILE_VIDEO_CELL_RX (R217). -/
def execTileVideoCellRx (port lane : Nat) (cell : VideoCell) (damage : CellDamage) (s : State) : Result :=
  run s fun s => s.arrive port lane damage (s.through port cell.pos false) (videoCell · port lane cell)

/-! ### Conversions (R220, R222, R226, R260) -/

/-- Every sample of pixel row `row` of the receiving buffer is present (R220). -/
def State.rowPresent (s : State) (v row : Nat) : Bool :=
  let w := 3 * s.fld .snkStatTw
  decide (row < s.fld .snkStatTh) &&
    (List.range (w + 64)).all (fun i => decide (w ≤ i) || (s.view v).cells.contains ((w * row + i) / 64))

/-- GRN converts: its READY is set, the map is valid, no supply warning stands, DC0 is not in training, and neither GRN nor the drive-code store
is under test (R220, R232, R307, R386). -/
def State.converts (s : State) : Bool :=
  s.isTile && testBit s.boot.ready 9 && s.flag .snkStatMapok && !s.boot.warning && s.dram.training.isNone && !s.testing 9 && !s.bist.running.contains 14

/-- ROW_CONVERTED: a pixel row's conversion completes (R220). A row of the front buffer whose conversion was late at the flip goes into the
driving codes; a row of the receiving buffer goes into the preparing codes. A conversion that reads a poisoned block of a working copy does not
complete (R285). -/
def rowConverted (s : State) (v row : Nat) : State :=
  if !s.converts || s.prof (·.views) ≤ v then s
  else if !s.poisonedCopies.isEmpty then s.mendCopies
  else
    let x := s.view v
    if x.late.contains row then
      let ws := s.convertRow x.front row
      (s.onView v (fun x => { x with drive := putWords x.drive ws, late := x.late.filter (· != row) })).countClips ws
    else if s.rowPresent v row then
      let ws := s.convertRow x.recv row
      (s.onView v (fun x => { x with prep := putWords x.prep ws, rows := if x.rows.contains row then x.rows else x.rows ++ [row] })).countClips ws
    else s

/-- ROW_CONVERTED (R220). -/
def execRowConverted (view row : Nat) (s : State) : Result := run s (rowConverted · view row)

/-- REFRESH_DONE: a refresh of a view that did not flip completes: its front buffer stands converted in the preparing codes (R222). -/
def refreshDone (s : State) (v : Nat) : State :=
  if !s.converts || !(s.view v).refreshing then s
  else if !s.poisonedCopies.isEmpty then s.mendCopies
  else
    let ws := (List.range (s.fld .snkStatTh)).flatMap (s.convertRow (s.view v).front)
    let s := s.onView v (fun x => { x with prep := putWords x.prep ws, refreshing := false, refreshed := true })
    (s.countClips ws).bump .scnRefreshes 1

/-- REFRESH_DONE (R222). -/
def execRefreshDone (view : Nat) (s : State) : Result := run s (refreshDone · view)

/-- HOLD_LIMIT_EXPIRY: HOLD_LIMIT has elapsed in HOLD: the hold colour is converted, as a received code, for every lamp of every view
(R226). While GRN does not convert, it waits for the first catch at which it does (R232). -/
def holdLimit (s : State) : State :=
  if !s.flag .scnStatHold || s.scan.holdDue then s
  else if !s.converts then { s with scan.holdWait := s.isTile }
  else if !s.poisonedCopies.isEmpty then { s.mendCopies with scan.holdWait := true }
  else
    let code := [s.fld .scnHoldrgR, s.fld .scnHoldrgG, s.fld .scnHoldbB]
    let ws := (List.range s.tilePixels).flatMap (fun n => s.convertPixel n code)
    let s := { s with scan.holdDue := true, scan.holdWait := false }
    iterate (s.prof (·.views)) (fun s v =>
      (s.onView v (fun x => { x with hold := some (putWords [] ws) })).countClips ws) s

/-- HOLD_LIMIT_EXPIRY (R226). -/
def execHoldLimitExpiry (s : State) : Result := run s holdLimit

/-! ### At the catch (R221 to R223, R226, R227) -/

/-- A view flips to the region received (R221): receiving becomes front, preparing becomes driving; rows not converted yet are late. With GRN under
test (`keep`) the driving codes stay (R386). -/
def ScanView.flip (x : ScanView) (keep : Bool) (th stroke : Nat) : ScanView :=
  { x with front := x.recv, recv := x.front, drive := if keep then x.drive else x.prep, prep := if keep then x.prep else x.drive,
           region := stroke, shown := true, late := if keep then [] else (List.range th).filter (fun r => !x.rows.contains r), hold := none, showsHold := false,
           refreshing := false, refreshed := false, rows := [] }

/-- A view that does not flip (R221, R222, R226): it takes the codes of a completed refresh, or of the hold colour once converted; a
refresh starts unless it drives the hold colour or REFRESH is clear. -/
def ScanView.keep (x : ScanView) (unchanged refresh : Bool) (stroke : Nat) : ScanView :=
  let x := if unchanged then { x with region := stroke } else x
  let x := if x.refreshed then { x with drive := x.prep, late := [] } else x
  let x := match x.hold with
    | some ws => { x with drive := ws, late := [], showsHold := true, hold := none }
    | none => x
  { x with refreshing := refresh && !x.showsHold, refreshed := false, rows := [] }

/-- A view keeps its driving codes while DC0 is in training (R307). -/
def ScanView.stay (x : ScanView) : ScanView := { x with refreshing := false, refreshed := false, rows := [] }

/-- View `v` at the catch of `stroke` (R221). While DC0 is in training it does not flip, and a region that arrived counts as incomplete (R307). -/
def State.flipView (unchanged : Bool) (stroke : Nat) (s : State) (v : Nat) : State :=
  let x := s.view v
  if s.dram.training.isSome && (x.complete || !unchanged) then
    (((s.onView v ScanView.stay).setFldBit .scnStatFlipped v false).bump .scnIncomplete 1).raise srcScnIncomplete
  else if x.complete then
    let s := s.onView v (fun x => x.flip (s.testing 9) (s.fld .snkStatTh) stroke)
    let s := (s.setFldBit .scnStatFlipped v true).setFld (.scnViewbufFront v) (1 - s.fld (.scnViewbufFront v))
    (s.setFld (.scnViewbufRefreshed v) 0).setFld (.scnViewbufRegion v) stroke
  else
    let s := s.onView v (fun x => x.keep unchanged (s.flag .scnCtrlRefresh && !s.bist.running.contains (10 + v)) stroke)
    let s := if (s.view v).showsHold then s.setFld (.scnViewbufRefreshed v) 0
      else if x.refreshed then s.setFld (.scnViewbufRefreshed v) 1 else s
    let s := s.setFldBit .scnStatFlipped v false
    if unchanged then (s.bump .scnStatics 1).setFld (.scnViewbufRegion v) stroke
    else (s.bump .scnIncomplete 1).raise srcScnIncomplete

/-- The flips of the catch of `stroke` (R220, R221, R223, R226, R227). -/
def State.flips (s : State) (unchanged : Bool) (stroke : Nat) : State :=
  let n := s.prof (·.views)
  let complete := (List.range n).all (fun v => (s.view v).complete && (List.range (s.fld .snkStatTh)).all (fun r => (s.view v).rows.contains r))
  let s := iterate n (State.flipView unchanged stroke) s
  let s := { s with scan.qualified := complete && decide (0 < n) && s.dram.training.isNone }
  let s := if (List.range n).all (fun v => (s.view v).region == stroke) then s.setFld .scnLastfull stroke else s
  let held := (List.range n).any (fun v => (s.view v).showsHold)
  (s.setFld .scnStatHoldcol (bit held)).setFld .scnStatStatic (bit unchanged)

/-- The stroke `ended` was witnessed or not (R225): an unwitnessed one is counted, a witnessed one is noted and ends HOLD. -/
def State.countWitness (s : State) (ended : Nat) : State :=
  if s.scan.witnessed then
    ({ s with scan.unwitnessed := 0, scan.witnessed := false, scan.holdEnds := s.flag .scnStatHold } : State).setFld .scnWitness ended
  else { s with scan.unwitnessed := s.scan.unwitnessed + 1 }

/-- HOLD is entered or left at a catch (R225, R227). -/
def State.judgeHold (s : State) : State :=
  let drop := fun (x : ScanView) => { x with hold := none }
  let s := if s.scan.holdEnds then
      let s := { s with scan.holdEnds := false, scan.holdDue := false, scan.holdWait := false, scan.views := s.scan.views.map drop }
      ((s.setFld .scnStatHold 0).setFld .devModestatHold 0).lower srcScnHold
    else s
  if max 1 (s.fld .scnCtrlHoldenter) ≤ s.scan.unwitnessed && !s.flag .scnStatHold then
    (((s.setFld .scnStatHold 1).setFld .devModestatHold 1).bump .scnHolds 1).raise srcScnHold
  else s

/-- The receive window of the next region opens at the catch: every cell map is cleared (R218). What the last latch instant recorded is over. -/
def State.openWindows (s : State) : State :=
  let clear := fun (x : ScanView) => { x with cells := [], rows := [], complete := false }
  let s := { s with scan.windowOpen := true, scan.views := s.scan.views.map clear }
  iterate 4 (fun s v => s.setFld (.scnViewbufComplete v) 0) s

/-- The receive window closes at the latch instant, and each view's completeness is recorded (R218). -/
def State.closeWindows (s : State) : State :=
  let s := iterate 4 (fun s v =>
    let c := s.regionComplete v && decide (v < s.prof (·.views))
    s.onView v (fun x => { x with complete := c })) s
  { s with scan.windowOpen := false }

/-! ### Picture checks in a tile (R228 to R230) -/

/-- Window `w` is computed in this tile (R228). -/
def State.windowHere (s : State) (w : Nat) : Bool :=
  Reader.windowOn s.reg (s.prof (·.views)) (s.fld .snkStatTw) (s.fld .snkStatTh) w && s.flag .snkStatMapok && !s.testing 8

/-- The pixels of window `w` by number, in tile order. -/
def State.windowList (s : State) (w : Nat) : List Nat :=
  (List.range (s.fld (.pckWinH w))).flatMap (fun j => (List.range (s.fld (.pckWinW w))).map (fun i =>
    (s.fld (.pckWinV w) + j) * s.fld .snkStatTw + s.fld (.pckWinU w) + i))

/-- The RX value of window `w` over the front buffer of its view (R229). -/
def State.rxCrc (s : State) (w : Nat) : Word :=
  let buf := (s.view (Reader.windowView s.reg w)).front
  crc32 ((s.windowList w).flatMap (fun n => pxBytes ⟨numAt buf (3 * n), numAt buf (3 * n + 1), numAt buf (3 * n + 2)⟩))

/-- The bytes of a drive word, most significant first (R229). -/
def wordBytes (w : Nat) : List Byte := (leBytes 4 w).reverse

/-- The COR or DRV value of window `w` over drive words by lamp index (R229). -/
def State.driveCrc (s : State) (w : Nat) (word : Nat → Nat) : Word :=
  crc32 ((s.windowList w).flatMap (fun n => (List.range s.prim).flatMap (fun q => wordBytes (word (n * s.prim + q)))))

/-- A pixel row of window `w` was in a line slot that was filled (R229). -/
def State.windowFilled (s : State) (v w : Nat) : Bool :=
  (List.range (s.fld (.pckWinH w))).any (fun j => s.scan.filled.contains (256 * v + s.fld (.pckWinV w) + j))

/-- The DRV comparison of one window at the end of a view slot (R229). `upset` gives lamps whose word at the sink latches differs from the
driving code, `off` says that the sinks were held off, so that no DRV value is taken. -/
def State.compareWindow (v : Nat) (off : Bool) (upset : List (Nat × Nat)) (s : State) (w : Nat) : State :=
  if !s.windowHere w || Reader.windowView s.reg w != v then s
  else
    let code := numAt (s.view v).drive
    let latched := fun n => sparseGet code upset n
    let cor := s.driveCrc w code
    let drv := s.driveCrc w latched
    let s := s.setLiveFld (.pckCorcrc w) cor.toNat
    let s := if off then s else s.setLiveFld (.pckDrvcrc w) drv.toNat
    if off || !s.flag .pckCtrlDrven || s.windowFilled v w then s
    else
      let s := { s with scan.drvValid := setBit s.scan.drvValid w true }
      if cor == drv then s
      else (({ s with scan.drvFail := setBit s.scan.drvFail w true } : State).bump .pckDrvmismatch 1).raise srcPckDrvmismatch

/-- VIEW_SLOT_END: a view slot ends, and DRV is compared with COR for each of its windows (R229). Nothing is compared while the sinks
were held off in any part of the stroke. The rows go idle with ROWADDR at the first row of the next view slot (R246). -/
def viewSlotEnd (s : State) (v : Nat) (upset : List (Nat × Nat)) : State :=
  if !s.isTile then s
  else
    let off := s.sinksOff || s.lamp.dark
    let s := if s.prof (·.views) ≤ v then s else iterate 8 (State.compareWindow v off upset) s
    let s := ({ s with scan.filled := s.scan.filled.filter (fun x => x / 256 != v) } : State).idleRows
    if off then s else { s with lamp.rowAddr := scanRow (s.fld .ltbRowcfgRowfirst) 0 (s.prof (·.rows)) 0 }

/-- VIEW_SLOT_END (R229). -/
def execViewSlotEnd (view : Nat) (upset : List (Nat × Nat)) (s : State) : Result := run s (viewSlotEnd · view upset)

/-- CHECK for the stroke that ends (R230), as it goes into the next HEALTH and into the SNP fields of PCK; the stroke's results start afresh. -/
def State.takeCheck (s : State) : State × HealthCheck :=
  let on := fun w => s.windowHere w && (s.view (Reader.windowView s.reg w)).shown
  let valid := (List.range 8).foldl (fun n w => setBit n w (on w)) 0
  let c : HealthCheck :=
    { valid := valid, drvFail := s.scan.drvFail, drvValid := s.scan.drvValid, gen := s.fld .pckCtrlGen, shown := s.stroke,
      crcs := (List.range 8).map (fun w => if on w then s.rxCrc w else 0),
      regions := (List.range 8).map (fun w => if on w then (s.view (Reader.windowView s.reg w)).region % 65536 else 0) }
  let s := iterate 8 (fun s w => if on w then s.setLiveFld (.pckRxcrc w) (c.crcs.getD w 0).toNat else s) s
  let s := ((s.setLiveFld .pckChkstatValid valid).setLiveFld .pckChkstatDrvfail c.drvFail).setLiveFld .pckChkstatDrvvalid c.drvValid
  ({ s with scan.drvFail := 0, scan.drvValid := 0, scan.filled := [], scan.underSeen := false }, c)

end Sys2Proof.Machine
end

