-- ==== Sys2Proof/Machine/Commit.lean ====
section
/-!
DEFINITION. Commits (spec/02, R33 to R39): acceptance, the checks of ranges and budgets, lateness, groups, the latch, and the catch at which captured words become live. Which pages answer in the current role (R3).
-/

namespace Sys2Proof.Machine

/-! ### Pages in role (R3, R427) -/

/-- The page answers in the current role and configuration (R3, R427). With no role only the pages of both roles answer. -/
def State.answers (s : State) (page : Nat) : Bool :=
  match pageInfo page with
  | none => false
  | some p => match p.roles with
    | .both => true
    | .sender => s.isSender
    | .tile => s.isTile
    | .paired => s.isSender && s.prof (·.pair) == 1
    | .chain => s.isSender || (s.isTile && decide (page < 0x142))
    | .dram => page == 0x150 || (s.isSender && testBit (s.prof (·.dramPop)) (page - 0x150))

/-! ### The words that a commit would put in force (R33, R37) -/

/-- The bits of the word at an address that are RWS fields: none where the register is not shadowed. -/
def rwsMask (a : Nat) : Word :=
  match pageInfo (a / 4096) with
  | none => 0
  | some p =>
    match findReg p.type (a % 4096) with
    | none => 0
    | some r => if r.shadowed then r.fields.foldl (fun (w : Word) f =>
        if f.access = .rws then w ||| Word.ofNat ((2 ^ f.width - 1) * 2 ^ f.lo) else w) 0 else 0

/-- The live word with its RWS bits taken from a captured one. -/
def takeRws (a : Nat) (live captured : Word) : Word := (captured &&& rwsMask a) ||| (live &&& ~~~rwsMask a)

/-- The registers as they would stand with the shadows of `pages` in force. -/
def State.withShadows (s : State) (pages : List Nat) : Reader := fun a =>
  if pages.contains (a / 4096) && decide (a % 4096 < 0x800) then takeRws a (s.reg a) (s.reg (a + 0x800)) else s.reg a

/-- The offsets of a register array. -/
def RegSpec.offsets (r : RegSpec) : List Nat :=
  (List.range r.count).flatMap (fun i => (List.range r.count2).map (fun j => r.off + r.stride * i + r.stride2 * j))

/-- The live addresses of the shadowed registers of a page. -/
def shadowedAddrs (page : Nat) : List Nat :=
  match pageInfo page with
  | none => []
  | some p => (p.type.regs.filter (·.shadowed)).flatMap (fun r => r.offsets.map (fun o => 4096 * page + o))

/-- Every RWS field of a page whose range the tables state lies within it (R37). -/
def Reader.rangesOk (rd : Reader) (page : Nat) : Bool :=
  match pageInfo page with
  | none => true
  | some p => (p.type.regs.filter (·.shadowed)).all (fun r => r.fields.all (fun f =>
      match f.limit with
      | .refuse lo hi => r.offsets.all (fun o =>
          let v := Fld.get ⟨0, f.lo, f.width⟩ (rd (4096 * page + o))
          decide (lo ≤ v) && decide (v ≤ hi))
      | _ => true))

/-! ### The schedule that a sender's fields ask for (R101, R102) -/

/-- START of view `v` that a configuration asks for (R101). -/
def State.wantedStart (s : State) (rd : Reader) (v : Nat) : Nat :=
  if v == 0 then 0
  else
    let src := rd.fld (.stkViewcfgSrc v)
    let off := rd.fld (.stkViewcfgOffset v)
    if src == 0 then off else (meanUs (s.time.shut.getD (src - 1) ShutState.reset).phases + off) % s.strokeUs

/-- A view may start at `x` µs after the view before it started at `prev` (R213): a view slot and 40 ns lie between, and its own
slot and the feather interval still fit. -/
def Profile.startOk (p : Profile) (first : Bool) (prev x : Nat) : Bool :=
  (first && x == 0 || !first && decide (prev * 1000 * qNs + p.viewQ + 40 * qNs ≤ x * 1000 * qNs)) &&
    decide (x * 1000 * qNs + p.viewQ + p.feather * 1000 * qNs ≤ p.strokeNs * qNs)

/-- The STARTs that come into force for the next stroke (R102), with whether each is or was valid, whether a view kept an earlier START,
and whether a view has no START that fits. -/
structure Starts where
  list : List (Nat × Bool)
  clamped : Bool
  failed : Bool
  deriving DecidableEq, Repr

/-- One view of `Starts`: the START asked for, else the previous one, else the fixed OFFSET. -/
def State.nextStart (s : State) (p : Profile) (rd : Reader) (x : Starts) (v : Nat) : Starts :=
  let prev := (x.list.getLast?.map (·.1)).getD 0
  let want := s.wantedStart rd v
  let old := s.time.starts.getD v (0, false)
  let off := rd.fld (.stkViewcfgOffset v)
  if p.startOk (v == 0) prev want then { x with list := x.list ++ [(want, true)] }
  else if old.2 then { x with list := x.list ++ [old], clamped := true }
  else if p.startOk (v == 0) prev off then { x with list := x.list ++ [(off, true)], clamped := true }
  else { x with list := x.list ++ [(off, false)], clamped := true, failed := true }

/-- The STARTs of every view in force (R102). -/
def State.starts (s : State) (p : Profile) (rd : Reader) : Starts :=
  (List.range p.views).foldl (s.nextStart p rd) ⟨[], false, false⟩

/-! ### The further range conditions of the chapters (REASON 2) -/

/-- A layer slot's fields (R157 to R160): KIND 2 stands in slot 0 only, and an underlay layer's other fields are ignored. -/
def Reader.layerOk (rd : Reader) (v i : Nat) : Bool :=
  let cnv := rd.fld (.vwLctrlCnv v i)
  let step := fun x => decide (0x1000 ≤ x) && decide (x ≤ 0x80000)
  if rd.fld (.vwLctrlKind v i) = 2 then i == 0
  else
    (decide (cnv < 16) || cnv == 31) && step (rd.fld (.vwLstepx v i)) && step (rd.fld (.vwLstepy v i)) &&
      (rd.fld (.vwLctrlKeyen v i) == 0 || decide (rd.fld (.vwLkeyKlo v i) < rd.fld (.vwLkeyKhi v i)))

/-- The writeback surfaces of a view (R169). -/
def State.backOk (s : State) (rd : Reader) (v : Nat) : Bool :=
  let n := rd.fld (.vwCtrlWbn v)
  rd.fld (.vwCtrlWben v) == 0 ||
    (decide (rd.fld .stkCtrlLead + 2 ≤ n) && decide (n ≤ 8) && (List.range n).all (fun i =>
      s.rgbSurface (rd.fld (.vwCtrlWbfirst v) + i) (rd.fld .cmpCanvasWidth) (rd.fld .cmpCanvasHeight)))

/-- The gap events of LTB.ROWTIME (R245). -/
def Reader.rowtimeOk (rd : Reader) : Bool :=
  let off := rd.fld .ltbRowtimeRowoff
  let don := rd.fld .ltbRowtimeDischon
  let adr := rd.fld .ltbRowtimeAddrchg
  let dof := rd.fld .ltbRowtimeDischoff
  let on := rd.fld .ltbRowtimeRowon
  decide (1 ≤ off) && decide (off < don) && decide (don ≤ adr) && decide (off + 2 ≤ adr) && decide (adr + 4 ≤ dof) &&
    decide (dof + 2 ≤ on) && decide (on ≤ 46)

/-- The lamp-map fields of a page are the same through two readers (R237). -/
def sameMap (a b : Reader) (page : Nat) : Bool :=
  if page == 0xD then (List.range 128).all (fun r => a.vbase r == b.vbase r)
  else
    let g := page - 0x160
    (List.range 64).all (fun i => a.fld (.skgSinkEn g i) == b.fld (.skgSinkEn g i) && a.fld (.skgSinkU g i) == b.fld (.skgSinkU g i) &&
      a.fld (.skgSinkQ g i) == b.fld (.skgSinkQ g i) && a.fld (.skgSinkVoff g i) == b.fld (.skgSinkVoff g i))

/-- A switch of tables may be taken (R279). -/
def State.tabselOk (s : State) (rd : Reader) : Bool :=
  rd.fld .grnCtrlTabsel == s.fld .grnCtrlTabsel || ((s.copy (rd.fld .grnCtrlTabsel)).ready && s.grain.burn.isNone)

/-- The range check of a commit on `page` as the registers would then stand (R37, R102, R155 to R160, R169, R228, R237, R244, R245, R263,
R279). -/
def State.commitRange (s : State) (rd : Reader) (page : Nat) : Bool :=
  let own := match pageInfo page with
    | none => true
    | some p => match p.type with
      | .stk => decide (2 * (Fld.get .stkPhase (rd (Fld.addr .stkPhase)) |> fun x => (signed 32 x).natAbs) * s.prof (·.rateNum) ≤
            s.prof (·.rateDen) * 10 ^ 9) &&
          (!s.isSender || match s.boot.profile with
            | none => true
            | some p => !(s.starts p rd).failed)
      | .cmp => decide (rd.fld .cmpCanvasWidth ≤ 16384) && decide (rd.fld .cmpCanvasHeight ≤ 8192) &&
          decide (rd.fld .cmpCanvasWidth * rd.fld .cmpCanvasHeight ≤ 8388608)
      | .vw => (List.range 16).all (rd.layerOk (page - p.first)) && s.backOk rd (page - p.first)
      | .plc => (List.range 64).all (fun i => rd.fld (.plcEntryEn (page - p.first) i) == 0 ||
          !rd.enumerated (page - p.first) i || rd.placeFits (page - p.first) i)
      | .pck => (List.range 8).all (fun w => !testBit (rd.fld .pckCtrlWinen) w ||
          (decide (1 ≤ rd.fld (.pckWinW w)) && decide (1 ≤ rd.fld (.pckWinH w))))
      | .ltb => decide (rd.fld .ltbRowcfgRowfirst < s.prof (·.rows)) &&
          Nat.gcd (rd.fld .ltbRowcfgRowstep) (s.prof (·.rows)) == 1 && rd.rowtimeOk &&
          (!s.flag .snkCtrlDrven || sameMap s.reg rd page)
      | .skg => !s.flag .snkCtrlDrven || sameMap s.reg rd page
      | .grn => s.tabselOk rd && decide (rd.fld .grnDefcurveR ≤ 4) && decide (rd.fld .grnDefcurveG ≤ 4) &&
          decide (rd.fld .grnDefcurveB ≤ 4)
      | _ => true
  rd.rangesOk page && own

/-- The guaranteed payload that a port's budget is held to: as it runs, or at the profile's lane rate over two lanes. -/
def State.portG (s : State) (n : Nat) : Nat :=
  if 2 ≤ s.fld (.chpStatState n) && s.flag (.chpCtrlEnable n) then s.chainG n
  else chainGuarantee (s.ownCap n) 2

/-- The budgets that a commit on `page` must keep (R22, R23, R162, R207, R304). -/
def State.commitBudget (s : State) (rd : Reader) (page : Nat) : Bool :=
  match s.boot.profile, pageInfo page with
  | some p, some q =>
    let compose := rd.loadFits p s.chainG && rd.dramFits p (s.fld .drcMapNch) (s.fld .drcOpstatCur) s.eccOn
    let chain := fun n => rd.chainFits n p.views p.rateNum p.rateDen (s.portG n)
    if !s.isSender then true
    else match q.type with
      | .cmp => compose
      | .vw => compose
      | .plc => compose && chain (page - q.first)
      | .kls => (List.range 8).all (fun n => !s.flag (.chpCtrlEnable n) || chain n)
      | _ => true
  | _, _ => true

/-! ### Acceptance (R34 to R37, R39) -/

/-- The target of a commit that names none (R35): the stroke after the one that the last latch instant prepared. -/
def State.computedTarget (s : State) : Nat := wrap32 (s.access.prepared + 1)

/-- The latch instant for stroke `k` has passed, or `k` lies 2^31 or more ahead (R36). -/
def State.lateFor (s : State) (k : Nat) : Bool := !strokeAfter k s.access.prepared

/-- A commit is refused with a REASON (R37). -/
def State.refuseCommit (s : State) (page reason : Nat) : State :=
  let s := { s with access.commits := s.access.commits.filter (fun c => c.page != page) }
  (s.setFld (.hdrCommitState page) 2).setFld (.hdrCommitReason page) reason

/-- The pages whose pending commits have the same target as a commit on `page` for `target`, with `page` itself. -/
def State.together (s : State) (page target : Nat) : List Nat :=
  page :: ((s.access.commits.filter (fun c => c.target == target)).map (·.page))

/-- A write of COMMIT with GO (R35 to R37, R39). -/
def commitGo (s : State) (page : Nat) (atStroke dropLate : Bool) : State :=
  match pageInfo page with
  | none => s
  | some p =>
    if !p.shadow || !s.answers page || s.fld (.hdrCommitState page) == 1 then s
    else
      let want := if atStroke then s.fld (.hdrCommitStroke page) else s.computedTarget
      let late := atStroke && s.lateFor want
      let target := if late then s.computedTarget else want
      let rd := s.withShadows (s.together page target)
      let s := (s.setFld (.hdrCommitLate page) 0).setFld (.hdrCommitReason page) 0
      if !s.commitRange rd page then s.refuseCommit page 2
      else if !s.commitBudget rd page then s.refuseCommit page 1
      else if late && dropLate then s.refuseCommit page 3
      else
        let s := ((s.setFld (.hdrCommitState page) 1).setFld (.hdrCommitLate page) (bit late)).setFld (.hdrCommitStroke page) target
        { s with access.commits := s.access.commits ++ [⟨page, target, atStroke && !late, dropLate, none⟩] }

/-- A write of COMMIT with CANCEL: a pending commit is discarded (R39). -/
def commitCancel (s : State) (page : Nat) : State :=
  if s.fld (.hdrCommitState page) != 1 then s
  else ({ s with access.commits := s.access.commits.filter (fun c => c.page != page) } : State).setFld (.hdrCommitState page) 0

/-- A pending or captured commit on `page` is discarded, refused with REASON `reason`; COMMIT keeps its value when there is none (R39). -/
def State.dropCommit (s : State) (page reason : Nat) : State :=
  let had := s.access.commits.any (fun c => c.page == page) || s.access.captured.any (fun e => e.1 / 4096 == page)
  if had then
    ({ s with access.captured := s.access.captured.filter (fun e => e.1 / 4096 != page) } : State).refuseCommit page reason
  else s

/-! ### The latch (R33, R36 to R39) -/

/-- What follows a change of live fields in a sender: an underlay build of another canvas ends (R164), composition notes the commit (R170),
and the chain budgets are judged again (R207). -/
def State.afterSenderTake (s : State) (canvas : Nat × Nat) (page : Nat) : State :=
  let t := (pageInfo page).map (·.type)
  let s := if t = some .cmp ∨ t = some .vw ∨ t = some .plc then { s with cmp.touched := true } else s
  let s := if canvas ≠ (s.fld .cmpCanvasWidth, s.fld .cmpCanvasHeight) then s.abortBuilds else s
  if t = some .plc ∨ t = some .kls ∨ t = some .cmp ∨ t = some .vw then iterate 8 State.judgeChain s else s

/-- A commit is taken for stroke `m`: the shadows are captured and, in a sender, live at once (R33). -/
def State.takeCommit (m : Nat) (s : State) (page : Nat) : State :=
  let words := (shadowedAddrs page).map (fun a => (a, s.reg (a + 0x800)))
  let s := { s with access.commits := s.access.commits.filter (fun c => c.page != page) }
  let s := ((s.setFld (.hdrCommitState page) 0).setFld (.hdrCommitTaken page) m).setFld (.hdrCommitStroke page) m
  if s.isSender then
    let canvas := (s.fld .cmpCanvasWidth, s.fld .cmpCanvasHeight)
    (words.foldl (fun s e => s.setReg e.1 (takeRws e.1 (s.reg e.1) e.2)) s).afterSenderTake canvas page
  else { s with access.captured := s.access.captured.filter (fun e => e.1 / 4096 != page) ++ words }

/-- The second validation of a commit at the latch (R37): the REASON it fails with, or 0. -/
def State.latchReason (s : State) (pages : List Nat) (page : Nat) : Nat :=
  let rd := s.withShadows pages
  if !s.commitRange rd page then 2 else if !s.commitBudget rd page then 1 else 0

/-- A commit that is due without a group is taken or refused by itself (R38). -/
def State.latchOne (m : Nat) (s : State) (c : Commit) : State :=
  let r := s.latchReason [c.page] c.page
  if r == 0 then s.takeCommit m c.page else s.refuseCommit c.page r

/-- The group of stroke `m` is taken whole or refused whole (R38). -/
def State.latchGroup (m : Nat) (s : State) (group : List Commit) : State :=
  let pages := group.map (·.page)
  let verdicts := group.map (fun c => (c.page, s.latchReason pages c.page))
  if verdicts.all (fun v => v.2 == 0) then pages.foldl (State.takeCommit m) s
  else verdicts.foldl (fun s v => s.refuseCommit v.1 (if v.2 == 0 then 4 else v.2)) s

/-- A commit whose target's latch instant passed in a freeze is late at this latch (R36, R39): refused with DROPLATE, else moved to `m`. -/
def State.moveLate (m : Nat) (s : State) (c : Commit) : State :=
  if c.target == m || strokeAfter c.target m then s
  else if c.dropLate then s.refuseCommit c.page 3
  else
    let s := (s.setFld (.hdrCommitLate c.page) 1).setFld (.hdrCommitStroke c.page) m
    { s with access.commits := s.access.commits.map (fun x => if x.page == c.page then { x with target := m, grouped := false } else x) }

/-- A commit of the journal has been latched (R328): taken for another stroke than the recorded one, or refused, it diverges. -/
def State.judgeRecorded (s : State) (c : Commit) : State :=
  match c.recorded with
  | none => s
  | some k =>
    if s.access.commits.any (fun x => x.page == c.page) then s
    else if s.fld (.hdrCommitState c.page) == 0 && s.fld (.hdrCommitTaken c.page) == k then s
    else (s.bump .pairDiverge 1).raise srcPairPairdiverge

/-- The latch instant that prepares stroke `m` (R33, R37, R38). While a supply warning stands the instant passes, so that what is accepted
later counts as late, but no latch takes place (R36, R39). -/
def latchCommits (s : State) (m : Nat) : State :=
  let s := { s with access.prepared := wrap32 m }
  if s.boot.warning then s
  else
    let before := s.access.commits
    let s := before.foldl (State.moveLate (wrap32 m)) s
    let due := s.access.commits.filter (fun c => c.target == wrap32 m)
    let s := s.latchGroup (wrap32 m) (due.filter (·.grouped))
    let t := (due.filter (fun c => !c.grouped)).foldl (State.latchOne (wrap32 m)) s
    before.foldl State.judgeRecorded t

/-! ### The catch (R33) -/

/-- A tile's captured words become live (R33). A change of lamp-map fields has the map judged again (R237), CURVEINFO follows DEFCURVE, and a
change of TABSEL switches tables (R279). -/
def State.takeCaptured (s : State) : State :=
  let words := s.access.captured
  let before := s.fld .grnCtrlTabsel
  let mapped := words.any (fun e => (e.1 / 4096 == 0xD || (decide (0x160 ≤ e.1 / 4096) && decide (e.1 / 4096 < 0x168))))
  let same := !mapped || (0xD :: (List.range 8).map (0x160 + ·)).all (fun p =>
    sameMap s.reg (fun a => match words.find? (fun e => e.1 == a) with
      | some e => takeRws a (s.reg a) e.2
      | none => s.reg a) p)
  let s := words.foldl (fun s e => s.setReg e.1 (takeRws e.1 (s.reg e.1) e.2)) { s with access.captured := [] }
  let s := if same then s else s.checkMap
  let s := if words.any (fun e => e.1 / 4096 == 0xC) then s.showCurves else s
  if s.fld .grnCtrlTabsel == before then s else s.switchTable (s.fld .grnCtrlTabsel)

end Sys2Proof.Machine
end

