-- ==== Sys2Proof/Machine/Cal.lean ====
section
/-!
DEFINITION. On-chip calibration (spec/11, R286 to R298): sequences and their steps, preconditions, result sets, the values in force, and the stored record.
-/

namespace Sys2Proof.Machine

/-! ### Kinds (R286): 1 DLY, 2 SINK, 3 SINKOFS, 4 SERVO, 5 TSENS -/

/-- The block of R11 that a kind acts on: LTB, SNK or THS. -/
def calBlock (kind : Nat) : Nat := if kind == 1 then 11 else if kind == 5 then 14 else 12

/-- Steps of a sequence (R286, R292). -/
def State.calSteps (s : State) (kind : Nat) (all : Bool) : Nat :=
  let n := (Reader.sinks s.reg).length
  match kind with
  | 1 => 4
  | 2 => (if all then 4 else 1) * max 1 ((n + 7) / 8)
  | 4 => (n + 31) / 32 + 1
  | _ => 1

/-- The span of a step in units of 1/4 ps (R286). -/
def calSpan (kind : Nat) : Nat :=
  qNs * (match kind with
    | 1 => 1500
    | 2 => 6000
    | 3 => 2000000
    | 4 => 4000
    | _ => 1000000)

/-! ### Preconditions (R288, R289) -/

/-- Condition `code` of R288 holds for a sequence. At start and while no DLY set exists, LOCKED waits for the DLY sequence itself (R242, R293),
so condition 2 is then the phase error alone. It fails once a profile switch has restarted LTB or SNK (R298). -/
def State.calHolds (s : State) (q : CalSeq) (e : CalEnv) (code : Nat) : Bool :=
  match code with
  | 1 => q.kind != 3 || decide (e.vled < 500)
  | 2 => !(q.kind == 1 || q.kind == 2 || q.kind == 4) ||
      (!q.lost && e.phaseOk &&
        ((s.flag .ltbStatLocked && decide (1 ≤ s.cal.lockedMs)) || (q.kind == 1 && (s.cal.dlyWait || s.flag .calNosetDly || q.atStart))))
  | 3 => !(q.kind == 2 || q.kind == 3) || decide (e.iset.natAbs ≤ 500)
  | 4 => !s.boot.warning && e.vddaOk
  | 5 => !(q.kind == 1 || q.kind == 2 || q.kind == 4) || decide ((s.sfld .thsTjmaxTj - q.tj0).natAbs ≤ 32)
  | 6 => !(q.kind == 3 || (q.kind == 5 && s.isTile)) || s.sinksOff
  | 7 => q.kind != 5 || decide (e.spread ≤ 64)
  | 8 => !(q.kind == 2 || q.kind == 4) || s.fld .snkStatRange == q.range0
  | _ => true

/-- The first condition of R288 that fails, or none. -/
def State.calCheck (s : State) (q : CalSeq) (e : CalEnv) : Option Nat := [1, 2, 3, 4, 5, 6, 7, 8].find? (fun c => !s.calHolds q e c)

/-- STATE and MODESTAT.CAL follow the queue and the running sequence. -/
def State.showCal (s : State) : State :=
  let st := if s.cal.applying.isSome then 3 else if s.cal.running.isSome then 2 else if s.cal.queue.isEmpty && s.cal.startKinds.isEmpty then 0 else 1
  (s.setFld .calStatState st).setFld .devModestatCal (bit (s.cal.running.isSome || s.cal.applying.isSome))

/-- The start's DLY sequence has ended: LTB reads ready once a DLY set exists, unless its self-test failed (R242, R293, R388). -/
def State.endStart (s : State) (q : CalSeq) : State :=
  if q.kind == 1 && q.atStart && !s.flag .calNosetDly && !s.bist.failed.contains 16 then
    { s with boot.ready := setBit s.boot.ready 11 true }
  else s

/-- The running sequence ends without results, with a RESULT (R289, R290, R294): the pending set is discarded, what was in force stays. -/
def State.abandonCal (s : State) (result : Nat) : State :=
  (({ s with cal.running := none } : State).setFld .calStatResult result).bump .calSeqabort 1

/-- A check fails (R289). -/
def State.calFails (s : State) (q : CalSeq) (code : Nat) (after : Bool) : State :=
  let s := ((s.setFld .calPrecondCode code).setFld .calPrecondKind q.kind).setFld .calPrecondAfter (bit after)
  (((s.setFld .calPrestroke s.stroke).abandonCal 2).raise srcCalCalPrecond).showCal.endStart q

/-- A check is made: a failure abandons the sequence, else `k` goes on (R289). -/
def State.checked (s : State) (q : CalSeq) (e : CalEnv) (after : Bool) (k : State → State) : State :=
  let s := s.setSfld .calIsetErr e.iset
  match s.calCheck q e with
  | some c => s.calFails q c after
  | none => k s

/-! ### Starting sequences (R292 to R294) -/

/-- A sequence of a kind as it starts. -/
def State.newSeq (s : State) (kind : Nat) (all atStart : Bool) : CalSeq :=
  { kind := kind, all := all, tj0 := s.sfld .thsTjmaxTj, range0 := s.fld .snkStatRange, steps := s.calSteps kind all,
    done := 0, values := [], atStart := atStart, lost := false }

/-- A sequence starts, its preconditions checked (R288). -/
def State.startSeq (s : State) (q : CalSeq) (e : CalEnv) : State :=
  let s := ((s.setFld .calStatKind q.kind).setFld .calStatProgress 0).setFld .calStatReason 0
  s.checked q e false (fun s => ({ s with cal.running := some q } : State).showCal)

/-- The next sequence starts when none runs: the start sequences in their order, then queued kinds in kind order (R293, R294). -/
def State.startNext (s : State) (e : CalEnv) : State :=
  if s.cal.running.isSome || s.cal.applying.isSome then s
  else match s.cal.startKinds with
    | k :: ks => ({ s with cal.startKinds := ks } : State).startSeq (s.newSeq k false true) e
    | [] => match [1, 2, 3, 4, 5].find? (fun k => s.cal.queue.any (fun x => x.1 == k)) with
      | none => s
      | some k =>
        let all := s.cal.queue.any (fun x => x.1 == k && x.2)
        let q := s.newSeq k all false
        ({ s with cal.queue := s.cal.queue.filter (fun x => x.1 != k) } : State).startSeq q e

/-- A request is queued, one for each kind (R294). -/
def State.requestCal (s : State) (kind : Nat) (all : Bool) : State :=
  ({ s with cal.queue := s.cal.queue.filter (fun x => x.1 != kind) ++ [(kind, all)] } : State).showCal

/-- A regatta is pending or on trial: STATE armed or trial (R298, R420). -/
def State.regattaOpen (s : State) : Bool := s.fld .updStatState == 6 || s.fld .updStatState == 7

/-- The REASON that refuses a GO, or 0 (R292, R298). -/
def State.calReason (s : State) (kind : Nat) (all : Bool) : Nat :=
  if s.cal.running.isSome || s.cal.applying.isSome then 1
  else if s.isSender && kind ≤ 4 then 2
  else if s.testing (calBlock kind) then 3
  else if s.regattaOpen then 4
  else if (kind == 3 || (kind == 5 && s.isTile) || (kind == 2 && all)) && !s.sinksOff then 5
  else 0

/-- A write of CAL.CMD with GO (R294, R298): a reserved KIND requests nothing. -/
def calGo (s : State) (kind : Nat) (all : Bool) (e : Option CalEnv) : State :=
  if kind == 0 || 5 < kind then s
  else match s.calReason kind all with
    | 0 =>
      let s := s.requestCal kind (all && kind == 2)
      match e with
      | some e => s.startNext e
      | none => s
    | r => (s.setFld .calStatResult 5).setFld .calStatReason r

/-- A write of CAL.CMD with ABORT: the running sequence ends with RESULT 4 and the CAL_PRECOND source, but records no CODE (R289, R294). -/
def calAbort (s : State) : State :=
  match s.cal.running with
  | none => s
  | some q => ((s.abandonCal 4).raise srcCalCalPrecond).showCal.endStart q

/-- CAL_AUTO_REQUEST: the MC requests a sequence itself (R294): the junction maximum has moved by TDRIFT since the kind last applied, or its
PERIOD has passed. -/
def execCalAutoRequest (kind : Nat) (env : CalEnv) (s : State) : Result :=
  run s fun s =>
    let drift := decide (16 * s.fld .calCtrlTdrift ≤ (s.sfld .thsTjmaxTj - 16 * s.sfld (.calLasttjTj (kind - 1))).natAbs)
    let period := (kind == 2 || kind == 4) && s.flag .calCtrlPeriod
    if !s.isTile || !(kind == 1 || kind == 2 || kind == 4) || !testBit (s.fld .calCtrlAuto) (kind - 1) ||
      !(drift || period) || s.regattaOpen || s.fld .devBootstatStage != 7 then s
    else if s.cal.running.isSome then s.requestCal kind false
    else (s.requestCal kind false).startNext env

/-- DLY_RETRY: after a DLY failure at start, or while no DLY set exists, the MC retries the sequence (R242, R293). -/
def execDlyRetry (env : CalEnv) (s : State) : Result :=
  run s fun s =>
    if !s.isTile || s.flag .ltbStatLocked || !(s.cal.dlyWait || s.flag .calNosetDly) || s.cal.startKinds.contains 1 || s.cal.running.any (·.kind == 1) then s
    else
      let s := { s with cal.startKinds := s.cal.startKinds ++ [1] }
      if s.cal.running.isSome then s else s.startNext env

/-! ### Steps (R286, R290, R291) -/

/-- Where a step placed in service falls (R291): window and start in 1/4 ps after the catch. -/
def State.calPlace (s : State) (span : Nat) : Option (Nat × Nat) :=
  let ws := s.freeWindows
  let at_ := fun (i : Nat) =>
    let w := ws.getD i (0, 0, 0)
    if s.cal.placed != 0 && i == s.cal.window then s.cal.free else w.2.1 + 3000 * qNs
  let fits := fun (i : Nat) =>
    let w := ws.getD i (0, 0, 0)
    decide (s.cal.placed = 0 ∨ s.cal.window ≤ i) && decide (at_ i + span + 1000 * qNs ≤ w.2.2) && s.clearOfExposure (at_ i) span
  ((List.range ws.length).find? fits).map (fun i => (i, at_ i))

/-- The sinks of SINK step `k`, or of SERVO step `k`, `n` to a step. -/
def State.stepSinks (s : State) (n k : Nat) : List Nat := ((Reader.sinks s.reg).drop (n * k)).take n

/-- TRIM and WOFF of a sink from its four measurements (R286): tier 0 and tier 3 currents in nA, and the charges of pulses of 64 and 4,160
steps; none when a result cannot be put in force (R290). -/
def State.sinkResult (range told : Nat) (i0 i3 q64 q4160 : Int) : Option (Int × Int) :=
  let target : Int := rangeMa range * 10 ^ 6
  if i0 ≤ 0 || q4160 ≤ q64 then none
  else
    let t := roundDiv ((128 + told) * target) i0.toNat - 128
    let w := -(roundDiv (4160 * q64 - 64 * q4160) (q4160 - q64).toNat)
    let err := (64 * i3 * (128 + t) - target * (128 + told)).natAbs
    if t < 0 || 255 < t || w < -32 || 31 < w || target.toNat * (128 + told) < 500 * err then none else some (t, w)

/-- The results of SINK step `k`: sink, TRIM and WOFF of each, and the first sink that fails. -/
def State.sinkStepResults (s : State) (q : CalSeq) (values : List Int) : List Int × Option Nat :=
  let per := max 1 (s.calSteps 2 false)
  let range := if q.all then q.done / per else q.range0
  let sinks := s.stepSinks 8 (q.done % per)
  (List.range sinks.length).foldl (fun (acc : List Int × Option Nat) i =>
    let k := sinks.getD i 0
    let v := fun j => values.getD (4 * i + j) 0
    match State.sinkResult range (s.fld (.skgSinkTrim (k / 64) (k % 64))) (v 0) (v 1) (v 2) (v 3) with
    | some (t, w) => (acc.1 ++ [t, w], acc.2)
    | none => (acc.1 ++ [0, 0], if acc.2.isNone then some k else acc.2)) ([], none)

/-- The results of a step and the first failing item (R286, R290). DLY: physical elements of 16 taps. SINKOFS: an offset of each sink.
SERVO: four comparator offsets in mV of each sink, and in its last step the divider ratio. TSENS: eight raw readings in 1/16 °C, then gain and
offset of the TEMP_EXT converter. -/
def State.stepResults (s : State) (q : CalSeq) (values : List Int) : List Int × Option Nat :=
  match q.kind with
  | 1 =>
    let v := (List.range 16).map (fun i => values.getD i 0)
    let l := q.values ++ v
    (v, (List.range (l.length - 1)).find? (fun i => decide (l.getD (i + 1) 0 < l.getD i 0)) |>.map (· + 1))
  | 2 => s.sinkStepResults q values
  | 3 => ((List.range 512).map (fun i => values.getD i 0), none)
  | 4 =>
    let sinks := s.stepSinks 32 q.done
    if sinks.isEmpty then ([values.getD 0 0], none)
    else
      let v := (List.range (4 * sinks.length)).map (fun i => values.getD i 0)
      (v, ((List.range v.length).find? (fun i => decide (60 < (v.getD i 0).natAbs))).map (fun i => sinks.getD (i / 4) 0))
  | _ =>
    let raw := (List.range 8).map (fun i => values.getD i 0)
    let sum := raw.foldl (· + ·) 0
    let ofs := raw.map (fun r => roundDiv (8 * r - sum) 8)
    (ofs ++ [values.getD 8 0, values.getD 9 0], (List.range 8).find? (fun i => decide (96 < (ofs.getD i 0).natAbs)))

/-- A step runs between its two checks and its results join the pending set (R288 to R291). -/
def State.runStep (s : State) (q : CalSeq) (before after : CalEnv) (values : List Int) : State :=
  s.checked q before false (fun s =>
    let r := s.stepResults q values
    let q := { q with done := q.done + 1, values := q.values ++ r.1 }
    let s := ({ s with cal.running := some q } : State).setFld .calStatProgress q.done
    s.checked q after true (fun s =>
      match r.2 with
      | some i => (((s.setFld .calStatItem i).abandonCal 3).raise srcCalCalrange).showCal.endStart q
      | none => s))

/-- A step that no window has room for waits for the next stroke, and STEPSKIP advances (R291): no STEPS allows a 17th step. -/
def State.skipStep (s : State) : State := ({ s with cal.placed := 16 } : State).bump .calStepskip 1

/-- CAL_STEP: the next step of the running sequence, or of the next one in line (R291). While lamps are driven it needs a window, and a
stroke takes at most STEPS of them. In a supply warning the sequence pauses (R298). -/
def calStep (s : State) (before after : CalEnv) (values : List Int) : State :=
  if s.boot.warning || s.restarting || s.boot.inReset then s
  else
    let s := s.startNext before
    match s.cal.running with
    | none => s
    | some q =>
      if q.steps ≤ q.done || s.testing (calBlock q.kind) then s
      else if s.sinksOff || q.kind == 3 || q.kind == 5 then s.runStep q before after values
      else if max 1 (s.fld .calCtrlSteps) ≤ s.cal.placed then s
      else match s.calPlace (calSpan q.kind) with
        | none => s.skipStep
        | some (w, x) =>
          ({ s with cal.placed := s.cal.placed + 1, cal.window := w, cal.free := x + calSpan q.kind } : State).runStep q before after values

/-- CAL_STEP (R291). -/
def execCalStep (before after : CalEnv) (values : List Int) (s : State) : Result := run s (calStep · before after values)

/-! ### Result sets (R295 to R297) -/

/-- A junction maximum in 1/16 °C, rounded to 1 °C (R295). -/
def calTag (tj : Int) : Int := roundDiv tj 16

/-- The set that new results take, of four (R295). -/
def chooseSet (sets : List (Option CalSet)) (tag : Int) : Nat :=
  let dist := fun (i : Nat) => match sets.getD i none with
    | some x => (x.tag - tag).natAbs
    | none => 100000
  let nearest := (List.range 4).foldl (fun b i => if dist i < dist b then i else b) 0
  if dist nearest ≤ 8 then nearest
  else match (List.range 4).find? (fun i => (sets.getD i none).isNone) with
    | some i => i
    | none => nearest

/-- A value of a set (unlisted values read `d`). -/
def CalSet.val (x : CalSet) (d : Int) (i : Nat) : Int := x.values.getD i d

/-- The value in force between the sets whose tags bracket the junction maximum, or of the nearest outside them (R296), rounded. -/
def interpolate (sets : List (Option CalSet)) (tj : Int) (d : Int) (i : Nat) : Int :=
  let l := sets.filterMap id
  let below := l.filter (fun x => decide (16 * x.tag ≤ tj))
  let above := l.filter (fun x => decide (tj < 16 * x.tag))
  let lo := below.foldl (fun (b : Option CalSet) x => match b with
    | some y => if y.tag < x.tag then some x else some y
    | none => some x) none
  let hi := above.foldl (fun (b : Option CalSet) x => match b with
    | some y => if x.tag < y.tag then some x else some y
    | none => some x) none
  match lo, hi with
  | none, none => d
  | some x, none => x.val d i
  | none, some y => y.val d i
  | some x, some y =>
    roundDiv (x.val d i * (16 * y.tag - tj) + y.val d i * (tj - 16 * x.tag)) (16 * (y.tag - x.tag)).toNat

/-- Tags as CAL.SETTAG shows them: 0x80 marks an empty set. -/
def setTags (sets : List (Option CalSet)) : Nat :=
  (List.range 4).foldl (fun n i => n + (match sets.getD i none with
    | some x => unsigned 8 x.tag
    | none => 0x80) * 2 ^ (8 * i)) 0

/-- SETTAG and NOSET follow the sets. -/
def State.showSets (s : State) : State :=
  let s := iterate 4 (fun s r =>
    let sets := s.cal.sink.getD r []
    (s.setFld (.calSettag r) (setTags sets)).setFldBit .calNosetRange r (sets.all (·.isNone))) s
  (s.setFld (.calSettag 4) (setTags s.cal.dly)).setFld .calNosetDly (bit (s.cal.dly.all (·.isNone)))

/-- The tap table that the DLY sets give waits for the next catch (R296). -/
def State.computeTaps (s : State) : State :=
  if s.cal.dly.all (·.isNone) then s
  else { s with cal.tapsNext := some ((List.range 64).map (interpolate s.cal.dly (s.sfld .thsTjmaxTj) 0)) }

/-- The values in force are computed anew (R296): the tap table for the next catch, and trims and offsets written to the SKGg shadows as
initiator 2, each page committed with a computed target. -/
def State.computeCal (s : State) : State :=
  if !s.isTile then s
  else
    let tj := s.sfld .thsTjmaxTj
    let s := ({ s with cal.lastTj := tj } : State).computeTaps
    let sets := s.cal.sink.getD (s.fld .snkStatRange) []
    let put := fun (s : State) k =>
      let g := k / 64
      let i := k % 64
      let t := interpolate sets tj (if k < 512 then 128 else 0) (2 * k)
      let w := interpolate sets tj 0 (2 * k + 1)
      (s.setFld (Fld.shadow (.skgSinkTrim g i)) t.toNat).setSfld (Fld.shadow (.skgSinkWoff g i)) w
    let s := iterate 512 put s
    iterate 8 (fun s g => commitGo s (0x160 + g) false false) s

/-- The bytes of one set of the stored record: its tag, 0x80 for an empty one, and `n` values of `w` bytes, the first being value `lo`. -/
def setBytes (w lo n : Nat) (x : Option CalSet) : List Byte :=
  match x with
  | none => leBytes 1 0x80 ++ List.replicate (w * n) 0
  | some c => leBytes 1 (unsigned 8 c.tag) ++ (List.range n).flatMap (fun i => leBytes w (unsigned (8 * w) (c.val 0 (lo + i))))

/-- The stored record (R297): a sequence number, SINK, DLY, SINKOFS, SERVO and TSENS sets, then a CRC-32 (layout: log entry 19). -/
def State.calRecord (s : State) (seq : Nat) : List Byte :=
  let body := leBytes 4 seq ++ (s.cal.sink.flatMap (fun r => r.flatMap (setBytes 1 0 1024))) ++ s.cal.dly.flatMap (setBytes 2 0 64) ++
    setBytes 1 0 512 s.cal.sinkofs ++ setBytes 1 0 2048 s.cal.servo ++ setBytes 4 2048 1 s.cal.servo ++ setBytes 4 0 10 s.cal.tsens
  body ++ leBytes 4 (crc32 body).toNat

/-- Bytes of the stored record before its CRC. -/
def calBody : Nat := 4 + 16 * 1025 + 4 * 129 + 513 + 2049 + 5 + 41

/-- Base of slot `i` of the calibration area (R379). -/
def calSlot (i : Nat) : Nat := 0x10000 + 0x5000 * i

/-- The sequence number of a valid slot of the calibration area. -/
def State.calSeqOf (s : State) (i : Nat) : Option Nat :=
  let body := memRead s.boot.store (calSlot i) calBody
  if (crc32 body).toNat == memNat s.boot.store (calSlot i + calBody) 4 then some (leNat (body.take 4)) else none

/-- A passed sequence queues the record in the slot not in force (R297). -/
def State.storeCal (s : State) : State :=
  let i := match newerSlot (s.calSeqOf 0) (s.calSeqOf 1) with
    | some 0 => 1
    | _ => 0
  let seq := wrap32 (s.cal.recSeq + 1)
  ({ s with cal.recSeq := seq } : State).nvWrite (.bytes (calSlot i) (s.calRecord seq))

/-- A set of the stored record: its tag and `n` values of `w` bytes. -/
def readSet (m : List Host.Cell) (a w n : Nat) : Option CalSet :=
  if memNat m a 1 == 0x80 then none
  else some ⟨signed 8 (memNat m a 1), (List.range n).map (fun i => signed (8 * w) (memNat m (a + 1 + w * i) w))⟩

/-- The sets of the stored record that is in force, as start-up finds them (R297). TRIM bytes are unsigned. -/
def State.loadCal (s : State) : State :=
  match newerSlot (s.calSeqOf 0) (s.calSeqOf 1) with
  | none => s.showSets
  | some i =>
    let m := s.boot.store
    let a := calSlot i + 4
    let trim := fun (x : CalSet) => { x with values := (List.range 1024).map (fun j =>
      let v := x.values.getD j 0
      if j % 2 == 0 && decide (v < 0) then v + 256 else v) }
    let sink := (List.range 4).map (fun r => (List.range 4).map (fun k => (readSet m (a + 1025 * (4 * r + k)) 1 1024).map trim))
    let b := a + 16 * 1025
    let dly := (List.range 4).map (fun k => readSet m (b + 129 * k) 2 64)
    let c := b + 4 * 129
    let ofs := readSet m c 1 512
    let servo := (readSet m (c + 513) 1 2048).map (fun x =>
      { x with values := x.values ++ [signed 32 (memNat m (c + 513 + 2049 + 1) 4)] })
    let tsens := readSet m (c + 513 + 2049 + 5) 4 10
    let next := fun (k : Nat) (x : Option CalSet) => match x with
      | some y => [(k, y.values)]
      | none => []
    let s := { s with cal.recSeq := memNat m (calSlot i) 4, cal.sink := sink, cal.dly := dly, cal.sinkofs := ofs, cal.servo := servo,
                      cal.tsens := tsens, cal.nextValues := next 3 ofs ++ next 4 servo ++ next 5 tsens }
    s.showSets

/-! ### Applying a passed sequence (R295, R296) -/

/-- The values of a SINK sequence for one range as a set's 1,024 values: 128 and 0 for a sink that was not measured. -/
def State.sinkValues (s : State) (l : List Int) : List Int :=
  let sinks := Reader.sinks s.reg
  (List.range 1024).map (fun j =>
    match sinks.idxOf? (j / 2) with
    | some i => l.getD (2 * i + j % 2) 0
    | none => if j % 2 == 0 then 128 else 0)

/-- The values of a SERVO sequence: four comparator offsets of each sink, 0 for one that was not measured, and the divider ratio as value 2,048. -/
def State.servoValues (s : State) (l : List Int) : List Int :=
  let sinks := Reader.sinks s.reg
  (List.range 2048).map (fun j =>
    match sinks.idxOf? (j / 4) with
    | some i => l.getD (4 * i + j % 4) 0
    | none => 0) ++ [l.getD (4 * sinks.length) 0]

/-- The results of a sequence go into their set; the set written is answered. -/
def State.putSets (s : State) (q : CalSeq) : State × Nat :=
  let tag := calTag q.tj0
  match q.kind with
  | 1 =>
    let i := chooseSet s.cal.dly tag
    ({ s with cal.dly := listModify s.cal.dly i (fun _ => some ⟨tag, q.values⟩) }, i)
  | 2 =>
    let n := 2 * (Reader.sinks s.reg).length
    let put := fun (s : State) (r k : Nat) =>
      let sets := s.cal.sink.getD r []
      let v := s.sinkValues ((q.values.drop (n * k)).take n)
      { s with cal.sink := listModify s.cal.sink r (fun l => listModify l (chooseSet sets tag) (fun _ => some ⟨tag, v⟩)) }
    let i := chooseSet (s.cal.sink.getD q.range0 []) tag
    (if q.all then iterate 4 (fun s r => put s r r) s else put s q.range0 0, i)
  | 3 => ({ s with cal.sinkofs := some ⟨tag, q.values⟩, cal.nextValues := s.cal.nextValues.filter (·.1 != 3) ++ [(3, q.values)] }, 0)
  | 4 =>
    let v := s.servoValues q.values
    ({ s with cal.servo := some ⟨tag, v⟩, cal.nextValues := s.cal.nextValues.filter (·.1 != 4) ++ [(4, v)] }, 0)
  | _ => ({ s with cal.tsens := some ⟨tag, q.values⟩, cal.nextValues := s.cal.nextValues.filter (·.1 != 5) ++ [(5, q.values)] }, 0)

/-- The results of a passed sequence are in force (R296): LASTOK, LASTTJ, RESULT and SEQDONE say so. -/
def State.applied (s : State) (kind set : Nat) : State :=
  let s := { s with cal.applying := none }
  let s := (s.setFld (.calLastok (kind - 1)) s.stroke).setSfld (.calLasttjTj (kind - 1)) (calTag (s.sfld .thsTjmaxTj))
  (((s.setFld (.calLasttjSet (kind - 1)) set).setFld .calStatResult 1).bump .calSeqdone 1).showCal

/-- CAL_SEQUENCE_APPLY: the last check passes, the results take their set and the values in force are computed (R288, R295 to R297); in service
they come into force at a catch. A DLY pass that LOCKED waited for lets LOCKED set (R242, R293). -/
def calApply (s : State) (env : CalEnv) : State :=
  match s.cal.running with
  | none => s
  | some q =>
    if q.done < q.steps || s.boot.warning then s
    else s.checked q env true (fun s =>
      let had := !s.flag .calNosetDly
      let r := s.putSets q
      let s := { r.1 with cal.running := none }
      let s := s.showSets
      let s := s.computeCal.storeCal
      let s := if q.kind == 1 && (!had || q.atStart || s.cal.dlyWait) then
          let s := { s with cal.taps := s.cal.tapsNext.getD s.cal.taps, cal.tapsNext := none, cal.lockedMs := 0, cal.dlyWait := false }
          let s := s.endStart { q with atStart := true }
          if s.referenced then (s.setFld .ltbStatLocked 1).lower srcLtbLocklost else s
        else s
      if s.fld .devBootstatStage == 7 then ({ s with cal.applying := some (q.kind, r.2) } : State).showCal else s.applied q.kind r.2)

/-- CAL_SEQUENCE_APPLY (R296). -/
def execCalSequenceApply (env : CalEnv) (s : State) : Result := run s (calApply · env)

/-- A SKGg page has a commit that is still to come into force. -/
def State.sinkCommits (s : State) : Bool :=
  let skg := fun (p : Nat) => decide (0x160 ≤ p) && decide (p < 0x168)
  s.access.commits.any (fun c => skg c.page) || s.access.captured.any (fun e => skg (e.1 / 4096))

/-- At a catch or, in a sender, a stroke boundary: the tap table and the values that wait come into force, the sequence that brought them has
applied, and a new stroke's steps may be placed (R291, R296). -/
def State.calCatch (s : State) : State :=
  let next := s.cal.nextValues
  let kept := s.cal.inForce.filter (fun (x : Nat × List Int) => !next.any (fun (y : Nat × List Int) => y.1 == x.1))
  let s := { s with cal.placed := 0, cal.window := 0, cal.free := 0, cal.taps := s.cal.tapsNext.getD s.cal.taps, cal.tapsNext := none,
                    cal.inForce := kept ++ next }
  let s := match next.find? (fun x => x.1 == 5) with
    | none => s
    | some x => iterate 4 (fun s i =>
        (s.setSfld (.calTsofsLo i) (x.2.getD (2 * i) 0)).setSfld (.calTsofsHi i) (x.2.getD (2 * i + 1) 0)) s
  let s := { s with cal.nextValues := [] }
  match s.cal.applying with
  | none => s
  | some (kind, set) => if kind == 2 && s.sinkCommits then s else s.applied kind set

/-- THS_SAMPLE (R367); the values in force are computed anew once the junction maximum has moved by 2 °C since the last computation (R296). -/
def execThsSample (sensors : List Int) (vNum vDen : Nat) (s : State) : Result :=
  run s fun s =>
    let s := thsSample s sensors vNum vDen
    if s.isTile && !s.restarting && !s.ths.shutdown && !s.boot.inReset && decide (32 ≤ (s.sfld .thsTjmaxTj - s.cal.lastTj).natAbs) then s.computeCal else s

end Sys2Proof.Machine
end

