-- ==== Sys2Proof/Machine/Pair.lean ====
section
/-!
DEFINITION. Sender pairs (spec/13, R321 to R347): PAIR, YIELD and COX cells, formation, the claim rule, the witness rule, yield, crew change, split drive and the steps of a takeover. The application of journal records is in Machine/Port.lean.
-/

namespace Sys2Proof.Machine

/-! ### Identity, states and epochs (R321, R324) -/

/-- Base of the control-epoch record within the state records of R379 (its place is the model's, log entry 17). -/
def epochBase : Nat := 0x27400

/-- The unit's own SENDERID. -/
def State.selfId (s : State) : Nat := s.life.unitId

/-- PAIR.STAT.STATE. -/
def State.pairState (s : State) : Nat := s.fld .pairStatState

/-- DC0 is in journal retention (R312). -/
def State.retained (s : State) : Bool := s.fld .drcSrcmdState == 2

/-- DRAM goes into journal retention (R312): DC0 keeps its top segment, the other channels power down deeply. User space, the own interleaved
region, the surface descriptors and the cue queue of DC1 (R302) are lost. -/
def State.retain (s : State) : State :=
  let s := { s with dram.mem := [], dram.poison := [], cmp.table := [], cue.queue := [] }
  let s := s.channels.foldl (fun s c => (s.setFld (.dcStatSr c) (if c == 0 then 2 else 3)).setFld (.dcStatReady c) 0) s.abandonStrokes
  s.setFld .drcSrcmdState 2

/-- `s` in a state of the pair, with DEV.ROLESTAT.PAIRPOS following (R323, R334). A unit that becomes a standby with COLD set is cold: its DRAM goes
into journal retention (R331). -/
def State.setPairState (s : State) (n : Nat) : State :=
  let pos := if n == 0 then 0 else if n == 1 then 3 else if n == 2 then 1 else 2
  let s := (s.setFld .pairStatState n).setFld .devRolestatPairpos pos
  if (n == 3 || n == 4) && s.flag .pairCfgCold && !s.retained then s.retain else s

/-- The unit is a standby of its pair: ready or not ready. -/
def State.standsBy (s : State) : Bool := s.pairState == 3 || s.pairState == 4

/-- The unit is one of a pair whose profile sets PAIR 1. -/
def State.paired (s : State) : Bool := s.isSender && s.prof (·.pair) == 1

/-- The newer of two epochs under the half-range rule (R324). -/
def newerEpoch (a b : Nat) : Nat := if strokeAfter b a then b else a

/-- An epoch has been received in a COX, PAIR or YIELD cell (R324). -/
def State.sawEpoch (s : State) (e : Nat) : State :=
  { s with pairing.seen := some (match s.pairing.seen with
    | none => e
    | some x => newerEpoch x e) }

/-- The epoch stored in the event store (R324). -/
def State.storedEpoch (s : State) : Nat := memNat s.boot.store epochBase 4

/-- Control is taken with a new epoch (R324). -/
def State.takeEpoch (s : State) : State :=
  let own := newerEpoch s.storedEpoch (s.fld .pairEpoch)
  let top := match s.pairing.seen with
    | none => own
    | some x => newerEpoch own x
  let e := wrap32 (top + 1)
  (s.nvWrite (.bytes epochBase (leBytes 4 e))).setFld .pairEpoch e

/-- The COX of this unit on chain port `n` (R191). -/
def State.ownCox (s : State) (n : Nat) : CoxCell := ⟨s.selfId, s.fld .pairEpoch, s.stroke, n, false⟩

/-- A COX leaves on every chain port in service (R337). -/
def State.sendCoxAll (s : State) : State := s.servicePorts.foldl (fun s n => s.sendCell n (.cox (s.ownCox n))) s

/-! ### The PAIR cell (R321) -/

/-- The bytes of the profile fields that CONFIG covers, in the order of R323. -/
def Profile.configBytes (p : Profile) : List Byte :=
  leBytes 2 p.rateNum ++ leBytes 2 (p.rateNum / 65536) ++ leBytes 2 p.rateDen ++ leBytes 1 p.views ++ leBytes 1 p.rows ++
    leBytes 1 p.subfr ++ leBytes 1 p.pwmBits ++ leBytes 2 p.feather ++ leBytes 1 p.dramPop ++ leBytes 2 p.strokeSrc ++
    leBytes 2 p.laneRate

/-- CONFIG (R321). -/
def State.pairConfig (s : State) : Nat :=
  match s.boot.profile with
  | none => 0
  | some p => (crc32 p.configBytes).toNat

/-- JFMT of the image that runs (R407). -/
def State.jfmt (s : State) : Nat := (s.upd.running.getD 0xF 0).toNat

/-- The PAIR cell of this unit (R321). -/
def State.pairCell (s : State) : PairCell :=
  let prev := wrap32 (s.stroke + 2 ^ 32 - 1)
  let digest := fun v => match s.pairing.digests.find? (fun d => d.1 == prev && d.2.1 == v) with
    | some d => d.2.2
    | none => 0
  { senderId := s.selfId, epoch := s.fld .pairEpoch, stroke := s.stroke, state := s.pairState, xlink := s.flag .pairStatXlink,
    cold := s.flag .pairCfgCold, crewreq := s.pairState == 2 && s.pairing.crew.isSome,
    crewack := s.standsBy && s.pairing.crew.isSome, prefer := s.flag .pairCfgPrefer, lcs := s.lcs, jfmt := s.jfmt,
    split := s.fld .pairStatSplit, jseq := if s.pairState == 2 then s.pairing.prevSeq else s.fld .pairJseq,
    crewstroke := (s.pairing.crew.map (·.1)).getD 0, validto := if s.standsBy then s.fld .pairValidto else 0,
    digests := (List.range 4).map digest, fwver := s.fld .updVer, config := s.pairConfig }

/-- One PAIR cell leaves on the cross-link and on every chain port in service (R321). -/
def State.sendPair (s : State) : State :=
  if !s.paired then s else s.servicePorts.foldl (fun s n => s.sendCell n (.pair s.pairCell)) (s.sendCross (.pair s.pairCell))

/-! ### Control (R325, R334, R337) -/

/-- Tunnel requests in flight are answered TIMEOUT (R55, R334). -/
def State.timeOutTunnel (s : State) : State :=
  (s.access.tunnel.filter (fun t => !t.sent) ++ s.access.tunnel.filter (·.sent)).foldl (fun s t => s.endTunnel t t.timedOut) s

/-- A cell that a unit without control does not send (R325). -/
def Cell.controls : Cell → Bool
  | .stroke _ => true
  | .cox _ => true
  | .video _ => true
  | .cue _ _ _ => true
  | .tunreq _ => true
  | .image _ => true
  | _ => false

/-- The unit leaves control: its control and video cells stop at the next cell boundary, and a distribution in progress is abandoned (R325, R334, R412). -/
def State.leaveControl (s : State) : State :=
  let stop := fun (p : ChainPort) => { p with queue := p.queue.filter (fun x => !x.2.controls) }
  let s := { s with chain.ports := s.chain.ports.map stop }
  let s := { s with pairing.control := false, pairing.crew := none, pairing.heldMs := s.ths.uptimeMs, pairing.changedMs := s.ths.uptimeMs }
  let s := if s.upd.dist.isSome then
      iterate 8 (fun s n => if s.fld (.updDiststatState n) == 1 then s.setFld (.updDiststatState n) 3 else s)
        { s with upd.dist := none }
    else s
  s.timeOutTunnel

/-- The unit has become standby not ready: its journal starts anew with a resynchronisation (R329, R345). -/
def State.notReady (s : State) : State :=
  ({ s with pairing.joined := false, pairing.reports := [], pairing.imaged := false } : State).setPairState 4

/-- The claim rule (R325): a COX, or a PAIR cell with STATE active, of another sender with a newer epoch, or with an equal epoch and the
lower SENDERID, ends control. -/
def State.claim (s : State) (id epoch : Nat) : State :=
  if s.pairing.control && id != s.selfId &&
      (strokeAfter epoch (s.fld .pairEpoch) || (epoch == s.fld .pairEpoch && decide (id < s.selfId))) then
    let s := { s.leaveControl with pairing.active := some (id, epoch) }
    s.notReady.raise srcPairDualclaim
  else s

/-- Control is assumed under the epoch just taken (R337): a COX leaves on every port, and TAKEINFO and LASTTAKE show it. -/
def State.assumeControl (s : State) (cause : Nat) : State :=
  let s := { s with pairing.control := true, pairing.active := none, pairing.changedMs := s.ths.uptimeMs, pairing.replay := [],
                    pairing.crew := none, pairing.imaged := false, pairing.lostRun := 0 }
  ((s.setFld .pairTakeinfoCause cause).setFld .pairLasttake s.stroke).sendCoxAll

/-- Control is taken with a new epoch (R324, R337). -/
def State.takeControl (s : State) (cause : Nat) : State := s.takeEpoch.assumeControl cause

/-! ### Formation (R323) -/

/-- The unit becomes active when the pair forms, or for want of a partner (R323). -/
def State.formActive (s : State) : State := (s.setPairState 2).takeControl 6

/-- A unit of a pair decides its position on a partner's PAIR cell (R323). On a mismatch a unit that holds control keeps it under the claim rule, and
takes its position again when the mismatch ends. -/
def State.form (s : State) (c : PairCell) : State :=
  if s.lcs != c.lcs || s.pairConfig != c.config then (s.setPairState 0).raise srcPairPairmismatch
  else
    let s := s.lower srcPairPairmismatch
    if s.pairing.control then s.setPairState 2
    else if c.state == 2 then ({ s with pairing.active := some (c.senderId, c.epoch) } : State).notReady
    else if s.pairing.active.isSome then s.notReady
    else
      let pref := s.flag .pairCfgPrefer
      let mine := if pref != c.prefer then pref else decide (s.selfId < c.senderId)
      if mine then s.formActive else s.setPairState 3

/-- PAIR_FORM_TIMEOUT: no partner within 2 s of STAGE 5 and no other sender's COX for HOLDWIT strokes (R323): active, with PARTNER absent. -/
def formTimeout (s : State) : State :=
  if !s.paired || s.pairState != 1 || s.pairing.partner.isSome || s.pairing.active.isSome || s.pairing.coxAgo < s.fld .pairCfgHoldwit then s
  else
    let s := (s.formActive).setFld .pairStatPartner 0
    if s.flag .pairStatXlink then s else s.raise srcPairCrosslinkLost

/-- PAIR_FORM_TIMEOUT (R323). -/
def execPairFormTimeout (s : State) : Result := run s formTimeout

/-! ### The journal's age (R330) -/

/-- VALIDTO follows the records applied: the newest stroke whose reported JSEQ has been reached. -/
def State.moveValid (s : State) : State :=
  let got := s.fld .pairJseq
  let reached := s.pairing.reports.filter (fun r => strokeAtOrAfter got r.2)
  let s := { s with pairing.reports := s.pairing.reports.filter (fun r => !strokeAtOrAfter got r.2) }
  reached.foldl (fun s r => if strokeAfter r.1 (s.fld .pairValidto) then s.setFld .pairValidto r.1 else s) s

/-- The stale age in strokes (R330): of the standby's own VALIDTO, or of the one its partner reports to the active. -/
def State.staleAge (s : State) : Nat :=
  let v := if s.standsBy then s.fld .pairValidto else (s.pairing.partner.map (·.validto)).getD 0
  if strokeAfter s.stroke v then strokesAhead s.stroke v else 0

/-- STALEAGE, STALE and JSTALE (R330): a standby whose age exceeds STALELIM, or that has lost records. -/
def State.judgeStale (s : State) : State :=
  let stale := s.standsBy && (decide (s.fld .pairCfgStalelim < s.staleAge) || s.pairing.lostRecords)
  ((s.setFld .pairStaleageAge (min 65535 s.staleAge)).setFld .pairStatStale (bit stale)).level srcPairJstale stale

/-! ### The patrol scrub (R315, R316) -/

/-- What the MC loses with a poisoned block of a sender's local areas (R302, R315, R320): in DC0 a standby's journal record, which
leaves the journal stale until a resynchronisation (R330, R345, R347); in DC1 the queued cue that stands there, which is discarded and counted. -/
def State.loseLocal (s : State) (a : Nat) : State :=
  if !s.isSender || a < s.localBase then s
  else match s.localPlace a with
    | (0, _) => if s.standsBy then (({ s with pairing.lostRecords := true } : State).notReady).judgeStale else s
    | (1, o) =>
      if o / 64 < s.cue.queue.length then ({ s with cue.queue := s.cue.queue.eraseIdx (o / 64) } : State).bump .cueErrcnt 1 else s
    | _ => s

/-- PATROL_SCRUB: the patrol reads a block (R316): `outcome` 0 is clean, 1 corrected, 2 uncorrectable. A block of a sender's own region or
local areas has an `addr` at or above U. -/
def patrolScrub (s : State) (addr outcome syndrome : Nat) : State :=
  if s.fld .drcCfgScrubh == 0 || !s.eccOn then s
  else
    let s := s.bump .drcScrubbed 1
    let (chan, loc) := s.dramPlaceOf addr
    if outcome == 1 then s.eccCorrected chan loc 3 7 syndrome 0
    else if outcome == 2 then (s.eccPoison addr 7 syndrome 0).loseLocal addr
    else s

/-- PATROL_SCRUB (R316). -/
def execPatrolScrub (addr outcome syndrome : Nat) (s : State) : Result := run s (patrolScrub · addr outcome syndrome)

/-! ### Crew change (R342 to R344) -/

/-- The RESULT that refuses a crew change to stroke `k`, or 0 (R342), the unit's own state first. `lead` asks for the 4 strokes of a new request. -/
def State.crewRefusal (s : State) (k : Nat) (lead : Bool) : Nat :=
  let partner := s.pairing.partner
  let ready := s.pairing.heard ≤ 2 && (match partner with
    | some c => c.state == 3 && !c.cold
    | none => false)
  let stale := match partner with
    | some c => strokeAfter s.stroke c.validto && decide (s.fld .pairCfgStalelim < strokesAhead s.stroke c.validto)
    | none => true
  let split := match partner with
    | some c => c.split != 0
    | none => false
  if s.pairState != 2 then 7
  else if !ready then 3
  else if stale then 4
  else if !s.flag .pairStatXlink then 5
  else if lead && (strokesAhead k s.stroke < 4 || 2 ^ 31 ≤ strokesAhead k s.stroke) then 6
  else if split then 9
  else 0

/-- A crew change to stroke `k` is requested, or refused with its RESULT. -/
def State.requestCrew (s : State) (k : Nat) : State :=
  match s.crewRefusal k true with
  | 0 => ({ s with pairing.crew := some (k, false) } : State).setFld .pairCmdstatResult 1
  | r => s.setFld .pairCmdstatResult r

/-- A pending crew change is abandoned when a refusal condition arises (R342). -/
def State.recheckCrew (s : State) : State :=
  match s.pairing.crew with
  | none => s
  | some (k, _) =>
    if s.pairState != 2 then s
    else match s.crewRefusal k false with
      | 0 => s
      | r => ({ s with pairing.crew := none } : State).setFld .pairCmdstatResult r

/-- A write of PAIR.CMD OP 1 (R342). -/
def crewChange (s : State) (key : Nat) : State :=
  if key != 0xA5C3 then s.setFld .pairCmdstatResult 8 else s.requestCrew (s.fld .pairCrewstroke)

/-- CREW_PERIOD: CREWPER hours have passed since control changed hands (R344): the active asks for a change itself; STANDBYAGE holds while the
partner has been without control for more than twice CREWPER. -/
def crewPeriod (s : State) : State :=
  if !s.paired || s.pairState != 2 || !s.flag .pairCfgCrewper then s
  else
    let s := s.requestCrew (wrap32 (s.stroke + 8))
    let hours := (s.ths.uptimeMs - s.pairing.changedMs) / 3600000
    s.level srcPairStandbyage (decide (2 * s.fld .pairCfgCrewper < hours))

/-- CREW_PERIOD (R344). -/
def execCrewPeriod (s : State) : Result := run s crewPeriod

/-- The pictures of stroke `k` and later that have been composed are sent (R337, R343). -/
def State.sendFrom (s : State) (k : Nat) : State := (s.cmp.pictures.filter (fun p => strokeAtOrAfter p.stroke k)).foldl State.sendView s

/-- CREW_HANDOVER: the hand-over instant H (R343). The old active, once confirmed, stops and becomes standby ready; the standby takes epoch
E + 1, sends COX, becomes active and sends the video of S. A supply warning and a life-cycle transition defer the change (R26). -/
def crewHandover (s : State) : State :=
  match s.boot.warning || s.life.target.isSome, s.pairing.crew with
  | true, _ => s
  | _, none => s
  | _, some (k, acked) =>
    if s.pairState == 2 then
      match s.crewRefusal k false with
      | 0 =>
        if !acked then ({ s with pairing.crew := none } : State).setFld .pairCmdstatResult 3
        else
          let id := (s.pairing.partner.map (·.senderId)).getD 0
          let e := wrap32 (s.fld .pairEpoch + 1)
          let s := { s.leaveControl with pairing.active := some (id, e), pairing.joined := true, pairing.replay := [] }
          let s := ((s.setPairState 3).setFld .pairCmdstatResult 2).bump .pairCrewchanges 1
          (s.setFld .pairValidto s.stroke).lower srcPairStandbyage
      | r => ({ s with pairing.crew := none } : State).setFld .pairCmdstatResult r
    else if s.pairState == 3 then (((s.takeControl 5).setPairState 2).bump .pairCrewchanges 1).sendFrom k
    else { s with pairing.crew := none }

/-- CREW_HANDOVER (R343). -/
def execCrewHandover (s : State) : Result := run s crewHandover

/-! ### Yield (R334, R335) -/

/-- The active may yield: the partner reported STATE standby ready within the last two strokes, on any path (R334). -/
def State.mayYield (s : State) : Bool :=
  s.pairing.heard ≤ 2 && (match s.pairing.partner with
    | some c => c.state == 3
    | none => false)

/-- A yield of the active sender (R334): taken, or acting as a note with YIELDBLOCK. Any other unit keeps what it has. -/
def State.takeYield (s : State) (source : Nat) : State :=
  if s.pairState != 2 || !s.paired then s
  else if !s.mayYield then s.raise srcPairYieldblock
  else
    let c : YieldCell := ⟨s.selfId, s.fld .pairEpoch, s.stroke, source⟩
    let s := if s.pairing.crew.isSome then s.setFld .pairCmdstatResult 3 else s
    let s := { s with pairing.yieldOut := true }
    let s := s.servicePorts.foldl (fun s n => s.sendCell n (.yield c)) (s.sendCross (.yield c))
    ((s.leaveControl).setPairState 5).bump .pairYields 1

/-- A write of PAIR.CMD OP 2 (R334). -/
def yieldCommand (s : State) (key : Nat) : State :=
  if key != 0xA5C3 then s.setFld .pairCmdstatResult 8
  else if s.pairState != 2 then s.setFld .pairCmdstatResult 7
  else if s.mayYield then (s.setFld .pairCmdstatResult 2).takeYield 0xFFFF
  else (s.setFld .pairCmdstatResult 3).takeYield 0xFFFF

/-- A write of PAIR.CMD OP 3: a yielded unit becomes standby not ready and releases YIELD_OUT (R345). -/
def rejoin (s : State) (key : Nat) : State :=
  if key != 0xA5C3 then s.setFld .pairCmdstatResult 8
  else if s.pairState != 5 then s.setFld .pairCmdstatResult 7
  else
    let s := ({ s with pairing.yieldOut := false } : State).notReady
    (s.setFld .pairStatResync 1).setFld .pairCmdstatResult 2

/-- A takeover begins (R337, step 1): the cause first accepted is recorded. -/
def State.beginTakeover (s : State) (cause source : Nat) : State :=
  if !s.standsBy then s
  else ((s.setFld .pairTakeinfoCause cause).setFld .pairTakeinfoSource source).setPairState 6

/-- YIELD_IN_ASSERTED: YIELD_IN held for 10 µs (R335). -/
def execYieldInAsserted (s : State) : Result :=
  run s fun s =>
    if s.pairState == 2 then s.bump .pairYields 1 else if s.paired then s.beginTakeover 1 0 else s

/-- YIELD_CELL_RX: a YIELD cell on the cross-link (path 8) or at a chain port (R335); a tile passes it on (R201). -/
def yieldCell (s : State) (path l : Nat) (c : YieldCell) : State :=
  if s.isTile then s.forward path l (.yield c)
  else if !s.paired then s
  else
    let s := s.sawEpoch c.epoch
    if s.pairState == 2 then s.bump .pairYields 1
    else if s.pairing.active == some (c.senderId, c.epoch) then s.beginTakeover (if path == 8 then 2 else 3) c.source
    else s

/-- YIELD_CELL_RX (R335). -/
def execYieldCellRx (path lane : Nat) (cell : YieldCell) (damage : CellDamage) (s : State) : Result :=
  run s fun s => s.arrive path lane damage true (yieldCell · path lane cell)

/-! ### The witness rule and split drive (R336, R339, R340) -/

/-- WITNESS_LOST: every chain port in service has been lost for HOLDWIT strokes (R336). -/
def execWitnessLost (s : State) : Result :=
  run s fun s => if s.paired && s.fld .pairCfgHoldwit ≤ s.pairing.lostRun && 0 < s.pairing.lostRun then s.beginTakeover 4 0 else s

/-- SPLIT_DRIVE_START: the active's COX has not reached CPn for SPLITWAIT strokes while the active lives (R339). -/
def splitStart (s : State) (n : Nat) : State :=
  if !s.standsBy || !s.flag .pairCfgSpliten || 8 ≤ n || testBit (s.fld .pairStatSplit) n ||
      assocGet s.pairing.without n 0 < max 1 (s.fld .pairCfgSplitwait) then s
  else
    let s := { (s.setFldBit .pairStatSplit n true) with pairing.withCox := assocPut s.pairing.withCox n 0 0 }
    (s.bump .pairSplits 1).raise srcPairSplitdrive

/-- SPLIT_DRIVE_START (R339). -/
def execSplitDriveStart (port : Nat) (s : State) : Result := run s (splitStart · port)

/-- SPLIT_DRIVE_END: the active's COX has reached CPn for 16 strokes (R340). -/
def splitEnd (s : State) (n : Nat) : State :=
  if 8 ≤ n || !testBit (s.fld .pairStatSplit) n || assocGet s.pairing.withCox n 0 < 16 then s
  else
    let s := s.setFldBit .pairStatSplit n false
    s.level srcPairSplitdrive (s.fld .pairStatSplit != 0)

/-- SPLIT_DRIVE_END (R340). -/
def execSplitDriveEnd (port : Nat) (s : State) : Result := run s (splitEnd · port)

/-- A chain port's evidence of the stroke that ends (R336, R339, R340). -/
def State.judgePort (alive : Bool) (s : State) (n : Nat) : State :=
  let got := s.pairing.coxSeen.contains n
  let put := fun m v => assocPut m n 0 v
  if got then
    { s with pairing.without := put s.pairing.without 0,
             pairing.withCox := put s.pairing.withCox (assocGet s.pairing.withCox n 0 + 1) }
  else
    { s with pairing.withCox := put s.pairing.withCox 0,
             pairing.without := put s.pairing.without (if alive then assocGet s.pairing.without n 0 + 1 else 0) }

/-- A stroke boundary in a paired sender: partner cells age, a standby judges the stroke that ends (R330, R334, R336, R339, R340), and what the
boundary counts starts afresh. -/
def State.pairBoundary (s : State) : State :=
  if !s.paired then s
  else
    let s := { s with pairing.heard := min 1000 (s.pairing.heard + 1), pairing.heardX := min 1000 (s.pairing.heardX + 1),
                      pairing.coxAgo := min 1000 (s.pairing.coxAgo + 1) }
    let s := if 3 ≤ s.pairing.heard then s.setFld .pairStatPartner 0 else s
    let ports := s.servicePorts
    let s := if s.standsBy then
        let lost := ports.filter (fun n => !s.pairing.coxSeen.contains n && !s.pairing.healthSeen.contains n)
        let all := !ports.isEmpty && lost.length == ports.length
        let s := s.setFld .pairStatLost (lost.foldl (fun m n => setBit m n true) 0)
        let s := { s with pairing.lostRun := if all then s.pairing.lostRun + 1 else 0 }
        ports.foldl (State.judgePort (s.pairing.xActive || !s.pairing.coxSeen.isEmpty)) s
      else s.setFld .pairStatLost 0
    let s := { s with pairing.coxSeen := [], pairing.healthSeen := [], pairing.xActive := false, pairing.prevSeq := s.fld .pairJseq }
    let s := s.judgeStale.recheckCrew
    match s.bist.holdMark with
    | none => s
    | some m =>
      if s.pairState == 4 && s.bist.running.isEmpty && s.bist.waiting.isEmpty && !s.flag .pairStatStale &&
          s.bist.failed.isEmpty && s.cmp.pictures.any (fun p => strokeAfter p.stroke m) then
        let s := { s with bist.holdMark := none }
        if s.flag .pairStatResync then s else s.setPairState 3
      else s

/-- CHAIN_END_COX_RX: a STROKE or a COX reaches a sender's chain port from the chain end (R323, R325, R332, R336). -/
def chainEnd (s : State) (n : Nat) (cell : EndCell) : State :=
  if !s.isSender then s
  else
    if !s.paired then s
    else match cell with
      | .stroke c =>
        if !s.standsBy then s
        else
          let prev := wrap32 (c.stroke + 2 ^ 32 - 1)
          let s := { (s.setFld .stkNow prev) with time.frame := prev }
          s.setSfld .pairTkskew (signed 32 (unsigned 32 (s.time.catchAt + s.time.length - (c.tk : Int))))
      | .cox c =>
        if c.senderId == s.selfId then s
        else
          let s := { (s.sawEpoch c.epoch).claim c.senderId c.epoch with pairing.coxAgo := 0 }
          if s.pairState == 1 then ({ s with pairing.active := some (c.senderId, c.epoch) } : State).notReady
          else if s.standsBy then
            let newer := match s.pairing.active with
              | none => true
              | some (_, e) => strokeAfter c.epoch e
            let s := if newer then { s with pairing.active := some (c.senderId, c.epoch) } else s
            if s.pairing.active == some (c.senderId, c.epoch) && !s.pairing.coxSeen.contains n then
              { s with pairing.coxSeen := s.pairing.coxSeen ++ [n] }
            else s
          else s

/-- CHAIN_END_COX_RX (R336). -/
def execChainEndCoxRx (port lane : Nat) (cell : EndCell) (damage : CellDamage) (s : State) : Result :=
  run s fun s => s.arrive port lane damage false (chainEnd · port cell)

/-! ### PAIR cells (R323, R325, R329, R330, R333, R342) -/

/-- The active takes an acknowledgement (R329): records up to it leave the replay buffer; when it has not moved since the last cell, the
records after it are sent again. -/
def State.takeAck (s : State) (c : PairCell) : State :=
  let before := s.pairing.partner.map (·.jseq)
  let s := { s with pairing.replay := s.pairing.replay.filter (fun r => strokeAfter r.seq c.jseq) }
  match s.pairing.replay with
  | [] => s
  | r :: rs =>
    if before == some c.jseq && r.seq == wrap32 (c.jseq + 1) && s.flag .pairStatXlink && (c.state == 3 || c.state == 4) then
      ((r :: rs).foldl (fun s x => s.sendCross (.journal x.seq x.stroke [x.body])) s).bump .pairJreplays 1
    else s

/-- A hot standby compares the active's digests with its own (R333). A unit has no digest of a stroke in which it had an underrun and sends 0, which is
not compared (log entry 130). -/
def State.compareDigests (s : State) (c : PairCell) : State :=
  if !s.standsBy || !s.flag .pairCfgDigen || s.flag .pairCfgCold || s.flag .pairStatStale || c.state != 2 then s
  else
    let k := wrap32 (c.stroke + 2 ^ 32 - 1)
    iterate (s.prof (·.views)) (fun s v =>
      match s.pairing.digests.find? (fun d => d.1 == k && d.2.1 == v) with
      | some d => if c.digests.getD v 0 == 0 || d.2.2 == c.digests.getD v 0 then s else (s.bump .pairDiverge 1).raise srcPairPairdiverge
      | none => s) s

/-- A standby notes what the active reports (R330, R335, R342). When it is behind by more records than the replay buffer holds units, it must
resynchronise (R329). -/
def State.noteActive (s : State) (path : Nat) (c : PairCell) : State :=
  let s := { s with pairing.active := some (c.senderId, c.epoch), pairing.xActive := s.pairing.xActive || path == 8,
                    pairing.reports := s.pairing.reports ++ [(wrap32 (c.stroke + 2 ^ 32 - 1), c.jseq)],
                    pairing.crew := if c.crewreq && s.pairState == 3 then some (c.crewstroke, true) else none }
  let s := s.moveValid.judgeStale
  if s.pairState == 3 && decide (262144 < strokesAhead c.jseq (s.fld .pairJseq)) && strokeAfter c.jseq (s.fld .pairJseq) then s.notReady else s

/-- PAIR_CELL_RX: a PAIR cell comes on the cross-link (path 8) or at a chain port (R321 to R345). -/
def pairRx (s : State) (path : Nat) (c : PairCell) : State :=
  if !s.paired || c.senderId == s.selfId then s
  else
    let s := s.sawEpoch c.epoch
    let s := if path == 8 then
        (({ s with pairing.heardX := 0 } : State).setFld .pairStatXlink 1).lower srcPairCrosslinkLost
      else s
    let s := { s with pairing.heard := 0 }
    let s := (s.setFld .pairPartnerlo c.senderId).setFld .pairPartnerhi (c.senderId / 2 ^ 32)
    let s := s.setFld .pairStatPartner (if c.state == 2 then 3 else if c.state == 3 then 1 else 2)
    -- a unit that became active without a partner finds out here whether the two may form a pair (R323)
    let apart := s.pairState == 2 && s.pairing.partner.isNone && (s.lcs != c.lcs || s.pairConfig != c.config)
    let s := if s.pairState == 1 || s.pairState == 0 || apart then s.form c else s
    let s := if c.state == 2 then s.claim c.senderId c.epoch else s
    let s := if s.pairState == 2 then
        let s := s.takeAck c
        let s := match s.pairing.crew with
          | some (k, _) => if c.crewack && c.crewstroke == k then { s with pairing.crew := some (k, true) } else s
          | none => s
        let s := if c.state == 3 then { s with pairing.imaged := false } else s
        s.setFld .devModestatSplit (bit (c.split != 0))
      else if s.standsBy && c.state == 2 then (s.noteActive path c).compareDigests c
      else s
    let s := { s with pairing.partner := some c }
    let s := if s.pairState == 4 && s.flag .pairStatXlink then s.setFld .pairStatResync 1 else s
    s.recheckCrew

/-- CROSSLINK_LOST: both lanes down for 100 ms, or no PAIR cell on it for 3 strokes (R341). -/
def crosslinkLost (s : State) : State :=
  if !s.paired then s else (s.setFld .pairStatXlink 0).raise srcPairCrosslinkLost |>.recheckCrew

/-- CROSSLINK_LOST (R341). -/
def execCrosslinkLost (s : State) : Result := run s crosslinkLost

/-- RESYNC_COMPLETE: the image is applied and the journal is no longer stale: the standby becomes ready (R345). -/
def execResyncComplete (s : State) : Result :=
  run s fun s =>
    if s.pairState != 4 || !s.flag .pairStatResync || !s.pairing.joined then s
    else
      let s := ({ s with pairing.lostRecords := false } : State).judgeStale
      if s.flag .pairStatStale || s.bist.holdMark.isSome || !s.bist.running.isEmpty || !s.bist.failed.isEmpty then s
      else ((s.setPairState 3).setFld .pairStatResync 0).bump .pairResyncs 1

/-- HEALTH_CELL_RX: a sender consumes a HEALTH cell (R111, R208, R231, R336); a tile passes it on (R201, R202). -/
def healthRx (s : State) (n l : Nat) (h : HealthCell) : State :=
  if s.isTile then s.forward n l (.health h)
  else if !s.isSender || 8 ≤ n then s
  else
    let s := { s with cue.credits := assocPut s.cue.credits (64 * n + h.pos) 0 h.cueFree }
    let s := s.onPort n (fun p => { p with
      healthSeen := if p.healthSeen.contains h.pos then p.healthSeen else p.healthSeen ++ [h.pos],
      lastFull := assocPut p.lastFull h.pos 0 (wrap32 h.lastFull + 1) })
    let s := if s.standsBy && (h.coxA || h.coxB) && h.stroke == s.stroke && s.pairing.active == some (h.senderId, h.epoch) &&
        !s.pairing.healthSeen.contains n then { s with pairing.healthSeen := s.pairing.healthSeen ++ [n] } else s
    if s.sendsTo n h.pos then iterate 8 (State.checkWindow n h.pos h.check) s else s

/-- HEALTH_CELL_RX (R231). -/
def execHealthCellRx (port lane : Nat) (cell : HealthCell) (damage : CellDamage) (s : State) : Result :=
  run s fun s => s.arrive port lane damage true (healthRx · port lane cell)

end Sys2Proof.Machine
end

