-- ==== Sys2Proof/Machine/Bist.lean ====
section
/-!
DEFINITION. Built-in self-test and repair (spec/16, R382 to R393): the memory groups, the commands of BST.CMD, starting and ending a group's test, spares, and the repair record in the event store.
-/

namespace Sys2Proof.Machine

/-! ### Groups (R382) -/

/-- The block of a group. -/
def groupBlock (g : Nat) : Nat :=
  [1, 1, 1, 1, 4, 4, 3, 6, 7, 8, 10, 10, 10, 10, 10, 9, 11, 12, 2, 0, 0, 13, 15].getD g 15

/-- A group that exists in the SENDER role only. -/
def groupSender (g : Nat) : Bool := decide (g < 6) || g == 19 || g == 20

/-- A group that exists in the TILE role only. -/
def groupTile (g : Nat) : Bool := decide (10 ≤ g) && decide (g ≤ 17)

/-- A group marked S: tested only at start. -/
def groupStartOnly (g : Nat) : Bool := g == 7 || g == 21 || g == 22

/-- A group marked D: the sinks are held off while it is under test. -/
def groupDark (g : Nat) : Bool := g == 14 || g == 16 || g == 17

/-- The group exists in the role. -/
def State.groupInRole (s : State) (g : Nat) : Bool :=
  decide (g < 23) && ((s.isSender && !groupTile g) || (s.isTile && !groupSender g))

/-- The groups of the role. -/
def State.roleGroups (s : State) : List Nat := (List.range 23).filter s.groupInRole

/-- What BST and DEV.MODESTAT show of the groups under test, and which blocks R32 closes. -/
def State.showTests (s : State) : State :=
  let mask := s.bist.running.foldl (fun m g => setBit m (groupBlock g) true) 0
  (({ s with boot.testing := mask } : State).setFld .bstStatRunning s.bist.running.length).setFld .devModestatBist
    (bit (!s.bist.running.isEmpty))

/-! ### The repair record (R389, R390) -/

/-- Address of a slot of the repair record. -/
def repairSlot (i : Nat) : Nat := 0x22000 + 0x1000 * i

/-- SEQ of a slot that holds a valid record. -/
def State.repairSeq (s : State) (i : Nat) : Option Nat :=
  let a := repairSlot i
  let m := s.boot.store
  if memNat m a 4 == 0x52504552 && memNat m (a + 10) 2 == 1 && decide (memNat m (a + 8) 2 ≤ 500) &&
      memNat m (a + 0xFFC) 4 == (crc32 (memRead m a 0xFFC)).toNat then some (memNat m (a + 4) 4)
  else none

/-- The slot in force. -/
def State.repairInForce (s : State) : Option Nat := newerSlot (s.repairSeq 0) (s.repairSeq 1)

/-- FAILMASK of the record in force. -/
def State.failMask (s : State) : Nat :=
  match s.repairInForce with
  | none => 0
  | some i => memNat s.boot.store (repairSlot i + 12) 4

/-- The entry at an address of the record. -/
def readRepair (m : List Host.Cell) (a : Nat) : Repair :=
  ⟨memNat m a 1, memNat m (a + 1) 1, memNat m (a + 2) 1, memNat m (a + 3) 1, memNat m (a + 4) 4⟩

/-- The soft entries of the record in force. -/
def State.softEntries (s : State) : List Repair :=
  match s.repairInForce with
  | none => []
  | some i =>
    let a := repairSlot i
    (List.range (memNat s.boot.store (a + 8) 2)).map (fun e => readRepair s.boot.store (a + 0x20 + 8 * e))

/-- The eight bytes of an entry. -/
def Repair.bytes (r : Repair) : List Byte :=
  leBytes 1 r.group ++ leBytes 1 r.kind ++ leBytes 1 r.spare ++ leBytes 1 r.bank ++ leBytes 4 r.addr

/-- The 4 KB of a repair record. -/
def repairRecord (seq mask : Nat) (es : List Repair) : List Byte :=
  let body := leBytes 4 0x52504552 ++ leBytes 4 seq ++ leBytes 2 es.length ++ leBytes 2 1 ++ leBytes 4 mask ++ List.replicate 16 0 ++
    es.flatMap Repair.bytes
  let body := body ++ List.replicate (0xFFC - body.length) 0
  body ++ leBytes 4 (crc32 body).toNat

/-- The record is written to the older slot as a non-volatile write (R389, R390). -/
def State.writeRepairs (s : State) (mask : Nat) (es : List Repair) : State :=
  let newest := s.repairInForce
  let slot := match newest with
    | some i => 1 - i
    | none => 0
  let seq := match newest with
    | some i => wrap32 ((s.repairSeq i).getD 0 + 1)
    | none => 1
  s.nvWrite (.bytes (repairSlot slot) (repairRecord seq mask es))

/-- Two entries name the same spare. -/
def Repair.same (a b : Repair) : Bool := a.group == b.group && a.kind == b.kind && a.spare == b.spare

/-- The entries in force: fuses and soft entries. -/
def State.repairs (s : State) : List Repair := s.bist.fuses ++ s.bist.soft

/-- Step 2 of R72: chuck applies the soft entries of the record, but one naming a spare that a fuse entry uses is ignored (R389). -/
def State.loadRepairs (s : State) : State :=
  { s with bist.soft := s.softEntries.filter (fun r => !s.bist.fuses.any (·.same r)) }

/-- Spares of a group still free: 8 rows and 2 columns (R382). -/
def State.sparesLeft (s : State) (g : Nat) : Nat :=
  10 - ((s.repairs.filter (fun r => r.group == g)).map (fun r => (r.kind, r.spare))).eraseDups.length

/-- A free spare of a kind in a group, beside the entries in use. -/
def freeSpare (used : List Repair) (g kind : Nat) : Option Nat :=
  (List.range (if kind == 0 then 8 else 2)).find? (fun i => !used.any (fun r => r.same ⟨g, kind, i, 0, 0⟩))

/-- New entries that cover every fault, or none when a fault finds no free spare (R388). -/
def allotSpares (used : List Repair) (g : Nat) : List BistFault → Option (List Repair)
  | [] => some []
  | f :: fs =>
    match freeSpare used g (f.kind % 2) with
    | none => none
    | some i =>
      let r : Repair := ⟨g, f.kind % 2, i, f.bank, f.addr⟩
      (allotSpares (r :: used) g fs).map (fun rs => r :: rs)

/-! ### What a test does to its block (R386, R387) -/

/-- A standby is not ready from the start of any test (R387). -/
def State.standbyTested (s : State) : State :=
  if s.standsBy then ({ s with bist.holdMark := some s.cmp.newest } : State).setPairState 4 else s

/-- The test writes over the frame store of view `v` (R382, R386): what has arrived of the region is lost, so the view does not flip, and its
refresh ends. -/
def State.loseRegion (s : State) (v : Nat) : State :=
  let x := s.view v
  let lost := if (x.cells.isEmpty && !x.complete) || s.bist.lostViews.contains v then s.bist.lostViews else s.bist.lostViews ++ [v]
  let s := { s with bist.lostViews := lost }
  let s := s.onView v (fun x =>
    { x with cells := [], rows := [], recv := [], front := [], late := [], complete := false, refreshing := false, refreshed := false })
  s.setFld (.scnViewbufComplete v) 0

/-- A group's test starts (R385, R386): pending commits on its block's pages are refused with REASON 5 (R39, R393), composition in flight ends. -/
def State.beginTest (s : State) (g : Nat) : State :=
  let s := { s with bist.waiting := s.bist.waiting.filter (· != g), bist.deferred := s.bist.deferred.filter (· != g),
                    bist.running := s.bist.running ++ [g] }
  let s := (blockPages (groupBlock g)).foldl (fun s p => s.dropCommit p 5) s
  let s := if g == 4 || g == 5 then s.abandonStrokes else s
  let s := if decide (10 ≤ g) && decide (g < 14) then s.loseRegion (g - 10) else s
  let s := s.standbyTested.showTests
  let s := s.setFld (.bstGroupResult g) 5
  if groupDark g then s.idleRows else s

/-- Every view's driving and preparing codes are lost: the front buffers are converted anew, and the sinks stay off until then (R386). -/
def State.loseCodes (s : State) : State :=
  let lose := fun (x : ScanView) =>
    { x with drive := [], prep := [], rows := [], late := [], hold := none, showsHold := false, refreshed := false, refreshing := true }
  { s with scan.views := s.scan.views.map lose, bist.redraw := true, lamp.waitCatch := true }

/-- What a group's memories reading 0 means for the device after the test (R386). The fault map and detector counts of group 17 are saved
and restored, and banks, traffic and flows come back by themselves. -/
def State.afterTest (s : State) (g : Nat) : State :=
  match g with
  | 4 | 5 => (({ s with cmp.inUse := [] } : State).setFld .cmpRetire s.stroke)
  | 6 =>
    if s.isTile then ({ s with cue.queue := [] } : State).bump .cueErrcnt s.cue.queue.length else s
  | 8 => if s.pairing.onDie.isEmpty then s else { s with pairing.onDie := [], pairing.lostRecords := true }
  | 9 => { s with cmp.srcKept := [] }
  | 10 | 11 | 12 | 13 => s.loseRegion (g - 10)
  | 14 => s.loseCodes
  | 15 =>
    if s.flag .scnCtrlRefresh then
      let again := fun (x : ScanView) => { x with refreshing := !x.showsHold }
      { s with scan.views := s.scan.views.map again }
    else s
  | 16 => { s.computeTaps with lamp.waitCatch := true, cal.taps := [] }
  | 17 => { s with lamp.waitCatch := true }
  | 18 => { s with time.txq := List.replicate 5 [] }
  | 22 => { s with net.mpMem := [] }
  | _ => s

/-- A group leaves the engine with RESULT `r` (R388). -/
def State.endTest (s : State) (g r : Nat) : State :=
  let s := { s with bist.running := s.bist.running.filter (· != g) }
  let s := ((s.afterTest g).showTests).setFld (.bstGroupResult g) r
  let s := if s.bist.holdMark.isSome then { s with bist.holdMark := some s.cmp.newest } else s
  if s.bist.running.isEmpty && s.bist.waiting.isEmpty && s.fld .bstStatResult == 1 then s.setFld .bstStatResult 2 else s

/-- Every running group is abandoned and dealt with as after a test (R393). -/
def State.abandonTests (s : State) : State := s.bist.running.foldl (fun s g => s.endTest g 4) s

/-- A supply warning: running groups are abandoned and run again after it, and the command that asked for them goes on (R393). -/
def State.warnTests (s : State) : State :=
  let gs := s.bist.running
  ({ s.abandonTests with bist.again := s.bist.again ++ gs } : State).setFld .bstStatResult (s.fld .bstStatResult)

/-- The warning has cleared: the groups it stopped wait again, in ascending order (R393). -/
def State.rerunTests (s : State) : State :=
  let gs := (List.range 23).filter (fun g => s.bist.again.contains g || s.bist.waiting.contains g)
  let s := { s with bist.waiting := gs, bist.again := [] }
  gs.foldl (fun s g => s.setFld (.bstGroupResult g) 6) s

/-- A takeover begins: running groups are abandoned, waiting ones are parked (R393). -/
def State.takeoverTests (s : State) : State :=
  let s := s.abandonTests
  { s with bist.holdMark := none, bist.parked := !s.bist.waiting.isEmpty }

/-! ### Commands (R383, R384, R391 to R393) -/

/-- The life-cycle state permits running tests (R392). -/
def State.testsAllowed (s : State) : Bool := decide (1 ≤ s.lcs) && decide (s.lcs ≤ 4)

/-- The REASON that refuses a run of `groups`, or 0 (R384). `named` holds for OP 1, whose GMASK may name any group. -/
def State.testReason (s : State) (named : Bool) (groups : List Nat) (key : Nat) : Nat :=
  if s.pairState == 2 && s.paired && s.mayYield then 1
  else if s.isSender && !s.paired && !s.noCanvas then 2
  else if decide (3 ≤ s.fld .updStatState) && decide (s.fld .updStatState ≤ 8) then 3
  else if named && groups.any groupStartOnly then 4
  else if named && groups.any (fun g => !s.groupInRole g) then 5
  else if key != 0xA5C3 then 6
  else if !s.testsAllowed then 7
  else if !s.bist.running.isEmpty || !s.bist.waiting.isEmpty then 8
  else 0

/-- A command of BST.CMD is refused with a REASON. -/
def State.refuseTest (s : State) (reason : Nat) : State := (s.setFld .bstStatResult 3).setFld .bstStatReason reason

/-- BST.CMD is accepted and shows RESULT `r`. -/
def State.acceptTest (s : State) (r : Nat) : State := (s.setFld .bstStatResult r).setFld .bstStatReason 0

/-- The groups that GMASK names. -/
def State.maskGroups (s : State) : List Nat := (List.range 23).filter (fun g => testBit (s.fld .bstGmaskGroups) g)

/-- A run of `groups` is requested or refused: the status that the access path answers, BUSY for REASON 1 to 3 (R384). -/
def State.requestTests (s : State) (named : Bool) (groups : List Nat) (key : Nat) : State × Nat :=
  let r := s.testReason named groups key
  if r != 0 then (s.refuseTest r, if r ≤ 3 then 1 else 0)
  else
    let s := ({ s with bist.waiting := groups } : State).acceptTest (if groups.isEmpty then 2 else 1)
    (groups.foldl (fun s g => s.setFld (.bstGroupResult g) 6) s, 0)

/-- OP 3: running groups are abandoned and waiting ones are dropped (R393). A dropped group reads not run. -/
def abortTests (s : State) (key : Nat) : State :=
  if key != 0xA5C3 then s.refuseTest 6
  else
    let w := s.bist.waiting
    let s := { s with bist.waiting := [], bist.again := [], bist.deferred := [] }
    let s := w.foldl (fun s g => s.setFld (.bstGroupResult g) 0) s
    s.abandonTests.acceptTest 2

/-- OP 4: soft entries and FAILMASK are cleared, from the next reset (R391). -/
def clearSoft (s : State) (key : Nat) : State :=
  if key != 0xA5C3 then s.refuseTest 6
  else if !(s.lcs == 1 || s.lcs == 2 || s.lcs == 4) then s.refuseTest 7
  else (s.writeRepairs 0 []).acceptTest 2

/-- OP 5: soft entries of the record move into free fuse entries, of which there are 64 (R391). -/
def burnFuses (s : State) (key : Nat) : State :=
  if key != 0xA5C3 then s.refuseTest 6
  else if s.lcs != 1 then s.refuseTest 7
  else
    let es := s.softEntries
    let n := 64 - s.bist.fuses.length
    let s := { s with bist.fuses := s.bist.fuses ++ es.take n }
    (if es.isEmpty then s else s.writeRepairs s.failMask (es.drop n)).acceptTest 2

/-- A write of BST.CMD (R383, R384, R391): the status its access path answers. -/
def bistCommand (s : State) (op key : Nat) : State × Nat :=
  match op with
  | 1 => s.requestTests true s.maskGroups key
  | 2 => s.requestTests false (s.roleGroups.filter (fun g => !groupStartOnly g)) key
  | 3 => (abortTests s key, 0)
  | 4 => (clearSoft s key, 0)
  | 5 => (burnFuses s key, 0)
  | _ => (s, 0)

/-! ### The engine (R385, R388) -/

/-- BIST_GROUP_START: the lowest waiting group starts when fewer than four run; at or above the throttle start temperature it waits on,
and the wait is counted (R385). -/
def groupStart (s : State) : State :=
  match s.bist.waiting with
  | [] => s
  | g :: _ =>
    if 4 ≤ s.bist.running.length || s.boot.warning then s
    else if s.bist.parked && !(s.pairState == 2 || s.pairState == 3) then s
    else
      let s := { s with bist.parked := false }
      if s.threshold 1 ≤ s.sfld .thsTjmaxTj then
        if s.bist.deferred.contains g then s
        else (({ s with bist.deferred := s.bist.deferred ++ [g] } : State).bump .bstDeferred 1).setFld (.bstGroupResult g) 6
      else s.beginTest g

/-- BIST_GROUP_START (R385). -/
def execBistGroupStart (s : State) : Result := run s groupStart

/-- A group has failed (R388): BISTFAIL, its block not ready, its bit in FAILMASK. -/
def State.groupFails (s : State) (g : Nat) : State :=
  let s := { s with bist.failed := if s.bist.failed.contains g then s.bist.failed else s.bist.failed ++ [g],
                    boot.ready := setBit s.boot.ready (groupBlock g) false }
  let s := s.raise srcDevBistfail
  if testBit s.failMask g then s else s.writeRepairs (setBit s.failMask g true) s.softEntries

/-- A group has passed (R388): its block is ready again once none of its groups has failed, and its bit leaves FAILMASK. -/
def State.groupPasses (s : State) (g : Nat) : State :=
  let had := s.bist.failed.contains g
  let s := { s with bist.failed := s.bist.failed.filter (· != g) }
  let s := if had && !s.bist.failed.any (fun h => groupBlock h == groupBlock g) then
      { s with boot.ready := setBit s.boot.ready (groupBlock g) true } else s
  if testBit s.failMask g then s.writeRepairs (setBit s.failMask g false) s.softEntries else s

/-- New entries are applied and, with AUTOSOFT, stored (R388, R389). -/
def State.applyRepairs (s : State) (es : List Repair) : State :=
  let s := { s with bist.soft := s.bist.soft ++ es }
  if s.flag .bstCtrlAutosoft && !es.isEmpty then s.writeRepairs s.failMask (s.softEntries ++ es) else s

/-- The march of a group ends with the faults it found, and, where spares cover them, its retest (R388): the result, 1 pass, 2 repaired or
3 failed. -/
def State.judgeTest (s : State) (g : Nat) (faults : List BistFault) (retestOk : Bool) : State × Nat :=
  let s := s.bump .bstRuns 1
  let fs := faults.eraseDups
  if fs.isEmpty then (s.groupPasses g, 1)
  else match allotSpares s.repairs g fs with
    | none => (s.groupFails g, 3)
    | some es =>
      let s := s.applyRepairs es
      if retestOk then (s.groupPasses g, 2) else (s.groupFails g, 3)

/-- BIST_GROUP_DONE: a running group ends its test (R388). -/
def groupDone (s : State) (g : Nat) (faults : List BistFault) (retestOk : Bool) : State :=
  if !s.bist.running.contains g then s
  else
    let r := s.judgeTest g faults retestOk
    r.1.endTest g r.2

/-- BIST_GROUP_DONE (R388). -/
def execBistGroupDone (group : Nat) (faults : List BistFault) (retestOk : Bool) (s : State) : Result :=
  run s (groupDone · group faults retestOk)

end Sys2Proof.Machine
end

