-- ==== Sys2Proof/Machine/Update.lean ====
section
/-!
DEFINITION. Firmware and settings (spec/18, R404 to R426): the flash regions, bundles, image checks, transfers and the programming of STAGE, verification, sector copies, arming, confirmation, the settings stores, and the distribution of a bundle to the tiles.
-/

namespace Sys2Proof.Machine

/-! ### The boot flash (R404) -/

/-- Bytes of a flash sector. -/
def sectorSize : Nat := 65536

/-- Base of ACTIVE (1), STAGE (2) and KEEP (3), numbered as BOOTSTAT.IMAGE does. -/
def imageBase (image : Nat) : Nat := if image == 2 then 0x1000000 else if image == 3 then 0x2000000 else 0

/-- Base of slot `i` of SETTINGS-CURRENT, and of SETTINGS-PRIOR. -/
def settingsSlot (prior : Bool) (i : Nat) : Nat := (if prior then 0x3040000 else 0x3000000) + 0x20000 * i

/-- Base of JOURNAL. -/
def journalBase : Nat := 0x3080000

/-- Sectors that `n` bytes take. -/
def sectorsOf (n : Nat) : Nat := (n + sectorSize - 1) / sectorSize

/-! ### The update record (R420) -/

/-- Address of a slot of the update record. -/
def updSlot (i : Nat) : Nat := 0x26000 + 0x800 * i

/-- SEQ of a slot that holds a valid record. -/
def State.updSeq (s : State) (i : Nat) : Option Nat :=
  let a := updSlot i
  let m := s.boot.store
  if memNat m a 4 == 0x44525055 && memNat m (a + 0x7FC) 4 == (crc32 (memRead m a 0x7FC)).toNat then some (memNat m (a + 4) 4) else none

/-- The 2 KB of an update record. -/
def UpdRec.bytes (r : UpdRec) : List Byte :=
  let body := leBytes 4 0x44525055 ++ leBytes 4 r.seq ++ leBytes 1 r.state ++ leBytes 1 r.trials ++ leBytes 1 r.jop ++ leBytes 1 0 ++
    leBytes 4 r.jnext ++ leBytes 4 r.jtotal ++ leBytes 4 r.activeVer ++ leBytes 4 r.keepVer ++ leBytes 4 r.stageVer ++
    ((r.digest ++ List.replicate 48 0).take 48)
  let body := body ++ List.replicate (0x7FC - body.length) 0
  body ++ leBytes 4 (crc32 body).toNat

/-- DEV.MODESTAT.UPDATE for a state (R420). -/
def updMode (state : Nat) : Nat := [0, 1, 1, 2, 2, 2, 3, 4, 5, 0].getD state 0

/-- UPD.STAT.STATE, with DEV.MODESTAT.UPDATE following. -/
def State.setUpdState (s : State) (n : Nat) : State := (s.setFld .updStatState n).setFld .devModestatUpdate (updMode n)

/-- What UPD shows of the record. -/
def State.showUpd (s : State) : State :=
  let r := s.upd.record
  let s := ((s.setFld .updStatTrials r.trials).setFld .updStagever r.stageVer).setFld .updKeepver r.keepVer
  let s := (s.setFld .updActivever r.activeVer).setFld .updConsolDone r.jnext
  (s.setFld .updConsolTotal r.jtotal).setFld .updConsolJop r.jop

/-- The record changes by `f`: the older slot is written as a non-volatile write (R420). -/
def State.writeUpd (s : State) (f : UpdRec → UpdRec) : State :=
  let newest := newerSlot (s.updSeq 0) (s.updSeq 1)
  let slot := match newest with
    | some i => 1 - i
    | none => 0
  let r := f s.upd.record
  let r := { r with seq := wrap32 (s.upd.record.seq + 1) }
  let s := { s with upd.record := r }
  (s.nvWrite (.bytes (updSlot slot) r.bytes)).showUpd

/-- The record in force in the event store (R420). -/
def State.readUpd (s : State) : UpdRec :=
  match newerSlot (s.updSeq 0) (s.updSeq 1) with
  | none => UpdateState.reset.record
  | some i =>
    let m := s.boot.store
    let a := updSlot i
    ⟨memNat m (a + 4) 4, memNat m (a + 8) 1, memNat m (a + 9) 1, memNat m (a + 0xA) 1, memNat m (a + 0xC) 4, memNat m (a + 0x10) 4,
     memNat m (a + 0x14) 4, memNat m (a + 0x18) 4, memNat m (a + 0x1C) 4, memRead m (a + 0x20) 48⟩

/-- STATE with nothing left in STAGE: fallen back while the record says so, else idle (R420). -/
def State.restState (s : State) : State := s.setUpdState (if s.upd.record.state == 9 then 9 else 0)

/-- The state and the record's state become `n`. -/
def State.recordState (s : State) (n : Nat) : State := (s.writeUpd (fun r => { r with state := n })).setUpdState n

/-- A command of UPD.CMD shows RESULT and ERR. -/
def State.updResult (s : State) (result err : Nat) : State := (s.setFld .updStatResult result).setFld .updStatErr err

/-- A command or a transfer is refused. -/
def State.updRefuse (s : State) (err : Nat) : State := s.updResult 3 err

/-- A stage of an update has failed: ERR and UPDFAIL. -/
def State.updFail (s : State) (err : Nat) : State := (s.updResult 3 err).raise srcDevUpdfail

/-! ### Images (R406 to R409) -/

/-- VERSION of the image that runs, and SETFMT and SETMIN of it (R407, R422). -/
def State.runVersion (s : State) : Nat := leNat ((s.upd.running.drop 0x10).take 4)

/-- SETFMT of the image that runs. -/
def State.setFmt (s : State) : Nat := (s.upd.running.getD 0xE 0).toNat

/-- SETMIN of the image that runs. -/
def State.setMin (s : State) : Nat := (s.upd.running.getD 0x50 0).toNat

/-- ROLEMASK bit of a role: 1 SENDER, 2 TILE. -/
def roleBit (role : Nat) : Nat := if role == 2 then 1 else 0

/-- The first failing header check of R408 of the image at a file's base, or 0. `prior` gives the VERSION running for check 7, which chuck
does not apply. -/
def State.headerErr (s : State) (t : TableFile) (role : Nat) (prior : Option Nat) : Nat :=
  if !(t.num 0 4 == 0x4D495953 && t.num 4 2 == 1 && t.num 6 2 == 4096) then 1
  else if !s.omciaOk (t.num 0x51 1) (Config.sha384 (memRead t.mem t.base 0x100)) (memRead t.mem (t.base + 0x100) 96) then 2
  else if t.num 8 4 != 0x53590512 then 3
  else if !testBit (t.num 0xC 1) (roleBit role) then 4
  else if s.lcs < t.num 0xD 1 then 5
  else if 16777216 < t.num 0x18 4 || t.num 0x1C 4 + 248 != t.num 0x18 4 then 6
  else match prior with
    | some v => if v < t.num 0x14 4 then 7 else 0
    | none => 0

/-- The first failing check of the full verification (R409), or 0. -/
def State.imageErr (s : State) (t : TableFile) (role : Nat) (prior : Option Nat) : Nat :=
  let e := s.headerErr t role prior
  let sig := t.num 0x1C 4
  if e != 0 then e
  else if memRead t.mem (t.base + 0x20) 48 != Config.sha384 (memRead t.mem (t.base + 4096) (sig - 4096)) then 8
  else if !s.blockOk t.mem t.base sig false then 9
  else 0

/-- The image in a flash region. -/
def State.flashImage (s : State) (image : Nat) : TableFile := ⟨s.boot.flash, imageBase image⟩

/-- The role in force: 1 SENDER, 2 TILE. -/
def State.role (s : State) : Nat := s.fld .devRolestatRole

/-! ### Staging (R302, R410) -/

/-- Base of the staging area of KIND 2 and KIND 3 in the model's DRAM: in a tile as R302 gives it, in a sender beyond the interleaved
space, where no other address reaches it. -/
def State.updStage (s : State) (kind : Nat) : Nat :=
  if s.isTile then (if kind == 3 then 0x5280000 else 0x1280000) else 2 ^ 40 + (if kind == 3 then 0x4000000 else 0)

/-- Chunks of a transfer. -/
def chunksOf (len : Nat) : Nat := (len + 119) / 120

/-- XFERSTAT and MISSING (R276, R410): a window transfer keeps no chunk map. -/
def State.showXfer (s : State) : State :=
  match s.upd.xfer with
  | none => (s.setFld .updXferstatValue 0xFFFFF).setFld .updMissingValue 0
  | some x =>
    let missing := if x.window then [] else (List.range (chunksOf x.len)).filter (fun i => !x.chunks.contains i)
    (s.setFld .updXferstatValue (missing.headD 0xFFFFF)).setFld .updMissingValue missing.length

/-- Bytes `lo` to `hi` - 1 of the open transfer are present. -/
def UpdXfer.present (x : UpdXfer) (lo hi : Nat) : Bool :=
  decide (hi ≤ x.len) && (x.window ||
    (List.range (chunksOf x.len)).all (fun i => x.chunks.contains i || decide (120 * i + 120 ≤ lo) || decide (hi ≤ 120 * i)))

/-- The bundle header at a file's base is sound for a bundle of `len` bytes (R406). -/
def bundleOk (t : TableFile) : Bool :=
  t.num 0 4 == 0x4C444E42 && t.num 4 2 == 1 && decide (1 ≤ t.num 6 2) && decide (t.num 6 2 ≤ 4) &&
    (crc32 (memRead t.mem t.base 0x3C)).toNat == t.num 0x3C 4

/-- Entry `e` of a bundle of `len` bytes as (offset, length), while it lies on a 64-byte boundary within the bundle. -/
def bundleEntry (t : TableFile) (len e : Nat) : Option (Nat × Nat) :=
  let o := t.num (8 + 8 * e) 4
  let n := t.num (12 + 8 * e) 4
  if e < t.num 6 2 && o % 64 == 0 && decide (64 ≤ o) && decide (o + n ≤ len) && decide (4096 ≤ n) then some (o, n) else none

/-- The first image of a bundle whose ROLEMASK includes a role (R406). -/
def bundleImage (t : TableFile) (len role : Nat) : Option (Nat × Nat) :=
  ((List.range 4).filterMap (bundleEntry t len)).find? (fun x => testBit (t.num (x.1 + 0xC) 1) (roleBit role))

/-- The headers of a bundle's images have arrived as far as the choice of R406 needs them. -/
def UpdXfer.headersHere (x : UpdXfer) (t : TableFile) : Bool :=
  ((List.range 4).filterMap (bundleEntry t x.len)).all (fun e => x.present e.1 (e.1 + 16))

/-- The bundle of the open transfer is refused (R406, R408): nothing more of it is read, and STAGE stands empty. -/
def State.refuseBundle (s : State) (err : Nat) : State :=
  let s := { s with upd.xfer := s.upd.xfer.map (fun (x : UpdXfer) => { x with refused := true }) }
  s.restState.updFail err

/-- The unit's image is chosen and its header checked as soon as 4 KB of it have arrived (R408, R411). -/
def State.checkBundle (s : State) : State :=
  match s.upd.xfer with
  | none => s
  | some x =>
    let t : TableFile := ⟨s.dram.mem, s.updStage 2⟩
    if x.kind != 2 || x.refused || s.upd.image.isSome || !x.present 0 64 then s
    else if !bundleOk t then s.refuseBundle 1
    else if !x.headersHere t then s
    else match bundleImage t x.len s.role with
      | none => s.refuseBundle 4
      | some (o, _) =>
        if !x.present o (o + 4096) then s
        else
          let img : TableFile := ⟨t.mem, t.base + o⟩
          let e := s.headerErr img s.role (some s.runVersion)
          if e != 0 then s.refuseBundle e
          else if x.len < o + img.num 0x18 4 then s.refuseBundle 6
          else { s with upd.image := some (o, img.num 0x18 4) }

/-- Every sector of the unit's image stands programmed and read back in STAGE (R411). -/
def State.stageComplete (s : State) : Bool :=
  match s.upd.image with
  | none => false
  | some (_, len) => (List.range (sectorsOf len)).all s.upd.programmed.contains

/-- STAGE counts as empty from now on. -/
def State.emptyStage (s : State) : State :=
  { s with upd.image := none, upd.programmed := [], upd.arming := false, upd.deferring := false }

/-- A write of UPD.XFER (R410, R426): a transfer is opened, or refused with ERR 13. The same transfer opened again keeps its chunk map
(R412). -/
def xferOpen (s : State) (data : Word) : State :=
  let id := data.toNat % 65536
  let kind := data.toNat / 65536 % 4
  let window := testBit data.toNat 18
  let len := s.fld .updXferlenLength
  let st := s.fld .updStatState
  let busy := kind == 2 && (st == 3 || st == 4 || st == 7 || st == 8 || (st == 2 && !s.stageComplete))
  let again := match s.upd.xfer with
    | some x => x.xfer == id && x.kind == kind && x.len == len && x.window == window && !window
    | none => false
  let tooLong := (kind == 2 && decide (67108864 < len)) || (kind == 3 && decide (131072 < len))
  let put := fun (s : State) => ((s.setFld .updXferXfer id).setFld .updXferKind kind).setFld .updXferSrc (bit window)
  if kind < 2 then ({ put s with upd.xfer := none } : State).showXfer
  else if again && !(st == 3 || st == 4 || st == 8) then put s
  else if busy || tooLong then s.updRefuse 13
  else
    let s := { put s with upd.xfer := some ⟨id, kind, len, window, [], false⟩ }
    let s := if kind == 2 then
        let s := s.emptyStage
        let s := if s.upd.record.state == 5 || s.upd.record.state == 6 then
            s.writeUpd (fun r => { r with state := 0, stageVer := 0, digest := [] }) else s
        s.setUpdState 1
      else s
    s.showXfer

/-- An IMAGE chunk of KIND 2 or 3 that the unit consumes (R276, R410): written to staging, or counted in CHUNKDISC. -/
def updChunk (s : State) (c : ImageCell) : State :=
  match s.upd.xfer with
  | none => s.bump .updChunkdisc 1
  | some x =>
    let want := min 120 (x.len - c.offset)
    let st := s.fld .updStatState
    let ok := !x.window && c.xfer == x.xfer && c.kind == x.kind && c.offset % 120 == 0 && decide (c.offset < x.len) &&
      c.data.length == want && !(x.kind == 2 && (st == 3 || st == 4 || st == 8))
    if !ok then s.bump .updChunkdisc 1
    else
      let i := c.offset / 120
      let s := s.dramWrite 5 2 (s.updStage x.kind + c.offset) c.data
      let s := { s with upd.xfer := some { x with chunks := if x.chunks.contains i then x.chunks else x.chunks ++ [i] } }
      ((s.bump .updChunks 1).showXfer).checkBundle

/-- A word written through the window of UPD (R410): staging of the open transfer's KIND. Beyond the staging area R303 applies. -/
def updWinWrite (s : State) (init i : Nat) (data : Word) : State :=
  let a := s.fld .updWinbaseBase / 4 * 4 + 4 * i
  let kind := s.fld .updXferKind
  if kind < 2 then s
  else if a + 4 ≤ (if kind == 3 then 0x100000 else 0x4000000) then s.dramWrite 5 init (s.updStage kind + a) (leBytes 4 data.toNat)
  else s.dramRange a init

/-- A word read through the window of UPD (R303, R410), and the state after the read. -/
def updWinRead (s : State) (init i : Nat) : State × Word :=
  let a := s.fld .updWinbaseBase / 4 * 4 + 4 * i
  let kind := s.fld .updXferKind
  if kind < 2 then (s, 0)
  else if a + 4 ≤ (if kind == 3 then 0x100000 else 0x4000000) then (s, s.dramWord (s.updStage kind + a)) else (s.dramRange a init, 0)

/-- STAGE_SECTOR_PROGRAMMED: a sector of STAGE whose bytes are all present is erased, programmed and read back (R411), or fails after
three attempts. Flash operations are suspended during a supply warning (R377, R426). -/
def sectorProgrammed (s : State) (n : Nat) (ok : Bool) : State :=
  let s := s.checkBundle
  match s.upd.xfer, s.upd.image with
  | some x, some (o, len) =>
    let lo := o + sectorSize * n
    let hi := min (lo + sectorSize) (o + len)
    if s.boot.warning || x.kind != 2 || sectorsOf len ≤ n || s.upd.programmed.contains n || !x.present lo hi ||
        !(s.fld .updStatState == 1 || s.fld .updStatState == 2) then s
    else if !ok then s.emptyStage.restState.updFail 10
    else
      let data := memRead s.dram.mem (s.updStage 2 + lo) (hi - lo)
      let s := s.nvWrite (.flash (imageBase 2 + sectorSize * n) data)
      ({ s with upd.programmed := s.upd.programmed ++ [n] } : State).setUpdState 2
  | _, _ => s

/-- STAGE_SECTOR_PROGRAMMED (R411). -/
def execStageSectorProgrammed (sector : Nat) (ok : Bool) (s : State) : Result := run s (sectorProgrammed · sector ok)

/-! ### Verification, preservation and copies (R413, R419) -/

/-- OP 1: STAGE is verified (R413). -/
def updVerify (s : State) : State :=
  let st := s.fld .updStatState
  if st != 1 && st != 2 then s.updRefuse 13
  else if !s.stageComplete || (match s.upd.xfer with
      | some x => x.kind == 2 && s.flag .updMissingValue
      | none => false) then s.updRefuse 11
  else
    let digest := memRead s.boot.flash (imageBase 2 + 0x20) 48
    ((s.writeUpd (fun r => { r with digest := digest, stageVer := 0 })).setUpdState 3).updResult 1 0

/-- KEEP holds an image that verifies and whose BODYDIGEST equals that of ACTIVE (R413). -/
def State.keepCurrent (s : State) : Bool :=
  s.imageErr (s.flashImage 3) s.role none == 0 &&
    memRead s.boot.flash (imageBase 3 + 0x20) 48 == memRead s.boot.flash (imageBase 1 + 0x20) 48

/-- A sector copy begins (R419): JOURNAL is erased, as far as the entries of 256 sectors reach. JOP 1 preserves ACTIVE in KEEP, 2 consolidates STAGE into ACTIVE. -/
def State.beginCopy (s : State) (jop : Nat) : State :=
  let src := s.flashImage (if jop == 1 then 1 else 2)
  let s := s.nvWrite (.flash journalBase (List.replicate 8192 0xFF))
  s.writeUpd (fun r => { r with jop := jop, jnext := 0, jtotal := sectorsOf (src.num 0x18 4) })

/-- The image in STAGE is verified: STATE 5, STAGEVER (R413). -/
def State.stageVerified (s : State) : State :=
  let v := (s.flashImage 2).num 0x10 4
  let s := s.writeUpd (fun r => { r with state := 5, jop := 0, jnext := 0, jtotal := 0, stageVer := v })
  (s.setUpdState 5).updResult 2 0

/-- STAGE_VERIFY_DONE: the image read back from STAGE has been checked (R413). -/
def stageVerifyDone (s : State) : State :=
  if s.fld .updStatState != 3 then s
  else
    let e := s.imageErr (s.flashImage 2) s.role (some s.runVersion)
    if e != 0 then
      let s := s.emptyStage.writeUpd (fun r => { r with stageVer := 0, digest := [] })
      s.restState.updFail e
    else if s.keepCurrent || s.imageErr (s.flashImage 1) s.role none != 0 then s.stageVerified
    else (s.beginCopy 1).setUpdState 4

/-- STAGE_VERIFY_DONE (R413). -/
def execStageVerifyDone (s : State) : Result := run s stageVerifyDone

/-- The region a copy reads, and the one it writes (R419). -/
def copyEnds (jop : Nat) : Nat × Nat := if jop == 1 then (1, 3) else (2, 1)

/-- One sector is copied, journaled and counted (R419). -/
def State.copySector (s : State) : State :=
  let r := s.upd.record
  let (src, dst) := copyEnds r.jop
  let data := memRead s.boot.flash (imageBase src + sectorSize * r.jnext) sectorSize
  let entry := leBytes 4 r.jop ++ leBytes 4 r.jnext ++ leBytes 4 (crc32 data).toNat ++ List.replicate 20 0xFF
  let s := s.nvWrite (.flash (imageBase dst + sectorSize * r.jnext) data)
  let s := s.nvWrite (.flash (journalBase + 32 * r.jnext) entry)
  s.writeUpd (fun r => { r with jnext := r.jnext + 1 })

/-- A copy has reached its end: the destination is verified (R419). -/
def State.endCopy (s : State) : State :=
  let r := s.upd.record
  let dst := (copyEnds r.jop).2
  let e := s.imageErr (s.flashImage dst) s.role none
  let v := (s.flashImage dst).num 0x10 4
  if e != 0 then (s.beginCopy r.jop).updFail e
  else if r.jop == 1 then (s.writeUpd (fun r => { r with keepVer := v })).stageVerified
  else
    let s := s.writeUpd (fun r => { r with state := 0, trials := 0, jop := 0, jnext := 0, jtotal := 0, activeVer := v, stageVer := 0,
                                           digest := [] })
    ((s.emptyStage.setUpdState 0).setFld .updStatFallback 0).updResult 2 0

/-- SECTOR_COPY: one sector of a running copy (R419); one that does not read back is copied again. -/
def sectorCopy (s : State) (ok : Bool) : State :=
  if s.upd.record.jop == 0 || s.boot.warning then s
  else if !ok then s.updFail 10
  else
    let s := if s.upd.record.jnext < s.upd.record.jtotal then s.copySector else s
    if s.upd.record.jtotal ≤ s.upd.record.jnext then s.endCopy else s

/-- SECTOR_COPY (R419). -/
def execSectorCopy (ok : Bool) (s : State) : Result := run s (sectorCopy · ok)

/-! ### Arming, confirmation, discarding (R414, R418) -/

/-- Nanoseconds of t from now until the boundary that begins stroke `k` (R41, R414), by nominal stroke length. -/
def State.untilBoundary (s : State) (k : Nat) : Int :=
  let ahead : Int := strokesAhead k s.stroke - (if s.isSender then (s.fld .stkCtrlLead : Int) else 0)
  s.time.catchAt + ahead * (s.nominal s.time.frame : Int) - s.now

/-- OP 2: a regatta is armed, or refused (R414, R426). -/
def updArm (s : State) (key : Nat) : State :=
  let k := s.fld .updRegstroke
  if key != 0xA5C3 then s.updRefuse 12
  else if s.fld .updStatState != 5 || (s.paired && s.pairState == 2) then s.updRefuse 13
  else if !strokeAfter k s.stroke || s.untilBoundary k < 10 ^ 9 then s.updRefuse 14
  else ({ s with upd.arming := true } : State).updResult 1 0

/-- OP 3: a regatta is disarmed (R414). -/
def updDisarm (s : State) : State :=
  if s.fld .updStatState == 6 then (({ s with upd.deferring := false } : State).recordState 5).updResult 2 0
  else if s.upd.arming then ({ s with upd.arming := false } : State).updResult 2 0
  else s.updRefuse 13

/-- OP 4, or AUTOCONF: a trial image is confirmed and consolidation begins (R418); a calibration that the regatta abandoned is requested
again (R27). -/
def State.confirm (s : State) : State :=
  let s := s.writeUpd (fun r => { r with state := 8, trials := 0 })
  let s := ((s.beginCopy 2).setUpdState 8).updResult 1 0
  let again := s.upd.calAgain
  again.foldl (fun s x => s.requestCal x.1 x.2) { s with upd.calAgain := [] }

/-- OP 4 (R418). -/
def updConfirm (s : State) (key : Nat) : State :=
  if key != 0xA5C3 then s.updRefuse 12 else if s.fld .updStatState != 7 then s.updRefuse 13 else s.confirm

/-- AUTOCONF_EXPIRY (R418): after AUTOCONF seconds at STAGE 7 the firmware confirms the trial image itself. -/
def execAutoconfExpiry (s : State) : Result :=
  run s fun s =>
    if s.flag .updCtrlAutoconf && s.fld .updStatState == 7 && s.fld .devBootstatStage == 7 then s.confirm else s

/-- OP 7: a verified or staged image is discarded (R413). -/
def updDiscard (s : State) (key : Nat) : State :=
  let st := s.fld .updStatState
  if key != 0xA5C3 then s.updRefuse 12
  else if st == 7 || st == 8 then s.updRefuse 13
  else if st == 0 || st == 9 then s.updResult 2 0
  else
    let s := s.emptyStage.writeUpd (fun r => { r with state := if r.state == 9 then 9 else 0, jop := 0, jnext := 0, jtotal := 0,
                                                      stageVer := 0, digest := [] })
    (s.setUpdState s.upd.record.state).updResult 2 0

/-! ### Settings (R421, R423) -/

/-- The settings record at a file's base is valid (R421): `role` is the unit's. -/
def settingsOk (t : TableFile) (role : Nat) : Bool :=
  let len := t.num 8 4
  t.num 0 4 == 0x53544553 && t.num 5 1 == role && len % 4 == 0 && decide (0x24 ≤ len) && decide (len ≤ 131072) &&
    (crc32 (memRead t.mem t.base (len - 4))).toNat == t.num (len - 4) 4

/-- SEQ of a settings slot that holds a valid record. -/
def State.settingsSeq (s : State) (prior : Bool) (i : Nat) : Option Nat :=
  let t : TableFile := ⟨s.boot.flash, settingsSlot prior i⟩
  if settingsOk t s.role then some (t.num 0xC 4) else none

/-- The slot of a settings region in force (R421). -/
def State.settingsInForce (s : State) (prior : Bool) : Option Nat := newerSlot (s.settingsSeq prior 0) (s.settingsSeq prior 1)

/-- The record in force in a settings region. -/
def State.settingsFile (s : State) (prior : Bool) : Option TableFile :=
  (s.settingsInForce prior).map (fun i => ⟨s.boot.flash, settingsSlot prior i⟩)

/-- The bytes of a record as the device stores it: with SEQ, with FWVER when it writes or converts, and CRC. -/
def storedSettings (body : List Byte) (seq : Nat) (fmt fwver : Option Nat) : List Byte :=
  let b := body.take (body.length - 4)
  let put := fun (b : List Byte) (o : Nat) (x : List Byte) => b.take o ++ x ++ b.drop (o + x.length)
  let b := put b 0xC (leBytes 4 seq)
  let b := match fmt with
    | some f => put b 4 (leBytes 1 f)
    | none => b
  let b := match fwver with
    | some v => put b 0x10 (leBytes 4 v)
    | none => b
  b ++ leBytes 4 (crc32 b).toNat

/-- A record is stored in the older slot of a settings region (R421, R423). -/
def State.storeSettings (s : State) (prior : Bool) (body : List Byte) (fmt fwver : Option Nat) : State :=
  let newest := s.settingsInForce prior
  let slot := match newest with
    | some i => 1 - i
    | none => 0
  let seq := match newest with
    | some i => wrap32 ((s.settingsSeq prior i).getD 0 + 1)
    | none => 1
  s.nvWrite (.flash (settingsSlot prior slot) (storedSettings body seq fmt fwver))

/-- All bytes of the record at a file's base. -/
def settingsBytes (t : TableFile) : List Byte := memRead t.mem t.base (t.num 8 4)

/-- The (first address, words) records of RECORDS or SECTIONS bytes (R59); none where they are malformed. -/
def sectionRecords : Nat → List Byte → Option (List (Nat × List Word))
  | 0, bs => if bs.isEmpty then some [] else none
  | fuel + 1, bs =>
    if bs.isEmpty then some []
    else
      let h := leNat (bs.take 4)
      let a := h % 2 ^ 24
      let n := h / 2 ^ 24
      if bs.length < 4 + 4 * n || n == 0 || a % 4 != 0 || 4096 < a % 4096 + 4 * n then none
      else
        let ws := (List.range n).map (fun i => Word.ofNat (leNat ((bs.drop (4 + 4 * i)).take 4)))
        (sectionRecords fuel (bs.drop (4 + 4 * n))).map (fun l => (a, ws) :: l)

/-- A page answers in a role and pair configuration as a profile gives them (R59). -/
def pageInRole (role pair dramPop page : Nat) : Bool :=
  match pageInfo page with
  | none => false
  | some p => match p.roles with
    | .both => true
    | .sender => role == 1
    | .tile => role == 2
    | .paired => role == 1 && pair == 1
    | .chain => role == 1 || decide (page < 0x142)
    | .dram => page == 0x150 || (role == 1 && testBit dramPop (page - 0x150))

/-- The address limits of R59 on a record. -/
def recordInLimits (role pair dramPop : Nat) (r : Nat × List Word) : Bool :=
  pageInRole role pair dramPop (r.1 / 4096) &&
    !(r.1 / 4096 == 0 && decide (r.1 % 4096 ≤ 0x8C) && decide (0x70 < r.1 % 4096 + 4 * r.2.length))

/-- The RECORDS of a settings record, while well formed and within the address limits of R59. -/
def State.settingsRecords (s : State) (t : TableFile) : Option (List (Nat × List Word)) :=
  let len := t.num 8 4
  match sectionRecords (len / 4) (memRead t.mem (t.base + 0x20) (len - 0x24)) with
  | none => none
  | some l => if l.all (recordInLimits s.role (s.prof (·.pair)) (s.prof (·.dramPop))) then some l else none

/-- OP 8, and the first half of OP 9: the staged record is stored (R423). Whether it was, and what it holds. -/
def updStore (s : State) (key : Nat) : State × Option (List (Nat × List Word)) :=
  let t : TableFile := ⟨s.dram.mem, s.updStage 3⟩
  if key != 0xA5C3 then (s.updRefuse 12, none)
  else if s.fld .updStatState == 6 then (s.updRefuse 13, none)
  else match s.upd.xfer with
    | none => (s.updRefuse 11, none)
    | some x =>
      if x.kind != 3 || s.flag .updMissingValue then (s.updRefuse 11, none)
      else if !settingsOk t s.role || t.num 8 4 != x.len || t.num 4 1 != s.setFmt then (s.updRefuse 15, none)
      else match s.settingsRecords t with
        | none => (s.updRefuse 15, none)
        | some l => ((s.storeSettings false (settingsBytes t) none none).updResult 2 0, some l)

/-- PRIOR_COPY_DONE: SETTINGS-CURRENT stands copied in SETTINGS-PRIOR, and the unit is armed (R414). -/
def priorCopyDone (s : State) : State :=
  if !s.upd.arming then s
  else
    let s := match s.settingsFile false with
      | some t => s.storeSettings true (settingsBytes t) none none
      | none => s
    (({ s with upd.arming := false } : State).recordState 6).updResult 2 0

/-- PRIOR_COPY_DONE (R414). -/
def execPriorCopyDone (s : State) : Result := run s priorCopyDone

/-! ### Requests of the MC through the tunnel (R54, R209) -/

/-- The MC sends operations to a tile and waits for the answer: session 8 stands for the MC. -/
def State.mcRequest (s : State) (n pos : Nat) (ops : List AccessOp) : State := s.tunnelTo n pos 8 0 ops

/-! ### Distribution (R412) -/

/-- Chunk `i` of the data as an IMAGE cell. -/
def Dist.cell (d : Dist) (pos : Nat) (bcast : Bool) (i : Nat) : ImageCell :=
  ⟨pos, bcast, d.xfer, if d.kind3 then 3 else 2, 120 * i, (d.data.drop (120 * i)).take 120⟩

/-- The register writes that open the transfer at a tile, with a read of MISSING. -/
def Dist.openOps (d : Dist) : List AccessOp :=
  [⟨2, Fld.addr .updXferlenLength, Word.ofNat d.data.length⟩,
   ⟨2, Fld.addr .updXferXfer, Word.ofNat (d.xfer + 65536 * (if d.kind3 then 3 else 2))⟩,
   ⟨1, Fld.addr .updMissingValue, 0⟩]

/-- The request that a tile's stage of the distribution sends. -/
def Dist.ops (d : Dist) (stage : Nat) : List AccessOp :=
  match stage with
  | 0 => d.openOps
  | 1 => [⟨1, Fld.addr .updXferstatValue, 0⟩, ⟨1, Fld.addr .updMissingValue, 0⟩]
  | 2 => [⟨2, Fld.addr .updCmdOp, 1#32⟩]
  | _ => [⟨1, Fld.addr .updStatState, 0⟩]

/-- Ports of a distribution whose STATE reads running and which no tile waits on are done. -/
def State.closePorts (d : Dist) (s : State) : State :=
  iterate 8 (fun s n =>
    if s.fld (.updDiststatState n) == 1 && !(d.opening ++ d.tiles).any (fun t => t.port == n) then
      s.setFld (.updDiststatState n) (if s.fld (.updDiststatFailed n) == 0 then 2 else 3)
    else s) s

/-- The distribution goes on: the next tile is opened; then the bundle is sent once on every port; then each tile in turn is read, repaired
and verified. -/
def State.driveDist (s : State) (d : Dist) : State :=
  let s := s.closePorts d
  match d.opening, d.tiles with
  | t :: _, _ => ({ s with upd.dist := some d } : State).mcRequest t.port t.pos (d.ops 0)
  | [], t :: _ =>
    let ports := (d.tiles.map (·.port)).eraseDups
    let s := if d.fresh then
        ports.foldl (fun s n => (List.range (chunksOf d.data.length)).foldl (fun s i => s.sendCell n (.image (d.cell 0 true i))) s) s
      else s
    ({ s with upd.dist := some { d with fresh := false } } : State).mcRequest t.port t.pos (d.ops t.stage)
  | [], [] => ({ s with upd.dist := none } : State).updResult 2 0

/-- A tile of the distribution is over, complete or failed. -/
def State.tileOver (s : State) (d : Dist) (t : DistTile) (ok : Bool) : State :=
  let f := if ok then Fld.updDiststatDone t.port else Fld.updDiststatFailed t.port
  (s.setFld f (s.fld f + 1)).driveDist { d with tiles := d.tiles.drop 1 }

/-- OP 6: the staged bundle, or settings record, is distributed (R412). -/
def updDistribute (s : State) (key : Nat) : State :=
  let kind3 := s.flag .updDistselKind3
  let kind := if kind3 then 3 else 2
  let t : TableFile := ⟨s.dram.mem, s.updStage kind⟩
  let ready := match s.upd.xfer with
    | some x => x.kind == kind && !s.flag .updMissingValue
    | none => false
  let len := s.fld .updXferlenLength
  if key != 0xA5C3 then s.updRefuse 12
  else if !s.drives || s.upd.dist.isSome then s.updRefuse 13
  else if !ready then s.updRefuse 11
  else
    let data := if kind3 then some (memRead t.mem t.base len)
      else if !bundleOk t then none
      else (bundleImage t len 2).map (fun e =>
        let h := leBytes 4 0x4C444E42 ++ leBytes 2 1 ++ leBytes 2 1 ++ leBytes 4 64 ++ leBytes 4 e.2 ++ List.replicate 44 0
        h ++ leBytes 4 (crc32 h).toNat ++ memRead t.mem (t.base + e.1) e.2)
    match data with
    | none => s.updRefuse 4
    | some data =>
      let ports := s.servicePorts.filter (fun n => testBit (s.fld .updDistselPorts) n)
      let tiles := ports.flatMap (fun n => ((List.range 64).filter (fun p => s.flag (.chpEnumrec3Valid n p))).map (fun p =>
        (⟨n, p, 0, 0⟩ : DistTile)))
      let s := ports.foldl (fun s n => (s.setReg (Fld.addr (.updDiststatDone n)) 0).setFld (.updDiststatState n) 1) s
      let d : Dist := { kind3 := kind3, verify := s.flag .updDistselVerify && !kind3, xfer := s.fld .updDistselXfer, data := data,
                        opening := tiles, fresh := false, tiles := [] }
      (s.updResult 1 0).driveDist d

/-- A tile's answer to the MC's request of a distribution (R412). -/
def distReply (s : State) (rs : List OpResult) : State :=
  match s.upd.dist with
  | none => s
  | some d =>
    let word := fun (i : Nat) => ((rs.getD i ⟨7, 0, 0⟩).data).toNat % 2 ^ 20
    let ok := !rs.isEmpty && rs.all (fun r => r.status == 0)
    let total := chunksOf d.data.length
    match d.opening, d.tiles with
    | t :: ts, _ =>
      if ok then s.driveDist { d with opening := ts, fresh := d.fresh || word 2 == total, tiles := d.tiles ++ [{ t with stage := 1 }] }
      else
        let s := s.setFld (.updDiststatFailed t.port) (s.fld (.updDiststatFailed t.port) + 1)
        s.driveDist { d with opening := ts }
    | [], t :: ts =>
      let again := fun (x : DistTile) => { d with tiles := x :: ts }
      if !ok then s.tileOver d t false
      else match t.stage with
        | 1 =>
          if word 1 == 0 then
            if d.verify then s.driveDist (again { t with stage := 2 }) else s.tileOver d t true
          else if 4 ≤ t.pass then s.tileOver d t false
          else
            let s := (List.range total).foldl (fun s i =>
              if word 0 ≤ i then s.sendCell t.port (.image (d.cell t.pos false i)) else s) s
            let s := s.setFld (.updDiststatPass t.port) (max (s.fld (.updDiststatPass t.port)) (t.pass + 1))
            s.driveDist (again { t with pass := t.pass + 1 })
        | 2 => s.driveDist (again { t with stage := 3 })
        | _ =>
          let w := word 0
          if w % 16 == 5 then s.tileOver d t true
          else if w / 16 % 4 == 3 then
            if w / 64 % 16 == 11 then s.driveDist (again { t with stage := 2 }) else s.tileOver d t false
          else s.driveDist (again t)
    | [], [] => s

/-- IMAGE_CELL_RX: a tile takes an IMAGE chunk for the transfer of its KIND (R195, R201, R210). -/
def imageCell (s : State) (n l : Nat) (c : ImageCell) : State :=
  let r := s.route n l c.pos c.bcast (.image c)
  if !r.2 then r.1
  else if c.kind == 1 then grainChunk r.1 c
  else if c.kind == 2 || c.kind == 3 then updChunk r.1 c
  else r.1.bump (.chpMisaddr n) 1

/-- IMAGE_CELL_RX (R210). -/
def execImageCellRx (port lane : Nat) (cell : ImageCell) (damage : CellDamage) (s : State) : Result :=
  run s fun s => s.arrive port lane damage (s.through port cell.pos cell.bcast) (imageCell · port lane cell)

end Sys2Proof.Machine
end

