-- ==== Sys2Proof/Machine/Life.lean ====
section
/-!
DEFINITION. Life-cycle transitions, the co-signing key and the erasure of a customer's data (spec/17, R394 to R401).
-/

namespace Sys2Proof.Machine

/-- The path of an initiator's accesses: 0 SPI, 1 the chain tunnel, 2 DAP, 3 none that a request may take (R43, R396). -/
def accessPath (init : Nat) : Nat := if init == 0 then 0 else if init == 1 then 1 else if 8 ≤ init then 2 else 3

/-- A transition of the table of R396: from, to, an Omcia token is needed, a customer authorisation is needed, and the paths. -/
structure LcsRow where
  src : Nat
  dst : Nat
  token : Bool
  customer : Bool
  paths : List Nat
  deriving DecidableEq, Repr

/-- The table of R396. -/
def lcsRows : List LcsRow :=
  [⟨0, 1, true, false, [0]⟩, ⟨1, 2, true, false, [0, 2]⟩, ⟨2, 3, false, false, [0, 2, 1]⟩, ⟨2, 4, true, false, [0]⟩,
   ⟨3, 4, true, true, [0]⟩, ⟨2, 5, false, true, [0]⟩, ⟨3, 5, false, true, [0]⟩, ⟨4, 5, true, false, [0]⟩]

/-! ### What a state opens (R395) -/

/-- An instruction of the test access port as R395 sorts them: the mandatory set of IEEE 1149.1, IDCODE, or another. -/
inductive TapInstr where
  | bypass | samplePreload | extest | idcode | other
  deriving DecidableEq, Repr

/-- The instruction that the port carries out: a closed one selects the bypass register (R395). -/
def State.tapSelects (s : State) (i : TapInstr) : TapInstr :=
  if i == .other && !(s.lcs == 0 || s.lcs == 1 || s.lcs == 4) then .bypass else i

/-- MC debug is open (R395). -/
def State.mcDebugOpen (s : State) : Bool := s.lcs ≤ 2 || s.lcs == 4

/-- The vendor test is open (R395). -/
def State.vendorTestOpen (s : State) : Bool := s.lcs ≤ 1 || s.lcs == 4

/-- The 64-byte message that a token or an authorisation signs (R397). -/
def State.lcsMessage (s : State) (magic target : Nat) : List Byte :=
  leBytes 4 magic ++ leBytes 8 s.life.unitId ++ leBytes 1 s.lcs ++ leBytes 1 target ++ leBytes 2 0 ++ s.life.challenge ++ List.replicate 16 0

/-- The Omcia token verifies against one of the four keys whose revocation fuse is not blown (R397). -/
def State.tokenOk (s : State) (target : Nat) : Bool :=
  (List.range 4).any (fun k => s.omciaOk k (Config.sha384 (s.lcsMessage 0x4C43544B target)) s.life.token)

/-- The customer authorises: the enrolled key signs, or, with no key enrolled, the request comes over SPI (R396). -/
def State.customerAuth (s : State) (target init : Nat) : Bool :=
  if s.keyEnrolled then s.customerOk (Config.sha384 (s.lcsMessage 0x4C434341 target)) s.life.auth else accessPath init == 0

/-- The image in ACTIVE carries a valid co-signature (R398). -/
def State.activeCosigned (s : State) : Bool :=
  let t := s.flashImage 1
  let a := t.base + t.num 0x1C 4
  let digest := memRead t.mem (a + 8) 48
  testBit (memNat t.mem (a + 4) 1) 1 && digest == Config.sha384 (memRead t.mem t.base (t.num 0x1C 4)) &&
    s.customerOk digest (memRead t.mem (a + 0x98) 96)

/-- What LCS and KEY show of the fuses and the life-cycle record. -/
def State.showLife (s : State) : State :=
  let s := ((s.setFld .lcsStateState s.lcs).setFld .devModestatLcs s.lcs).setFld .lcsStatePending (s.life.target.getD s.lcs)
  let s := (s.setFld .lcsStateErasepend (bit s.life.erasePend)).setFld .lcsStateOkrev s.life.okRevoked
  let s := (s.setFld .keyStatEnrolled (bit s.life.keyValid)).setFld .keyStatRevoked (bit s.life.keyRevoked)
  s.setFld .keyStatPartial (bit (!s.life.keyValid && s.life.keyFuses.any (· != 0)))

/-- The RESULT that refuses a transition, or 0 (R398): in the order of the table, but for the lock-out of RESULT 4, which stands before the
signatures are tried. -/
def State.lcsRefusal (s : State) (init target key : Nat) : Nat :=
  match lcsRows.find? (fun r => r.src == s.lcs && r.dst == target) with
  | none => 2
  | some r =>
    let recent := match s.life.lastRefusal with
      | some t => decide (s.since t < 10 ^ 9)
      | none => false
    if !r.paths.contains (accessPath init) then 2
    else if recent then 4
    else if (r.token && !s.tokenOk target) || (r.customer && !s.customerAuth target init) then 3
    else if s.paired && s.pairState == 2 then 5
    else if s.lcs == 2 && target == 3 && s.keyEnrolled && !s.activeCosigned then 6
    else if key != 0xA5C3 then 7
    else if s.life.target.isSome || (decide (3 ≤ s.fld .updStatState) && decide (s.fld .updStatState ≤ 8)) || !s.bist.running.isEmpty ||
        !s.bist.waiting.isEmpty then 8
    else 0

/-- Steps 2 to 4 of R399: the bits are blown, and the full reset follows. A supply warning defers them (R26). -/
def State.runTransition (s : State) : State :=
  match s.life.target with
  | none => s
  | some t =>
    if s.boot.warning then s
    else fullReset { s.idleRows with life.blown := stateCopies t } .swFull none false

/-- LCS_TRANSITION: a write of LCS.CMD with GO (R396 to R399). Every request draws a new challenge. -/
def lcsTransition (s : State) (init target key : Nat) : State :=
  match s.lcsRefusal init target key with
  | 0 =>
    let erase := target == 4 || target == 5
    let s := { s with life.target := some target, life.origin := s.lcs, life.erasePend := erase, life.eraseDone := if s.lcs == 4 then 3 else 0 }
    ((s.drawChallenge.showLife).setFld .lcsResultResult 1).runTransition
  | r =>
    let s := if r == 3 then { s with life.lastRefusal := some s.frc } else s
    let s := (s.setFld .lcsResultResult r).setFld .lcsResultFails (min 65535 (s.fld .lcsResultFails + 1))
    s.drawChallenge.raise srcDevLcdenied

/-- Items of the erasure of R401: the customer's flash regions; profiles, calibration and state records; the co-signing key. -/
def State.eraseItem (s : State) (item : Nat) : State :=
  match item with
  | 0 =>
    let keep := fun (a : Nat) => decide (a < 0x3000000) || (decide (0x3080000 ≤ a) && decide (a < 0x30C0000))
    { s with boot.flash := s.boot.flash.filter (fun c => keep c.1) }
  | 1 =>
    let keep := fun (a : Nat) => decide (0x1A000 ≤ a) && !(decide (0x27000 ≤ a) && decide (a < 0x28000))
    { s with boot.store := s.boot.store.filter (fun c => keep c.1) }
  | _ => { s with life.keyRevoked := true }

/-- At step 2 of R72 chuck compares the life-cycle record with the fuses (R399): bits left at an intermediate state are blown first; a transition
whose bits are blown has its erasure completed and its pending entry cleared; another did not happen. -/
def State.settleLife (s : State) : State :=
  let s := match s.life.target with
    | some t =>
      let s := if s.life.origin < s.lcs ∧ s.lcs < t then { s with life.blown := stateCopies t } else s
      if s.lcs == t then { s with life.target := none } else { s with life.target := none, life.erasePend := false }
    | none => s
  let s := if s.life.erasePend then
      let s := (List.range 3).foldl (fun s i => if s.life.eraseDone ≤ i then { s.eraseItem i with life.eraseDone := i + 1 } else s) s
      { s with life.erasePend := false, life.eraseDone := 0 }
    else s
  s.showLife

/-- A point as 96 bytes from the words of KEY.PUB. -/
def pubBytes (ws : List Word) : List Byte := ws.flatMap (fun w => (leBytes 4 w.toNat).reverse)

/-- Word `j` of KEY.PUB: after enrolment the fused key (R400). -/
def State.pubWord (s : State) (j : Nat) : Word :=
  if s.life.keyValid then Word.ofNat (leNat ((s.life.keyFuses.drop (4 * j)).take 4).reverse) else s.life.pub.getD j 0

/-- The RESULT that refuses an enrolment, or 0 (R400). -/
def State.enrolRefusal (s : State) (key : Nat) : Nat :=
  let pub := pubBytes s.life.pub
  if pub.all (· == 0) || !Config.onCurve pub then 3
  else if s.life.keyValid then 4
  else if (List.range 96).any (fun i => (s.life.keyFuses.getD i 0) &&& ~~~(pub.getD i 0) != 0) then 5
  else if s.lcs != 2 || key != 0xA5C3 then 6
  else 0

/-- KEY_ENROL: a write of KEY.CMD with ENROL (R400). A refused enrolment sets LCDENIED (spec/17, opening). -/
def keyEnrol (s : State) (key : Nat) : State :=
  match s.enrolRefusal key with
  | 0 => (({ s with life.keyFuses := pubBytes s.life.pub, life.keyValid := true } : State).showLife).setFld .keyStatResult 2
  | r => (s.setFld .keyStatResult r).raise srcDevLcdenied

/-- A word of LCS.TOKEN or LCS.AUTH: four bytes, most significant first (R397). -/
def putSigWord (sig : List Byte) (j : Nat) (w : Word) : List Byte := sig.take (4 * j) ++ (leBytes 4 w.toNat).reverse ++ sig.drop (4 * j + 4)

/-- Word `i` of LCS.CHAL (R397). -/
def State.chalWord (s : State) (i : Nat) : Word := Word.ofNat (leNat ((s.life.challenge.drop (4 * i)).take 4).reverse)

end Sys2Proof.Machine
end

