-- ==== Sys2Proof/Machine/Restart.lean ====
section
/-!
DEFINITION. Stored profiles and their commands, warm restarts and the resets that software, the watchdog and the regatta cause, and chuck (spec/03, R57 to R73; spec/18, R415, R417, R425).
-/

namespace Sys2Proof.Machine

/-! ### Profile records (R57 to R60) -/

/-- Base of profile slot `i` (R57): profile n has slots 2n and 2n + 1. -/
def profSlot (i : Nat) : Nat := 0x2000 * i

/-- The file of a profile slot. -/
def State.profFile (s : State) (i : Nat) : TableFile := ⟨s.boot.store, profSlot i⟩

/-- MAGIC, FORMAT, LENGTH and CRC of a slot (R58, check 1 of R60): the CRC takes SEQ as 0. -/
def profHeadOk (t : TableFile) : Bool :=
  let len := t.num 6 2
  t.num 0 4 == 0x46505953 && t.num 4 2 == 1 && len % 4 == 0 && decide (0x44 ≤ len) && decide (len ≤ 8192) &&
    t.num (len - 4) 4 == (crc32 (memRead t.mem t.base 8 ++ List.replicate 4 0 ++ memRead t.mem (t.base + 12) (len - 16))).toNat

/-- The fields of a record, with SECTIONS where they are well formed (R59). -/
def profFields (t : TableFile) : Option Profile :=
  let len := t.num 6 2
  (sectionRecords 2048 (memRead t.mem (t.base + 0x40) (len - 0x44))).map (fun secs =>
    { seq := t.num 8 4, role := t.num 0xC 1, pair := t.num 0xD 1, flags := t.num 0xE 2, laneRate := t.num 0x10 2,
      netPorts := t.num 0x12 2, dramPop := t.num 0x14 1, dramOp := t.num 0x15 1, mpCfg := t.num 0x16 2,
      rateNum := t.num 0x28 2 * 65536 + t.num 0x18 2, rateDen := t.num 0x1A 2, views := t.num 0x1C 1, rows := t.num 0x1D 1,
      subfr := t.num 0x1E 1, pwmBits := t.num 0x1F 1, feather := t.num 0x20 2, holdLim := t.num 0x22 2, sinkRange := t.num 0x24 1,
      pmbusAdr := t.num 0x25 1, strokeSrc := t.num 0x26 2, sections := secs })

/-- FLAGS.REFSRC, FLAGS.ADAPT and FLAGS.HOLDTHRU of a profile (R58). -/
def Profile.refSrc (p : Profile) : Bool := testBit p.flags 0

/-- FLAGS[1], the initial value of VCORECTL.ADAPT. -/
def Profile.adapt (p : Profile) : Bool := testBit p.flags 1

/-- FLAGS.HOLDTHRU. -/
def Profile.holdThru (p : Profile) : Bool := testBit p.flags 2

/-- The range of every field (check 2 of R60); `spare` says that the reserved bytes are 0. -/
def Profile.rangesOk (p : Profile) (spare : Bool) : Bool :=
  let tile := p.role == 2
  (p.role == 1 || tile) && decide (p.pair ≤ 1) && decide (p.flags < 8) && spare &&
    (if tile then p.pair == 0 && p.netPorts == 0 && p.strokeSrc == 0 && decide (p.laneRate < 16) && p.dramPop == 1
      else !p.refSrc && (p.dramPop == 0xF || p.dramPop == 0xFF)) &&
    (List.range 4).all (fun n => decide (p.netPorts / 16 ^ n % 16 ≤ 5)) && decide (p.dramOp ≤ 3) && decide (p.mpCfg ≤ 2) &&
    decide (1 ≤ p.rateDen) && decide (p.rateNum / 65536 ≤ 255) && decide (23976 * p.rateDen ≤ 1000 * p.rateNum) &&
    decide (p.rateNum ≤ 240 * p.rateDen) && decide (1 ≤ p.views) && decide (p.views ≤ 4) && decide (1 ≤ p.rows) &&
    decide (p.rows ≤ 96) && decide (1 ≤ p.subfr) && decide (p.subfr ≤ 16) && decide (12 ≤ p.pwmBits) && decide (p.pwmBits ≤ 16) &&
    decide (p.feather ≤ 500) && decide (p.holdLim ≤ 60000) && decide (p.sinkRange ≤ 3) && decide (p.pmbusAdr ≤ 127) &&
    decide (p.strokeSrc ≤ 2) && p.sections.all (recordInLimits p.role p.pair p.dramPop)

/-- The register values that SECTIONS give, over reset values (R60). -/
def Profile.reader (p : Profile) : Reader := fun a =>
  p.sections.foldl (fun w r =>
    if r.1 ≤ a ∧ a < r.1 + 4 * r.2.length ∧ a % 4 = 0 then r.2.getD ((a - r.1) / 4) w else w) (regReset a)

/-- The line slots with their gaps leave the feather interval (R20). -/
def Profile.featherFits (p : Profile) : Bool :=
  decide (p.views * p.viewQ + (p.views - 1) * 40 * qNs + p.feather * 1000 * qNs ≤ p.strokeNs * qNs)

/-- The line-slot, chain and DRAM budgets of a profile (check 4 of R60). -/
def Profile.budgetsOk (p : Profile) : Bool :=
  let rd := p.reader
  if p.role == 2 then slotFits p && p.featherFits
  else
    (List.range 8).all (fun n => rd.fld (.chpCtrlEnable n) == 0 ||
      rd.chainFits n p.views p.rateNum p.rateDen (chainGuarantee (p.laneRate / 4 ^ n % 4) 2)) &&
      rd.dramFits p (if p.dramPop == 0xFF then 8 else 4) p.dramOp (rd.fld .drcCfgEccen == 1)

/-- The RESULT code of the first check of R60 that slot `i` fails: 3, or 7 for a budget; or its profile. -/
def State.checkSlot (s : State) (i : Nat) : Sum Nat Profile :=
  let t := s.profFile i
  if !profHeadOk t then .inl 3
  else match profFields t with
    | none => .inl 3
    | some p =>
      let spare := (List.range 22).all (fun k => t.num (0x2A + k) 1 == 0)
      if !p.rangesOk spare then .inl 3
      else if p.pair == 1 && p.reader.fld (.chpCtrlEnable 7) == 1 then .inl 3
      else if !p.budgetsOk then .inl 7
      else .inr p

/-- SEQ of a slot that holds a committed, valid record: the device writes SEQ when the write is committed (R58, R60). -/
def State.profSeq (s : State) (i : Nat) : Option Nat :=
  match s.checkSlot i with
  | .inr p => if p.seq == 0 then none else some p.seq
  | .inl _ => none

/-- The slot that is profile `n`: of its two slots the valid one with the newer SEQ (R57). -/
def State.profIn (s : State) (n : Nat) : Option Nat :=
  (newerSlot (s.profSeq (2 * n)) (s.profSeq (2 * n + 1))).map (fun i => 2 * n + i)

/-- The older slot of profile `n` (R57). -/
def State.profOlder (s : State) (n : Nat) : Nat :=
  match s.profIn n with
  | some i => if i == 2 * n then 2 * n + 1 else 2 * n
  | none => 2 * n

/-- Profile `n` of the event store, while it is valid. -/
def State.stored (s : State) (n : Nat) : Option Profile :=
  match s.profIn n with
  | none => none
  | some i => match s.checkSlot i with
    | .inr p => some p
    | .inl _ => none

/-- Address of the LASTGOOD record within the state records (R62; its place is the model's, log entry 17). -/
def lastGoodBase : Nat := 0x27800

/-- The profile number that LASTGOOD records. -/
def State.lastGood (s : State) : Option Nat :=
  if memNat s.boot.store lastGoodBase 4 == 0x444F4F47 then some (memNat s.boot.store (lastGoodBase + 4) 1 % 4) else none

/-! ### Profile commands (R60, R64) -/

/-- PROFWDATA_WRITE: a word goes to the older slot of the profile being written, and WORD advances (R60). -/
def profData (s : State) (data : Word) : State :=
  let n := s.fld .devProfwaddrProf
  let w := s.fld .devProfwaddrWord
  let s := s.nvWrite (.bytes (profSlot (s.profOlder n) + 4 * w) (leBytes 4 data.toNat))
  s.setFld .devProfwaddrWord (w + 1)

/-- PROFCMD OP 2: the written slot becomes the profile when it passes R60. DESIGN CHOICE: with no valid other slot SEQ is 1, and since SEQ 0
marks a slot that was never committed, 1 also follows 0xFFFFFFFF (log entry 113). -/
def profCommit (s : State) (n : Nat) : State :=
  let i := s.profOlder n
  match s.checkSlot i with
  | .inl r => s.setFld .devProfstatResult r
  | .inr _ =>
    let other := (s.profIn n).bind s.profSeq
    let seq := match other with
      | some x => if wrap32 (x + 1) = 0 then 1 else wrap32 (x + 1)
      | none => 1
    (s.nvWrite (.bytes (profSlot i + 8) (leBytes 4 seq))).setFld .devProfstatResult 2

/-- PROFCMD OP 3: both slots become invalid. -/
def profInvalidate (s : State) (n : Nat) : State :=
  let s := s.nvWrite (.bytes (profSlot (2 * n)) (leBytes 4 0))
  (s.nvWrite (.bytes (profSlot (2 * n + 1)) (leBytes 4 0))).setFld .devProfstatResult 2

/-- The boundary that begins stroke `k` has not passed (R41, R64). -/
def State.boundaryAhead (s : State) (k : Nat) : Bool := strokeAfter k (if s.isSender then s.access.prepared else s.stroke)

/-- The profile differs in a field that takes a full reset (R64). -/
def Profile.needsReset (p q : Profile) : Bool :=
  !(p.role == q.role && p.pair == q.pair && p.dramPop == q.dramPop && p.dramOp == q.dramOp && p.mpCfg == q.mpCfg && p.refSrc == q.refSrc)

/-- PROFCMD OP 1: a switch is armed for PROFSTROKE, or refused (R64). -/
def profSwitch (s : State) (n : Nat) : State :=
  let k := s.fld .devProfstroke
  match s.stored n, s.boot.profile with
  | some p, some q =>
    if !s.boundaryAhead k then s.setFld .devProfstatResult 4
    else if s.paired && s.pairState == 2 then s.setFld .devProfstatResult 5
    else if p.needsReset q then s.setFld .devProfstatResult 6
    else ({ s with boot.switch := some (n, k) } : State).setFld .devProfstatResult 1
  | _, _ => s.setFld .devProfstatResult 3

/-- A write of PROFCMD acts only with the key. -/
def profCommand (s : State) (op n key : Nat) : State :=
  if key != 0xA5C3 then s
  else match op with
    | 1 => profSwitch s n
    | 2 => profCommit s n
    | 3 => profInvalidate s n
    | _ => s

/-- A profile switch that is pending when a reset of any reach arrives is discarded, and RESULT reads 0 (R65). -/
def State.dropSwitch (s : State) : State :=
  if s.boot.switch.isNone then s else ({ s with boot.switch := none } : State).setFld .devProfstatResult 0

/-! ### Warm restarts (R66 to R71) -/

/-- Pages that keep their registers through a warm restart with hold-through (R69). -/
def State.holdPages (s : State) (page : Nat) : Bool :=
  match pageInfo page with
  | none => false
  | some p =>
    if s.isTile then p.type == .ltb || p.type == .snk || p.type == .skg || p.type == .kls || (p.type == .chp && decide (page < 0x142))
    else p.type == .tim || p.type == .stk || p.type == .kls || p.type == .chp

/-- Registers that any warm restart keeps: sticky bits and their masks (R353), the fault log, its state and the reaction entries (R354,
R364). -/
def warmKeeps (a : Nat) : Bool :=
  a % 4096 == 0x18 || a % 4096 == 0x1C || (decide (0x11100 ≤ a) && decide (a < 0x11200)) || a == Fld.addr .fltLogstatNext

/-- Fields that show DRAM as it stands. -/
def dramFields : List Fld :=
  [.drcMapNch, .drcMapCapgb, .drcMapEcc, .drcMapUsermb, .drcOpstatCur, .drcOpstatTrained] ++
    (List.range 8).flatMap (fun c => [.dcStatReady c, .dcStatSr c, .dcStatTrained c, .dcStatMr4rate c, .dcStatRefrate c, .dcRefcostCost c, .dcRefcostTrfc c])

/-- Fields that show what a warm restart does not touch: the role, causes and profile in DEV, the throttle and the supply monitors in THS,
DRAM as it stands, underlay buffers in the mirror (R69, R173, R320, R370), the tile's stroke number, and the calibration in force (R293). -/
def warmFields : List Fld :=
  [.devRolestatRole, .devRolestatProfile, .devRolestatPairpos, .devRolestatBlockpwr, .devModestatViews, .devModestatLcs, .devModestatThrottle,
   .devModestatUpdate, .devVcorectlPmbusOk, .devVcorectlVnow, .devRstcauseCause, .devRstcauseWarmcnt, .devProfstatPins, .devProfstatFallback,
   .devBootstatStage, .thsThrstatStep, .thsThrstatInforce, .thsTjmaxTj, .thsTjmaxSrc, .thsTjmaxValidn, .thsTextTp, .thsTextState,
   .thsRailstatWarn, .thsRailstatFirst, .stkNow, .scnStatLayoutok, .grnTabstatInforce] ++ dramFields ++
    (List.range 4).flatMap (fun v => [.undStatValid0 v, .undStatValid1 v]) ++ (List.range 8).map (fun i => .thsSensorT i) ++
    (List.range 4).flatMap (fun i => [.calTsofsLo i, .calTsofsHi i]) ++ (List.range 5).flatMap (fun k => [.calLastok k, .calLasttjTj k, .calLasttjSet k])

/-- The registers after a warm restart: pages of `keep` keep theirs but for COMMIT, the others take their reset values but for what any
warm restart keeps. -/
def State.warmRegs (s : State) (keep : Nat → Bool) : State :=
  let fs := warmFields.map (fun f => (f, s.fld f))
  let stays := fun (a : Nat) => (keep (a / 4096) && a % 4096 != 0x10) || warmKeeps a
  let counted := fun (a : Nat) => keep (a / 4096) || a / 4096 == 0x11
  let s := { s with regs := s.regs.filter (fun e => stays e.1), counters := s.counters.filter (fun e => counted e.1) }
  fs.foldl (fun s x => s.setFld x.1 x.2) s

/-- Scan-out in a warm restart: with hold-through the driving codes are kept and repeated, frame buffers and preparing codes are discarded
(R69, R71). -/
def ScanView.warm (x : ScanView) : ScanView := { ScanView.reset with drive := x.drive, showsHold := x.showsHold }

/-- The pair state in a warm restart (R69, R347): an active with hold-through goes on, a standby keeps its journal, and any other unit
forms its pair anew. -/
def State.warmPair (s : State) (hold : Bool) : State :=
  if s.pairing.control && hold then s
  else if s.standsBy then s.notReady
  else
    let s := s.leaveControl
    ({ s with pairing := { PairState.reset with seen := s.pairing.seen, heldMs := s.pairing.heldMs, changedMs := s.pairing.changedMs } } : State).setPairState 0

/-- A warm restart of every block outside the hold-through set (R69 to R71, R79, R113, R393, R426). DESIGN CHOICE: flows end, and FLOWOWNED stays set in
the mirrored surface table until the flow is enabled and disabled again (log entry 118). -/
def State.doWarm (s : State) (cause : Cause) (hold : Bool) : State :=
  let serving := s.fld .devBootstatStage == 7 || (s.boot.warm && s.boot.wasServing)
  let warmPairFields : List Fld := [.pairStatState, .pairStatXlink, .pairStatPartner, .pairEpoch, .pairJseq, .pairValidto, .pairStatResync]
  let s := s.abandonTests
  let s := if s.cal.running.isSome then s.abandonCal 4 else s
  let s := s.stepBurnish.warmPair hold
  let kept := if s.pairState == 0 then [] else warmPairFields.map (fun f => (f, s.fld f))
  let keep := fun p => hold && s.holdPages p
  let s := s.warmRegs keep
  let s := kept.foldl (fun s x => s.setFld x.1 x.2) s
  let s := s.setFld .devBootstatStage (if hold then 9 else 1)
  let s := s.setFld .devRstcauseCause (setBit (s.fld .devRstcauseCause) cause.bit true)
  let s := (s.advance .devRstcauseWarmcnt).raise srcDevWarmrst
  let ready := if hold then (if s.isTile then s.boot.ready &&& (2 ^ 6 + 2 ^ 11 + 2 ^ 12) else s.boot.ready &&& (2 ^ 2 + 2 ^ 6)) else 0
  let s := { s with
    boot.warm := true, boot.expiry := true, boot.holdThrough := hold, boot.wasServing := serving, boot.switch := none, boot.watchdog := false, boot.ready := ready, boot.warmDue := none,
    boot.testing := 0, boot.wakeHits := 0, ths.dwell := 0, boot.refSource := if hold then s.boot.refSource else none, boot.resuming := false,
    access := { AccessState.reset with prepared := s.access.prepared, nextTag := s.access.nextTag },
    cue := CueState.reset, net := { NetState.reset with mpMem := s.net.mpMem }, ing := IngestState.reset,
    cmp := { ComposeState.reset with table := s.cmp.table, conv := s.cmp.conv, luts := s.cmp.luts, newest := s.cmp.newest },
    chain := if hold then { s.chain with ports := s.chain.ports.map (fun (p : ChainPort) => { p with queue := [], used := [0, 0, 0] }) } else ChainState.reset,
    scan := if hold then { ScanState.reset with views := s.scan.views.map ScanView.warm, sched := s.scan.sched, latchAt := s.scan.latchAt }
      else ScanState.reset,
    lamp := if hold then { s.lamp with probed := true }
      else { LampState.reset with opens := s.lamp.opens, shorts := s.lamp.shorts, openRuns := s.lamp.openRuns, shortRuns := s.lamp.shortRuns },
    grain.op := none, grain.chunks := [], grain.mapped := false, grain.saving := none, grain.saveDue := false, grain.clearDue := false,
    cal.queue := [], cal.running := none, cal.applying := none, cal.startKinds := [], cal.placed := 0,
    dram.held := none, dram.training := none, dram.trainedNow := [],
    flt.sampling := false, flt.windows := [], flt.resets := [], flt.sweep := none, flt.inject := none, flt.ignored := [],
    bist.waiting := [], bist.again := [], bist.deferred := [], bist.lostViews := [], bist.redraw := false, bist.parked := false,
    upd := { UpdateState.reset with record := s.upd.record, calAgain := s.upd.calAgain },
    time := if s.isSender then
        (if hold then s.time else { TimeState.reset with base := s.time.base, offset := s.time.offset, timeSet := s.time.timeSet })
      else { TimeState.reset with base := s.time.base, offset := s.time.offset, timeSet := s.time.timeSet, catchAt := s.time.catchAt,
                                  length := s.time.length } }
  let s := s.selfRefresh 1
  if hold then s else s.idleRows

/-- A warm restart is asked for (R67, R70, R79): in a supply warning it waits, the fourth within 60 s is a full reset, and outside service
only the holding chuck and a running unit answer. -/
def State.warmRestart (s : State) (w : WarmCause) : State :=
  let cause := match w with
    | .software => Cause.swWarm
    | .watchdog => .wdog
    | .regatta => .regatta
  if s.boot.inReset || s.ths.shutdown then s
  else if s.boot.warning then { s with boot.warmDue := some w }
  else
    let recent := s.boot.warmTimes.filter (fun t => decide (s.since t < 60 * 10 ^ 9))
    if 3 ≤ recent.length then fullReset s .escalate none false
    else
      let hold := match s.boot.profile with
        | some p => p.holdThru
        | none => false
      ({ s with boot.warmTimes := recent ++ [s.frc] } : State).doWarm cause hold

/-- WARM_RESTART (R69). -/
def execWarmRestart (cause : WarmCause) (s : State) : Result := run s (State.warmRestart · cause)

/-- MC_WATCHDOG: 500 ms without service, while the watchdog runs (R67, R73). -/
def execMcWatchdog (s : State) : Result :=
  run s fun s => if s.boot.watchdog && !s.wakeOnly then s.warmRestart .watchdog else s

/-- HOLD_THROUGH_EXPIRY: a warm restart has not reached STAGE 7 within its limit (R70), also where chuck holds. -/
def execHoldThroughExpiry (s : State) : Result :=
  run s fun s => if s.boot.expiry && s.fld .devBootstatStage != 7 then fullReset s .htExpire none false else s

/-- TAP_RESET: only the TAP controller is reset (R66, R67); a pending profile switch is discarded, as by any reset (R65). -/
def execTapReset (s : State) : Result := run s fun s => ({ s with boot.tapReset := true } : State).dropSwitch

/-- A write of RSTCTL: KIND 1 warm, 2 full, with the key (R67). -/
def resetControl (s : State) (kind : Nat) (profSrc : Bool) (prof key : Nat) : State :=
  if key != 0xA5C3 then s
  else match kind with
    | 1 => s.warmRestart .software
    | 2 => fullReset s .swFull (if profSrc then some (prof % 4) else none) false
    | _ => s

/-- OP 5 of UPD.CMD: the trial is rejected, and a warm restart falls back (R418). -/
def updReject (s : State) (key : Nat) : State :=
  if key != 0xA5C3 then s.updRefuse 12
  else if s.fld .updStatState != 7 then s.updRefuse 13
  else (s.writeUpd (fun r => { r with trials := 3 })).warmRestart .software

/-- REGATTA_ACTIVATE: the boundary that begins S has come in an armed unit (R415): the trial record and a warm restart. A mode that ranks
above it, a supply warning, a life-cycle transition, a takeover or a crew change, defers it, which counts once. -/
def regatta (s : State) : State :=
  if s.fld .updStatState != 6 || !strokeAtOrAfter (if s.isSender then s.access.prepared else s.stroke) (s.fld .updRegstroke) then s
  else if s.boot.warning || s.life.target.isSome || s.pairState == 6 || s.pairing.crew.isSome then
    if s.upd.deferring then s else ({ s with upd.deferring := true } : State).bump .updDeferred 1
  else
    let again := (s.cal.running.map (fun q => (q.kind, q.all))).toList ++ s.cal.queue
    let s := (s.bump .updActivations 1).writeUpd (fun r => { r with state := 7, trials := 0 })
    ({ s with boot.switch := none, upd.calAgain := again, upd.deferring := false } : State).warmRestart .regatta

/-- REGATTA_ACTIVATE (R415). -/
def execRegattaActivate (s : State) : Result := run s regatta

/-! ### Chuck (R72, R73, R417) -/

/-- What is left of the blocks when their power goes (R73, R125): strokes, cues, ports, composition, chains, scan-out, lamp drive, the pair and
the fault detectors start afresh; lamp flags and reaction entries stay. -/
def State.unpowered (s : State) : State :=
  { s with
    access := { AccessState.reset with prepared := s.access.prepared, nextTag := s.access.nextTag },
    boot.switch := none, boot.refSource := none, boot.wakeHits := 0,
    time := { TimeState.reset with txId := s.time.txId }, cue := CueState.reset,
    net := { NetState.reset with mpMem := s.net.mpMem }, ing := IngestState.reset, cmp := ComposeState.reset,
    chain := ChainState.reset, scan := ScanState.reset,
    lamp := { LampState.reset with opens := s.lamp.opens, shorts := s.lamp.shorts, openRuns := s.lamp.openRuns, shortRuns := s.lamp.shortRuns },
    grain.burn := none, pairing := { PairState.reset with seen := s.pairing.seen, heldMs := s.pairing.heldMs, changedMs := s.pairing.changedMs },
    flt := { FltState.reset with react := s.flt.react } }

/-- A page whose registers stay while chuck holds: those of MGT and THS, and the life-cycle pages; elsewhere only the sticky bits and their masks,
and the fault log (R353, R364). -/
def chuckKeeps (a : Nat) : Bool :=
  warmKeeps a || (match pageInfo (a / 4096) with
    | none => true
    | some p => p.block == 14 || p.block == 15)

/-- Chuck holds (R73): no role, STAGE 8, FAIL; no lane and no block but MGT is powered. -/
def State.chuckHold (s : State) (fail : Nat) : State :=
  let s := s.unpowered
  let s := { s with regs := s.regs.filter (fun e => chuckKeeps e.1), counters := s.counters.filter (fun e => chuckKeeps e.1),
                    boot.warm := false, boot.holdThrough := false, boot.ready := 0, boot.profile := none }
  let s := ((s.setFld .devRolestatRole 0).setFld .devRolestatPairpos 0).setFld .devRolestatBlockpwr 0
  (((s.setFld .devBootstatStage 8).setFld .devBootstatFail fail).setFld .devBootstatImage 0).idleRows

/-- The profile that this start takes (R62, R63), its number, and whether it came from LASTGOOD. -/
def State.takeable (s : State) : Option (Profile × Nat × Bool) :=
  match s.boot.warm, s.boot.profile with
  | true, some p => some (p, s.fld .devRolestatProfile, s.flag .devProfstatFallback)
  | _, _ =>
    let n := s.boot.select.getD s.boot.pins
    match s.stored n with
    | some p => some (p, n, false)
    | none => match s.lastGood with
      | none => none
      | some g => (s.stored g).map (fun p => (p, g, true))

/-- The image of a flash region passes R408 and R409 at chuck, for the role of the profile to be taken. -/
def State.imagePasses (s : State) (image : Nat) : Bool :=
  let t := s.flashImage image
  match s.takeable with
  | some (p, _, _) => s.imageErr t p.role none == 0
  | none => s.imageErr t 1 none == 0 || s.imageErr t 2 none == 0

/-- The images that step 4 tries, in order, with the record changed and UPDFAIL set as R417 asks. -/
def State.imageOrder (s : State) : State × List Nat :=
  let r := s.upd.record
  if r.state == 8 then (s, [2, 3])
  else if r.state == 7 then
    if r.trials < 3 then (s.writeUpd (fun r => { r with trials := r.trials + 1 }), [2, 3])
    else ((s.writeUpd (fun r => { r with state := 9 })).raise srcDevUpdfail, [3, 1])
  else if r.state == 9 then (s, [3, 1])
  else (s, [1, 3])

/-- Steps 4 and 5 of R72: the first image that passes is loaded; a boot that does not take the first one tried sets UPDFAIL. -/
def State.loadImage (s : State) : State :=
  let (s, l) := s.imageOrder
  match l.find? s.imagePasses with
  | none => s.chuckHold 2
  | some i =>
    let s := if l.head? == some i then s else s.raise srcDevUpdfail
    let s := { s with upd.running := memRead s.boot.flash (imageBase i) 256 }
    let s := ((s.setFld .devBootstatStage 4).setFld .devBootstatImage i).setFld .updStatFallback (bit (i == 3))
    (s.setFld .updVer s.runVersion).setFld .devBootstatFail 0

/-- Step 2 of R72: the life-cycle record, the repair record, the update record with the sector at JNEXT copied again, the records of a
thermal shutdown and of a supply reset (R375, R378, R389, R399, R419). -/
def State.readStore (s : State) (flash : Bool) : State :=
  let s := (s.settleLife).loadRepairs
  let s := if s.shutPend then s.endShutdown else s
  let s := match s.boot.supplyLatch with
    | some (rail, lowest) => ({ s with boot.supplyLatch := none } : State).logEvent 7 rail lowest 0xFFFFFFFF
    | none => s
  let s := { s with upd.record := s.readUpd }
  let s := s.showUpd
  if flash && s.upd.record.jop != 0 && decide (s.upd.record.jnext < s.upd.record.jtotal) then s.copySector else s

/-- CHUCK_BOOT: chuck runs at the end of a full or warm reset (R72). `flash` says that the boot flash answered, `refclk` that REFCLK100 was found
running. With SHUTPEND set after a power-on it waits for the sensors (R375). -/
def chuckBoot (s : State) (flash refclk : Bool) : State :=
  let stage := s.fld .devBootstatStage
  if s.boot.inReset || s.ths.shutdown || !(stage ≤ 3 || stage == 9) then s
  else
    let s := { s with boot.refclk := refclk }
    if s.lcs == 0 || s.lcs == 5 then s.settleLife.chuckHold 1
    else if s.shutPend && testBit (s.fld .devRstcauseCause) 0 then (s.showLife).setFld .devBootstatStage 2
    else
      let s := s.readStore flash
      if !flash then s.chuckHold 4 else s.loadImage

/-- CHUCK_BOOT (R72). -/
def execChuckBoot (flash refclk : Bool) (s : State) : Result := run s (chuckBoot · flash refclk)

/-- FLASH_NO_ANSWER: the boot flash has not answered within 100 ms (R72): chuck holds with FAIL 4. -/
def execFlashNoAnswer (s : State) : Result :=
  run s fun s =>
    let stage := s.fld .devBootstatStage
    if s.boot.inReset || s.ths.shutdown || !(stage ≤ 3 || stage == 9) then s else s.chuckHold 4

/-- SHUTPEND_RECHECK: chuck reads the sensors again (R375): once every one is below 110 °C it records the shutdown's end and proceeds. -/
def execShutpendRecheck (sensors : List Int) (s : State) : Result :=
  run s fun s =>
    if s.fld .devBootstatStage == 2 && s.shutPend && !sensors.isEmpty && sensors.all (fun x => decide (x < 1760)) then s.endShutdown else s

/-! ### SPI recovery load (R425) -/

/-- A write of RECOVCTL with START (R425): the load begins while chuck holds, in MAKER, OPEN, SEALED or RETURNED. -/
def recoveryStart (s : State) (key : Nat) : State :=
  if key != 0xA5C3 then s
  else if s.fld .devBootstatStage != 8 || s.lcs == 0 || s.lcs == 5 then (s.setFld .devRecovstatResult 3).setFld .devRecovstatErr 13
  else ((({ s with upd.recov := some [] } : State).setFld .devRecovstatWords 0).setFld .devRecovstatResult 1).setFld .devRecovstatErr 0

/-- The bytes of a recovery image received so far. -/
def recovBytes (ws : List Word) : List Byte := ws.reverse.flatMap (fun w => leBytes 4 w.toNat)

/-- The recovery image as a file. -/
def recovFile (ws : List Word) : TableFile := ⟨memWrite [] 0 (recovBytes ws), 0⟩

/-- The first failing check of the recovery image, for the role of the profile to be taken. -/
def State.recovErr (s : State) (t : TableFile) (whole : Bool) : Nat :=
  let check := fun role => if whole then s.imageErr t role none else s.headerErr t role none
  match s.takeable with
  | some (p, _, _) => check p.role
  | none => if check 1 == 0 then 0 else check 2

/-- A word written to RECOVDATA (R425): R408 is applied as the first 4 KB are complete. -/
def recovData (s : State) (data : Word) : State :=
  match s.upd.recov with
  | none => s
  | some ws =>
    if s.fld .devRecovstatResult != 1 || 4194304 ≤ ws.length then s
    else
      let ws := data :: ws
      let s := ({ s with upd.recov := some ws } : State).setFld .devRecovstatWords ws.length
      if ws.length == 1024 then
        let e := s.recovErr (recovFile ws) false
        if e == 0 then s else (s.setFld .devRecovstatResult 3).setFld .devRecovstatErr e
      else s

/-- A write of RECOVCTL with GO (R425): the image is verified and runs from MC memory, with IMAGE 0. -/
def recoveryGo (s : State) (key : Nat) : State :=
  if key != 0xA5C3 then s
  else match s.upd.recov with
    | none => (s.setFld .devRecovstatResult 3).setFld .devRecovstatErr 13
    | some ws =>
      if s.fld .devRecovstatResult != 1 || s.fld .devBootstatStage != 8 then
        (s.setFld .devRecovstatResult 3).setFld .devRecovstatErr 13
      else
        let t := recovFile ws
        let e := if 4 * ws.length < t.num 0x18 4 then 6 else s.recovErr t true
        if e != 0 then (s.setFld .devRecovstatResult 3).setFld .devRecovstatErr e
        else
          let s := { s with upd.running := memRead t.mem 0 256, upd.recov := none }
          let s := ((s.setFld .devRecovstatResult 2).setFld .devBootstatStage 4).setFld .devBootstatFail 0
          (s.setFld .devBootstatImage 0).setFld .updVer s.runVersion

end Sys2Proof.Machine
end

