-- ==== Sys2Proof/Machine/Fault.lean ====
section
/-!
DEFINITION. Fault collection and reaction (spec/14, R348 to R366) and the reset of a block (R39): recognition, reactions, masking windows, broken wires, proof injection, and the samples that FLT takes.
-/

namespace Sys2Proof.Machine

/-! ### The reset of a block (R39, R66, R359) -/

/-- What a reset of a block changes beside its registers: where a chapter says so, and where a reset field stops what runs under it. -/
def State.afterBlockReset (s : State) (b : Nat) : State :=
  match b with
  | 0 => { s with net.links := List.replicate 4 (List.replicate 4 Sublink.reset) ++ s.net.links.drop 4, net.ptpJoin := none, ing.monNow := none, ing.monCount := 0 }
  | 2 => { s with time.txq := List.replicate 5 [] }
  | 4 => s.resetCompose
  | 5 => iterate 8 (fun s n => if s.hopOn n && (!s.isTile || decide (n < 2)) then s.restartHop n else s) s
  | 6 =>
    let s := { s with chain := ChainState.reset }
    iterate 8 (fun s n => if s.hopOn n && (!s.isTile || decide (n < 2)) then s.restartHop n else s) s
  -- a held request does not outlive OPSTAT.RESULT (the model's choice, log entry 129)
  | 7 => { s with dram.held := none, dram.training := none, dram.trainedNow := [] }
  | 9 => s.stepBurnish.showCurves
  | 11 => s.checkMap
  | 12 => s.checkMap.showFlags
  | 14 => afterThrcfg s
  | _ => s

/-- Reset values that come from fuses, the profile or the role, on the pages among `pages`: MAC addresses (R118), the port latencies (R86),
HOLDLIM of SCN, ENABLE of a tile's chain ports and the lane-rate caps (R178). -/
def State.unitDefaults (s : State) (pages : Nat → Bool) : State :=
  let mac := fun (s : State) (q : Nat) =>
    if pages (netPage q) then
      let m := s.life.mac + 5 * q
      (s.setFld (.netMaclo (netPage q)) m).setFld (.netMachiAddr (netPage q)) (m / 2 ^ 32)
    else s
  let s := (List.range 5).foldl mac s
  let s := if pages 1 then iterate 5 State.bringUpPort s else s
  let s := if pages 0xB && s.isTile then
      (s.setFld .scnHoldlimMs (s.prof (·.holdLim))).setFld (Fld.shadow .scnHoldlimMs) (s.prof (·.holdLim))
    else s
  let port := fun (s : State) n =>
    if pages (0x140 + n) then (if s.isTile then s.setFld (.chpCtrlEnable n) 1 else s).setFld (.chpCtrlCap n) (s.ownCap n) else s
  (if s.isTile then [0, 1] else List.range 8).foldl port s

/-- The registers of `pages` take their reset values, and their pending or captured commits are refused with REASON 6 (R39). -/
def State.resetRegisters (s : State) (pages : List Nat) : State :=
  let s := s.dropSwitch
  let s := { s with access.snapReqs := s.access.snapReqs.filter (fun p => !pages.contains p),
                    access.fences := if pages.contains 0 then [] else s.access.fences }
  ((pages.foldl (fun s p => s.dropCommit p 6) s).resetPages pages.contains).unitDefaults pages.contains

/-- A block is reset (R39): the rate of TIM is folded before it goes, flows stop before their registers go, and TABSEL of GRN equals the copy
in force. -/
def State.resetBlock (s : State) (b : Nat) : State :=
  let s := if b == 2 then s.takeRate 0 else s
  let s := if b == 1 then { iterate 16 (fun s n => if s.flowOn n then flowStop s n else s) s with ing.shed := [] } else s
  let force := s.fld .grnTabstatInforce
  let s := (s.resetRegisters (blockPages b)).afterBlockReset b
  if b == 9 && force != 0 then (s.setFld .grnCtrlTabsel (force - 1)).setFld (Fld.shadow .grnCtrlTabsel) (force - 1) else s

/-- A block that the role has: one of its pages answers; KLP has no page and is in both roles. -/
def State.blockInRole (s : State) (b : Nat) : Bool := b == 5 || (blockPages b).any s.answers

/-- A write of 1 to PAGE_CTRL.BLKRESET of a page (R39, R358, R359, R449): the block is reset and a masking window opens; on a page of MGT or FLT
only that page's registers are reset, without a window. -/
def blockReset (s : State) (page : Nat) : State :=
  match pageInfo page with
  | none => s
  | some p =>
    if p.block == 13 || p.block == 15 then s.resetRegisters [page]
    else (s.resetBlock p.block).openWindow p.block

/-! ### Reactions (R354 to R357) -/

/-- Block reset reactions of block `b` within the last 60 s. -/
def State.recentResets (s : State) (b : Nat) : List (Nat × Nat) :=
  s.flt.resets.filter (fun r => r.1 == b && decide (s.since r.2 < 60 * 10 ^ 9))

/-- The fifth block reset within 60 s is not performed: RESETLOOP, and CLASS 0 in every entry that names the block (R357). -/
def State.resetLoop (s : State) (b : Nat) : State :=
  let idxs := sourcePages.flatMap (fun p => (List.range 10).map (srcIndex p))
  let s := idxs.foldl (fun s i =>
    if (sourceSpec i).isSome && s.reactBlock i == b then s.setReact i (s.react i / 8 * 8) else s) s
  s.raise srcFltResetloop

/-- The block reset reaction of a source on `page` aimed at block `b` (R354, R356, R357, R366). -/
def State.reactReset (s : State) (page b : Nat) : State :=
  if b == 13 || b == 15 then (s.resetRegisters [page]).bump .fltResets 1
  else if !s.blockInRole b || s.flt.windows.any (fun w => w.block == b) then s
  else if 4 ≤ (s.recentResets b).length then s.resetLoop b
  else
    let s := { s with flt.resets := s.flt.resets ++ [(b, s.frc)] }
    ((s.resetBlock b).openWindow b).bump .fltResets 1

/-- A block reset reaction of a source aimed at block `b` is performed (R354, R356, R357, R366). -/
def State.resetsBlock (s : State) (b : Nat) : Bool :=
  b == 13 || b == 15 || (s.blockInRole b && !s.flt.windows.any (fun w => w.block == b) && decide ((s.recentResets b).length < 4))

/-- The class that a source's reaction takes in this unit (R354, R364, R366): a class that the role does not have, a reset that is not
performed, or a yield that cannot be taken, acts as note. -/
def State.classTaken (s : State) (idx : Nat) : Nat :=
  match s.reactClass idx with
  | 1 => bit (s.resetsBlock (s.reactBlock idx))
  | 2 => if s.isTile then 2 else 0
  | 3 => if s.paired && s.pairState == 2 && s.mayYield then 3 else 0
  | _ => 0

/-- The reaction of a source is taken (R354, R355). -/
def State.reactTo (s : State) (idx : Nat) : State :=
  match s.reactClass idx with
  | 1 => s.reactReset (idx / 32) (s.reactBlock idx)
  | 2 => if s.isTile then { s with flt.safeDark := true } else s
  | 3 => s.takeYield idx
  | _ => s

/-! ### Recognition (R349 to R353, R358, R361) -/

/-- The detector of a recognised error is acknowledged (R351): an event source returns to idle, a level source stays while its condition
holds. -/
def State.acknowledge (s : State) (idx : Nat) : State :=
  let level := match sourceSpec idx with
    | some r => r.level
    | none => false
  if level then
    let take := fun (p : Pair) => if p.index == idx then { p with taken := true } else p
    { s with flt.pairs := s.flt.pairs.map take }
  else s.lower idx

/-- An error on a source's pair is recognised (R353, R356, R358, R361): under a masking window it is a secondary event; otherwise it sets the
real sticky bit, is logged, and its reaction is taken. `proof` says that an injection was recognised in the same sample. -/
def State.recognise (s : State) (idx : Nat) (proof : Bool) : State :=
  if s.masked (idx / 32) then
    let s := (s.setSecondary idx).bump .fltSecondary 1
    (s.logFault idx true proof true false 0).acknowledge idx
  else
    let c := s.classTaken idx
    let s := (s.setSticky idx).logFault idx true proof false false c
    (s.acknowledge idx).reactTo idx

/-- The pair of a source reads error, is not ignored, and has not been taken yet. -/
def State.errorStands (s : State) (idx : Nat) : Bool :=
  s.flt.pairs.any (fun p => p.index == idx && p.code == 2 && !p.taken) && !s.flt.ignored.contains idx

/-- An injection of `idx` has been recognised (R360, R361): `real` says that a real error was recognised in the same sample, whose log entry
then carries both. -/
def State.proofPasses (s : State) (idx : Nat) (real : Bool) : State :=
  let s := { s with flt.inject := none }
  let s := ((s.setFld .fltProofstatResult 2).setFld .fltProofstatClass (s.reactClass idx)).setFld .fltProofstatPin (bit (s.reactPin idx))
  let s := (s.setFld .fltProofstatRealcoinc (bit real)).bump .fltProofs 1
  if real then s else s.logFault idx false true false false 0

/-- FAULT_RECOGNISED: the pair of a source has read error in two samples (R349). An error that no other command has raised is that of a
detector whose condition the block's commands do not show; it has passed once it is recognised. -/
def faultRecognised (s : State) (idx : Nat) : State :=
  if !s.flt.sampling || (sourceSpec idx).isNone || s.flt.ignored.contains idx then s
  else if s.flt.pairs.any (fun p => p.index == idx && p.taken) then s
  else
    let stood := s.flt.pairs.any (fun p => p.index == idx)
    let injected := match s.flt.inject with
      | some (i, _) => i == idx
      | none => false
    let s := (s.raise idx).recognise idx injected
    let s := if injected then s.proofPasses idx true else s
    if stood then s else s.lower idx

/-- FAULT_RECOGNISED (R349). -/
def execFaultRecognised (index : Nat) (s : State) : Result := run s (faultRecognised · index)

/-- BROKEN_WIRE: a pair has read 0b00 or 0b11 in four samples (R350). -/
def brokenWire (s : State) (idx : Nat) : State :=
  if !s.flt.sampling || (sourceSpec idx).isNone || s.flt.ignored.contains idx then s
  else
    let c := s.classTaken idx
    let s := { s.lower idx with flt.ignored := s.flt.ignored ++ [idx] }
    let s := (s.setFld .fltBwidxIndex idx).raise srcFltBrokenwire
    ((s.setSticky idx).logFault idx false false false true c).reactTo idx

/-- BROKEN_WIRE (R350). -/
def execBrokenWire (index : Nat) (s : State) : Result := run s (brokenWire · index)

/-- BROKEN_WIRE_CLEAR: an ignored pair has read idle for 1 ms (R350). -/
def execBrokenWireClear (index : Nat) (s : State) : Result :=
  run s fun s => { s with flt.ignored := s.flt.ignored.filter (· != index) }

/-! ### FLT.CMD (R355, R360) -/

/-- RELEASE (R355). -/
def fltRelease (s : State) (key : Nat) : State :=
  if key != 0xA5C3 then s.setFld .fltStatRelresult 3
  else if s.darkSticky then s.setFld .fltStatRelresult 2
  else
    let s := if s.flt.safeDark then { s with flt.safeDark := false, lamp.waitCatch := true } else s
    s.setFld .fltStatRelresult 1

/-- The injection of an index begins (R360). -/
def State.injectAt (s : State) (idx : Nat) : State :=
  let s := (s.setFld .fltProofstatResult 1).setFld .fltProofstatIndex idx
  { s.setFld .fltProofstatRealcoinc 0 with flt.inject := some (idx, 0) }

/-- PROOF (R360). -/
def fltProof (s : State) : State :=
  let idx := s.fld .fltProofidxIndex
  if (sourceSpec idx).isNone then s.setFld .fltProofstatResult 4 else s.injectAt idx

/-- Every index that names a source, in ascending order (R360). -/
def allSources : List Nat :=
  (List.range 4096).flatMap (fun p => (List.range 10).filterMap (fun b => if (sourceSpec (srcIndex p b)).isSome then some (srcIndex p b) else none))

/-- PROOF with PROOFALL: a sweep over every index, one every 1 µs (R360). -/
def fltSweep (s : State) : State :=
  match allSources with
  | [] => s
  | i :: is => { s.injectAt i with flt.sweep := some (is, 100) }

/-- ABORT stops a sweep (R360). -/
def fltAbort (s : State) : State := { s with flt.sweep := none }

/-- PROOF_MISS: an injection has not been recognised within 1 µs (R360): RESULT 3 and PROOFMISS; a sweep stops there. -/
def proofMiss (s : State) : State :=
  match s.flt.inject with
  | none => s
  | some _ =>
    let s := { s with flt.inject := none, flt.sweep := none }
    (s.setFld .fltProofstatResult 3).raise srcFltProofmiss

/-- PROOF_MISS (R360). -/
def execProofMiss (s : State) : Result := run s proofMiss

/-- MASKING_WINDOW_CLOSE: the MASKWIN-th stroke boundary after the block is ready (R358): its window closes where the boundaries counted before
leave one. -/
def execMaskingWindowClose (block : Nat) (s : State) : Result :=
  run s fun s =>
    if testBit s.boot.ready block then { s with flt.windows := s.flt.windows.filter (fun w => !(w.block == block && decide (w.left ≤ 1))) } else s

/-- A write of LOGSTAT.CLR empties the log (R364). -/
def fltLogClear (s : State) : State :=
  let s := { s with regs := sparseDrop (fun a => decide (0x11100 ≤ a) && decide (a < 0x11200)) s.regs }
  (s.setFld .fltLogstatCount 0).setFld .fltLogstatNext 0

/-! ### The samples of FLT (R349): what an idle step stands for (log entry 2) -/

/-- The rank of a reaction in R356: yield, safe-dark, block reset, note. -/
def classRank (c : Nat) : Nat := if c == 3 then 0 else if c == 2 then 1 else if c == 1 then 2 else 3

/-- Every pair takes one more sample of its code. -/
def State.samplePairs (s : State) : State :=
  let one := fun (p : Pair) => if s.flt.ignored.contains p.index then p else { p with run := p.run + 1 }
  { s with flt.pairs := s.flt.pairs.map one }

/-- Errors that have now been read in two samples, in the order of R356. -/
def State.dueErrors (s : State) : List Nat :=
  let due := (s.flt.pairs.filter (fun p => p.code == 2 && !p.taken && decide (2 ≤ p.run) && !s.flt.ignored.contains p.index)).map (·.index)
  [0, 1, 2, 3].flatMap (fun k => due.filter (fun i => classRank (s.reactClass i) == k))

/-- Broken wires that have now been read in four samples. -/
def State.dueBroken (s : State) : List Nat :=
  (s.flt.pairs.filter (fun p => p.code % 3 == 0 && decide (4 ≤ p.run) && !s.flt.ignored.contains p.index)).map (·.index)

/-- The injection takes one more sample: the index it reaches recognition for, if it does. -/
def State.sampleProof (s : State) : State × Option Nat :=
  match s.flt.inject with
  | none => (s, none)
  | some (i, n) => if 1 ≤ n then (s, some i) else ({ s with flt.inject := some (i, n + 1) }, none)

/-- A sweep injects its next index every 1 µs, 100 samples (R360). -/
def State.moveSweep (s : State) : State :=
  match s.flt.sweep with
  | none => s
  | some ([], _) => if s.flt.inject.isNone then { s with flt.sweep := none } else s
  | some (i :: is, n) => if n ≤ 1 then { s.injectAt i with flt.sweep := some (is, 100) } else { s with flt.sweep := some (i :: is, n - 1) }

/-- One sample period: 10 ns of the free-running counter, a cell boundary of every lane (R206), and, where FLT samples, one sample of every pair. -/
def State.tick (s : State) : State :=
  let s := ({ s with frc := (s.frc + 10) % 2 ^ 64, sent := [], reply := none } : State).cellBoundary
  if !s.flt.sampling || s.wakeOnly then s
  else
    let r := s.samplePairs.moveSweep.sampleProof
    let s := r.1
    let due := s.dueErrors
    let proof := fun i => r.2 == some i
    let s := due.foldl (fun s i => s.recognise i (proof i)) s
    let s := match r.2 with
      | some i => s.proofPasses i (due.contains i)
      | none => s
    s.dueBroken.foldl brokenWire s

end Sys2Proof.Machine
end

