-- ==== Sys2Proof/Machine/Access.lean ====
section
/-!
DEFINITION. Register access (spec/02): the checks that every access passes, the words that reads return, and the effect of a write on each register (R28 to R32, R43, R44, R56, R448). What SECTIONS, SETTINGS records, cues and the access paths do with it stands in Start.lean, Port.lean and Catch.lean.
-/

namespace Sys2Proof.Machine

/-! ### The checks of an access (R28, R30 to R32, R55, R56, R73, R125) -/

/-- A vendor page (R29). -/
def vendorPage (page : Nat) : Bool := decide (0xF00 ≤ page)

/-- A life-cycle, key or fuse page (R29). -/
def lifePage (page : Nat) : Bool := decide (0xE00 ≤ page) && decide (page < 0xF00)

/-- The page answers NOPAGE: it is not implemented, hidden by the life-cycle state, hidden while no role is taken, or hidden in
wake-pattern-only mode (R30, R56, R73, R125). -/
def State.noPage (s : State) (page : Nat) : Bool :=
  let l := s.lcs
  if vendorPage page then l == 0 || l == 3 || l == 5 || s.wakeOnly
  else if (pageInfo page).isNone then true
  else if page == 0 then false
  else if lifePage page then l == 5 || s.wakeOnly
  else l == 0 || l == 5 || s.fld .devRolestatRole == 0 || (s.wakeOnly && page != 4)

/-- The access is closed by the life-cycle state (R47, R56): the paths other than SPI in BLANK and SCRAPPED and while no role is taken, and
writes to a read-only page class. -/
def State.denied (s : State) (init page : Nat) (write : Bool) : Bool :=
  let l := s.lcs
  let path := (init == 1 || decide (8 ≤ init)) && (l == 0 || l == 5 || s.fld .devRolestatRole == 0 || s.wakeOnly)
  let readOnly := (page == 0 && l == 5) || (vendorPage page && l == 2) || (decide (0xE10 ≤ page) && decide (page < 0xE14) && decide (2 ≤ l))
  path || (write && readOnly)

/-- The status with which an access is refused before it acts, or 0 (R28, R30, R32, R47, R56). A page that is not in role is never
refused: R3 answers it. -/
def State.gate (s : State) (init addr : Nat) (write : Bool) : Nat :=
  let page := addr / 4096
  let off := addr % 4096
  if addr % 4 != 0 then 5
  else if s.noPage page then 3
  else if s.denied init page write then 2
  else match pageInfo page with
    | none => 0
    | some p =>
      if s.answers page && s.testing p.block && !(if write then off == 0x18 || off == 0x1C else decide (off < 0x28)) then 4 else 0

/-! ### Reads -/

/-- A page that answers in TILE role (R429). -/
def tunnelPage (p : PageInfo) (page : Nat) : Bool :=
  match p.roles with
  | .both => true
  | .tile => true
  | .chain => decide (page < 0x142)
  | .dram => page == 0x150
  | .sender => false
  | .paired => false

/-- PAGE_CAP of a page in role (R31, R427, R429). -/
def pageCap (p : PageInfo) (page : Nat) : Word :=
  Word.ofNat (2 * bit p.shadow + 4 * bit p.snapable + 8 * bit (tunnelPage p page) + 16 * bit (p.shadow || p.snapable) + 1024 * p.nsrc)

/-- The block is powered and initialised (PAGE_STAT.READY): MGT from the release of reset on, the others as the firmware brings them up. -/
def State.blockReady (s : State) (b : Nat) : Bool :=
  if b == 15 then !s.boot.inReset else testBit s.boot.ready b && !(s.cold && (b == 0 || b == 1 || b == 4))

/-- PAGE_STAT of a page (R31). Calibration steps take no time here, so CAL reads 0. -/
def State.pageStat (s : State) (p : PageInfo) (page : Nat) : Word :=
  Word.ofNat (bit (s.blockReady p.block) + 2 * bit (s.testing p.block) + 4 * bit (s.masked page) + 8 * bit (s.pageAny page))

/-- Static-picture idle is in force for the current stroke (R208). -/
def State.staticNow (s : State) : Bool := if s.isTile then s.flag .scnStatStatic else s.chain.static

/-- Some port transmits low-power idle (DEV.MODESTAT.EEE). -/
def State.anyLpi (s : State) : Bool :=
  (List.range 5).any (fun q => s.fld (.netStatusTxlpi (netPage q)) != 0)

/-- Some port may be in receive LPI (DEV.MODESTAT.EEE). -/
def State.anyMayRxLpi (s : State) : Bool := (List.range 5).any (fun q => s.mayRxLpi q != 0)

/-- The record of the event log at INDEX (R380), by its address in the event store. -/
def State.evRecord (s : State) : Nat := evBase + 64 + 32 * s.fld .thsEvidxIndex

/-- Fences completed by an initiator (R46). -/
def State.fences (s : State) (init : Nat) : Nat := assocGet s.access.fences init 0

/-- A fence of an initiator completes: each of its accesses takes effect before its next one is taken (R44, R46). -/
def State.passFence (s : State) (init : Nat) : State :=
  { s with access.fences := assocPut s.access.fences init 0 ((s.fences init + 1) % 65536) }

/-- Fields of a word replaced, given as pairs of field and value. -/
def withFields (w : Word) (l : List (Fld × Nat)) : Word := l.foldl (fun w x => x.1.put w x.2) w

/-- Reads of DEV that show more than the stored word. -/
def State.readDev (s : State) (init off : Nat) (w : Word) : Word :=
  match off with
  | 0x44 => withFields w [(.devFenceCount, s.fences init), (.devFenceInitiator, init)]
  | 0x48 => withFields w [(.devInitiatorId, init)]
  | 0x54 => withFields w [(.devDapstatQfree, 256 - s.access.queue), (.devDapstatSessions, s.access.sessions.length)]
  | 0x60 => (if s.cold then w &&& ~~~(0x130000#32) else w) ||| 0x80000000#32
  | 0x64 => withFields w [(.devModestatViews, s.prof (·.views) - 1), (.devModestatStatic, bit s.staticNow), (.devModestatEee, bit s.anyLpi)]
  | 0x80 => withFields w [(.devProfstatValid, (List.range 4).foldl (fun m n => if (s.stored n).isSome then m + 2 ^ n else m) 0),
      (.devProfstatLastgood, s.lastGood.getD 0)]
  | _ => w

/-- Reads of TIM (R84, R88). -/
def State.readTim (s : State) (off : Nat) (w : Word) : Word :=
  if off == 0x40 then Word.ofNat (unsigned 32 s.now)
  else if 0x100 ≤ off ∧ off < 0x150 then
    let q := (off - 0x100) / 16
    let l := s.time.txq.getD q []
    match off % 16, l.head? with
    | 0, _ => withFields w [(.timTxqstatCount q, l.length)]
    | 4, some x => withFields w [(.timTxqidId q, x.id), (.timTxqidStepseq q, x.stepSeq), (.timTxqidValid q, 1)]
    | 8, some x => Word.ofNat x.ns
    | _, _ => w
  else w

/-- Reads of CMP: D, WINDOW and LOAD of the running configuration (R161, R162), and the window. -/
def State.readCmp (s : State) (off : Nat) (w : Word) : Word :=
  let rd : Reader := s.reg
  match s.boot.profile with
  | none => w
  | some p =>
    match off with
    | 0x4C => Word.ofNat (rd.deadline p.views p.feather s.chainG)
    | 0x50 => Word.ofNat (rd.composeWindow p s.chainG)
    | 0x54 => Word.ofNat (rd.load p.views)
    | _ => w

/-- Reads of DRC: the plan and its limit in a sender (R304). -/
def State.readDrc (s : State) (off : Nat) (w : Word) : Word :=
  if off == 0x50 then
    let rd : Reader := s.reg
    match s.isSender, s.boot.profile with
    | true, some p => withFields w [(.drcBudgetPlan, rd.planTenths p s.eccOn), (.drcBudgetLimit, limitTenths (s.fld .drcMapNch) (s.fld .drcOpstatCur))]
    | _, _ => w
  else w

/-- Reads of FLT (R352, R354, R355, R358, R362 to R364). -/
def State.readFlt (s : State) (off : Nat) (w : Word) : Word :=
  let idx := s.fld .fltRselIndex
  match off with
  | 0x44 => withFields w [(.fltStatSafedark, bit s.flt.safeDark), (.fltStatFaultn, bit s.faultLow), (.fltStatIrqn, bit s.irqLow),
      (.fltStatWinopen, s.flt.windows.length)]
  | 0x4C => match sourceSpec idx with
    | none => 0
    | some r => withFields 0 [(.fltReactClass, s.reactClass idx), (.fltReactPin, bit (s.reactPin idx)), (.fltReactBlock, s.reactBlock idx),
        (.fltReactKind, bit r.level), (.fltReactImpl, 1)]
  | 0x60 => Word.ofNat (assocGet s.flt.secondary (s.fld .fltSecselPage) 0)
  | 0x64 => match s.secAny with
    | none => 0
    | some p => withFields 0 [(.fltSecanyPage, p), (.fltSecanyValid, 1)]
  | 0x68 => withFields w [(.fltBwidxCount, s.flt.ignored.length)]
  | 0x6C => match s.irqPages.head? with
    | none => 0
    | some p => withFields 0 [(.fltPendpagePage, p), (.fltPendpageValid, 1)]
  | _ => w

/-- Reads of THS: the event log (R380). -/
def State.readThs (s : State) (off : Nat) (w : Word) : Word :=
  if off == 0xA0 then
    let a := s.evRecord
    let ok := memNat s.boot.store (a + 28) 4 == (crc32 (memRead s.boot.store a 28)).toNat
    withFields w [(.thsEvidxValid, bit ok)]
  else if off == 0xA4 then withFields w [(.thsEvheadHead, s.evHead), (.thsEvheadWrapped, bit (testBit s.evFlags 1))]
  else if 0xC0 ≤ off ∧ off < 0xE0 then Word.ofNat (memNat s.boot.store (s.evRecord + (off - 0xC0)) 4)
  else w

/-- Hours since the unit last held control, saturating (PAIR.ACTIVEAGE). -/
def State.activeAge (s : State) : Nat := if s.pairing.control then 0 else min 65535 ((s.ths.uptimeMs - s.pairing.heldMs) / 3600000)

/-- Reads of BST: the repair record and the groups (R382, R388, R389). -/
def State.readBst (s : State) (off : Nat) (w : Word) : Word :=
  if off == 0x50 then withFields w [(.bstFailmaskGroups, s.failMask)]
  else if off == 0x54 then withFields w [(.bstRepstatSoft, s.softEntries.length), (.bstRepstatFuse, s.bist.fuses.length)]
  else if 0x100 ≤ off ∧ off < 0x15C then
    let g := (off - 0x100) / 4
    withFields w [(.bstGroupInrole g, bit (s.groupInRole g)), (.bstGroupStartonly g, bit (groupStartOnly g)), (.bstGroupDark g, bit (groupDark g)),
      (.bstGroupSparesleft g, s.sparesLeft g)]
  else w

/-- LPIWAKE of a port (R123). -/
def State.wakeWord (s : State) (q : Nat) : Word := withFields 0 [(.netLpiwakeTwtx 0, (s.lpiWake q).1), (.netLpiwakeTwrx 0, (s.lpiWake q).2)]

/-- The bits of STATHALF of a sub-link whose counters run on what no command tells (R122, R128), as a mask. -/
def State.unseenMask (s : State) (q l : Nat) : Nat := ((List.range 24).map (fun i => if s.unseenOn q l i then 2 ^ i else 0)).sum

/-- What a read of a register in role shows, given the word stored at it. -/
def State.shown (s : State) (init page off : Nat) (t : PageType) (w : Word) : Word :=
  match t with
  | .dev => s.readDev init off w
  | .tim => s.readTim off w
  | .stk => if off == 0x50 then withFields w [(.stkStatSpare, s.spareNs / 1000)] else w
  | .cue => if off == 0x40 then withFields w [(.cueStatFree, s.cueFree)] else w
  | .np => if off == 0x60 then s.wakeWord (page % 4) else w
  | .mp => if off == 0x60 then s.wakeWord 4 else if 0x400 ≤ off ∧ off < 0x800 then Word.ofNat (s.mpNat (mpWrap (s.fld .mpWinbaseBase / 4 * 4 + (off - 0x400))) 4) else w
  | .cmp => s.readCmp off w
  | .drc => s.readDrc off w
  | .pck => match off, s.srcSelected with
    | 0xE8, some x => x.crc
    | 0xEC, some x => Word.ofNat x.stroke
    | _, _ => w
  | .grn =>
    if off == 0x6C then withFields w [(.grnAgestatSince, s.ageSince)]
    else w
  | .snk => if off == 0x78 then s.flagWord else w
  | .flt => s.readFlt off w
  | .ths => s.readThs off w
  | .pair => if off == 0x74 then withFields w [(.pairActiveageHours, s.activeAge)] else w
  | .bst => s.readBst off w
  | .lcs => if 0x80 ≤ off ∧ off < 0xA0 then s.chalWord ((off - 0x80) / 4) else w
  | .key => if 0x100 ≤ off ∧ off < 0x160 then s.pubWord ((off - 0x100) / 4) else w
  | .fuse => if 0x40 ≤ off ∧ off < 0x800 then sparseGet (fun _ => (0 : Word)) s.life.raw (4096 * (page - 0xE10) + off) else w
  | _ => w

/-- A header word of a page in role (R31). -/
def State.readHeader (s : State) (p : PageInfo) (page off : Nat) : Word :=
  match off with
  | 0x00 => Word.ofNat (p.code + 2 ^ 8 + 2 ^ 16 * page)
  | 0x04 => pageCap p page
  | 0x08 => s.pageStat p page
  | 0x10 => if p.shadow then s.reg (4096 * page + off) else 0
  | 0x20 => if p.snapable then s.reg (4096 * page + off) else 0
  | 0x24 => if p.snapable then s.reg (4096 * page + off) else 0
  | _ => if off < 0x28 then s.reg (4096 * page + off) else 0

/-- The bits of a vendor page's header that nothing gives a value: TYPE, NSRC, the fields of PAGE_STAT, the sources (R428). -/
def vendorOpen (off : Nat) : Word :=
  match off with
  | 0x00 => 0xFF
  | 0x04 => 0xFC00
  | 0x08 => 0xFFFF001F
  | 0x18 => 0xFFFFFFFF
  | _ => 0

/-- A header word of a vendor page (R31, R427, R429): WALLCUE reads 0, so it has neither shadows nor SNP fields, and COMMIT, SNAP and
SNAP_STROKE read 0. -/
def State.vendorHeader (s : State) (page off : Nat) : State × Word :=
  let known := match off with
    | 0x00 => Word.ofNat (2 ^ 8 + 2 ^ 16 * page)
    | 0x0C | 0x14 | 0x1C => s.reg (4096 * page + off)
    | _ => 0
  if vendorOpen off = 0 then (s, known)
  else
    let (n, s) := s.draw
    (s, known ||| (Config.vendorWord (4096 * page + off + 2 ^ 24 * n) &&& vendorOpen off))

/-- The word that an access of initiator `init` reads at an address that no check refuses (R3, R31, R36, R431), and the state after the
read: a window read of CMP, GRN or UPD may log an error, and a vendor page returns what R428 does not describe. What only an instrument or the instant
gives, the LED supply of SNK.VLEDNOW, the level that waits at a DRAM port, a link partner's LPI (R122) and how far the DAP access queue has
drained (R53), reads as a free value. -/
def State.readWord (s : State) (init addr : Nat) : State × Word :=
  let page := addr / 4096
  let off := addr % 4096
  match pageInfo page with
  | none =>
    if off < 0x40 then s.vendorHeader page off
    else
      let (n, s) := s.draw
      (s, Config.vendorWord (addr + 2 ^ 24 * n))
  | some p =>
    if !s.answers page then (s, if off == 0 then s.readHeader p page 0 else if off == 4 then 1 else 0)
    else if off < 0x40 then (s, s.readHeader p page off)
    else if 0x800 ≤ off then (s, s.reg addr &&& rwsMask (addr - 0x800))
    else if p.type = .cmp ∧ 0x400 ≤ off then s.winRead init (off - 0x400)
    else if p.type = .grn ∧ 0x400 ≤ off then grainWinRead s init ((off - 0x400) / 4)
    else if p.type = .upd ∧ 0x400 ≤ off then updWinRead s init ((off - 0x400) / 4)
    else if p.type = .snk ∧ off = 0x5C then
      let (n, s) := s.draw
      (s, withFields 0 [(.snkVlednowMv, Config.freeNat n)])
    else if (p.type = .np ∨ p.type = .mp) ∧ off = 0x44 ∧ s.mayRxLpi (if page == 4 then 4 else page % 4) != 0 then
      let (n, s) := s.draw
      (s, withFields (s.reg addr) [(.netStatusRxlpi 0, s.mayRxLpi (if page == 4 then 4 else page % 4) &&& Config.freeNat n)])
    else if (p.type = .np ∨ p.type = .mp) ∧ 0x64 ≤ off ∧ off < 0x74 ∧ s.unseenMask (if page == 4 then 4 else page % 4) ((off - 0x64) / 4) ≠ 0 ∧ (page = 4 → off = 0x64) then
      let (n, s) := s.draw
      (s, s.reg addr ||| Word.ofNat (s.unseenMask (if page == 4 then 4 else page % 4) ((off - 0x64) / 4) &&& Config.freeNat n))
    else if p.type = .dev ∧ off = 0x64 ∧ s.anyMayRxLpi = true ∧ s.anyLpi = false then
      let (n, s) := s.draw
      (s, withFields (s.shown init page off p.type (s.reg addr)) [(.devModestatEee, Config.freeNat n)])
    else if p.type = .dev ∧ off = 0x54 ∧ s.access.queue ≠ 0 then
      let (n, s) := s.draw
      (s, withFields (s.shown init page off p.type (s.reg addr)) [(.devDapstatQfree, 256 - Config.freeNat n % (s.access.queue + 1))])
    else if p.type = .drc ∧ 0x80 ≤ off ∧ off < 0xA0 then
      let (n, s) := s.draw
      (s, withFields (s.reg addr) [(.drcPortcfgLevel 0, Config.freeNat n)])
    else (s, s.shown init page off p.type (s.reg addr))

/-! ### The plain effect of a write (R7, R8, R31, R448) -/

/-- A field's value within its stated range: the nearer limit where the description says so (R448). -/
def FieldSpec.take (f : FieldSpec) (v : Nat) : Nat :=
  match f.limit with
  | .clamp lo hi => if v < lo then lo else if hi < v then hi else v
  | _ => v

/-- A field's place in its word. -/
def FieldSpec.fld (f : FieldSpec) : Fld := ⟨0, f.lo, f.width⟩

/-- The word after a write of `data` at a live offset: RW fields take the value in range, W1C bits clear, the rest keeps (R7, R448). -/
def RegSpec.store (r : RegSpec) (old data : Word) : Word :=
  r.fields.foldl (fun w f => match f.access with
    | .rw => f.fld.put w (f.take (f.fld.get data))
    | .w1c => f.fld.put w (f.fld.get (w &&& ~~~data))
    | _ => w) old

/-- The word after a write of `data` at a shadow offset: the RWS fields take it (R7, R37). -/
def RegSpec.storeShadow (r : RegSpec) (old data : Word) : Word :=
  r.fields.foldl (fun w f => match f.access with
    | .rws => f.fld.put w (f.take (f.fld.get data))
    | _ => w) old

/-- `s` with a word written to a register as the field table says, and nothing else. -/
def State.store (s : State) (addr : Nat) (data : Word) : State :=
  match pageInfo (addr / 4096) with
  | none => s
  | some p =>
    let off := addr % 4096
    if 0x840 ≤ off then
      match findReg p.type (off - 0x800) with
      | some r => if r.shadowed then s.setReg addr (r.storeShadow (s.reg addr) data) else s
      | none => s
    else match findReg p.type off with
      | some r => s.setReg addr (r.store (s.reg addr) data)
      | none => s

/-! ### Writes of the header (R31, R34 to R41, R351) -/

/-- A write of SNAP (R41): REQ asks for a capture at the next boundary and clears DONE, AUTO is stored. -/
def snapWrite (s : State) (page : Nat) (req auto : Bool) : State :=
  match pageInfo page with
  | none => s
  | some p =>
    if !p.snapable then s
    else
      let s := s.setFld (.hdrSnapAuto page) (bit auto)
      if req then
        ({ s with access.snapReqs := s.access.snapReqs.filter (· != page) ++ [page] } : State).setFld (.hdrSnapDone page) 0
      else s

/-- A write of COMMIT: CANCEL first, then GO (R35 to R39). -/
def commitWrite (s : State) (page : Nat) (data : Word) : State :=
  match pageInfo page with
  | none => s
  | some p =>
    if !p.shadow then s
    else
      let s := if data.getLsbD 3 then commitCancel s page else s
      if data.getLsbD 0 then commitGo s page (data.getLsbD 1) (data.getLsbD 2) else s

/-- A write to the header of a page in role. -/
def headerWrite (s : State) (page off : Nat) (data : Word) : State :=
  match off with
  | 0x0C =>
    let s := s.store (4096 * page + off) data
    if data.getLsbD 0 then blockReset s page else s
  | 0x10 => commitWrite s page data
  | 0x14 => if s.fld (.hdrCommitState page) == 1 then s else s.setReg (4096 * page + off) data
  | 0x18 => s.clearSticky page data
  | 0x1C => s.setReg (4096 * page + off) data
  | 0x20 => snapWrite s page (data.getLsbD 0) (data.getLsbD 1)
  | _ => s

/-! ### Writes of the pages -/

/-- Bits `[hi:lo]` of a word written, by place and width. -/
def bits (data : Word) (lo width : Nat) : Nat := data.toNat / 2 ^ lo % 2 ^ width

/-- Writes of DEV (spec/01, spec/03, R46, R425). -/
def writeDev (s : State) (init off : Nat) (data : Word) : State :=
  let key := bits data 16 16
  match off with
  | 0x44 => s.passFence init
  | 0x68 =>
    -- DESIGN CHOICE: with a FLOOR above 0x5A the two limits of CEIL conflict, and FLOOR is stored (log entry 105)
    let s := s.store off data
    if s.fld .devVcorectlCeil < s.fld .devVcorectlFloor then s.setFld .devVcorectlCeil (s.fld .devVcorectlFloor) else s
  | 0x70 => resetControl s (bits data 0 2) (data.getLsbD 2) (bits data 3 2) key
  | 0x78 => profCommand s (bits data 2 2) (bits data 0 2) key
  | 0x88 => profData s data
  | 0x90 =>
    let s := if data.getLsbD 0 then recoveryStart s key else s
    if data.getLsbD 1 then recoveryGo s key else s
  | 0x94 => recovData s data
  | _ => s.store off data

/-- Writes of TIM (R82, R83, R88, R90). -/
def writeTim (s : State) (off : Nat) (data : Word) : State :=
  let a := 0x1000 + off
  if off == 0x44 then writeRate s data
  else if off == 0x50 then (if data.getLsbD 0 then stepGo s (data.getLsbD 1) else s)
  else if off == 0x5C then (iterate 5 State.judgeLpi (afterPtpcfg (s.store a data))).judgePtpJoin
  else if 0x100 ≤ off ∧ off < 0x150 ∧ off % 16 = 12 then (if data.getLsbD 0 then popTxq s ((off - 0x100) / 16) else s)
  else s.store a data

/-- Writes of CUE (R108, R112): a push that finds the queue full is answered BUSY. -/
def writeCue (s : State) (off : Nat) (data : Word) : State × Nat :=
  if off == 0x48 then (if data.getLsbD 0 then pushCue s else (s, 0))
  else if off == 0x4C then (if data.getLsbD 16 then cancelCues s (bits data 0 16) else s, 0)
  else (s.store (0x3000 + off) data, 0)

/-- A ring register of MP: ignored while its ring is enabled, its base a multiple of 16. -/
def ringWrite (s : State) (on : Bool) (a : Nat) (data : Word) : State := if on then s else s.store a (data &&& 0xFFFFFFF0#32)

/-- Writes of NPn (spec/05): a change of CTRL may end transmit LPI (R122). -/
def writeNp (s : State) (q off : Nat) (data : Word) : State :=
  let s := s.store (4096 * netPage q + off) data
  if off == 0x40 then s.judgeLpi q else s

/-- Writes of MP but LPMODE (spec/05). -/
def writeMp (s : State) (off : Nat) (data : Word) : State :=
  let a := 0x4000 + off
  if off == 0x70 then ringWrite s (s.flag (.netCtrlRxen 4)) a data
  else if off == 0x74 then ringWrite s (s.flag (.netCtrlTxen 4)) a data
  else if off == 0x7C then txDoor s
  else if off == 0x84 then s.store a (data &&& 0xFFFFFFFC#32)
  else if 0x400 ≤ off ∧ off < 0x800 then
    (s.mpPut (mpWrap (s.fld .mpWinbaseBase / 4 * 4 + (off - 0x400))) (leBytes 4 data.toNat)).mpPauseCheck
  else writeNp s 4 off data

/-- Writes of ING: a LOW at or above HIGH is stored as HIGH − 10 (R145). -/
def writeIng (s : State) (off : Nat) (data : Word) : State :=
  let s := s.store (0x5000 + off) data
  let high := s.fld .ingShedcfgHigh
  if off == 0x44 && decide (high ≤ s.fld .ingShedcfgLow) then s.setFld .ingShedcfgLow (high - 10) else s

/-- Writes of FLWn: while ENABLE is 1 the other configuration registers ignore them; ENABLE starts and ends the flow (R136). -/
def writeFlw (s : State) (n off : Nat) (data : Word) : State :=
  let a := 4096 * (0x110 + n) + off
  let on := s.flowOn n
  if off == 0x40 then
    if data.getLsbD 0 then flowStart ((s.store a data).setFld (.flwCtrlEnable n) (bit on)) n
    else (flowStop s n).store a data
  else if on then s
  else s.store a data

/-- Writes of MON: while ENABLE is 1 the other registers ignore them; ENABLE starts and ends the flow (R146). -/
def writeMon (s : State) (off : Nat) (data : Word) : State :=
  let a := 0x6000 + off
  let on := s.flag .monCtrlEnable
  if off == 0x40 then
    if data.getLsbD 0 then (if on then s else monStart ((s.store a data).setFld .monCtrlEnable 0)) else monStop (s.store a (data ||| Word.ofNat (bit on)))
  else if on then s
  else s.store a data

/-- Writes of CMP (R151, R165). -/
def writeCmp (s : State) (init off : Nat) (data : Word) : State :=
  if 0x400 ≤ off ∧ off < 0x800 then s.winWrite init (off - 0x400) data
  else if off == 0x70 then s.store (0x7000 + off) (data &&& 0xFFFFFFFC#32)
  else s.store (0x7000 + off) data

/-- Writes of UNDv (R163, R164). -/
def writeUnd (s : State) (v off : Nat) (data : Word) : State :=
  if off == 0x40 then
    let s := if data.getLsbD 2 then s.abortBuild v else s
    if data.getLsbD 0 then buildGo s v (bits data 1 1) else s
  else s.store (4096 * (0x128 + v) + off) data

/-- Writes of KLS (R199). -/
def writeKls (s : State) (off : Nat) (data : Word) : State :=
  if off == 0x58 then iterate 8 (fun s n => if data.getLsbD n then startEnum s n else s) s else s.store (0x8000 + off) data

/-- CHPn.CTRL.ENABLE of a sender: a port assigned to chain service starts stepping, a port taken out of it goes down (R178). -/
def enablePort (s : State) (n : Nat) (on : Bool) : State :=
  if s.flag (.chpCtrlEnable n) == on then s
  else if on then (s.setFld (.chpCtrlEnable n) 1).restartHop n
  else
    let s := ((s.setFld (.chpCtrlEnable n) 0).onPort n (fun _ => ChainPort.reset)).lower (srcChpLanedegr n)
    (s.setFld (.chpStatNtiles n) 0).hopDown n

/-- Writes of CHPn: in a tile ENABLE is fixed, and in a paired sender a write of 1 to CHP7 is ignored (R13). -/
def writeChp (s : State) (n off : Nat) (data : Word) : State :=
  let on := data.getLsbD 0
  if off == 0x40 then
    let s := if s.isTile || (on && n == 7 && s.prof (·.pair) == 1) then s else enablePort s n on
    if data.getLsbD 1 then retrainHop s n else s
  else s.store (4096 * (0x140 + n) + off) data

/-- Writes of SNK (R255). -/
def writeSnk (s : State) (off : Nat) (data : Word) : State :=
  let s := s.store (0xE000 + off) data
  if off == 0x74 && data.getLsbD 12 then clearFlags s else s

/-- Writes of GRN (R275 to R277, R284). -/
def writeGrn (s : State) (init off : Nat) (data : Word) : State :=
  if off == 0x48 then tabCommand s (bits data 0 3) (bits data 16 16)
  else if off == 0x58 then openTransfer s data
  else if off == 0x74 then s.store (0xC000 + off) (data &&& 0xFFFFFFFC#32)
  else if 0x400 ≤ off ∧ off < 0x800 then grainWinWrite s init ((off - 0x400) / 4) data
  else s.store (0xC000 + off) data

/-- Writes of CAL (R294): a GO for a block under test is answered TEST_BUSY (R32, R298). -/
def writeCal (s : State) (off : Nat) (data : Word) (env : Option CalEnv) : State × Nat :=
  if off == 0x40 then
    let kind := bits data 0 3
    let s := if data.getLsbD 4 then calAbort s else s
    if !data.getLsbD 3 then (s, 0)
    else if 1 ≤ kind ∧ kind ≤ 5 ∧ s.testing (calBlock kind) = true then (calGo s kind (data.getLsbD 5) env, 4)
    else (calGo s kind (data.getLsbD 5) env, 0)
  else (s.store (0xF000 + off) data, 0)

/-- Writes of DRC but SRCMD (R307, R314, R317): ECCEN holds once DRC is ready, and reads 1 in a tile. -/
def writeDrc (s : State) (off : Nat) (data : Word) : State :=
  let a := 0x9000 + off
  if off == 0x40 then
    let ecc := s.fld .drcCfgEccen
    let s := s.store a data
    if s.isTile || testBit s.boot.ready 7 then s.setFld .drcCfgEccen ecc else s
  else if off == 0x48 then (if data.getLsbD 2 then opRequest s (bits data 0 2) else s)
  else if off == 0x58 then (if data.getLsbD 16 then dramLogClear s else s)
  else s.store a data

/-- Writes of DCn: a change of PRIV acts on the refresh rate of a channel in service (R309, R310). -/
def writeDc (s : State) (n off : Nat) (data : Word) : State :=
  let s := s.store (4096 * (0x150 + n) + off) data
  if off == 0x40 && s.flag (.dcStatReady n) then s.setRefresh n else s

/-- Writes of PAIR (R334, R342, R345). -/
def writePair (s : State) (off : Nat) (data : Word) : State :=
  let key := bits data 16 16
  if off == 0x60 then
    match bits data 0 3 with
    | 1 => crewChange s key
    | 2 => yieldCommand s key
    | 3 => rejoin s key
    | _ => s
  else s.store (0x12000 + off) data

/-- Writes of FLT (R354, R355, R358, R360, R364). -/
def writeFlt (s : State) (off : Nat) (data : Word) : State :=
  match off with
  | 0x4C => if (sourceSpec (s.fld .fltRselIndex)).isSome then s.setReact (s.fld .fltRselIndex) (bits data 0 8) else s
  | 0x50 =>
    let s := if data.getLsbD 3 then fltAbort s else s
    let s := if data.getLsbD 0 then fltRelease s (bits data 16 16) else s
    if !data.getLsbD 1 then s else if data.getLsbD 2 then fltSweep s else fltProof s
  | 0x60 =>
    let p := s.fld .fltSecselPage
    let w := Word.ofNat (assocGet s.flt.secondary p 0) &&& ~~~data
    { s with flt.secondary := assocPut s.flt.secondary p 0 w.toNat }
  | 0x70 => if data.getLsbD 16 then fltLogClear s else s
  | _ => s.store (0x11000 + off) data

/-- Writes of THS (R370). -/
def writeThs (s : State) (off : Nat) (data : Word) : State :=
  let s := s.store (0x10000 + off) data
  if off == 0x4C then afterThrcfg s else s

/-- Writes of BST (R383, R384): REASON 1 to 3 is answered BUSY. -/
def writeBst (s : State) (off : Nat) (data : Word) : State × Nat :=
  if off == 0x44 then bistCommand s (bits data 0 3) (bits data 16 16) else (s.store (0x13000 + off) data, 0)

/-- Writes of LCS (R396, R397). -/
def writeLcs (s : State) (init off : Nat) (data : Word) : State :=
  if off == 0x44 then (if data.getLsbD 3 then lcsTransition s init (bits data 0 3) (bits data 16 16) else s)
  else if 0x100 ≤ off ∧ off < 0x160 then { s with life.token := putSigWord s.life.token ((off - 0x100) / 4) data }
  else if 0x180 ≤ off ∧ off < 0x1E0 then { s with life.auth := putSigWord s.life.auth ((off - 0x180) / 4) data }
  else s

/-- Writes of KEY (R400): PUB takes the key to be enrolled. -/
def writeKey (s : State) (off : Nat) (data : Word) : State :=
  if off == 0x40 then (if data.getLsbD 0 then keyEnrol s (bits data 16 16) else s)
  else if 0x100 ≤ off ∧ off < 0x160 then { s with life.pub := listModify s.life.pub ((off - 0x100) / 4) (fun _ => data) }
  else s

/-- Writes of UPD but OP 9 of CMD (spec/18): a reserved OP does nothing. -/
def writeUpdate (s : State) (init off : Nat) (data : Word) : State :=
  let key := bits data 16 16
  if off == 0x48 then
    match bits data 0 4 with
    | 1 => updVerify s
    | 2 => updArm s key
    | 3 => updDisarm s
    | 4 => updConfirm s key
    | 5 => updReject s key
    | 6 => updDistribute s key
    | 7 => updDiscard s key
    | 8 => (updStore s key).1
    | 9 => (updStore s key).1
    | _ => s
  else if off == 0x50 then xferOpen s data
  else if off == 0x7C then s.store (0x14000 + off) (data &&& 0xFFFFFFFC#32)
  else if 0x400 ≤ off ∧ off < 0x800 then updWinWrite s init ((off - 0x400) / 4) data
  else s.store (0x14000 + off) data

/-- A fuse word programmed (R395, R430): a blown fuse stays blown. -/
def writeFuse (s : State) (n off : Nat) (data : Word) : State :=
  if 0x40 ≤ off ∧ off < 0x800 then
    let k := 4096 * n + off
    { s with life.raw := sparsePut (fun _ => (0 : Word)) s.life.raw k (sparseGet (fun _ => (0 : Word)) s.life.raw k ||| data) }
  else s

/-- A write to a vendor page that is open to writes (R31, R56): the stored fields of the header take it; what lies above it is not described
(R428). -/
def vendorWrite (s : State) (page off : Nat) (data : Word) : State :=
  match off with
  | 0x0C => s.setReg (4096 * page + off) (data &&& 0xFFFF0002#32)
  | 0x14 | 0x1C => s.setReg (4096 * page + off) data
  | _ => s

/-- The effect of a write that no check refuses on the register at an address of a page in role (R7, R31), with its status: 0, or the code
with which the register itself turns the write away (R47). The three commands that act on the whole unit (MP.LPMODE, DRC.SRCMD and OP 9
of UPD.CMD) are left to Port.lean. -/
def State.writeBase (s : State) (init addr : Nat) (data : Word) (env : Option CalEnv) : State × Nat :=
  let page := addr / 4096
  let off := addr % 4096
  match pageInfo page with
  | none => (vendorWrite s page off data, 0)
  | some p =>
    let n := page - p.first
    if !s.answers page then (s, 0)
    else if off < 0x40 then (headerWrite s page off data, 0)
    else if 0x800 ≤ off then (s.store addr data, 0)
    else match p.type with
      | .dev => (writeDev s init off data, 0)
      | .tim => (writeTim s off data, 0)
      | .cue => writeCue s off data
      | .mp => (writeMp s off data, 0)
      | .ing => (writeIng s off data, 0)
      | .flw => (writeFlw s n off data, 0)
      | .mon => (writeMon s off data, 0)
      | .cmp => (writeCmp s init off data, 0)
      | .und => (writeUnd s n off data, 0)
      | .kls => (writeKls s off data, 0)
      | .chp => (writeChp s n off data, 0)
      | .snk => (writeSnk s off data, 0)
      | .grn => (writeGrn s init off data, 0)
      | .cal => writeCal s off data env
      | .drc => (writeDrc s off data, 0)
      | .dc => (writeDc s n off data, 0)
      | .pair => (writePair s off data, 0)
      | .flt => (writeFlt s off data, 0)
      | .ths => (writeThs s off data, 0)
      | .bst => writeBst s off data
      | .lcs => (writeLcs s init off data, 0)
      | .key => (writeKey s off data, 0)
      | .upd => (writeUpdate s init off data, 0)
      | .fuse => (writeFuse s n off data, 0)
      | .np => (writeNp s n off data, 0)
      | .stk | .pck | .scn | .ltb | .skg | .vw | .plc => (s.store addr data, 0)

end Sys2Proof.Machine
end

