-- ==== Sys2Proof/Machine/Start.lean ====
section
/-!
DEFINITION. The firmware's start from STAGE 5 to STAGE 7 with SECTIONS and the settings (spec/03, R59, R62, R63, R72, R75; spec/18, R422, R424), the profile switch at its boundary (R65), and wake-pattern-only mode (spec/05, R124 to R127).
-/

namespace Sys2Proof.Machine

/-! ### Records that the MC applies (R59) -/

/-- One word of SECTIONS or of the settings at STAGE 6, as initiator 2 (R59): a live offset of an RWS field sets the live value and the shadow, a
shadow offset the shadow alone, any other register takes the write. -/
def State.writeInit (s : State) (a : Nat) (w : Word) : State :=
  if s.gate 2 a true != 0 || !s.answers (a / 4096) then s
  else
    let s := (s.writeBase 2 a w none).1
    match pageInfo (a / 4096) with
    | none => s
    | some p =>
      match findReg p.type (a % 4096) with
      | none => s
      | some r =>
        if r.shadowed && decide (0x40 ≤ a % 4096) then
          (s.setReg a (r.storeShadow (s.reg a) w)).setReg (a + 0x800) (r.storeShadow (s.reg (a + 0x800)) w)
        else s

/-- Records in order, but for the pages of `skip`. -/
def State.writeRecords (s : State) (skip : Nat → Bool) (l : List (Nat × List Word)) : State :=
  l.foldl (fun s r =>
    if skip (r.1 / 4096) then s
    else (List.range r.2.length).foldl (fun s i => s.writeInit (r.1 + 4 * i) (r.2.getD i 0)) s) s

/-! ### STAGE 5: the blocks of the role (R72, R293, R300, R383) -/

/-- Blocks powered in the role, as a mask (R11). -/
def State.roleBlocks (s : State) : Nat := if s.isSender then 0xE1FF else if s.isTile then 0xFFEC else 0x8000

/-- The start tests (R383, R388): every group of the role with ATSTART, and those that FAILMASK names. -/
def State.startTests (s : State) (atStart : Bool) (tests : List GroupTest) : State :=
  let groups := s.roleGroups.filter (fun g => atStart || testBit s.failMask g)
  groups.foldl (fun s g =>
    let t := (tests.find? (fun t => t.group == g)).getD ⟨g, [], true⟩
    let r := s.judgeTest g t.faults t.retestOk
    r.1.setFld (.bstGroupResult g) r.2) s

/-- The blocks of the role are ready but for those of a failed group, and LTB until its DLY sequence has passed (R293, R388). -/
def State.blocksReady (s : State) (ltb : Bool) : State :=
  let failed := s.bist.failed.map groupBlock
  let keep := fun b => testBit s.roleBlocks b && !failed.contains b && (ltb || b != 11)
  { s with boot.ready := (List.range 16).foldl (fun m b => if keep b then m + 2 ^ b else m) 0 }

/-- The kinds of calibration that start-up runs, in order (R293): DLY always, the others by AUTO. A sender has only TSENS. -/
def State.startSequences (s : State) (auto : Nat) : State :=
  let on := fun k => k == 1 || testBit auto (k - 1)
  { s with cal.startKinds := (if s.isTile then [5, 1, 3, 2, 4] else [5]).filter on, cal.dlyWait := s.isTile }

/-- A tile's computed trims and taps are in force at once before service. -/
def State.forceCal (s : State) : State :=
  let force := fun (s : State) g =>
    let s := commitCancel s (0x160 + g)
    iterate 64 (fun s i => (s.setFld (.skgSinkTrim g i) (s.fld (Fld.shadow (.skgSinkTrim g i)))).setFld (.skgSinkWoff g i)
      (s.fld (Fld.shadow (.skgSinkWoff g i)))) s
  if s.isTile then { iterate 8 force s.computeCal with cal.taps := s.computeCal.cal.tapsNext.getD s.cal.taps, cal.tapsNext := none }
  else s

/-- The chain ports of a tile, and the cross-link of a paired sender (R13), start stepping (R178), unless they wait for a reference (R74) or ran through
the restart (R69). -/
def State.startPorts (s : State) (hold : Bool) : State :=
  if hold || !s.referenced then s
  else if s.isTile then (s.restartHop 0).restartHop 1
  else if s.crossPort 7 then s.restartHop 7
  else s

/-- The grain table (R281) and the accumulators (R272): from flash after a full reset, else the copies that DRAM has kept. -/
def State.startGrain (s : State) (cold : Bool) : State :=
  if !s.isTile then s
  else if cold then (s.bringUpGrain).restoreAccs
  else
    let s := s.showCopies.showCurves.showSaturated
    let c := s.fld .grnTabstatInforce
    let s := if c == 0 then s else (s.setFld .grnCtrlTabsel (c - 1)).setFld (Fld.shadow .grnCtrlTabsel) (c - 1)
    s.setFld .grnTabstatBurnpos 256

/-- The pair state at start (R323, R324): a unit of a pair forms it, an unpaired sender takes control. -/
def State.startPair (s : State) (hold : Bool) : State :=
  if !s.isSender then s
  else if s.paired then s.setPairState (if s.pairState == 0 then 1 else s.pairState)
  else if hold then s
  else ({ s.takeEpoch with pairing.control := true } : State).sendCoxAll

/-- The update record as the firmware finds it (R424): an arm is dropped, a copy goes on, an image that was being verified is verified again. -/
def State.startUpdate (s : State) : State :=
  let r := s.upd.record
  let s := s.showUpd
  if r.jop == 2 then s.setUpdState 8
  else if r.jop == 1 then s.setUpdState 4
  else if r.state == 6 then s.recordState 5
  else if (r.state == 0 || r.state == 9) && r.stageVer == 0 && r.digest.any (· != 0) then s.setUpdState 3
  else s.setUpdState r.state

/-- Conversion of a settings record to the firmware's own format, or the defaults: a record without RECORDS (R422). -/
def State.defaultSettings (s : State) : List Byte :=
  leBytes 4 0x53544553 ++ leBytes 1 s.setFmt ++ leBytes 1 s.role ++ leBytes 2 0 ++ leBytes 4 0x24 ++ leBytes 4 0 ++ leBytes 4 s.runVersion ++
    List.replicate 12 0 ++ leBytes 4 0

/-- STAGE 6: the settings are chosen and applied (R422). -/
def State.startSettings (s : State) (skip : Nat → Bool) : State :=
  let fmtOf := fun (t : TableFile) => t.num 4 1
  let apply := fun (s : State) (t : TableFile) => s.writeRecords skip ((s.settingsRecords t).getD [])
  let show_ := fun (s : State) (n : Nat) => (s.setFld .updSetstatFormat s.setFmt).setFld .updSetstatSource n
  let cur := s.settingsFile false
  let pri := s.settingsFile true
  let s := s.setFld .devBootstatStage 6
  let own := fun (t : Option TableFile) => t.any (fun t => fmtOf t == s.setFmt)
  match cur, pri with
  | some c, q =>
    if own (some c) then show_ (apply s c) 0
    else match q, own q with
      | some t, true => show_ (apply (s.storeSettings false (settingsBytes t) none none) t) 2
      | _, _ =>
        if s.setMin ≤ fmtOf c ∧ fmtOf c < s.setFmt then
          show_ (apply (s.storeSettings false (settingsBytes c) (some s.setFmt) (some s.runVersion)) c) 1
        else show_ (((s.storeSettings false s.defaultSettings none none).setFld .devBootstatFail 6).raise srcDevSettingsdef) 3
  | none, some t =>
    if own (some t) then show_ (apply (s.storeSettings false (settingsBytes t) none none) t) 2
    else show_ (((s.storeSettings false s.defaultSettings none none).setFld .devBootstatFail 6).raise srcDevSettingsdef) 3
  | none, none => show_ (((s.storeSettings false s.defaultSettings none none).setFld .devBootstatFail 6).raise srcDevSettingsdef) 3

/-- What the fields in force show once records have been written (R207, R216, R237). -/
def State.afterRecords (s : State) : State :=
  let s := if s.isTile then s.checkMap.showSlots else s
  if s.isSender then iterate 8 State.judgeChain s else s

/-- The blocks of the role come up from STAGE 5 with the profile in force, and STAGE 6 follows: `cold` after a full reset, `hold` with the
hold-through set running (R69, R72, R127). The pages of `kept` have stayed powered. A warm restart restores the surface table instead of copying
SURFACE-SEED (R153, R173). -/
def State.startBlocks (s : State) (cold hold : Bool) (kept : Nat → Bool) (env : StartEnv) : State :=
  match s.boot.profile with
  | none => s
  | some p =>
    let skip := fun page => (hold && s.holdPages page) || kept page
    let s := s.unitDefaults (fun page => !skip page)
    -- the settings of BST stand before the tests that they govern (R383, R389)
    let s := if cold then s.writeRecords (fun page => page != 0x13) p.sections else s
    let s := if cold then s.startTests (p.reader.fld .bstCtrlAtstart == 1) env.tests else s
    let dram := fun page => page == 9 || (decide (0x150 ≤ page) && decide (page < 0x158))
    let s := s.writeRecords (fun page => !dram page) p.sections
    let s := s.setFld .drcCfgEccen (if s.isTile then 1 else s.fld .drcCfgEccen)
    let r := if cold then s.bringUpDram env.channels else (s.channels.foldl State.setRefresh (s.selfRefresh 0), true)
    if !r.2 then r.1.chuckHold 5
    else
      let s := (r.1.blocksReady (!cold || !r.1.isTile)).setFld .devRolestatBlockpwr r.1.roleBlocks
      let s := iterate 5 State.judgeLink { s with flt.sampling := true }
      let s := if s.isSender && (cold || !s.boot.warm) then State.loadSeedsFrom 4096 0x30C0000 (2 ^ 32) s else s
      let s := s.writeRecords (fun page => dram page || skip page) p.sections
      let s := s.setFld .snkStatRange (if s.isTile then p.sinkRange else 0)
      let s := if s.isTile then (s.setFld .snkStatCeil (16 - s.fld .thsThrstatInforce)).showFlags else s
      let s := s.afterRecords
      let s := if s.isTile then s.packSchedule else s
      let s := if cold then s.loadCal else s.showSets
      let s := if hold then s else s.forceCal
      let s := if cold then s.startSequences (p.reader.fld .calCtrlAuto) else s
      -- with REFSRC 0 and no REFCLK100 the timebase does not lock (R74)
      let s := if s.isTile && !p.refSrc && !s.boot.refclk then (s.setFld .ltbStatLocked 0).raise srcLtbLocklost else s
      let s := ((s.startGrain cold).startPorts hold).startPair hold
      let s := if s.isSender then s.setFld .cmpRetire s.stroke else s
      (s.startUpdate.startSettings skip).afterRecords

/-- The firmware starts (R72, step 6): it takes the profile under R62 or R63, or chuck holds with FAIL 3. -/
def State.startFirmware (s : State) (env : StartEnv) : State :=
  if s.boot.inReset || s.ths.shutdown || s.fld .devBootstatStage != 4 then s
  else match s.takeable with
    | none => s.chuckHold 3
    | some (p, n, fb) =>
      let cold := !s.boot.warm
      let s := { s with boot.profile := some p, boot.watchdog := true }
      let s := ((s.setFld .devRolestatRole p.role).setFld .devRolestatProfile n).setFld .devProfstatFallback (bit fb)
      let s := (s.setFld .devBootstatStage 5).setFld .devVcorectlAdapt (bit p.adapt)
      let s := if fb && cold then s.raise srcDevProffallback else s
      s.startBlocks cold s.boot.holdThrough (fun _ => false) env

/-- FIRMWARE_START (R72). -/
def execFirmwareStart (env : StartEnv) (s : State) : Result := run s (State.startFirmware · env)

/-! ### STAGE 7 (R62, R75) -/

/-- The unit may enter service (R74, R75, R293, R388): settings applied, a reference, no start sequence left, and in a tile no failed group that
keeps the sinks off and a catch at which every view flipped to a complete, converted region, in a sender no failed group and a stroke in
composition whose video cells are the first. DEDUCED: a sender needs every block of its role (log entry 74). -/
def State.mayServe (s : State) : Bool :=
  s.fld .devBootstatStage == 6 && s.cal.startKinds.isEmpty && s.cal.running.isNone && s.referenced &&
    (if s.isTile then s.scan.qualified && !s.bist.failed.any groupTile else s.bist.failed.isEmpty && !s.cmp.flights.isEmpty)

/-- ENTER_SERVICE: `ms` milliseconds after reset release the unit reaches STAGE 7; LASTGOOD is written when it names another profile (R62, R75). -/
def enterService (s : State) (ms : Nat) : State :=
  if !s.mayServe then s
  else
    let n := s.fld .devRolestatProfile
    let s := (s.setFld .devBootstatStage 7).setFld .devBootstatTime (min ms 65535)
    let s := { s with boot.warm := false, boot.expiry := false, boot.holdThrough := false }
    if s.lastGood == some n then s else s.nvWrite (.bytes lastGoodBase (leBytes 4 0x444F4F47 ++ leBytes 1 n))

/-- ENTER_SERVICE (R75). -/
def execEnterService (ms : Nat) (s : State) : Result := run s (enterService · ms)

/-! ### The profile switch (R65) -/

/-- Fields whose change restarts the stroke and picture timing differ (R65). -/
def Profile.timingDiffers (p q : Profile) : Bool :=
  !(p.rateNum == q.rateNum && p.rateDen == q.rateDen && p.views == q.views && p.rows == q.rows && p.subfr == q.subfr &&
    p.pwmBits == q.pwmBits && p.feather == q.feather)

/-- The blocks that a change of timing restarts (R65, R173): in a sender the stroke generator and CMP, whose underlay buffers stay valid, in a tile SCN, LTB and GRN, with the sinks off
until the first catch under the new timing. -/
def State.restartTiming (s : State) : State :=
  if s.isSender then
    let s := ({ s with time.running := false } : State).abandonStrokes
    { s with cmp.lastLatch := [], cmp.touched := true }
  else
    let s := s.stepBurnish
    let s := { s with lamp.switchOff := true, cal.running := s.cal.running.map (fun (q : CalSeq) => { q with lost := true }), scan := { ScanState.reset with latchAt := s.scan.latchAt, markerAt := s.scan.markerAt } }
    s.idleRows.packSchedule

/-- NET and ING restart: every flow that runs is left and joined anew (R65). -/
def State.rejoinFlows (s : State) : State :=
  let s := if s.flag .monCtrlEnable then monStop s else s
  iterate 16 (fun s n => if s.flowOn n then flowStart (flowStop s n) n else s) s

/-- The sub-links of a network port whose type changes go down as NET restarts it, and the port comes up with its new type (R65, R86). -/
def State.dropLinks (s : State) (q p : Profile) : State :=
  iterate 4 (fun s n =>
    if p.netPorts / 16 ^ n % 16 == q.netPorts / 16 ^ n % 16 then s
    else
      let s := iterate 4 (fun s l => linkChange s n l false) s
      (((s.setFld (.netStatusLink (netPage n)) 0).judgeLink n).bringUpPort n).judgeLpi n) s

/-- The trims of the range now in force, computed from its stored results, act from this catch on (R65). -/
def State.applyTrims (s : State) : State :=
  let force := fun (s : State) g => iterate 64 (fun s i =>
    (s.setFld (.skgSinkTrim g i) (s.fld (Fld.shadow (.skgSinkTrim g i)))).setFld (.skgSinkWoff g i) (s.fld (Fld.shadow (.skgSinkWoff g i)))) s
  iterate 8 force s.computeCal

/-- The registers as SECTIONS would leave them (R65). -/
def State.switchReader (s : State) (p : Profile) : Reader := fun a =>
  p.sections.foldl (fun w r => if r.1 ≤ a ∧ a < r.1 + 4 * r.2.length ∧ a % 4 = 0 then r.2.getD ((a - r.1) / 4) w else w) (s.reg a)

/-- The budgets at the target boundary (R65, R207, R304): the running configuration with the fields and the SECTIONS of the new profile. -/
def State.switchFits (s : State) (q p : Profile) : Bool :=
  let rd := s.switchReader p
  let g := fun n => if p.laneRate / 4 ^ n % 4 == q.laneRate / 4 ^ n % 4 then s.portG n else chainGuarantee (p.laneRate / 4 ^ n % 4) 2
  if s.isTile then slotFits p && p.featherFits
  else
    (List.range 8).all (fun n => rd.fld (.chpCtrlEnable n) == 0 || rd.chainFits n p.views p.rateNum p.rateDen (g n)) &&
      rd.dramFits p (s.fld .drcMapNch) (s.fld .drcOpstatCur) s.eccOn

/-- The profile in force changes from `q` to `p` at the target boundary (R65). -/
def State.switchTo (s : State) (q p : Profile) (n : Nat) : State :=
  let s := ({ s with boot.profile := some p } : State).setFld .devRolestatProfile n
  let s := if p.timingDiffers q then s.restartTiming else s
  let port := fun (s : State) k =>
    if p.laneRate / 4 ^ k % 4 != q.laneRate / 4 ^ k % 4 then
      let s := s.setFld (.chpCtrlCap k) (s.ownCap k)
      if s.hopOn k then s.restartHop k else s
    else s
  let s := (if s.isTile then [0, 1] else List.range 8).foldl port s
  let s := if s.isSender && (p.netPorts != q.netPorts || p.strokeSrc != q.strokeSrc) then (s.dropLinks q p).rejoinFlows else s
  let s := if s.isSender && p.strokeSrc != q.strokeSrc then
      { s with time.running := false, time.edges := 0, time.lastEdge := none }
    else s
  let s := if s.isTile && p.sinkRange != q.sinkRange then (s.setFld .snkStatRange p.sinkRange).applyTrims else s
  let s := if s.isTile && p.holdLim != q.holdLim then (s.setFld .scnHoldlimMs p.holdLim).setFld (Fld.shadow .scnHoldlimMs) p.holdLim else s
  let s := if p.adapt != q.adapt then s.setFld .devVcorectlAdapt (bit p.adapt) else s
  (if p.sections == q.sections then s else s.writeRecords (fun _ => false) p.sections).afterRecords

/-- PROFILE_SWITCH: the boundary that begins the target stroke has come (R64, R65, R79): the record is judged as it now stands, and the budgets
are checked again. In a supply warning it waits for the first boundary after it. -/
def profileSwitch (s : State) : State :=
  match s.boot.switch, s.boot.profile with
  | some (n, k), some q =>
    if s.boundaryAhead k || s.boot.warning then s
    else
      let s := { s with boot.switch := none }
      match s.stored n with
      | none => s.setFld .devProfstatResult 3
      | some p =>
        if p.needsReset q then s.setFld .devProfstatResult 6
        else if s.switchFits q p then (s.switchTo q p n).setFld .devProfstatResult 2
        else s.setFld .devProfstatResult 7
  | _, _ => s

/-- PROFILE_SWITCH (R65). -/
def execProfileSwitch (s : State) : Result := run s profileSwitch

/-! ### Wake-pattern-only mode (R124 to R127) -/

/-- A page whose registers the mode keeps: those of MGT, which stays powered, and of THS, whose monitors do (R125). -/
def wakeKeeps (page : Nat) : Bool :=
  match pageInfo page with
  | none => true
  | some p => p.block == 15 || p.block == 14

/-- Entry (R125): sinks off and rows idle, no further stroke or cox mark, lanes down, DRAM, with the surface table in it,
in self-refresh, every block but MGT unpowered. -/
def State.enterWake (s : State) : State :=
  let now := s.stroke
  let s := s.selfRefresh 1
  let kept := (dramFields ++ [Fld.drcSrcmdState, Fld.grnTabstatInforce]).map (fun f => (f, s.fld f))
  let s := { s with regs := s.regs.filter (fun e => wakeKeeps (e.1 / 4096)), counters := s.counters.filter (fun e => wakeKeeps (e.1 / 4096)) }
  let s := (kept.foldl (fun s x => s.setFld x.1 x.2) s).setFld .stkNow now
  let s := { s.unpowered with boot.ready := 2 ^ 14, cmp.table := s.cmp.table, boot.wakeHits := s.boot.wakeHits }
  let s := if s.paired then s.setPairState 0 else s
  ((s.setFld .devModestatWakeonly 1).setFld .devRolestatBlockpwr 0xC000).idleRows

/-- Exit (R127): the blocks of the role start from STAGE 5 with the profile in force, DRAM leaves self-refresh without retraining. -/
def State.leaveWake (s : State) : State :=
  let s := (s.setFld .devModestatWakeonly 0).setFld .devBootstatStage 5
  (s.startBlocks false false wakeKeeps ⟨[], []⟩).setFld .mpLpmodeMode 0

/-- An update, self-test, calibration sequence, takeover or crew change is in progress (R124). -/
def State.modeBusy (s : State) : Bool :=
  let u := s.fld .updStatState
  (u != 0 && u != 9) || !s.bist.running.isEmpty || !s.bist.waiting.isEmpty || s.cal.running.isSome || s.pairState == 6 || s.pairing.crew.isSome

/-- Wake-pattern-only mode has been accepted and its entry waits for a boundary (R125). -/
def State.wakeDue (s : State) : Bool := s.fld .mpLpmodeMode == 2 && !s.wakeOnly

/-- A stroke boundary of R41 is to come: strokes run. -/
def State.boundaryComes (s : State) : Bool :=
  s.powered && !s.restarting && ((s.isTile && s.time.locked) || (s.isSender && s.time.running))

/-- WAKESTAT takes the bits of a wake frame, and the device leaves the mode (R127). -/
def State.wakeUp (s : State) (hits : Nat) : State :=
  let a := Fld.addr .mpWakestatMagic
  (s.setReg a (s.reg a ||| Word.ofNat hits)).leaveWake

/-- The boundary of R125 has come, or none is to come: entry completes, and a wake frame that came meanwhile ends the mode at once (R148). -/
def State.wakeEntry (s : State) : State :=
  if !s.wakeDue || !s.powered then s
  else
    let t := s.enterWake
    if s.boot.wakeHits == 0 then t else ({ t with boot.wakeHits := 0 } : State).wakeUp s.boot.wakeHits

/-- A write of MP.LPMODE (R124, R125, R127). MODE 3 is reserved and does nothing; in the mode itself only an SPI write of MODE 0 acts. -/
def lpmode (s : State) (init mode key : Nat) : State :=
  if s.wakeOnly then
    if mode == 0 && init == 0 then s.leaveWake else s
  else match mode with
    | 0 => (({ s with boot.wakeHits := 0 } : State).setFld .mpLpmodeMode 0 |>.setFld .mpLpmodeResult 1).judgeLpi 4
    | 1 => (({ s with boot.wakeHits := 0 } : State).setFld .mpLpmodeMode 1).setFld .mpLpmodeResult 1
    | 2 =>
      if s.paired && s.pairState == 2 then s.setFld .mpLpmodeResult 2
      else if s.modeBusy then s.setFld .mpLpmodeResult 3
      else if key != 0xA5C3 then s.setFld .mpLpmodeResult 4
      else
        let s := ((s.setFld .mpLpmodeMode 2).setFld .mpLpmodeResult 1).judgeLpi 4
        if s.boundaryComes then s else s.wakeEntry
    | _ => s

/-- WAKE_FRAME_RX: a frame that may wake the device (R126, R127): in the mode a wake frame sets its bits in WAKESTAT and ends it, and any other is
discarded and counted; during entry a wake frame is kept until entry completes (R148). -/
def wakeFrame (s : State) (frame : List Byte) (fcsOk : Bool) : State :=
  if !(s.wakeOnly || s.wakeDue) then s
  else
    let r := s.frameIn 4 0 (frame.length + 4) (destOf frame) fcsOk
    let hits := if fcsOk then s.wakeBits frame else 0
    if hits == 0 then r.1
    else if s.wakeDue then { r.1 with boot.wakeHits := s.boot.wakeHits ||| hits }
    else (((s.count 4 0 1 1).count 4 0 0 (frame.length + 4)).wakeUp hits)

/-- WAKE_FRAME_RX (R127). -/
def execWakeFrameRx (frame : List Byte) (fcsOk : Bool) (s : State) : Result := run s (wakeFrame · frame fcsOk)

end Sys2Proof.Machine
end

