-- ==== Sys2Proof/Machine/Port.lean ====
section
/-!
DEFINITION. The full effect of a write, journal records and journal retention (spec/13, R326 to R330; spec/12, R312, R313), and the access paths: SPI, the Dolad Access Protocol, the chain tunnel and fences (spec/02, R43 to R55).
-/

namespace Sys2Proof.Machine

/-! ### Writes that act on the whole unit -/

/-- The plain writes of initiator 2 that OP 9 makes of a record's words (R423): shadowed fields take effect only through COMMIT words. -/
def State.applyRecords (s : State) (l : List (Nat × List Word)) : State :=
  l.foldl (fun s r => (List.range r.2.length).foldl (fun s i =>
    let a := r.1 + 4 * i
    if s.gate 2 a true != 0 then s else (s.writeBase 2 a (r.2.getD i 0) none).1) s) s

/-- OP 9 of UPD.CMD: the staged settings record is stored, and its RECORDS are applied at once (R423). -/
def updApply (s : State) (key : Nat) : State :=
  let r := updStore s key
  match r.2 with
  | some l => r.1.applyRecords l
  | none => r.1

/-- Every channel comes back from journal retention, and SURFACE-SEED is loaded (R312). -/
def State.restoreDram (s : State) : State := State.loadSeedsFrom 4096 0x30C0000 (2 ^ 32) (s.selfRefresh 0)

/-- A write of DRC.SRCMD (R312, R313); the records collected in a retention that it ends take effect after it. -/
def srcmd (s : State) (mode key : Nat) : State :=
  if mode == 0 || mode == 3 then s
  else if key != 0xA5C3 then s.setFld .drcSrcmdResult 3
  else if mode == 1 then
    if s.retained then s.setFld .drcSrcmdResult 1
    else if s.isSender && (s.fld .devRolestatPairpos == 2 || (s.prof (·.pair) != 1 && s.noCanvas)) then s.retain.setFld .drcSrcmdResult 1
    else s.setFld .drcSrcmdResult 2
  else (if s.retained then s.restoreDram else s).setFld .drcSrcmdResult 1

/-- PAIR.CFG has been written: a standby whose COLD turned has its DRAM go into journal retention, or come back from it (R331). -/
def State.afterCold (before s : State) : State :=
  if !s.standsBy || s.flag .pairCfgCold == before.flag .pairCfgCold then s
  else if s.flag .pairCfgCold then (if s.retained then s else s.retain)
  else if s.retained then s.restoreDram
  else s

/-- The effect of a write with DRC.SRCMD, MP.LPMODE, COLD of a standby and OP 9 of UPD.CMD. -/
def State.writeUnit (s : State) (init addr : Nat) (data : Word) (env : Option CalEnv) : State × Nat :=
  let key := bits data 16 16
  if addr == 0x9054 then (srcmd s (bits data 0 2) key, 0)
  else if addr == 0x12040 then
    let r := s.writeBase init addr data env
    (s.afterCold r.1, r.2)
  else
  if addr == 0x4088 && s.answers 4 then (lpmode s init (bits data 0 2) key, 0)
  else if addr == 0x14048 && bits data 0 4 == 9 then (updApply s key, 0)
  else s.writeBase init addr data env

/-! ### The standby's journal (R313, R328 to R330) -/

/-- A window write named by its target and address (R151, R326). -/
def State.winPut (s : State) (target addr : Nat) (data : Word) : State :=
  let c := s.reg (Fld.addr .cmpWinctrlTarget)
  let b := s.reg (Fld.addr .cmpWinbase)
  let s := (s.setFld .cmpWinctrlTarget target).setFld .cmpWinctrlHiaddr (addr / 2 ^ 32)
  let s := (s.setFld .cmpWinbase addr).winWrite 2 0 data
  (s.setReg (Fld.addr .cmpWinctrlTarget) c).setReg (Fld.addr .cmpWinbase) b

/-- A KIND 1 record is performed as a write of initiator 2 (R328). One of a state image, which the active's own MC makes, gives an RWS field its live
value too (R345). -/
def State.recordedWrite (s : State) (b : JournalRec) : State :=
  let w := Word.ofNat b.data
  let shadowed := (pageInfo (b.addr / 4096)).any (fun p => (findReg p.type (b.addr % 4096)).any (fun r => r.shadowed && decide (0x40 ≤ b.addr % 4096)))
  if s.gate 2 b.addr true != 0 then s
  else if b.init == 2 && shadowed then
    let canvas := (s.fld .cmpCanvasWidth, s.fld .cmpCanvasHeight)
    (s.writeInit b.addr w).afterSenderTake canvas (b.addr / 4096)
  else (s.writeUnit 2 b.addr w none).1

/-- A recorded commit is performed as a GO with ATSTROKE; one that is not then pending for the recorded stroke diverges (R328). What the latch makes
of it is judged there. -/
def State.applyCommit (s : State) (page target : Nat) (dropLate : Bool) : State :=
  let s := if s.fld (.hdrCommitState page) == 1 then s else s.setFld (.hdrCommitStroke page) target
  let s := commitGo s page true dropLate
  if s.fld (.hdrCommitState page) == 1 && s.fld (.hdrCommitStroke page) == target then
    { s with access.commits := s.access.commits.map (fun c => if c.page == page then { c with recorded := some target } else c) }
  else (s.bump .pairDiverge 1).raise srcPairPairdiverge

/-- A cue that the active has sent leaves the queue and is recorded as sent; in split drive it is relayed on the ports that the standby
serves (R326, R328, R339). -/
def State.cueSent (s : State) (seq mask : Nat) : State :=
  match s.cue.queue.find? (fun c => c.seq == seq) with
  | none => { s with pairing.sentCues := s.pairing.sentCues ++ [seq] }
  | some c =>
    let s := { s with cue.queue := s.cue.queue.filter (fun x => x.seq != seq), pairing.sentCues := s.pairing.sentCues ++ [seq] }
    iterate 8 (fun s n =>
      if testBit mask n && testBit (s.fld .pairStatSplit) n then
        s.sendCell n (.cue (c.entry.target % 64) (testBit c.entry.target 11) [{ c.entry with target := 0 }])
      else s) s

/-- A record takes effect in the standby (R328). -/
def State.applyJournal (s : State) (r : JRec) : State :=
  let b := r.body
  match b.kind with
  | 1 => s.recordedWrite b
  | 2 => s.applyCommit b.addr b.data (testBit b.flags 0)
  | 3 =>
    let e := entryOf b.extra
    let c : Cue := { entry := e, seq := b.data, late := testBit e.attr 2, due := wrap32 (s.boundary + 1), prepared := false, status := 0 }
    let q := cueInsert c s.cue.queue
    { s with cue.queue := q, cue.nextSeq := wrap32 (b.data + 1) }
  | 4 => cancelCues s b.data
  | 5 => s.cueSent b.data b.flags
  | 6 => s.winPut b.target b.addr (Word.ofNat b.data)
  | 7 => if b.addr + b.extra.length ≤ s.userBytes then s.dramWrite 6 2 b.addr b.extra else s
  | _ => s

/-- One record that arrives at a standby (R313, R328 to R330): the next in order is applied, or collects while DC0 is in journal retention
and the 1 MB buffer has room; any other waits for the replay. -/
def State.takeRecord (s : State) (r : JRec) : State :=
  let s := if s.pairing.joined then s
    else ({ s with pairing.joined := true } : State).setFld .pairJseq (r.seq + 2 ^ 32 - 1)
  if r.seq != wrap32 (s.fld .pairJseq + 1) then s
  else if s.retained then
    if 65536 < (s.pairing.onDie.map (·.body.units)).sum + r.body.units then { s with pairing.lostRecords := true }
    else ({ s with pairing.onDie := s.pairing.onDie ++ [r], pairing.lostRecords := false } : State).setFld .pairJseq r.seq
  else (({ s with pairing.lostRecords := false } : State).setFld .pairJseq r.seq).applyJournal r

/-- JOURNAL_CELL_RX: a standby takes the records of a JOURNAL cell in order (R327, R328). -/
def journalCell (s : State) (first stroke : Nat) (records : List JournalRec) : State :=
  if !s.standsBy || s.restarting then s
  else
    let one := fun (s : State) i => match records[i]? with
      | some b => s.takeRecord { seq := wrap32 (first + i), stroke := stroke, body := b }
      | none => s
    (iterate records.length one s).moveValid.judgeStale

/-- JOURNAL_CELL_RX (R328): on the cross-link, path 8. On a chain TYPE 0xD is reserved: a tile passes the cell on, and it is otherwise ignored
(R189, R327). -/
def execJournalCellRx (path lane first stroke : Nat) (records : List JournalRec) (damage : CellDamage) (s : State) : Result :=
  run s fun s => s.arrive path lane damage (decide (path < 8)) fun s =>
    if path == 8 then journalCell s first stroke records
    else if s.isTile then s.forward path lane (.journal first stroke records)
    else s

/-- JOURNAL_BUFFER_FLUSH: in journal retention the on-die buffer is written to DC0 (R313). -/
def journalFlush (s : State) : State :=
  if s.retained then { s with pairing.flushed := s.pairing.flushed ++ s.pairing.onDie, pairing.onDie := [] } else s

/-- JOURNAL_BUFFER_FLUSH (R313). -/
def execJournalBufferFlush (s : State) : Result := run s journalFlush

/-- Every collected record is applied, in order. -/
def State.applyCollected (s : State) : State :=
  let l := s.pairing.flushed ++ s.pairing.onDie
  l.foldl State.applyJournal { s with pairing.flushed := [], pairing.onDie := [] }

/-- Return to service from journal retention (R312, R313): every channel comes back, SURFACE-SEED is loaded, and the collected records take
effect. -/
def State.leaveRetention (s : State) : State := s.restoreDram.applyCollected.moveValid.judgeStale

/-- A write that acts on retention (R312, R313, R331): the collected records take effect after it has ended one. -/
def State.collectedAfter (s t : State) : State := if s.retained && !t.retained then t.applyCollected.moveValid.judgeStale else t

/-! ### The full write (R34, R44, R326) -/

/-- The effect of a write that no check refuses. -/
def State.writeAll (s : State) (init addr : Nat) (data : Word) (env : Option CalEnv) : State × Nat :=
  let r := s.writeUnit init addr data env
  (s.collectedAfter r.1, r.2)

/-- The initiators whose writes are journaled (R326). -/
def journaled (init : Nat) : Bool := init == 0 || decide (8 ≤ init)

/-- The KIND 1 or KIND 6 record of a write (R326). Commits and cues have records of their own. -/
def State.writeRecord (s : State) (init addr : Nat) (data : Word) : Option JournalRec :=
  let off := addr % 4096
  if !journaled init || !s.answers (addr / 4096) then none
  else if addr / 4096 == 7 && decide (0x400 ≤ off) && decide (off < 0x800) then
    let x := off - 0x400
    let target := s.fld .cmpWinctrlTarget
    some ⟨6, init, target, if target == 0 then s.winAddr x else s.winOffset x, 0, data.toNat, []⟩
  else if off == 0x10 && data.getLsbD 0 then none
  else if addr == 0x3048 || addr == 0x304C then none
  else some ⟨1, init, 0, addr, 0, data.toNat, []⟩

/-- A commit accepted by the active is journaled with its target (R326). -/
def State.journalCommit (s before : State) (init addr : Nat) (data : Word) : State :=
  let page := addr / 4096
  let fresh := before.fld (.hdrCommitState page) != 1 || data.getLsbD 3
  if journaled init && addr % 4096 == 0x10 && data.getLsbD 0 && fresh && s.fld (.hdrCommitState page) == 1 then
    s.journal ⟨2, init, 0, page, bit (data.getLsbD 2), s.fld (.hdrCommitStroke page), []⟩
  else s

/-- A write by an initiator (R28, R30, R32, R44, R56): the state after it and its status. In the active sender of a pair a write that is
performed is journaled (R326). -/
def State.write (s : State) (init addr : Nat) (data : Word) (env : Option CalEnv) : State × Nat :=
  match s.gate init addr true with
  | 0 =>
    let r := s.writeAll init addr data env
    if r.2 != 0 then r
    else if !(s.paired && s.pairState == 2) then r
    else match s.writeRecord init addr data with
      | some rec => (s.journal rec).writeAll init addr data env
      | none => (r.1.journalCommit s init addr data, 0)
  | st => (s, st)

/-- A single write as a command: performed, and answered with its status and the words performed. -/
def State.writeAs (s : State) (init addr : Nat) (data : Word) (env : Option CalEnv) : State :=
  if !s.powered then s
  else
    let r := s.write init addr data env
    r.1.answer r.2 (bit (r.2 == 0)) []

/-- A read by an initiator: the state after it, its status and the word. A read of DEV.FENCE is itself a fence (R46). -/
def State.readAt (s : State) (init addr : Nat) : State × Nat × Word :=
  match s.gate init addr false with
  | 0 =>
    let s := if addr == 0x44 then s.passFence init else s
    let r := s.readWord init addr
    (r.1, 0, r.2)
  | st => (s, st, 0)

/-! ### REGISTER_WRITE and fences (R46, R448) -/

/-- REGISTER_WRITE (R448). -/
def execRegisterWrite (init addr : Nat) (data : Word) (s : State) : Result := run s (State.writeAs · init addr data none)

/-- FENCE_WRITE (R46). -/
def execFenceWrite (init : Nat) (data : Word) (s : State) : Result := run s (State.writeAs · init 0x44 data none)

/-- FENCE_READ: the read waits until every earlier write of the initiator is visible (R46). DESIGN CHOICE: a second read of one initiator while
its first still waits has no answer of its own (log entry 9). -/
def fenceRead (s : State) (init : Nat) : State :=
  if !s.powered then s
  else match s.gate init 0x44 false with
    | 0 => if s.access.fenceWait.contains init then s else { s with access.fenceWait := s.access.fenceWait ++ [init] }
    | st => s.answer st 0 []

/-- FENCE_READ (R46). -/
def execFenceRead (init : Nat) (s : State) : Result := run s (fenceRead · init)

/-- FENCE_READ_COMPLETE: the waiting read returns, counting its own fence (R46). -/
def fenceDone (s : State) (init : Nat) : State :=
  if !s.access.fenceWait.contains init then s
  else
    let s := { s with access.fenceWait := s.access.fenceWait.filter (· != init) }
    let r := s.readAt init 0x44
    r.1.answer r.2.1 0 [r.2.2]

/-- FENCE_READ_COMPLETE (R46). -/
def execFenceReadComplete (init : Nat) (s : State) : Result := run s (fenceDone · init)

/-! ### SPI (R48, R49) -/

/-- The registers that keep the address of a write burst that starts at them (R49). -/
def streamAddr (addr : Nat) : Bool := addr == 0x88 || addr == 0x94

/-- The words of a write burst from `addr` on, `room` of them before the page's access queue is full: the state, STATUS and COUNT (R49). -/
def spiWords (keep : Bool) (page : Nat) : List Word → State → Nat → Nat → Nat → State × Nat × Nat
  | [], s, _, _, n => (s, 0, n)
  | w :: ws, s, addr, room, n =>
    if addr / 4096 != page then (s, 6, n)
    else if room == 0 then (s, 1, n)
    else
      let r := s.write 0 addr w none
      if r.2 != 0 then (r.1, r.2, n)
      else spiWords keep page ws r.1 (if keep then addr else addr + 4) (room - 1) (n + 1)

/-- A write frame (R48, R49): 1 to 255 words; a frame without a word performs nothing. -/
def spiWrite (s : State) (addr : Nat) (words : List Word) (room : Nat) : State :=
  if !s.powered then s
  else
    let a := addr % 2 ^ 24
    let r := spiWords (streamAddr a) (a / 4096) (words.take 255) s a room 0
    r.1.answer r.2.1 r.2.2 []

/-- The words of a read burst, captured in one pass: the state, the first status that is not OK, and the words (R49). -/
def spiCapture (page : Nat) : Nat → State → Nat → State × Nat × List Word
  | 0, s, _ => (s, 0, [])
  | n + 1, s, addr =>
    let r := if addr / 4096 != page then (s, 6, 0) else s.readAt 0 addr
    let rest := spiCapture page n r.1 (addr + 4)
    (rest.1, if r.2.1 != 0 then r.2.1 else rest.2.1, r.2.2 :: rest.2.2)

/-- A read frame (R48, R49): the host clocks out `clocked` words, and reads 0 beyond LEN. -/
def spiRead (s : State) (addr len clocked : Nat) : State :=
  if !s.powered then s
  else if len % 256 == 0 then s.answer 8 0 []
  else
    let a := addr % 2 ^ 24
    let r := spiCapture (a / 4096) (len % 256) s a
    r.1.answer r.2.1 0 ((r.2.2 ++ List.replicate clocked 0).take clocked)

/-- SPI_WRITE (R49). -/
def execSpiWrite (addr : Nat) (words : List Word) (room : Nat) (s : State) : Result := run s (spiWrite · addr words room)

/-- SPI_QUAD_WRITE: as SPI_WRITE, with address, data and status on four lines (R48). -/
def execSpiQuadWrite (addr : Nat) (words : List Word) (room : Nat) (s : State) : Result := run s (spiWrite · addr words room)

/-- SPI_READ (R49). -/
def execSpiRead (addr len clocked : Nat) (s : State) : Result := run s (spiRead · addr len clocked)

/-- SPI_QUAD_READ: as SPI_READ, with address, data and status on four lines (R48). -/
def execSpiQuadRead (addr len clocked : Nat) (s : State) : Result := run s (spiRead · addr len clocked)

/-! ### Operations of DAP and the tunnel (R50, R51, R209) -/

/-- One operation: 1 read, 2 write, 3 fence; another code is MALFORMED (R47, R50). -/
def State.operate (s : State) (init : Nat) (o : AccessOp) : State × OpResult :=
  match o.op with
  | 1 =>
    let r := s.readAt init o.addr
    (r.1, ⟨r.2.1, o.addr, r.2.2⟩)
  | 2 =>
    let r := s.write init o.addr o.data none
    (r.1, ⟨r.2, o.addr, 0⟩)
  | 3 => (s.passFence init, ⟨0, o.addr, 0⟩)
  | _ => (s, ⟨8, o.addr, 0⟩)

/-- Operations in order, as one initiator (R51, R209). -/
def State.operateAll (init : Nat) : List AccessOp → State → State × List OpResult
  | [], s => (s, [])
  | o :: os, s =>
    let r := s.operate init o
    let rest := State.operateAll init os r.1
    (rest.1, r.2 :: rest.2)

/-! ### The Dolad Access Protocol (R50 to R53, R75) -/

/-- DAP is up: from STAGE 5 on, open in the life-cycle state, not in wake-pattern-only mode (R56, R75, R125). -/
def State.dapUp (s : State) : Bool :=
  let st := s.fld .devBootstatStage
  s.powered && decide (5 ≤ st) && decide (st ≤ 7) && !(s.lcs == 0 || s.lcs == 5) && !s.wakeOnly

/-- The reply to a packet (R50, R118): it goes to the addresses that the packet came from; an open is answered by an open reply, all else by a response;
SESSION, SEQ and TARGET are echoed. -/
def DapHeader.reply (h : DapHeader) (status retry : Nat) (rs : List OpResult) : DapReply :=
  { mac := h.srcMac, ip := h.srcIp, type := if h.type == 3 then 4 else 2, session := h.session, seq := h.seq % 65536, retry := retry, status := status, target := h.target, results := rs }

/-- A DAP packet of TYPE `type` with `n` operations reaches the device as a frame on MP (R47, R50, R128, R129): one for another UDP port is no DAP
packet; with DAP up and ENABLE 0 it is discarded and counted; one whose MAGIC, VERSION or TYPE is another is MALFORMED. -/
def State.dapTakes (s : State) (h : DapHeader) (type n : Nat) (f : State → State) : State :=
  if !(s.dapUp || s.wakeOnly) || h.udp != s.fld .devDapcfgPort then s
  else s.takeFrame 4 0 (max 64 (62 + 8 * n)) .unicast fun s =>
  if !s.flag .devDapcfgEnable then s.count 4 0 11 1
  else if h.magic != 0x4441 || h.version != 1 || h.type != type then s.sendDap (h.reply 8 0 [])
  else f s

/-- An open packet: the lowest free session of eight, or BUSY (R51). DESIGN CHOICE: R53's hint of 100 µs is stated for requests; a BUSY open
carries it too (log entry 106). -/
def dapOpen (s : State) (h : DapHeader) : State :=
  s.dapTakes h 3 0 fun s =>
    match (List.range 8).find? (fun i => !s.access.sessions.any (fun x => x.id == i)) with
    | none => s.sendDap (h.reply 1 100 [])
    | some i =>
      ({ s with access.sessions := s.access.sessions ++ [({ id := i, lastSeq := none, stored := none } : DapSession)] } : State).sendDap
        ({ h with session := i }.reply 0 0 [])

/-- DAP_OPEN (R51). -/
def execDapOpen (header : DapHeader) (s : State) : Result := run s (dapOpen · header)

/-- A session ends, and no answer of its requests leaves any more (R50, R51). -/
def State.endSession (s : State) (i : Nat) : State :=
  { s with access.sessions := s.access.sessions.filter (fun x => x.id != i),
           access.tunnelled := s.access.tunnelled.filter (fun d => d.session != i) }

/-- DAP_CLOSE (R50). -/
def execDapClose (header : DapHeader) (s : State) : Result := run s fun s => s.dapTakes header 5 0 (·.endSession header.session)

/-- DAP_SESSION_TIMEOUT: no request for 10 s (R51). -/
def execDapSessionTimeout (session : Nat) (s : State) : Result := run s (·.endSession session)

/-- A request's TARGET is 0, or names a chain port and position with bits [11:6] 0 (R50). -/
def targetOk (target : Nat) : Bool := target == 0 || (testBit target 15 && target / 64 % 64 == 0)

/-- SEQ `a` is older than the last executed one under the half-range rule on 16 bits (R52). -/
def seqOlder (a last : Nat) : Bool :=
  let d := (last + 65536 - a % 65536) % 65536
  decide (1 ≤ d) && decide (d < 32768)

/-- A session remembers the request it executed last, and its response (R52). -/
def State.remember (s : State) (i seq : Nat) (r : Option DapReply) : State :=
  let keep := fun (x : DapSession) => if x.id == i then { x with lastSeq := some seq, stored := r } else x
  { s with access.sessions := s.access.sessions.map keep }

/-- A request answered BUSY: not executed, counted, with a retry hint of 100 µs (R53). -/
def State.dapBusy (s : State) (h : DapHeader) : State := (s.advance .devDapstatBusycnt).sendDap (h.reply 1 100 [])

/-- A tunnelled request (R54, R55): refused by a sender without control, for a tile that is not enumerated, or beyond 256 outstanding
operations on the chain port; else its operations go to the tile, 15 to a cell. -/
def dapTunnel (s : State) (h : DapHeader) (ops : List AccessOp) : State :=
  let n := h.target / 4096 % 8
  let pos := h.target % 64
  let rd : Reader := s.reg
  let fail := fun st => s.sendDap (h.reply st 0 [])
  if !s.isSender || !s.chainPorts.contains n then fail 9
  else if !s.drives then fail 2
  else if !rd.enumerated n pos then fail 9
  else if 256 < s.tunnelOut n + ops.length then s.dapBusy h
  else
    let i := h.session
    let seq := h.seq % 65536
    let d : DapTunnel := { session := i, seq := seq, target := h.target, mac := h.srcMac, ip := h.srcIp, results := ops.map (fun o => ⟨7, o.addr, 0⟩), asked := 1 }
    let s := { s.remember i seq none with access.tunnelled := s.access.tunnelled ++ [d] }
    s.tunnelTo n pos i seq ops

/-- A local request (R53): it takes its entries of the access queue, of which `queued` are still taken as it comes, executes as initiator
8 + session, and its response is kept (R43, R51, R52). -/
def dapLocal (s : State) (h : DapHeader) (queued : Nat) (ops : List AccessOp) : State :=
  let s := { s with access.queue := min queued s.access.queue }
  if 256 < s.access.queue + ops.length then s.dapBusy h
  else
    let s := { s with access.queue := s.access.queue + ops.length }
    let r := State.operateAll (8 + h.session) ops s
    let s := r.1.remember h.session (h.seq % 65536) (some (h.reply 0 0 r.2))
    if s.dapUp then s.sendDap (h.reply 0 0 r.2) else s

/-- A request repeats the last executed SEQ (R52, R53): its response leaves again, or, while its tunnelled operations are outstanding, once
more when it is there. -/
def dapRepeat (s : State) (x : DapSession) (h : DapHeader) : State :=
  match x.stored with
  | some r => s.sendDap { r with mac := h.srcMac, ip := h.srcIp }
  | none =>
    let ask := fun (d : DapTunnel) => if d.session == x.id && d.seq == h.seq % 65536 then { d with asked := d.asked + 1 } else d
    { s with access.tunnelled := s.access.tunnelled.map ask }

/-- DAP_REQUEST (R50 to R53). -/
def dapRequest (s : State) (h : DapHeader) (ops : List AccessOp) (queued : Nat) : State :=
  s.dapTakes h 1 ops.length fun s =>
    match s.access.sessions.find? (fun x => x.id == h.session) with
    | none => s.sendDap (h.reply 8 0 [])
    | some x =>
      if h.count == 0 || 128 < h.count || h.count != ops.length || !targetOk h.target then s.sendDap (h.reply 8 0 [])
      else if x.lastSeq == some (h.seq % 65536) then dapRepeat s x h
      else if x.lastSeq.any (seqOlder h.seq) then s.sendDap (h.reply 10 0 [])
      else if h.target == 0 then dapLocal s h queued ops
      else dapTunnel s h ops

/-- DAP_REQUEST (R53). -/
def execDapRequest (header : DapHeader) (ops : List AccessOp) (queued : Nat) (s : State) : Result := run s (dapRequest · header ops queued)

/-! ### The tunnel (R55, R209) -/

/-- A standby passes a tunnel request from the cross-link on to a position that it serves in split drive (R339). -/
def State.passTunnel (s : State) (c : TunreqCell) : State :=
  if s.standsBy && testBit (s.fld .pairStatSplit) c.chain && s.sendsTo c.chain c.pos then s.sendCell c.chain (.tunreq { c with chain := 0 }) else s

/-- TUNREQ_CELL_RX: a tile executes the operations addressed to it as initiator 1 and returns one TUNRSP; on a port that is not serving each is
answered DENIED (R55, R209). A broadcast TUNREQ is discarded at the first tile (R211). On the cross-link, path 8, a standby passes it on (R339). -/
def tunreqCell (s : State) (n l : Nat) (c : TunreqCell) : State :=
  if c.bcast then s
  else if n == 8 then s.passTunnel c
  else if s.isTile && s.mine c.pos && !s.serves n && !s.restarting then
    let s := s.bump (.chpNotserving n) 1
    s.sendCell n (.tunrsp ⟨c.tag, s.fld .klsTstatPos, c.ops.map (fun o => ⟨2, o.addr, 0⟩)⟩)
  else
    let (s, take) := s.route n l c.pos false (.tunreq c)
    if take then
      let r := State.operateAll 1 c.ops s
      if r.1.powered && r.1.isTile then r.1.sendCell n (.tunrsp ⟨c.tag, r.1.fld .klsTstatPos, r.2⟩) else r.1
    else s

/-- TUNREQ_CELL_RX (R209). -/
def execTunreqCellRx (port lane : Nat) (cell : TunreqCell) (damage : CellDamage) (s : State) : Result :=
  run s fun s => s.arrive port lane damage (!cell.bcast && !s.mine cell.pos) (tunreqCell · port lane cell)

/-- Answers to a request of the sender's own MC drive the distribution (R412). -/
def State.afterTunnel (r : State × Option (List OpResult)) : State :=
  match r.2 with
  | some rs => distReply r.1 rs
  | none => r.1

/-- TUNRSP_CELL_RX (R209). -/
def execTunrspCellRx (port lane : Nat) (cell : TunrspCell) (damage : CellDamage) (s : State) : Result :=
  run s fun s => s.arrive port lane damage true fun s => State.afterTunnel (tunrspCell s port lane cell)

/-- TUNNEL_TIMEOUT (R55). -/
def execTunnelTimeout (tag : Nat) (s : State) : Result := run s fun s => State.afterTunnel (tunnelTimeout s tag)

end Sys2Proof.Machine
end

