-- ==== Sys2Proof/Machine/Catch.lean ====
section
/-!
DEFINITION. The instants of a stroke: latch instants (R33, R215), catches of a tile (R221, R376), catches, lead points and marker launches of a sender (R95, R97, R204), the snapshots taken at stroke boundaries (R41), and the execution of cues (R107, R109, R110).
-/

namespace Sys2Proof.Machine

/-! ### Snapshots (R41) -/

/-- The bits of a register that are SNP fields. -/
def RegSpec.snpMask (r : RegSpec) : Word :=
  r.fields.foldl (fun (w : Word) f => if f.access = .snp then w ||| Word.ofNat ((2 ^ f.width - 1) * 2 ^ f.lo) else w) 0

/-- The SNP registers of a page, as address and mask. -/
def snpRegs (page : Nat) : List (Nat × Word) :=
  match pageInfo page with
  | none => []
  | some p => (p.type.regs.filter (fun r => r.snpMask != 0)).flatMap (fun r => r.offsets.map (fun o => (4096 * page + o, r.snpMask)))

/-- SNP registers whose values come from the bits on the lanes or from the waits of single DRAM requests, which no command gives: STUFFED
and ALTCELLS of a chain port (R183, R184), REFPOSTPONED and PORTSTAT of DRC (R309, R319), and of a network sub-link FECCORR, FECUNCORR,
RXLPIEVT and PCSERR (R122, R128). -/
def State.unseenCount (s : State) (addr : Nat) : Bool :=
  let page := addr / 4096
  let off := addr % 4096
  (decide (0x140 ≤ page) && decide (page < 0x148) && (off == 0x94 || off == 0x98)) ||
    (page == 9 && (off == 0x70 || (decide (0xA0 ≤ off) && decide (off < 0xC0)))) ||
    (decide (0x200 ≤ off) && decide (off < 0x400) &&
      (List.range 5).any (fun q => netPage q == page && s.unseenOn q ((off - 0x200) / 0x80) (off % 0x80 / 4)))

/-- An SNP register is captured (R41); one that the model does not count takes a free value. -/
def State.capture (s : State) (e : Nat × Word) : State :=
  let (v, s) := if s.unseenCount e.1 then (Word.ofNat (Config.freeNat s.draw.1), s.draw.2) else (s.live e.1, s)
  s.setReg e.1 ((v &&& e.2) ||| (s.reg e.1 &&& ~~~e.2))

/-- One page's SNP fields are captured at the boundary that ends stroke `ended` (R41). -/
def State.snapshot (ended : Nat) (s : State) (page : Nat) : State :=
  let s := (snpRegs page).foldl State.capture s
  (s.setFld (.hdrSnapStroke page) ended).setFld (.hdrSnapDone page) 1

/-- The pages that a boundary captures: those requested, and those with AUTO set (R41). -/
def State.snapPages (s : State) : List Nat :=
  allPages.filter (fun p => s.answers p && (s.access.snapReqs.contains p || s.flag (.hdrSnapAuto p)))

/-- The captures of a stroke boundary (R41). -/
def State.snapshots (s : State) (ended : Nat) : State :=
  s.snapPages.foldl (State.snapshot (wrap32 ended)) { s with access.snapReqs := [] }

/-! ### Execution of cues (R107, R109, R110) -/

/-- The words of a write cue: address and data; a masked write has one. -/
def CueEntry.writes (e : CueEntry) : List (Nat × Word) :=
  (List.range (if e.action == 3 then e.count else 1)).map (fun i => (e.addr + 4 * i, e.data.getD i 0))

/-- The address lies in a shadow range (R109). -/
def shadowAddr (a : Nat) : Bool := decide (0x800 ≤ a % 4096)

/-- One word of a write cue, as initiator 3 (R107). -/
def State.cueWord (e : CueEntry) (s : State) (w : Nat × Word) : State × Nat :=
  if e.action == 2 then
    match s.gate 3 w.1 true with
    | 0 =>
      let r := s.readWord 3 w.1
      let mask := e.data.getD 1 0
      r.1.write 3 w.1 ((r.2 &&& ~~~mask) ||| (w.2 &&& mask)) none
    | st => (s, st)
  else s.write 3 w.1 w.2 none

/-- One page of a commit or snapshot cue (R40, R107): a page whose COMMIT is pending for another target is left as it is, with status BUSY. -/
def State.cuePage (e : CueEntry) (s : State) (i : Nat) : State × Nat :=
  let page := e.pageEntry i
  let base := 4096 * page
  if e.action == 5 then s.write 3 (base + 0x20) (Word.ofNat (1 + 2 * s.fld (.hdrSnapAuto page))) none
  else if s.gate 3 (base + 0x10) true == 0 && s.answers page && s.fld (.hdrCommitState page) == 1 &&
      s.fld (.hdrCommitStroke page) != wrap32 e.stroke then (s, 1)
  else
    match s.write 3 (base + 0x14) (Word.ofNat e.stroke) none with
    | (s, 0) => s.write 3 (base + 0x10) (Word.ofNat (3 + 4 * bit e.dropLate)) none
    | r => r

/-- The cue is still in the queue: no cancel and no reset has taken it out (R112, R113). -/
def State.hasCue (s : State) (c : Cue) : Bool := s.cue.queue.any (·.seq == c.seq)

/-- Items of a cue attempted in order, as long as the cue stands in the queue; the first status that is not OK stands (R107, R112, R113). -/
def State.cueItems {α : Type} (s : State) (c : Cue) (f : State → α → State × Nat) (l : List α) : State × Nat :=
  l.foldl (fun x i =>
    if x.1.hasCue c then
      let r := f x.1 i
      (r.1, if x.2 == 0 then r.2 else x.2)
    else x) (s, c.status)

/-- The part of a cue that `prep` or `rest` selects: preparing actions and boundary actions (R109). -/
def State.cuePart (s : State) (c : Cue) (prep rest : Bool) : State × Nat :=
  let e := c.entry
  let s := if e.fence && !c.prepared then s.passFence 3 else s
  if 4 ≤ e.action then (if prep then s.cueItems c (State.cuePage e) (List.range e.count) else (s, c.status))
  else s.cueItems c (State.cueWord e) (e.writes.filter (fun w => if shadowAddr w.1 then prep else rest))

/-- The cue leaves the queue after its last part: EXECCNT, and its error if an item failed (R107, R109). -/
def State.endCue (s : State) (c : Cue) (status : Nat) : State :=
  if !s.hasCue c then s else
  let s := ({ s with cue.queue := s.cue.queue.filter (fun x => x.seq != c.seq) } : State).bump .cueExeccnt 1
  if status == 0 then s else s.cueError c.entry status

/-- The cue has a preparing action (R109). -/
def CueEntry.prepares (e : CueEntry) : Bool := decide (4 ≤ e.action) || e.writes.any (fun w => shadowAddr w.1)

/-- The cue has a boundary action (R109). -/
def CueEntry.hasRest (e : CueEntry) : Bool := decide (e.action < 4) && e.writes.any (fun w => !shadowAddr w.1)

/-- A cue whose preparing window is open runs its preparing part (R109). -/
def State.prepareCue (s : State) (c : Cue) : State :=
  let r := s.cuePart c true false
  if c.entry.hasRest then
    let mark := fun (x : Cue) => if x.seq == c.seq then { x with prepared := true, status := r.2 } else x
    { r.1 with cue.queue := r.1.cue.queue.map mark }
  else r.1.endCue c r.2

/-- The executor works: CUE is not under test, the unit does not restart, and no freeze stands or waits for its resume (R32, R78, R113, R114). -/
def State.cuesRun (s : State) : Bool := !s.testing 3 && !s.restarting && !s.boot.warning && !s.boot.resuming

/-- CUE_EXECUTE_PREPARING: the preparing window of the stroke after the boundary's is open until the latch instant that prepares it (R109). -/
def cuePreparing (s : State) : State :=
  let k := wrap32 (s.boundary + 1)
  if !s.cuesRun || s.access.prepared != s.boundary then s
  else (s.cue.queue.filter (fun c => !c.entry.toTiles && !c.late && !c.prepared && c.entry.prepares && c.entry.stroke == k)).foldl
    (fun s c => if s.cuesRun && s.hasCue c then s.prepareCue c else s) s

/-- CUE_EXECUTE_PREPARING (R109). -/
def execCueExecutePreparing (s : State) : Result := run s cuePreparing

/-- A cue at its boundary (R109, R110, R114): what is left of it executes; a late cue with DROP_LATE is discarded and counted. -/
def State.finishCue (s : State) (c : Cue) : State :=
  if c.late && c.entry.dropLate then
    (({ s with cue.queue := s.cue.queue.filter (fun x => x.seq != c.seq) } : State).bump .cueDropcnt 1).raise srcCueDropped
  else
    let r := s.cuePart c (!c.prepared) true
    r.1.endCue c r.2

/-- CUE_EXECUTE_BOUNDARY: from the boundary that begins a stroke its cues execute, and late cues whose boundary has come (R109, R110, R114). -/
def cueBoundary (s : State) : State :=
  if !s.cuesRun then s
  else
    let due := fun (c : Cue) => !strokeAfter (if c.late then c.due else c.entry.stroke) s.boundary
    (s.cue.queue.filter (fun c => !c.entry.toTiles && due c)).foldl (fun s c => if s.cuesRun && s.hasCue c then s.finishCue c else s) s

/-- CUE_EXECUTE_BOUNDARY (R109). -/
def execCueExecuteBoundary (s : State) : Result := run s cueBoundary

/-- The stroke number has been taken afresh: queued cues are judged against it (R99, R110, R113). One found late executes at this boundary. -/
def State.rejudgeCues (s : State) : State :=
  let judge := fun (x : State × List Cue) (c : Cue) =>
    let late := !c.entry.toTiles && x.1.cueLate c.entry.stroke
    if late && !c.late then
      let r := x.1.lateCue c s.boundary
      (r.1, x.2 ++ [r.2])
    else if c.late && !late then
      (x.1, x.2 ++ [{ c with late := false, entry := { c.entry with attr := setBit c.entry.attr 2 false } }])
    else (x.1, x.2 ++ [c])
  let r := s.cue.queue.foldl judge (s, [])
  { r.1 with cue.queue := r.2 }

/-! ### The latch instant (R33, R215) -/

/-- The unit's strokes run: it has a role, is neither in wake-pattern-only mode nor restarting without service (R69, R125). -/
def State.strokesRun (s : State) : Bool := s.powered && !s.wakeOnly && !s.restarting && (s.isTile || s.isSender)

/-- LATCH_INSTANT: pending commits are validated again and captured (R33, R37, R38). A tile's latch prepares the stroke after the current. -/
def execLatchInstant (stroke : Nat) (s : State) : Result :=
  run s fun s => if s.strokesRun then latchCommits s (if s.isTile then s.stroke + 1 else stroke) else s

/-- TILE_LATCH: at the tile's latch instant the receive window closes and each region's completeness is recorded (R215, R218, R232). Unless a
supply warning freezes the tile, the panel temperature, the set targets and the commits are taken (R33, R253, R264). -/
def tileLatch (s : State) : State :=
  if !s.isTile || !s.strokesRun || !s.time.locked then s
  else
    let s := { s.closeWindows with scan.latchAt := s.latchInstant }
    latchCommits (if s.boot.warning then s else s.takePanel.takeSetTarget) (s.stroke + 1)

/-- TILE_LATCH (R215). -/
def execTileLatch (s : State) : Result := run s tileLatch

/-! ### HEALTH (R196, R201, R202) -/

/-- Some page's commit reads refused (COMMITREFUSED of R196). -/
def State.anyRefused (s : State) : Bool := allPages.any (fun p => s.answers p && s.fld (.hdrCommitState p) == 2)

/-- The HEALTH cell of a catch (R196): `hold` is taken after the catch, the cox marks are those of the stroke that ended. -/
def State.healthCell (s : State) (check : HealthCheck) : HealthCell :=
  let any := (List.range 16).foldl (fun m b => setBit m b (s.blockAny b)) 0
  { pos := if s.flag .klsTstatPosvalid then s.fld .klsTstatPos else 0, stroke := s.stroke, lastFull := s.fld .scnLastfull,
    hold := s.flag .scnStatHold, split := s.flag .klsTstatRelay, coxA := s.chain.coxA, coxB := s.chain.coxB,
    anyFault := any != 0 || s.flt.safeDark, commitRefused := s.anyRefused,
    temp := clampInt (-128) 127 (roundDiv (s.sfld .thsTjmaxTj) 16), cueFree := s.cueFree,
    epoch := (s.chain.cox.map (·.epoch)).getD 0, senderId := (s.chain.cox.map (·.senderId)).getD 0, blockAny := any, check := check }

/-- A HEALTH cell. -/
def Cell.isHealth : Cell → Bool
  | .health _ => true
  | _ => false

/-- A HEALTH cell of the last catch that waits on a port still is dropped and counted (R202). -/
def State.dropHealth (s : State) (n : Nat) : State :=
  let late := ((s.port n).queue.filter (fun x => x.2.isHealth)).length
  let s := s.onPort n (fun p => { p with queue := p.queue.filter (fun x => !x.2.isHealth) })
  if late == 0 then s else (s.bump (.chpOwndrop n) late).raise (srcChpOwndrop n)

/-- A catch of a tile on its chain ports: the allowances of the stroke are whole again (R206), a HEALTH cell that was not sent since the last catch is
dropped (R202), and HEALTH goes to both ports (R201). -/
def State.sendHealth (s : State) (check : HealthCheck) : State :=
  let s := s.freshAllowances
  let c := s.healthCell check
  let s := { s with chain.coxA := false, chain.coxB := false }
  [0, 1].foldl (fun (s : State) n => (s.dropHealth n).sendCell n (.health c)) s

/-! ### The catch of a tile (R221, R376) -/

/-- The catch is placed under the follower's rule with the schedule that is in force (R98, R99, R103, R214): `take` judges the schedule of
a received marker. The state after it, and whether its stroke is unchanged. -/
def State.placeCatch (s : State) (take : Bool) : State × Bool :=
  match s.time.marker with
  | none => (s.followCatch, false)
  | some (c, at_) =>
    let real := s.time.lastMarker == some c.stroke
    let s := if take && real then s.takeSchedule c.views else s
    let s := { s with time.marker := some ({ c with views := s.scan.sched }, at_) }
    (s.followCatch, real && c.unchanged)

/-- The feather interval of the stroke that ended (R215). -/
def State.showFeather (s : State) (before : Int) : State :=
  if before < s.scan.latchAt then s.setFld .scnFeather (s.time.catchAt - s.scan.latchAt).toNat else s

/-- A catch instant that is placed but not executed in a supply warning (R232, R269, R376): the stroke number moves on, the repeated stroke
is folded, the next receive window opens. -/
def State.frozenCatch (s : State) : State :=
  let (s, check) := s.takeCheck
  let s := (s.fold 1).countWitness s.stroke
  let ended := s.stroke
  let locked := s.time.locked
  let s := (s.placeCatch false).1.bump .thsFrozen 1
  let s := { s with access.prepared := s.stroke }
  let s := (if locked && s.stroke == wrap32 (ended + 1) then s else s.rejudgeCues).openWindows
  s.pulseOut.sendHealth check

/-- What the stroke that ends leaves behind: its checks, its charge with that of strokes repeated in a warm restart, row faults, and the
snapshots (R41, R71, R225, R230, R256, R268). What the catch itself counts falls after them. -/
def State.endStroke (s : State) : State × HealthCheck :=
  let (s, check) := s.takeCheck
  let s := s.fold (1 + s.grain.heldStrokes)
  let s := ({ s with grain.heldStrokes := 0 } : State).judgeRows
  let s := if s.time.locked then s.countWitness s.stroke else s
  let s := (s.snapshots s.stroke).judgeHold
  ({ s.bump .bstDiscarded s.bist.lostViews.length with bist.lostViews := [] }, check)

/-- The values that come into force at a catch (R33, R253, R264, R282, R296, R371). -/
def State.takeValues (s : State) : State :=
  s.moveBurnish.takeCaptured.applyThrottle.moveTherm.moveSets.showBurn.calCatch

/-- Lamp drive at a catch (R65, R240, R251, R252, R386): the sinks' hold-off that waits for a catch ends, and the servo judges the stroke that
ended. -/
def State.driveCatch (s : State) (wasDark : Bool) : State :=
  let n := s.prof (·.views)
  let drawn := !(List.range n).any (fun v => (s.view v).refreshing && (s.view v).drive.isEmpty)
  let redraw := s.bist.redraw && !drawn
  let shown := (List.range n).all (fun v => testBit (s.fld .scnStatFlipped) v || (s.view v).showsHold)
  let s := { s with bist.redraw := redraw, lamp.waitCatch := redraw && s.lamp.waitCatch,
                    lamp.switchOff := s.lamp.switchOff && !shown }
  let s := s.servoCatch wasDark
  { s with lamp.dark := s.sinksOff, lamp.judged := [], lamp.probed := false, lamp.rank := s.stroke }

/-- What a catch begins in the stroke it starts (R218, R226, R248, R271, R284, R358). -/
def State.beginStroke (s : State) : State :=
  (if s.scan.holdWait then holdLimit s else s).openWindows.judgeExposure.clearAccs.takeCheckpoint.countWindows

/-- A catch that is executed (R221). -/
def State.executedCatch (s : State) : State :=
  let wasDark := s.lamp.dark || s.sinksOff
  let ended := s.stroke
  let before := s.time.catchAt
  let locked := s.time.locked
  let (s, check) := s.endStroke
  let (s, unchanged) := s.placeCatch true
  let s := (s.showFeather before).takeValues
  let s := { s with access.prepared := s.stroke, boot.resuming := false, chain.unchanged := unchanged }
  let s := ((s.flips unchanged s.stroke).driveCatch wasDark).beginStroke
  let s := if locked && s.stroke == wrap32 (ended + 1) then s else s.rejudgeCues
  s.pulseOut.sendHealth check

/-- TILE_CATCH: in a warm restart with hold-through the line slots of the last stroke are repeated and counted (R69, R71); in a supply warning
the catch is placed only. -/
def tileCatch (s : State) : State :=
  if !s.isTile || !s.powered || s.wakeOnly then s
  else if s.restarting then (if s.boot.holdThrough then { s with grain.heldStrokes := s.grain.heldStrokes + 1 } else s)
  else if !s.time.locked && s.time.marker.isNone then s
  else if s.boot.warning then s.frozenCatch
  else s.executedCatch

/-- TILE_CATCH (R221): a feather interval begins with it, so entry to wake-pattern-only mode completes (R125). -/
def execTileCatch (s : State) : Result := run s fun s => if s.isTile then (tileCatch s).wakeEntry else s

/-! ### The strokes of a sender (R95 to R98, R102, R204) -/

/-- The stroke generator of a sender runs: also in a warm restart with hold-through (R69). -/
def State.generates (s : State) : Bool := s.isSender && s.powered && !s.wakeOnly && (!s.restarting || s.boot.holdThrough)

/-- SENDER_CATCH: the generator's catch (R95, R96), and the end of the stroke for the chains: positions heard of in the stroke, and in a pair
the standby's judgement. A number taken afresh has queued cues judged anew (R113). -/
def senderCatchAll (s : State) : State :=
  if !s.generates || !s.mayCatch then s
  else
    let old := s.stroke
    let ran := s.time.running
    let s := senderCatch s
    let turn := fun (p : ChainPort) => { p with healthLast := p.healthSeen, healthSeen := [] }
    let s := ({ s with chain.ports := s.chain.ports.map turn } : State).freshAllowances
    let s := if s.restarting then s else s.pairBoundary
    if ran && s.stroke == wrap32 (old + 1) then s
    else ({ s with access.prepared := wrap32 (s.stroke + s.fld .stkCtrlLead - 1) } : State).rejudgeCues

/-- SENDER_CATCH (R95). -/
def execSenderCatch (s : State) : Result := run s senderCatchAll

/-- The schedule is checked against the layout rules (R102): a view whose START would break them keeps its earlier one, with PHASECLAMP. -/
def State.checkSchedule (s : State) : State :=
  match s.boot.profile with
  | none => s
  | some p =>
    let x := s.starts p s.reg
    let s := { s with time.starts := x.list ++ s.time.starts.drop x.list.length }
    let s := if x.clamped then s.raise srcStkPhaseclamp else s
    s.showSchedule s.schedule

/-- The boundary of a sender that begins stroke `k` (R41): the snapshots of the stroke that ended, and the per-stroke values start afresh. -/
def State.senderBoundary (s : State) (k : Nat) : State :=
  let s := s.snapshots (k + 2 ^ 32 - 1)
  ((s.setLiveFld .ingPkts 0).startSlack).countWindows.calCatch

/-- COMPOSE_LEAD_POINT: the lead point of stroke `k` (R97, R102, R156): commits, the schedule, frames and layers are latched and composition
begins. While a supply warning stands it passes without a latch and without composition (R39, R376); entry to wake-pattern-only mode completes at it (R125). A cold standby composes nothing (R331). -/
def leadPoint (s : State) (k : Nat) (env : ComposeEnv) : State :=
  if !s.isSender || !s.strokesRun then s
  else
    let s := s.senderBoundary k
    if s.wakeDue then s.wakeEntry
    else if s.boot.warning then { latchCommits s k with chain.static := false }
    else
      let s := (latchCommits { s with boot.resuming := false } k).checkSchedule
      if s.cold || !testBit s.boot.ready 4 then { s with chain.static := false }
      else
        let s := (s.composeErrors env).beginCompose (wrap32 k)
        { s with chain.static := s.cmp.staticStrokes.contains (wrap32 k) }

/-- COMPOSE_LEAD_POINT (R97). -/
def execComposeLeadPoint (stroke : Nat) (env : ComposeEnv) (s : State) : Result := run s (leadPoint · stroke env)

/-- The marker of the coming stroke (R98, R190). -/
def State.nextMarker (s : State) : StrokeCell :=
  let k := wrap32 (s.stroke + 1)
  { stroke := k, tk := unsigned 64 (s.time.catchAt + s.time.length), accum := 0, length := s.nominal (s.time.frame + 1),
    unchanged := s.cmp.staticStrokes.contains k, views := s.schedule }

/-- A STROKE and, right after it, a COX leave by a chain port (R98, R191). -/
def State.launchOn (m : StrokeCell) (c : CoxCell) (s : State) (n : Nat) : State :=
  (s.sendCell n (.stroke m)).sendCell n (.cox { c with stroke := m.stroke, port := n })

/-- STROKE_MARKER_LAUNCH: 200 µs before T(k) a sender in control launches STROKE and COX on every chain port in service (R98, R204); a standby
in split drive relays them with the active's mark and RELAY set on the ports it serves (R339). A PAIR cell follows on every path (R321). -/
def markerLaunch (s : State) : State :=
  if !s.generates || !s.time.running then s
  else
    let m := s.nextMarker
    let s := if s.drives then s.servicePorts.foldl (State.launchOn m (s.ownCox 0)) s
      else match s.standsBy, s.pairing.active with
        | true, some (id, epoch) =>
          (s.servicePorts.filter (fun n => testBit (s.fld .pairStatSplit) n)).foldl (State.launchOn m ⟨id, epoch, 0, 0, true⟩) s
        | _, _ => s
    if s.restarting then s else s.sendPair

/-- STROKE_MARKER_LAUNCH (R204). -/
def execStrokeMarkerLaunch (s : State) : Result := run s markerLaunch

end Sys2Proof.Machine
end

