-- ==== Sys2Proof/Machine/Commands.lean ====
section
/-!
DEFINITION. The commands that are a write of one register, each by its own name (R448), the takeover of a standby and the state image of a resynchronisation (spec/13, R337, R338, R345), and supply warnings as the whole unit sees them (R78, R173, R252, R376).
-/

namespace Sys2Proof.Machine

/-! ### A keyed or plain write by its own name -/

/-- A command word: a code in the low half and the key above it. -/
def keyed (code key : Nat) : Word := Word.ofNat (code % 65536 + 65536 * (key % 65536))

/-- A write of a register of an array whose index is `i` of `count`; a register that does not exist takes nothing. -/
def State.writeNth (s : State) (count i init addr : Nat) (data : Word) : State := if i < count then s.writeAs init addr data none else s

/-- Base address of a page. -/
def pageAddr (page off : Nat) : Nat := 4096 * (page % 4096) + off

/-! ### Headers: COMMIT, BLKRESET, SNAP (R35, R39, R41) -/

/-- COMMIT_GO (R35). -/
def execCommitGo (init page : Nat) (atStroke dropLate : Bool) (s : State) : Result :=
  run s (State.writeAs · init (pageAddr page 0x10) (Word.ofNat (1 + 2 * bit atStroke + 4 * bit dropLate)) none)

/-- COMMIT_CANCEL (R39). -/
def execCommitCancel (init page : Nat) (s : State) : Result := run s (State.writeAs · init (pageAddr page 0x10) 8 none)

/-- BLKRESET: the other fields of PAGE_CTRL are written as they stand (R39). -/
def execBlkreset (init page : Nat) (s : State) : Result :=
  run s fun s => s.writeAs init (pageAddr page 0x0C) (s.reg (pageAddr page 0x0C) ||| 1) none

/-- SNAP_REQ (R41). -/
def execSnapReq (init page : Nat) (auto : Bool) (s : State) : Result :=
  run s (State.writeAs · init (pageAddr page 0x20) (Word.ofNat (1 + 2 * bit auto)) none)

/-! ### DEV: profiles, resets, recovery (R57, R60, R64, R67, R425) -/

/-- PROFWDATA_WRITE (R60). -/
def execProfwdataWrite (init : Nat) (data : Word) (s : State) : Result := run s (State.writeAs · init 0x88 data none)

/-- PROFILE_COMMIT_SLOT: PROFCMD OP 2 (R60). -/
def execProfileCommitSlot (init prof key : Nat) (s : State) : Result := run s (State.writeAs · init 0x78 (keyed (prof % 4 + 8) key) none)

/-- PROFILE_SWITCH_REQUEST: PROFCMD OP 1 (R64). -/
def execProfileSwitchRequest (init prof key : Nat) (s : State) : Result := run s (State.writeAs · init 0x78 (keyed (prof % 4 + 4) key) none)

/-- PROFILE_INVALIDATE: PROFCMD OP 3 (R57). -/
def execProfileInvalidate (init prof key : Nat) (s : State) : Result := run s (State.writeAs · init 0x78 (keyed (prof % 4 + 12) key) none)

/-- RSTCTL_FULL: KIND 2 (R67). -/
def execRstctlFull (init key : Nat) (profSrc : Bool) (prof : Nat) (s : State) : Result :=
  run s (State.writeAs · init 0x70 (keyed (2 + 4 * bit profSrc + 8 * (prof % 4)) key) none)

/-- RSTCTL_WARM: KIND 1 (R67). -/
def execRstctlWarm (init key : Nat) (s : State) : Result := run s (State.writeAs · init 0x70 (keyed 1 key) none)

/-- RECOVERY_START (R425). -/
def execRecoveryStart (init key : Nat) (s : State) : Result := run s (State.writeAs · init 0x90 (keyed 1 key) none)

/-- RECOVDATA_WRITE (R425). -/
def execRecovdataWrite (init : Nat) (data : Word) (s : State) : Result := run s (State.writeAs · init 0x94 data none)

/-- RECOVERY_GO (R425). -/
def execRecoveryGo (init key : Nat) (s : State) : Result := run s (State.writeAs · init 0x90 (keyed 2 key) none)

/-! ### TIM and CUE (R82, R83, R88, R108, R112) -/

/-- TIM_RATE_WRITE (R82). -/
def execTimRateWrite (init : Nat) (rate : Word) (s : State) : Result := run s (State.writeAs · init 0x1044 rate none)

/-- TIM_STEP: STEPCMD GO (R83). -/
def execTimStep (init : Nat) (force : Bool) (s : State) : Result := run s (State.writeAs · init 0x1050 (Word.ofNat (1 + 2 * bit force)) none)

/-- TXQ_POP (R88). -/
def execTxqPop (init queue : Nat) (s : State) : Result := run s (State.writeNth · 5 queue init (0x110C + 16 * queue) 1)

/-- CUE_PUSH (R108). -/
def execCuePush (init : Nat) (s : State) : Result := run s (State.writeAs · init 0x3048 1 none)

/-- CUE_CANCEL (R112). -/
def execCueCancel (init tag : Nat) (s : State) : Result := run s (State.writeAs · init 0x304C (keyed tag 1) none)

/-! ### MP, flows and the monitor (R124, R125, R127, R135, R136, R146) -/

/-- LPMODE_NONE (R127). -/
def execLpmodeNone (init : Nat) (s : State) : Result := run s (State.writeAs · init 0x4088 0 none)

/-- LPMODE_LPI (R124). -/
def execLpmodeLpi (init : Nat) (s : State) : Result := run s (State.writeAs · init 0x4088 1 none)

/-- LPMODE_WAKEONLY (R125). -/
def execLpmodeWakeonly (init key : Nat) (s : State) : Result := run s (State.writeAs · init 0x4088 (keyed 2 key) none)

/-- MP_TXDOOR (R135). -/
def execMpTxdoor (init : Nat) (s : State) : Result := run s (State.writeAs · init 0x407C 1 none)

/-- FLOW_ENABLE: the other fields of FLWn.CTRL are written as they stand (R136). -/
def execFlowEnable (init flow : Nat) (s : State) : Result :=
  run s fun s => s.writeNth 16 flow init (0x110040 + 0x1000 * flow) (s.reg (0x110040 + 0x1000 * flow) ||| 1)

/-- FLOW_DISABLE: the other fields of FLWn.CTRL are written as they stand (R136). -/
def execFlowDisable (init flow : Nat) (s : State) : Result :=
  run s fun s => s.writeNth 16 flow init (0x110040 + 0x1000 * flow) (s.reg (0x110040 + 0x1000 * flow) &&& ~~~1#32)

/-- MON_ENABLE: the other fields of MON.CTRL are written as they stand (R146). -/
def execMonEnable (init : Nat) (s : State) : Result := run s fun s => s.writeAs init 0x6040 (s.reg 0x6040 ||| 1) none

/-! ### CMP and UND (R151, R163, R164) -/

/-- CMP_WINDOW_ACCESS: a write or a read at an offset of the 1 KB window (R151). -/
def windowAccess (s : State) (init offset : Nat) (write : Bool) (data : Word) : State :=
  let a := 0x7400 + offset % 1024
  if write then s.writeAs init a data none
  else if !s.powered then s
  else
    let r := s.readAt init a
    r.1.answer r.2.1 0 [r.2.2]

/-- CMP_WINDOW_ACCESS (R151). -/
def execCmpWindowAccess (init offset : Nat) (write : Bool) (data : Word) (s : State) : Result := run s (windowAccess · init offset write data)

/-- UNDERLAY_BUILD_GO (R163). -/
def execUnderlayBuildGo (init view buf : Nat) (s : State) : Result :=
  run s (State.writeNth · 4 view init (0x128040 + 0x1000 * view) (Word.ofNat (1 + 2 * (buf % 2))))

/-- UNDERLAY_BUILD_ABORT (R164). -/
def execUnderlayBuildAbort (init view : Nat) (s : State) : Result := run s (State.writeNth · 4 view init (0x128040 + 0x1000 * view) 4)

/-! ### Chains, lamps and grain (R178, R255, R271 to R284) -/

/-- CHP_RETRAIN: the other fields of CHPn.CTRL are written as they stand (R178). -/
def execChpRetrain (init port : Nat) (s : State) : Result :=
  run s fun s => s.writeNth 8 port init (0x140040 + 0x1000 * port) (s.reg (0x140040 + 0x1000 * port) ||| 2)

/-- FMAPSEL_CLR: the selector is written as it stands (R255). -/
def execFmapselClr (init : Nat) (s : State) : Result := run s fun s => s.writeAs init 0xE074 (s.reg 0xE074 ||| 0x1000) none

/-- GRN_CHECK: TABCMD OP 1 (R275). -/
def execGrnCheck (init : Nat) (s : State) : Result := run s (State.writeAs · init 0xC048 1 none)

/-- GRN_INSTALL: TABCMD OP 2 (R278). -/
def execGrnInstall (init key : Nat) (s : State) : Result := run s (State.writeAs · init 0xC048 (keyed 2 key) none)

/-- GRN_INSTALL_VOLATILE: TABCMD OP 3 (R278). -/
def execGrnInstallVolatile (init key : Nat) (s : State) : Result := run s (State.writeAs · init 0xC048 (keyed 3 key) none)

/-- GRN_STOP_BURNISH: TABCMD OP 4 (R283). -/
def execGrnStopBurnish (init : Nat) (s : State) : Result := run s (State.writeAs · init 0xC048 4 none)

/-- GRN_SAVE_CHECKPOINT: TABCMD OP 5 (R271). -/
def execGrnSaveCheckpoint (init : Nat) (s : State) : Result := run s (State.writeAs · init 0xC048 5 none)

/-- GRN_CLEAR_ACCUMULATORS: TABCMD OP 6 (R284). -/
def execGrnClearAccumulators (init key : Nat) (s : State) : Result := run s (State.writeAs · init 0xC048 (keyed 6 key) none)

/-- GRN_XFERID_WRITE (R276). -/
def execGrnXferidWrite (init : Nat) (data : Word) (s : State) : Result := run s (State.writeAs · init 0xC058 data none)

/-- GRN_ACCUM_WRITE: a write in the GRN window, which reaches an accumulator while the window's TARGET selects them (R284). -/
def execGrnAccumWrite (init offset : Nat) (data : Word) (s : State) : Result :=
  run s (State.writeAs · init (0xC400 + offset % 1024) data none)

/-! ### CAL and DRAM (R294, R307, R312, R313, R317) -/

/-- CAL_GO (R294). -/
def execCalGo (init kind : Nat) (all : Bool) (env : CalEnv) (s : State) : Result :=
  run s (State.writeAs · init 0xF040 (Word.ofNat (kind % 8 + 8 + 32 * bit all)) (some env))

/-- CAL_ABORT (R294). -/
def execCalAbort (init : Nat) (s : State) : Result := run s (State.writeAs · init 0xF040 16 none)

/-- DRAM_OPREQ (R307). -/
def execDramOpreq (init op : Nat) (s : State) : Result := run s (State.writeAs · init 0x9048 (Word.ofNat (op % 4 + 4)) none)

/-- SRCMD_JOURNAL_RETENTION: MODE 1 (R313). -/
def execSrcmdJournalRetention (init key : Nat) (s : State) : Result := run s (State.writeAs · init 0x9054 (keyed 1 key) none)

/-- SRCMD_RETURN_SERVICE: MODE 2 (R312). -/
def execSrcmdReturnService (init key : Nat) (s : State) : Result := run s (State.writeAs · init 0x9054 (keyed 2 key) none)

/-- DRC_LOG_CLEAR (R317). -/
def execDrcLogClear (init : Nat) (s : State) : Result := run s (State.writeAs · init 0x9058 0x10000 none)

/-! ### PAIR, FLT, THS, BST (R334, R342, R345, R355, R360, R364, R370, R383, R391, R393) -/

/-- PAIR_CREW_CHANGE: OP 1 (R342). -/
def execPairCrewChange (init key : Nat) (s : State) : Result := run s (State.writeAs · init 0x12060 (keyed 1 key) none)

/-- PAIR_YIELD: OP 2 (R334). The yield reaction of a fault is taken with FAULT_RECOGNISED. -/
def execPairYield (init key : Nat) (s : State) : Result := run s (State.writeAs · init 0x12060 (keyed 2 key) none)

/-- PAIR_REJOIN: OP 3 (R345). -/
def execPairRejoin (init key : Nat) (s : State) : Result := run s (State.writeAs · init 0x12060 (keyed 3 key) none)

/-- FLT_RELEASE (R355). -/
def execFltRelease (init key : Nat) (s : State) : Result := run s (State.writeAs · init 0x11050 (keyed 1 key) none)

/-- FLT_PROOF (R360). -/
def execFltProof (init : Nat) (s : State) : Result := run s (State.writeAs · init 0x11050 2 none)

/-- FLT_PROOF_SWEEP: PROOF with PROOFALL (R360). -/
def execFltProofSweep (init : Nat) (s : State) : Result := run s (State.writeAs · init 0x11050 6 none)

/-- FLT_PROOF_ABORT (R360). -/
def execFltProofAbort (init : Nat) (s : State) : Result := run s (State.writeAs · init 0x11050 8 none)

/-- FLT_LOG_CLEAR (R364). -/
def execFltLogClear (init : Nat) (s : State) : Result := run s (State.writeAs · init 0x11070 0x10000 none)

/-- THS_THRCFG_WRITE (R370). -/
def execThsThrcfgWrite (init : Nat) (data : Word) (s : State) : Result := run s (State.writeAs · init 0x1004C data none)

/-- BIST_RUN_GROUPS: OP 1 (R383). -/
def execBistRunGroups (init key : Nat) (s : State) : Result := run s (State.writeAs · init 0x13044 (keyed 1 key) none)

/-- BIST_RUN_ALL: OP 2 (R383). -/
def execBistRunAll (init key : Nat) (s : State) : Result := run s (State.writeAs · init 0x13044 (keyed 2 key) none)

/-- BIST_ABORT: OP 3 (R393). -/
def execBistAbort (init key : Nat) (s : State) : Result := run s (State.writeAs · init 0x13044 (keyed 3 key) none)

/-- BIST_CLEAR_SOFT: OP 4 (R391). -/
def execBistClearSoft (init key : Nat) (s : State) : Result := run s (State.writeAs · init 0x13044 (keyed 4 key) none)

/-- BIST_BURN_FUSES: OP 5 (R391). -/
def execBistBurnFuses (init key : Nat) (s : State) : Result := run s (State.writeAs · init 0x13044 (keyed 5 key) none)

/-! ### LCS, KEY, UPD (R399, R400, R410 to R423) -/

/-- LCS_TRANSITION (R399). -/
def execLcsTransition (init : Nat) (target key : Nat) (s : State) : Result :=
  run s (State.writeAs · init 0xE00044 (keyed (target % 8 + 8) key) none)

/-- KEY_ENROL (R400). -/
def execKeyEnrol (init key : Nat) (s : State) : Result := run s (State.writeAs · init 0xE01040 (keyed 1 key) none)

/-- UPD_XFER_OPEN (R410). -/
def execUpdXferOpen (init : Nat) (data : Word) (s : State) : Result := run s (State.writeAs · init 0x14050 data none)

/-- UPD_VERIFY: OP 1 (R413). -/
def execUpdVerify (init key : Nat) (s : State) : Result := run s (State.writeAs · init 0x14048 (keyed 1 key) none)

/-- UPD_ARM: OP 2 (R414). -/
def execUpdArm (init key : Nat) (s : State) : Result := run s (State.writeAs · init 0x14048 (keyed 2 key) none)

/-- UPD_DISARM: OP 3 (R414). -/
def execUpdDisarm (init key : Nat) (s : State) : Result := run s (State.writeAs · init 0x14048 (keyed 3 key) none)

/-- UPD_CONFIRM: OP 4 (R418). -/
def execUpdConfirm (init key : Nat) (s : State) : Result := run s (State.writeAs · init 0x14048 (keyed 4 key) none)

/-- UPD_REJECT: OP 5 (R418). -/
def execUpdReject (init key : Nat) (s : State) : Result := run s (State.writeAs · init 0x14048 (keyed 5 key) none)

/-- UPD_DISTRIBUTE: OP 6 (R412). -/
def execUpdDistribute (init key : Nat) (s : State) : Result := run s (State.writeAs · init 0x14048 (keyed 6 key) none)

/-- UPD_DISCARD: OP 7 (R413). -/
def execUpdDiscard (init key : Nat) (s : State) : Result := run s (State.writeAs · init 0x14048 (keyed 7 key) none)

/-- UPD_STORE_SETTINGS: OP 8 (R423). -/
def execUpdStoreSettings (init key : Nat) (s : State) : Result := run s (State.writeAs · init 0x14048 (keyed 8 key) none)

/-- UPD_APPLY_SETTINGS: OP 9 (R423). -/
def execUpdApplySettings (init key : Nat) (s : State) : Result := run s (State.writeAs · init 0x14048 (keyed 9 key) none)

/-! ### The state image of a resynchronisation (R345) -/

/-- A page's registers in the image: its live registers with an RW or RWS field, the highest offset first, so that a register that starts a unit comes
after those that configure it, and then its shadows. -/
def imageAddrs (page : Nat) : List Nat :=
  match pageInfo page with
  | none => []
  | some p =>
    let live := (p.type.regs.filter (fun r => r.fields.any (fun f => f.access == .rw || f.access == .rws))).flatMap (fun r => r.offsets.map (fun o => 4096 * page + o))
    live.reverse ++ ((shadowedAddrs page).map (· + 0x800))

/-- One record of the image, as of initiator 2. -/
def imageRec (kind target addr data : Nat) (extra : List Byte) : JournalRec := ⟨kind, 2, target, addr, 0, data, extra⟩

/-- The words of a window target that are not 0, as KIND 6 records. -/
def imageWords (target size base : Nat) (m : List Host.Cell) : List JournalRec :=
  (List.range (size / 4)).filterMap (fun i =>
    let w := memNat m (base + 4 * i) 4
    if w == 0 then none else some (imageRec 6 target (4 * i) w []))

/-- The user-space bytes of a surface, 96 to a KIND 7 record. -/
def State.imageSurface (s : State) (d : Surface) : List JournalRec :=
  (List.range ((d.size + 95) / 96)).map (fun i =>
    imageRec 7 0 (d.base + 96 * i) 0 (memRead s.dram.mem (d.base + 96 * i) (min 96 (d.size - 96 * i))))

/-- The state image (R345): registers, surface table and banks, surfaces that no flow owns, pending commits, the cue queue and the cues sent. -/
def State.image (s : State) : List JournalRec :=
  let regs := (allPages.filter s.answers).flatMap (fun p => (imageAddrs p).map (fun a => imageRec 1 0 a (s.reg a).toNat []))
  let tables := imageWords 1 0x20000 0 s.cmp.table ++ imageWords 2 0x400 0 s.cmp.conv ++ imageWords 3 0x400 0x400 s.cmp.conv ++
    imageWords 4 0x10000 0 s.cmp.luts ++ imageWords 5 0x10000 0x10000 s.cmp.luts
  let held := (List.range 4096).flatMap (fun i =>
    let d := s.surface i
    if s.surfaceOk d && !d.owned then s.imageSurface d else [])
  let commits := s.access.commits.map (fun c => ({ imageRec 2 0 c.page c.target [] with flags := bit c.dropLate } : JournalRec))
  let cues := s.cue.queue.map (fun c => imageRec 3 0 0 c.seq (c.entry.bytes c.seq))
  let sent := s.pairing.sentCues.map (fun q => imageRec 5 0 0 q [])
  tables ++ held ++ regs ++ commits ++ cues ++ sent

/-- The active sends the image once to a standby that is not ready, over the cross-link, and the JSEQ at which it closes in a PAIR cell (R345). -/
def State.sendImage (s : State) : State :=
  let asks := match s.pairing.partner with
    | some c => c.state == 4 && c.xlink
    | none => false
  if s.pairState == 2 && s.flag .pairStatXlink && asks && !s.pairing.imaged then
    let s := s.image.foldl State.journal { s with pairing.imaged := true }
    s.sendCross (.pair s.pairCell)
  else s

/-- PAIR_CELL_RX (R323, R345); a tile passes the cell on as a reserved type (R189, R321). -/
def execPairCellRx (path lane : Nat) (cell : PairCell) (damage : CellDamage) (s : State) : Result :=
  run s fun s => s.arrive path lane damage true fun s =>
    if s.isTile then s.forward path lane (.pair cell)
    else if s.paired && cell.senderId != s.selfId then (pairRx s path cell).sendImage
    else s

/-! ### Takeover (R337, R338) -/

/-- Steps 5 to 8 of a takeover (R337): the newest picture of the coming stroke leaves on every port, cues not recorded as sent are distributed,
and the unit is active. Split drive ends with it (R340). -/
def State.finishTakeover (s : State) : State :=
  let coming := s.cmp.pictures.filter (fun p => strokeAfter p.stroke s.stroke)
  let s := coming.foldl State.sendView s
  let keep := s.cue.queue.filter (fun c => !s.pairing.sentCues.contains c.seq)
  let s := { s with cue.queue := keep, pairing.sentCues := [] }
  let s := keep.foldl (distributeOne s.stroke) s
  let s := (s.setPairState 2).bump .pairTakeovers 1
  let s := (s.setFld .pairStatSplit 0).lower srcPairSplitdrive
  ((s.setFld .pairStatResync 0).judgeStale).raise srcPairTakeover

/-- TAKEOVER: a standby that takes over carries out steps 2 to 8 of R337 in order; from a cold standby steps 5 to 8 wait for
COLD_TAKEOVER_READY (R338). A supply warning and a warm restart defer it (R26, R347). -/
def takeover (s : State) : State :=
  if !s.paired || s.pairState != 6 || s.pairing.control || s.boot.warning || s.restarting then s
  else
    let stale := s.flag .pairStatStale
    let s := s.takeoverTests.takeEpoch.applyCollected
    let s := s.setFld .pairStatFromstale (bit stale)
    let s := if stale then s.raise srcPairFromstale else s
    let s := s.assumeControl (s.fld .pairTakeinfoCause)
    if s.cold then s else s.finishTakeover

/-- TAKEOVER (R337). -/
def execTakeover (s : State) : Result := run s takeover

/-- COLD_TAKEOVER_READY: DRAM has left journal retention, SURFACE-SEED is loaded, the flows have rejoined and the first frame is composed (R338).
A flow that is enabled announces its groups again (R122). -/
def coldReady (s : State) : State :=
  if !s.cold || s.pairState != 6 || !s.pairing.control || s.boot.warning then s
  else
    let s := if s.retained then s.leaveRetention else s
    s.rejoinFlows.finishTakeover

/-- COLD_TAKEOVER_READY (R338). -/
def execColdTakeoverReady (s : State) : Result := run s coldReady

/-! ### Supply warnings (R78, R173, R252, R376, R393) -/

/-- What the freeze that begins does beyond R78: composition is abandoned (R173), running tests are (R393), the servo's code is held with
STATE 5 (R252). -/
def State.beginFreeze (s : State) : State :=
  let s := (if s.isSender then s.abandonStrokes else s).warnTests
  if s.isTile && s.flag .snkCtrlServoen && !s.sinksOff then s.setFld .snkServostatState 5 else s

/-- SUPPLY_WARNING (R78). -/
def execSupplyWarning (rail lowest : Nat) (s : State) : Result :=
  run s fun s =>
    let t := supplyWarning s rail lowest
    if t.boot.warning && !s.boot.warning then t.beginFreeze else t

/-- What waited for the end of a warning goes on, in the order of R26: a life-cycle transition, a warm restart, tests. -/
def State.endFreeze (s : State) : State :=
  let s := s.rerunTests
  if s.life.target.isSome then s.runTransition
  else match s.boot.warmDue with
    | some w => ({ s with boot.warmDue := none } : State).warmRestart w
    | none => s

/-- SUPPLY_WARNING_CLEAR (R78). -/
def execSupplyWarningClear (duration : Nat) (s : State) : Result :=
  run s fun s => if s.boot.warning then (supplyClear s duration).endFreeze else s

end Sys2Proof.Machine
end

