-- ==== Sys2Proof/Machine/Dispatch.lean ====
section
/-!
DEFINITION. Every command of spec/opcode_table.json and its meaning, one arm each.
-/

namespace Sys2Proof.Machine

/-- The effect of a command on everything but the queue. -/
def exec (i : Instr) (s : State) : Host.Outcome State Fault Refusal :=
  match i with
  | .registerWrite init addr data => Sys2Proof.Machine.execRegisterWrite init addr data s
  | .spiWrite addr words room => Sys2Proof.Machine.execSpiWrite addr words room s
  | .spiRead addr len clocked => Sys2Proof.Machine.execSpiRead addr len clocked s
  | .spiQuadWrite addr words room => Sys2Proof.Machine.execSpiQuadWrite addr words room s
  | .spiQuadRead addr len clocked => Sys2Proof.Machine.execSpiQuadRead addr len clocked s
  | .dapOpen header => Sys2Proof.Machine.execDapOpen header s
  | .dapRequest header ops queued => Sys2Proof.Machine.execDapRequest header ops queued s
  | .dapClose header => Sys2Proof.Machine.execDapClose header s
  | .dapSessionTimeout session => Sys2Proof.Machine.execDapSessionTimeout session s
  | .tunnelTimeout tag => Sys2Proof.Machine.execTunnelTimeout tag s
  | .fenceWrite init data => Sys2Proof.Machine.execFenceWrite init data s
  | .fenceRead init => Sys2Proof.Machine.execFenceRead init s
  | .fenceReadComplete init => Sys2Proof.Machine.execFenceReadComplete init s
  | .commitGo init page atStroke dropLate => Sys2Proof.Machine.execCommitGo init page atStroke dropLate s
  | .commitCancel init page => Sys2Proof.Machine.execCommitCancel init page s
  | .blkreset init page => Sys2Proof.Machine.execBlkreset init page s
  | .snapReq init page auto => Sys2Proof.Machine.execSnapReq init page auto s
  | .latchInstant stroke => Sys2Proof.Machine.execLatchInstant stroke s
  | .profwdataWrite init data => Sys2Proof.Machine.execProfwdataWrite init data s
  | .profileCommitSlot init prof key => Sys2Proof.Machine.execProfileCommitSlot init prof key s
  | .profileSwitchRequest init prof key => Sys2Proof.Machine.execProfileSwitchRequest init prof key s
  | .profileInvalidate init prof key => Sys2Proof.Machine.execProfileInvalidate init prof key s
  | .profileSwitch => Sys2Proof.Machine.execProfileSwitch s
  | .powerOn => Sys2Proof.Machine.execPowerOn s
  | .resetNPin => Sys2Proof.Machine.execResetNPin s
  | .supplyReset rail lowest => Sys2Proof.Machine.execSupplyReset rail lowest s
  | .resetRelease pins vddioFr => Sys2Proof.Machine.execResetRelease pins vddioFr s
  | .rstctlFull init key profSrc prof => Sys2Proof.Machine.execRstctlFull init key profSrc prof s
  | .rstctlWarm init key => Sys2Proof.Machine.execRstctlWarm init key s
  | .warmRestart cause => Sys2Proof.Machine.execWarmRestart cause s
  | .mcWatchdog => Sys2Proof.Machine.execMcWatchdog s
  | .holdThroughExpiry => Sys2Proof.Machine.execHoldThroughExpiry s
  | .tapReset => Sys2Proof.Machine.execTapReset s
  | .chuckBoot flash refclk => Sys2Proof.Machine.execChuckBoot flash refclk s
  | .flashNoAnswer => Sys2Proof.Machine.execFlashNoAnswer s
  | .firmwareStart env => Sys2Proof.Machine.execFirmwareStart env s
  | .enterService ms => Sys2Proof.Machine.execEnterService ms s
  | .supplyWarning rail lowest => Sys2Proof.Machine.execSupplyWarning rail lowest s
  | .supplyWarningClear duration => Sys2Proof.Machine.execSupplyWarningClear duration s
  | .vcoreAdaptStep underrun slackNum slackDen answered vnow => Sys2Proof.Machine.execVcoreAdaptStep underrun slackNum slackDen answered vnow s
  | .timRateWrite init rate => Sys2Proof.Machine.execTimRateWrite init rate s
  | .timStep init force => Sys2Proof.Machine.execTimStep init force s
  | .txqPop init queue => Sys2Proof.Machine.execTxqPop init queue s
  | .ptpTxTimestamp queue => Sys2Proof.Machine.execPtpTxTimestamp queue s
  | .ptpMessageRx port octets dest msg => Sys2Proof.Machine.execPtpMessageRx port octets dest msg s
  | .ptpHoldover => Sys2Proof.Machine.execPtpHoldover s
  | .senderCatch => Sys2Proof.Machine.execSenderCatch s
  | .framerefInEdge source rising instant => Sys2Proof.Machine.execFramerefInEdge source rising instant s
  | .reflost => Sys2Proof.Machine.execReflost s
  | .shutEdge input rising instant => Sys2Proof.Machine.execShutEdge input rising instant s
  | .shutlost input => Sys2Proof.Machine.execShutlost input s
  | .composeLeadPoint stroke env => Sys2Proof.Machine.execComposeLeadPoint stroke env s
  | .strokeMarkerLaunch => Sys2Proof.Machine.execStrokeMarkerLaunch s
  | .strokeCellRx port lane cell arrival departure damage => Sys2Proof.Machine.execStrokeCellRx port lane cell arrival departure damage s
  | .markerMissing => Sys2Proof.Machine.execMarkerMissing s
  | .cuePush init => Sys2Proof.Machine.execCuePush init s
  | .cueCancel init tag => Sys2Proof.Machine.execCueCancel init tag s
  | .cueExecutePreparing => Sys2Proof.Machine.execCueExecutePreparing s
  | .cueExecuteBoundary => Sys2Proof.Machine.execCueExecuteBoundary s
  | .cueDistribute tilesLatched => Sys2Proof.Machine.execCueDistribute tilesLatched s
  | .cueCellRx port lane pos bcast entries damage => Sys2Proof.Machine.execCueCellRx port lane pos bcast entries damage s
  | .pauseFrameRx port sublink opcode quanta => Sys2Proof.Machine.execPauseFrameRx port sublink opcode quanta s
  | .pauseExpire port sublink => Sys2Proof.Machine.execPauseExpire port sublink s
  | .mpPauseRepeat => Sys2Proof.Machine.execMpPauseRepeat s
  | .lpiEnter port sublink => Sys2Proof.Machine.execLpiEnter port sublink s
  | .lldpTx port sublink partner => Sys2Proof.Machine.execLldpTx port sublink partner s
  | .lpmodeNone init => Sys2Proof.Machine.execLpmodeNone init s
  | .lpmodeLpi init => Sys2Proof.Machine.execLpmodeLpi init s
  | .lpmodeWakeonly init key => Sys2Proof.Machine.execLpmodeWakeonly init key s
  | .wakeFrameRx frame fcsOk => Sys2Proof.Machine.execWakeFrameRx frame fcsOk s
  | .mpRxFrame kind frame fcsOk tagged => Sys2Proof.Machine.execMpRxFrame kind frame fcsOk tagged s
  | .arpIcmpRx port sublink target srcMac srcIp octets dest => Sys2Proof.Machine.execArpIcmpRx port sublink target srcMac srcIp octets dest s
  | .mpTxdoor init => Sys2Proof.Machine.execMpTxdoor init s
  | .mpTxComplete => Sys2Proof.Machine.execMpTxComplete s
  | .flowEnable init flow => Sys2Proof.Machine.execFlowEnable init flow s
  | .flowDisable init flow => Sys2Proof.Machine.execFlowDisable init flow s
  | .igmpReportRepeat flow => Sys2Proof.Machine.execIgmpReportRepeat flow s
  | .igmpQueryRx port sublink version group octets aged => Sys2Proof.Machine.execIgmpQueryRx port sublink version group octets aged s
  | .videoPacketRx packet held => Sys2Proof.Machine.execVideoPacketRx packet held s
  | .legDown flow leg => Sys2Proof.Machine.execLegDown flow leg s
  | .shedEscalate held => Sys2Proof.Machine.execShedEscalate held s
  | .shedEnd => Sys2Proof.Machine.execShedEnd s
  | .monEnable init => Sys2Proof.Machine.execMonEnable init s
  | .monFrameStart stroke => Sys2Proof.Machine.execMonFrameStart stroke s
  | .monFrameCut => Sys2Proof.Machine.execMonFrameCut s
  | .cmpWindowAccess init offset write data => Sys2Proof.Machine.execCmpWindowAccess init offset write data s
  | .viewComposed stroke view slackNs => Sys2Proof.Machine.execViewComposed stroke view slackNs s
  | .composeDeadline stroke progress => Sys2Proof.Machine.execComposeDeadline stroke progress s
  | .underlayBuildGo init view buf => Sys2Proof.Machine.execUnderlayBuildGo init view buf s
  | .underlayBuildAbort init view => Sys2Proof.Machine.execUnderlayBuildAbort init view s
  | .underlayBuildDone view => Sys2Proof.Machine.execUnderlayBuildDone view s
  | .trainCellRx port lane cell damage localReady askPre askPost => Sys2Proof.Machine.execTrainCellRx port lane cell damage localReady askPre askPost s
  | .trainTimeout port => Sys2Proof.Machine.execTrainTimeout port s
  | .capCellRx port lane cell damage => Sys2Proof.Machine.execCapCellRx port lane cell damage s
  | .rateVerifyDone port clean => Sys2Proof.Machine.execRateVerifyDone port clean s
  | .rateChange port => Sys2Proof.Machine.execRateChange port s
  | .hopRetry port => Sys2Proof.Machine.execHopRetry port s
  | .chpRetrain init port => Sys2Proof.Machine.execChpRetrain init port s
  | .laneDown port lane => Sys2Proof.Machine.execLaneDown port lane s
  | .laneRetrainTimer port lane => Sys2Proof.Machine.execLaneRetrainTimer port lane s
  | .eidleEnter port lane => Sys2Proof.Machine.execEidleEnter port lane s
  | .wakeBurstRx port lane => Sys2Proof.Machine.execWakeBurstRx port lane s
  | .markerWakeLead => Sys2Proof.Machine.execMarkerWakeLead s
  | .dlyExchange port lane departure => Sys2Proof.Machine.execDlyExchange port lane departure s
  | .dlyreqRx port lane arrival departure damage => Sys2Proof.Machine.execDlyreqRx port lane arrival departure damage s
  | .dlyrspRx port lane turn arrival damage => Sys2Proof.Machine.execDlyrspRx port lane turn arrival damage s
  | .enumStart port => Sys2Proof.Machine.execEnumStart port s
  | .enumCellRx port lane index nexp damage => Sys2Proof.Machine.execEnumCellRx port lane index nexp damage s
  | .enumrCellRx port lane index cell damage => Sys2Proof.Machine.execEnumrCellRx port lane index cell damage s
  | .coxCellRx port lane cell damage => Sys2Proof.Machine.execCoxCellRx port lane cell damage s
  | .tileVideoCellRx port lane cell damage => Sys2Proof.Machine.execTileVideoCellRx port lane cell damage s
  | .videoCellDrop port => Sys2Proof.Machine.execVideoCellDrop port s
  | .tunreqCellRx port lane cell damage => Sys2Proof.Machine.execTunreqCellRx port lane cell damage s
  | .tunrspCellRx port lane cell damage => Sys2Proof.Machine.execTunrspCellRx port lane cell damage s
  | .imageCellRx port lane cell damage => Sys2Proof.Machine.execImageCellRx port lane cell damage s
  | .healthCellRx port lane cell damage => Sys2Proof.Machine.execHealthCellRx port lane cell damage s
  | .tileCatch => Sys2Proof.Machine.execTileCatch s
  | .tileLatch => Sys2Proof.Machine.execTileLatch s
  | .holdLimitExpiry => Sys2Proof.Machine.execHoldLimitExpiry s
  | .rowConverted view row => Sys2Proof.Machine.execRowConverted view row s
  | .refreshDone view => Sys2Proof.Machine.execRefreshDone view s
  | .lineSlotStart view slot slack fail samples => Sys2Proof.Machine.execLineSlotStart view slot slack fail samples s
  | .viewSlotEnd view upset => Sys2Proof.Machine.execViewSlotEnd view upset s
  | .probe samples => Sys2Proof.Machine.execProbe samples s
  | .ltbLockLost => Sys2Proof.Machine.execLtbLockLost s
  | .ltbRelock => Sys2Proof.Machine.execLtbRelock s
  | .referenceSourceLock portA portB => Sys2Proof.Machine.execReferenceSourceLock portA portB s
  | .fmapselClr init => Sys2Proof.Machine.execFmapselClr init s
  | .grnCheck init => Sys2Proof.Machine.execGrnCheck init s
  | .grnInstall init key => Sys2Proof.Machine.execGrnInstall init key s
  | .grnInstallVolatile init key => Sys2Proof.Machine.execGrnInstallVolatile init key s
  | .grnInstallDone ok => Sys2Proof.Machine.execGrnInstallDone ok s
  | .grnStopBurnish init => Sys2Proof.Machine.execGrnStopBurnish init s
  | .grnSaveCheckpoint init => Sys2Proof.Machine.execGrnSaveCheckpoint init s
  | .grnClearAccumulators init key => Sys2Proof.Machine.execGrnClearAccumulators init key s
  | .checkpointTimer => Sys2Proof.Machine.execCheckpointTimer s
  | .grnXferidWrite init data => Sys2Proof.Machine.execGrnXferidWrite init data s
  | .grnAccumWrite init offset data => Sys2Proof.Machine.execGrnAccumWrite init offset data s
  | .calGo init kind all env => Sys2Proof.Machine.execCalGo init kind all env s
  | .calAbort init => Sys2Proof.Machine.execCalAbort init s
  | .calAutoRequest kind env => Sys2Proof.Machine.execCalAutoRequest kind env s
  | .calStep before after values => Sys2Proof.Machine.execCalStep before after values s
  | .calSequenceApply env => Sys2Proof.Machine.execCalSequenceApply env s
  | .dlyRetry env => Sys2Proof.Machine.execDlyRetry env s
  | .dramOpreq init op => Sys2Proof.Machine.execDramOpreq init op s
  | .dramOpSwitch => Sys2Proof.Machine.execDramOpSwitch s
  | .dramTrainingDone channel ident ok => Sys2Proof.Machine.execDramTrainingDone channel ident ok s
  | .gatherBoundExceeded channel => Sys2Proof.Machine.execGatherBoundExceeded channel s
  | .mr4Poll channel rate => Sys2Proof.Machine.execMr4Poll channel rate s
  | .oscillatorSample channel ended drift => Sys2Proof.Machine.execOscillatorSample channel ended drift s
  | .retrainStep channel ended => Sys2Proof.Machine.execRetrainStep channel ended s
  | .patrolScrub addr outcome syndrome => Sys2Proof.Machine.execPatrolScrub addr outcome syndrome s
  | .srcmdJournalRetention init key => Sys2Proof.Machine.execSrcmdJournalRetention init key s
  | .srcmdReturnService init key => Sys2Proof.Machine.execSrcmdReturnService init key s
  | .journalBufferFlush => Sys2Proof.Machine.execJournalBufferFlush s
  | .drcLogClear init => Sys2Proof.Machine.execDrcLogClear init s
  | .pairCellRx path lane cell damage => Sys2Proof.Machine.execPairCellRx path lane cell damage s
  | .pairFormTimeout => Sys2Proof.Machine.execPairFormTimeout s
  | .journalCellRx path lane first stroke records damage => Sys2Proof.Machine.execJournalCellRx path lane first stroke records damage s
  | .pairCrewChange init key => Sys2Proof.Machine.execPairCrewChange init key s
  | .pairYield init key => Sys2Proof.Machine.execPairYield init key s
  | .pairRejoin init key => Sys2Proof.Machine.execPairRejoin init key s
  | .resyncComplete => Sys2Proof.Machine.execResyncComplete s
  | .yieldInAsserted => Sys2Proof.Machine.execYieldInAsserted s
  | .yieldCellRx path lane cell damage => Sys2Proof.Machine.execYieldCellRx path lane cell damage s
  | .witnessLost => Sys2Proof.Machine.execWitnessLost s
  | .takeover => Sys2Proof.Machine.execTakeover s
  | .coldTakeoverReady => Sys2Proof.Machine.execColdTakeoverReady s
  | .crewHandover => Sys2Proof.Machine.execCrewHandover s
  | .crewPeriod => Sys2Proof.Machine.execCrewPeriod s
  | .crosslinkLost => Sys2Proof.Machine.execCrosslinkLost s
  | .splitDriveStart port => Sys2Proof.Machine.execSplitDriveStart port s
  | .splitDriveEnd port => Sys2Proof.Machine.execSplitDriveEnd port s
  | .faultRecognised index => Sys2Proof.Machine.execFaultRecognised index s
  | .brokenWire index => Sys2Proof.Machine.execBrokenWire index s
  | .brokenWireClear index => Sys2Proof.Machine.execBrokenWireClear index s
  | .fltRelease init key => Sys2Proof.Machine.execFltRelease init key s
  | .fltProof init => Sys2Proof.Machine.execFltProof init s
  | .fltProofSweep init => Sys2Proof.Machine.execFltProofSweep init s
  | .fltProofAbort init => Sys2Proof.Machine.execFltProofAbort init s
  | .proofMiss => Sys2Proof.Machine.execProofMiss s
  | .maskingWindowClose block => Sys2Proof.Machine.execMaskingWindowClose block s
  | .fltLogClear init => Sys2Proof.Machine.execFltLogClear init s
  | .thsSample sensors vNum vDen => Sys2Proof.Machine.execThsSample sensors vNum vDen s
  | .thsThrcfgWrite init data => Sys2Proof.Machine.execThsThrcfgWrite init data s
  | .thermalShutdown => Sys2Proof.Machine.execThermalShutdown s
  | .bistRunGroups init key => Sys2Proof.Machine.execBistRunGroups init key s
  | .bistRunAll init key => Sys2Proof.Machine.execBistRunAll init key s
  | .bistAbort init key => Sys2Proof.Machine.execBistAbort init key s
  | .bistClearSoft init key => Sys2Proof.Machine.execBistClearSoft init key s
  | .bistBurnFuses init key => Sys2Proof.Machine.execBistBurnFuses init key s
  | .bistGroupStart => Sys2Proof.Machine.execBistGroupStart s
  | .bistGroupDone group faults retestOk => Sys2Proof.Machine.execBistGroupDone group faults retestOk s
  | .lcsTransition init target key => Sys2Proof.Machine.execLcsTransition init target key s
  | .keyEnrol init key => Sys2Proof.Machine.execKeyEnrol init key s
  | .updXferOpen init data => Sys2Proof.Machine.execUpdXferOpen init data s
  | .stageSectorProgrammed sector ok => Sys2Proof.Machine.execStageSectorProgrammed sector ok s
  | .updVerify init key => Sys2Proof.Machine.execUpdVerify init key s
  | .updArm init key => Sys2Proof.Machine.execUpdArm init key s
  | .updDisarm init key => Sys2Proof.Machine.execUpdDisarm init key s
  | .updConfirm init key => Sys2Proof.Machine.execUpdConfirm init key s
  | .updReject init key => Sys2Proof.Machine.execUpdReject init key s
  | .updDistribute init key => Sys2Proof.Machine.execUpdDistribute init key s
  | .updDiscard init key => Sys2Proof.Machine.execUpdDiscard init key s
  | .updStoreSettings init key => Sys2Proof.Machine.execUpdStoreSettings init key s
  | .updApplySettings init key => Sys2Proof.Machine.execUpdApplySettings init key s
  | .regattaActivate => Sys2Proof.Machine.execRegattaActivate s
  | .autoconfExpiry => Sys2Proof.Machine.execAutoconfExpiry s
  | .sectorCopy ok => Sys2Proof.Machine.execSectorCopy ok s
  | .recoveryStart init key => Sys2Proof.Machine.execRecoveryStart init key s
  | .recovdataWrite init data => Sys2Proof.Machine.execRecovdataWrite init data s
  | .recoveryGo init key => Sys2Proof.Machine.execRecoveryGo init key s
  | .laneAligned port lane => Sys2Proof.Machine.execLaneAligned port lane s
  | .sublinkLinkChange port sublink up => Sys2Proof.Machine.execSublinkLinkChange port sublink up s
  | .chainEndCoxRx port lane cell damage => Sys2Proof.Machine.execChainEndCoxRx port lane cell damage s
  | .framerefOutPulseEnd => Sys2Proof.Machine.execFramerefOutPulseEnd s
  | .stageVerifyDone => Sys2Proof.Machine.execStageVerifyDone s
  | .priorCopyDone => Sys2Proof.Machine.execPriorCopyDone s
  | .checkpointSaved ok => Sys2Proof.Machine.execCheckpointSaved ok s
  | .shutpendRecheck sensors => Sys2Proof.Machine.execShutpendRecheck sensors s

end Sys2Proof.Machine
end

