-- ==== Sys2Proof/Machine/Step.lean ====
section
/-!
DEFINITION. One step: the command at the front of the queue, or, with no command waiting, one tick of the fault collector's sample clock.
-/

namespace Sys2Proof.Machine

/-- One step of the block. With no command waiting the free-running counter advances by one FLT sample period and the collector samples its
pairs (R80, R349; log entry 2). -/
def step (s : State) : Host.Outcome State Fault Refusal :=
  match s.pending with
  | [] => .next s.tick
  | c :: rest => exec c { s with pending := rest }

/-- The state with the command that a table word spells put at the front of the queue. No row of spec/opcode_table.json gives bits, so no word
spells one and the state is unchanged. -/
def State.withFetchWord (s : State) (nbits w : Nat) : State :=
  match decodeTableWord nbits w with
  | some c => { s with pending := c :: s.pending }
  | none => s

end Sys2Proof.Machine
end

