-- ==== Sys2Proof/Safety.lean ====
section
/-!
DEFINITION. The terms in which claims are stated: what it is for a command to complete, for an access to reach its register, and for the state to be in canonical form.
-/

namespace Sys2Proof

open Machine

/-- The command completes at `s`: it answers a next state, and `p` holds of it. -/
def Completes (c : Instr) (s : State) (p : State → Prop) : Prop := ∃ t, exec c s = .next t ∧ p t

/-- A write of initiator `init` to a register address is performed: the device answers, no check of R47 refuses it, and the page is in role. -/
def Machine.State.reaches (s : State) (init addr : Nat) : Bool := s.powered && s.gate init addr true == 0 && s.answers (addr / 4096)

/-- The unit is the active sender of a pair, whose accepted writes are journaled (R326). -/
def Machine.State.journals (s : State) : Bool := s.paired && s.pairState == 2

/-- A write of initiator `init` reaches its register, in a unit that is not the active sender of a pair (whose journal other statements
describe). -/
def Machine.State.performs (s : State) (init addr : Nat) : Prop := s.reaches init addr = true ∧ s.journals = false

/-- The access was answered OK, with one word performed (R47). -/
def Machine.State.answeredOk (t : State) : Prop := t.reply = some ⟨0, 1, []⟩

/-- The detector pair of a source stands at error (R351). -/
def Machine.State.raised (t : State) (source : Nat) : Prop := t.flt.pairs.any (fun p => p.index == source) = true

/-- A read of initiator `init` reaches a register address: the device answers, no check of R47 refuses it, and the page is in role. -/
def Machine.State.readable (s : State) (init addr : Nat) : Prop :=
  s.powered = true ∧ s.gate init addr false = 0 ∧ s.answers (addr / 4096) = true

/-- Every register but those at the addresses listed reads as before, and so does every running counter but those at the addresses of
`counters`. -/
def SameRegisters (but counters : List Nat) (s t : State) : Prop :=
  (∀ a, a ∉ but → t.reg a = s.reg a) ∧ ∀ a, a ∉ counters → t.live a = s.live a

/-- The registers that a frame of a sub-link may change besides its own effect: STATUS of its port, and STATHALF (R122, R128). -/
def linkRegs (q l : Nat) : List Nat := [Fld.addr (.netStatusTxlpi (netPage q)), Fld.addr (.netStathalfHalf (netPage q) l)]

/-- The counters of a sub-link (R128). -/
def linkCounters (q l : Nat) : List Nat := (List.range 24).map (fun i => 4096 * netPage q + 0x200 + 0x80 * l + 4 * i)

/-- The registers of a chain port that training and the step of a hop may change: STAT, BUDGET and the taps of both lanes (R21, R177, R178). -/
def hopRegs (n : Nat) : List Nat :=
  [Fld.addr (.chpStatState n), Fld.addr (.chpBudgetDemand n), Fld.addr (.chpTapsPre n 0), Fld.addr (.chpTapsPre n 1)]

/-- The counters of cells received and sent on a chain port (R189). -/
def cellCounters (n : Nat) : List Nat := [Fld.addr (.chpCellsrx n), Fld.addr (.chpCellstx n)]

/-- The registers in which a unit of a pair shows its state, its partner and its journal's age (R321 to R345). -/
def pairShown : List Nat :=
  ([.pairStatState, .pairPartnerlo, .pairPartnerhi, .pairCmdstatResult, .pairValidto, .pairStaleageAge, .pairTakeinfoCause, .pairLasttake, .pairEpoch,
    .pairJseq, .devRolestatPairpos, .devModestatSplit] : List Fld).map Fld.addr

/-- A DAP packet of a type that the device takes: for its port, with the header of R50, while DAP is up and enabled, and the transmitter of MP is
not stopped by pause, so that the answer leaves at once. -/
def Machine.State.takesDap (s : State) (h : DapHeader) (type : Nat) : Prop :=
  s.dapUp = true ∧ s.flag .devDapcfgEnable = true ∧ h.udp = s.fld .devDapcfgPort ∧ h.magic = 0x4441 ∧ h.version = 1 ∧ h.type = type ∧
    s.paused 4 0 = false

/-- A cell boundary of the sender's or the tile's lanes sends nothing: no chain port has a cell waiting. -/
def Machine.State.noCellWaits (s : State) : Prop := ∀ p ∈ s.chain.ports, p.queue = []

/-- Every byte of every memory reads as before: the event store, the boot flash, DRAM, MP memory, the surface table and the banks. -/
def SameMemories (s t : State) : Prop :=
  (∀ a, memByte t.boot.store a = memByte s.boot.store a) ∧ (∀ a, memByte t.boot.flash a = memByte s.boot.flash a) ∧
  (∀ a, memByte t.dram.mem a = memByte s.dram.mem a) ∧ (∀ a, memByte t.net.mpMem a = memByte s.net.mpMem a) ∧
  (∀ a, memByte t.cmp.table a = memByte s.cmp.table a) ∧ (∀ a, memByte t.cmp.conv a = memByte s.cmp.conv a) ∧
  (∀ a, memByte t.cmp.luts a = memByte s.cmp.luts a)

/-- The register file and the running counters are in canonical form: addresses strictly rising, and no entry equal to what an unlisted
address reads as, so that equal files are equal data. -/
def Machine.State.canonical (s : State) : Prop :=
  sparseWf regReset s.regs = true ∧ sparseWf (fun _ => (0 : Word)) s.counters = true

/-- `t` is `s` after a full reset of a cause (R66 to R68): every register but RSTCAUSE, the sampled pins and UND.STAT of the builds that it ends at
its reset value, those at STATE 3 with REASON 5 (R164), every running counter and the free-running counter at 0, DRAM lost, the event store and
the boot flash kept, and RSTCAUSE with the cause and THERMAL alone. -/
def FullyReset (cause : Cause) (s t : State) : Prop :=
  (∀ a, a ≠ 0x74 → a ≠ Fld.addr .devProfstatPins → (∀ b ∈ s.cmp.builds, a ≠ Fld.addr (.undStatState b.view)) → t.reg a = regReset a) ∧
    (∀ b ∈ s.cmp.builds, t.fld (.undStatState b.view) = 3 ∧ t.fld (.undStatReason b.view) = 5) ∧ (∀ a, t.live a = 0) ∧ t.frc = 0 ∧ t.dram.mem = [] ∧
    (∀ a, memByte t.boot.store a = memByte s.boot.store a) ∧ (∀ a, memByte t.boot.flash a = memByte s.boot.flash a) ∧
    t.fld .devRstcauseCause = setBit (2 ^ cause.bit) 3 (testBit (s.fld .devRstcauseCause) 3)

/-- `t` is `s` with chuck holding (R73): STAGE 8 with the FAIL code, no image, no role and no profile, no block ready, and of the registers only those
that outlive the blocks, but for the addresses listed. -/
def ChuckHolds (fail : Nat) (but counters : List Nat) (s t : State) : Prop :=
  t.fld .devBootstatStage = 8 ∧ t.fld .devBootstatFail = fail ∧ t.fld .devBootstatImage = 0 ∧ t.fld .devRolestatRole = 0 ∧
    t.fld .devRolestatBlockpwr = 0 ∧ t.boot.profile = none ∧ t.boot.ready = 0 ∧ t.frc = s.frc ∧
    (∀ a, a ∉ Fld.addr .devBootstatStage :: Fld.addr .devRolestatRole :: but → t.reg a = if chuckKeeps a then s.reg a else regReset a) ∧
    ∀ a, a ∉ counters → t.live a = if chuckKeeps a then s.live a else 0

/-- The registers in which chuck shows what it finds in the fuses and the event store (R72, R399, R420). -/
def bootShown : List Nat :=
  ([.devModestatLcs, .devRstcauseCause, .lcsStateState, .keyStatEnrolled, .updStatTrials, .updStagever, .updKeepver, .updActivever, .updConsolDone,
   .thsNvqQueued] : List Fld).map Fld.addr

/-- The registers whose values a warm restart sets, whatever stays (R69, R320). -/
def warmShown : List Nat :=
  (warmFields ++ ([.drcSrcmdState, .pairStatState, .pairEpoch, .pairJseq, .pairValidto, .pairStatResync] : List Fld)).map Fld.addr

/-- `t` is `s` after a warm restart of a cause (R67, R69, R70): STAGE 9 where the profile holds through, else 1, the cause set beside those that stand,
WARMCNT advanced and WARMRST raised; the role, the profile, the free-running counter and the boot flash stay, and of the registers those that any
warm restart keeps. Without hold-through every other register is at its reset value but for those of `warmShown`; with it, in a tile and in a sender
that has control, the pages of the hold-through set keep theirs but for COMMIT. -/
def WarmlyRestarted (cause : Cause) (s t : State) : Prop :=
  let hold := s.boot.profile.any (·.holdThru)
  t.boot.warm = true ∧ t.boot.holdThrough = hold ∧ t.fld .devBootstatStage = (if hold then 9 else 1) ∧
    t.fld .devRstcauseCause = setBit (s.fld .devRstcauseCause) cause.bit true ∧
    t.fld .devRstcauseWarmcnt = (s.fld .devRstcauseWarmcnt + 1) % 256 ∧ t.raised srcDevWarmrst ∧
    t.fld .devRolestatRole = s.fld .devRolestatRole ∧ t.boot.profile = s.boot.profile ∧ t.frc = s.frc ∧
    (∀ a, memByte t.boot.flash a = memByte s.boot.flash a) ∧
    (∀ a, a ∉ warmShown → warmKeeps a = true → t.reg a = s.reg a) ∧
    (hold = false → ∀ a, a ∉ warmShown → warmKeeps a = false → t.reg a = regReset a) ∧
    (hold = true → s.isTile = true ∨ s.pairing.control = true → ∀ a, a ∉ warmShown → s.holdPages (a / 4096) = true → a % 4096 ≠ 0x10 →
      t.reg a = s.reg a)

end Sys2Proof
end

