-- ==== Sys2Proof/Certificates/Slice0/Obligations.lean ====
section
/-!
DEFINITION. The statements about the model that the provers settle.
-/

open Sys2Proof Sys2Proof.Machine

/-- A step runs the command at the front of the queue, on the state whose queue is the rest. -/
def Obligations.StepRunsTheFrontCommand : Prop :=
  ∀ (c : Instr) (rest : List Instr) (s : State), s.pending = c :: rest → step s = exec c { s with pending := rest }

/-- With no command waiting a step is one sample period of 10 ns and a cell boundary (the model's choice, log entry 2). While the collector does not sample and no cell waits, only the counter moves. -/
def Obligations.IdleStepIsOneSamplePeriod : Prop :=
  ∀ s : State, s.pending = [] →
    (∃ t, step s = .next t ∧ t.pending = []) ∧
    (s.flt.sampling = false →
      step s = .next ({ s with frc := (s.frc + 10) % 2 ^ 64, sent := [], reply := none } : State).cellBoundary) ∧
    (s.flt.sampling = false → s.noCellWaits →
      step s = .next { s with frc := (s.frc + 10) % 2 ^ 64, sent := [], reply := none })

/-- Every command of the table answers a next state in every state, and its effect does not touch the commands that wait. -/
def Obligations.CommandsLeaveTheQueueAlone : Prop :=
  ∀ (c : Instr) (s : State), ∃ t, exec c s = .next t ∧ t.pending = s.pending

/-- Equal register files stay equal data: every step, of any command or none, keeps the register map and the map of running counters strictly rising in address and free of entries equal to the reset value. -/
def Obligations.RegisterFileStaysCanonical : Prop :=
  ∀ s t : State, s.canonical → step s = .next t → t.canonical

/-- The state after reset: canonical, an empty queue, DEV.RSTCAUSE with POR alone, every other register at its reset value. -/
def Obligations.ResetIsCanonical : Prop :=
  State.reset.canonical ∧ State.reset.pending = [] ∧ State.reset.reg 0x74 = 1 ∧
    ∀ a, a ≠ 0x74 → State.reset.reg a = regReset a

/-- R28: an address whose bits [1:0] are not 0b00 is answered with status ALIGN, and nothing is written. -/
def Obligations.MisalignedWriteIsAnsweredAlign : Prop :=
  ∀ (s : State) (init addr : Nat) (data : Word), s.powered = true → addr % 4 ≠ 0 →
    Completes (.registerWrite init addr data) s fun t =>
      t.reply = some ⟨5, 0, []⟩ ∧ SameRegisters [] [] s t ∧ SameMemories s t

/-- A write that R28, R30, R32 or R56 refuses has no effect but its status. -/
def Obligations.RefusedWriteChangesNothing : Prop :=
  ∀ (s : State) (init addr : Nat) (data : Word), s.powered = true → s.gate init addr true ≠ 0 →
    Completes (.registerWrite init addr data) s fun t =>
      t.reply = some ⟨s.gate init addr true, 0, []⟩ ∧ SameRegisters [] [] s t ∧ SameMemories s t ∧
        t.access = s.access ∧ t.cue = s.cue ∧ t.boot = s.boot

/-- A write at a shadow offset changes that shadow alone (R7, R31, R33). -/
def Obligations.ShadowWriteStaysOutOfForce : Prop :=
  ∀ (s : State) (init addr : Nat) (data : Word) (p : PageInfo) (r : RegSpec),
    s.performs init addr → pageInfo (addr / 4096) = some p → 0x840 ≤ addr % 4096 →
    findReg p.type (addr % 4096 - 0x800) = some r → r.shadowed = true →
    Completes (.registerWrite init addr data) s fun t =>
      t.answeredOk ∧ t.reg addr = r.storeShadow (s.reg addr) data ∧ SameRegisters [addr] [] s t ∧ SameMemories s t

/-- R326: an accepted write of initiator 0 or 8 to 15 is journaled with the next JSEQ, and performed. -/
def Obligations.ActiveSenderJournalsItsWrites : Prop :=
  ∀ (s : State) (init addr : Nat) (data : Word), s.reaches init addr = true → s.journals = true → (init = 0 ∨ 8 ≤ init) →
    addr % 4096 ≠ 0x10 → addr ≠ 0x3048 → addr ≠ 0x304C → addr / 4096 ≠ 7 →
    (({ s with sent := [], reply := none } : State).writeAll init addr data none).2 = 0 →
    let u := ({ s with sent := [], reply := none } : State).journal ⟨1, init, 0, addr, 0, data.toNat, []⟩
    u.fld .pairJseq = (s.fld .pairJseq + 1) % 2 ^ 32 ∧
    u.pairing.replay = trimReplay (s.pairing.replay ++ [⟨(s.fld .pairJseq + 1) % 2 ^ 32, s.stroke, ⟨1, init, 0, addr, 0, data.toNat, []⟩⟩]) ∧
    Completes (.registerWrite init addr data) s fun t =>
      t.regs = (u.writeAll init addr data none).1.regs ∧ t.counters = (u.writeAll init addr data none).1.counters

/-- R48, R49: SPI_WRITE, SPI_QUAD_WRITE, SPI_READ and SPI_QUAD_READ of one word. -/
def Obligations.SpiFramesActAsRegisterAccesses : Prop :=
  (∀ (s : State) (addr room : Nat) (w : Word), addr < 2 ^ 24 → 0 < room → s.performs 0 addr →
      (({ s with sent := [], reply := none } : State).write 0 addr w none).2 = 0 →
    Completes (.spiWrite addr [w] room) s (fun t => exec (.registerWrite 0 addr w) s = .next t ∧ t.answeredOk) ∧
    Completes (.spiQuadWrite addr [w] room) s (fun t => exec (.registerWrite 0 addr w) s = .next t ∧ t.answeredOk)) ∧
  (∀ (s : State) (addr : Nat), addr < 2 ^ 24 → s.powered = true → s.gate 0 addr false = 0 → addr ≠ 0x44 → addr / 4096 < 7 →
    Completes (.spiRead addr 1 1) s (fun t =>
      t.reply = some ⟨0, 0, [(s.readWord 0 addr).2]⟩ ∧ SameRegisters [] [] s t ∧ SameMemories s t) ∧
    Completes (.spiQuadRead addr 1 1) s (fun t =>
      t.reply = some ⟨0, 0, [(s.readWord 0 addr).2]⟩ ∧ SameRegisters [] [] s t ∧ SameMemories s t))

/-- R46: FENCE_WRITE, FENCE_READ and FENCE_READ_COMPLETE. -/
def Obligations.FencesAreCountedByInitiator : Prop :=
  (∀ (s : State) (init : Nat) (data : Word), s.performs init 0x44 →
    Completes (.fenceWrite init data) s fun t =>
      t.answeredOk ∧ t.fences init = (s.fences init + 1) % 65536 ∧ (∀ j, j ≠ init → t.fences j = s.fences j) ∧
        SameRegisters [] [] s t ∧ SameMemories s t) ∧
  (∀ (s : State) (init : Nat), s.powered = true → s.gate init 0x44 false = 0 → init ∉ s.access.fenceWait →
    Completes (.fenceRead init) s fun t =>
      init ∈ t.access.fenceWait ∧ t.access.fences = s.access.fences ∧ SameRegisters [] [] s t ∧ SameMemories s t) ∧
  (∀ (s : State) (init : Nat), init < 16 → s.gate init 0x44 false = 0 → init ∈ s.access.fenceWait →
    Completes (.fenceReadComplete init) s fun t =>
      init ∉ t.access.fenceWait ∧ t.fences init = (s.fences init + 1) % 65536 ∧
        (∃ w : Word, t.reply = some ⟨0, 0, [w]⟩ ∧ Fld.get .devFenceCount w = (s.fences init + 1) % 65536 ∧
          Fld.get .devFenceInitiator w = init) ∧
        SameRegisters [] [] s t ∧ SameMemories s t)

/-- R50 to R53: DAP_OPEN, DAP_CLOSE, DAP_SESSION_TIMEOUT and DAP_REQUEST. -/
def Obligations.DapSessionsOpenAndEnd : Prop :=
  (∀ (s : State) (h : DapHeader) (i : Nat), s.takesDap h 3 →
      (List.range 8).find? (fun i => !s.access.sessions.any (fun x => x.id == i)) = some i →
    Completes (.dapOpen h) s fun t =>
      t.access.sessions = s.access.sessions ++ [⟨i, none, none⟩] ∧
        t.sent = [.dap (s.txTag 4) ⟨h.srcMac, h.srcIp, 4, i, h.seq % 65536, 0, 0, h.target, []⟩] ∧
        SameRegisters (linkRegs 4 0) (linkCounters 4 0) s t ∧ SameMemories s t) ∧
  (∀ (s : State) (h : DapHeader), s.takesDap h 3 →
      (List.range 8).find? (fun i => !s.access.sessions.any (fun x => x.id == i)) = none →
    Completes (.dapOpen h) s fun t =>
      t.access = s.access ∧ (∃ r : DapReply, t.sent = [.dap (s.txTag 4) r] ∧ r.status = 1 ∧ r.type = 4 ∧ r.seq = h.seq % 65536) ∧
        SameRegisters (linkRegs 4 0) (linkCounters 4 0) s t ∧ SameMemories s t) ∧
  (∀ (s : State) (h : DapHeader), s.takesDap h 5 →
    Completes (.dapClose h) s fun t =>
      t.access.sessions = s.access.sessions.filter (fun x => x.id != h.session) ∧
        SameRegisters (linkRegs 4 0) (linkCounters 4 0) s t ∧ SameMemories s t) ∧
  (∀ (s : State) (i : Nat),
    Completes (.dapSessionTimeout i) s fun t =>
      t.access.sessions = s.access.sessions.filter (fun x => x.id != i) ∧ SameRegisters [] [] s t ∧ SameMemories s t) ∧
  (∀ (s : State) (h : DapHeader) (queued : Nat) (x : DapSession), s.takesDap h 1 →
      s.access.sessions.find? (fun x => x.id == h.session) = some x → x.lastSeq = none → h.count = 1 → h.target = 0 →
      min queued s.access.queue ≤ 255 →
    Completes (.dapRequest h [⟨3, 0x44, 0⟩] queued) s fun t =>
      let r : DapReply := ⟨h.srcMac, h.srcIp, 2, h.session, h.seq % 65536, 0, 0, 0, [⟨0, 0x44, 0⟩]⟩
      t.sent = [.dap (s.txTag 4) r] ∧ t.fences (8 + h.session) = (s.fences (8 + h.session) + 1) % 65536 ∧
        t.access.sessions = s.access.sessions.map (fun y =>
          if y.id == h.session then { y with lastSeq := some (h.seq % 65536), stored := some r } else y) ∧
        SameRegisters (linkRegs 4 0) (linkCounters 4 0) s t ∧ SameMemories s t) ∧
  (∀ (s : State) (h : DapHeader) (ops : List AccessOp) (queued : Nat) (x : DapSession) (r : DapReply), s.takesDap h 1 →
      s.access.sessions.find? (fun x => x.id == h.session) = some x → x.lastSeq = some (h.seq % 65536) → x.stored = some r →
      h.count = ops.length → 0 < h.count → h.count ≤ 128 → h.target = 0 →
    Completes (.dapRequest h ops queued) s fun t =>
      t.sent = [.dap (s.txTag 4) { r with mac := h.srcMac, ip := h.srcIp }] ∧ t.access = s.access ∧
        SameRegisters (linkRegs 4 0) (linkCounters 4 0) s t ∧ SameMemories s t)

/-- R54, R55, R209: TUNREQ_CELL_RX, TUNRSP_CELL_RX and TUNNEL_TIMEOUT. -/
def Obligations.TunnelOperationsAreAnswered : Prop :=
  (∀ (s : State) (port lane : Nat) (cell : TunreqCell), port < 2 → s.powered = true → s.isTile = true → s.serves port = true →
      s.restarting = false → s.flag .klsTstatPosvalid = true → cell.pos = s.fld .klsTstatPos → cell.bcast = false → cell.ops = [⟨3, 0x44, 0⟩] →
    Completes (.tunreqCellRx port lane cell .none) s fun t =>
      (t.port port).queue = (s.port port).queue ++ [(s.stroke, .tunrsp ⟨cell.tag, s.fld .klsTstatPos, [⟨0, 0x44, 0⟩]⟩)] ∧ t.sent = [] ∧
        t.fences 1 = (s.fences 1 + 1) % 65536 ∧ SameRegisters [] [Fld.addr (.chpCellsrx port)] s t ∧ SameMemories s t) ∧
  (∀ (s : State) (port lane : Nat) (cell : TunreqCell), port < 2 → s.isTile = true → s.serves port = false →
      s.restarting = false → s.flag .klsTstatPosvalid = true → cell.pos = s.fld .klsTstatPos → cell.bcast = false →
    Completes (.tunreqCellRx port lane cell .none) s fun t =>
      (t.port port).queue = (s.port port).queue ++
        [(s.stroke, .tunrsp ⟨cell.tag, s.fld .klsTstatPos, cell.ops.map (fun o => ⟨2, o.addr, 0⟩)⟩)] ∧ t.sent = [] ∧ t.access = s.access ∧
        SameRegisters [] [Fld.addr (.chpCellsrx port), Fld.addr (.chpNotserving port)] s t ∧ SameMemories s t) ∧
  (∀ (s : State) (port lane : Nat) (cell : TunrspCell) (r : TunnelReq), s.drives = true →
      s.access.tunnel.find? (fun t => t.tag == cell.tag && (port == 8 || t.port == port) && t.sent) = some r → r.session < 8 →
    Completes (.tunrspCellRx port lane cell .none) s fun t =>
      (∀ x ∈ t.access.tunnel, x.tag ≠ cell.tag) ∧
        SameRegisters (Fld.addr (.chpStatEidle 7) :: linkRegs 4 0)
          (Fld.addr (.chpCellsrx (linkPort port)) :: Fld.addr (.chpCellstx 7) :: linkCounters 4 0) s t ∧ SameMemories s t) ∧
  (∀ (s : State) (tag : Nat) (r : TunnelReq), s.access.tunnel.find? (fun t => t.tag == tag) = some r → r.session < 8 →
    Completes (.tunnelTimeout tag) s fun t =>
      (∀ x ∈ t.access.tunnel, x.tag ≠ tag) ∧
        SameRegisters (Fld.addr (.chpStatEidle 7) :: linkRegs 4 0) (Fld.addr (.chpCellstx 7) :: linkCounters 4 0) s t ∧ SameMemories s t)

/-- R34, R35, R37, R39: COMMIT_GO and COMMIT_CANCEL. -/
def Obligations.CommitAcceptedRefusedCancelled : Prop :=
  (∀ (s : State) (init page : Nat) (dropLate : Bool) (p : PageInfo), page < 4096 → s.performs init (pageAddr page 0x10) →
      pageInfo page = some p → p.shadow = true → s.fld (.hdrCommitState page) ≠ 1 → s.lateFor (s.fld (.hdrCommitStroke page)) = false →
      s.commitRange (s.withShadows (s.together page (s.fld (.hdrCommitStroke page)))) page = true →
      s.commitBudget (s.withShadows (s.together page (s.fld (.hdrCommitStroke page)))) page = true →
    Completes (.commitGo init page true dropLate) s fun t =>
      t.answeredOk ∧ t.fld (.hdrCommitState page) = 1 ∧ t.fld (.hdrCommitLate page) = 0 ∧
        t.fld (.hdrCommitStroke page) = s.fld (.hdrCommitStroke page) ∧
        t.access.commits = s.access.commits ++ [⟨page, s.fld (.hdrCommitStroke page), true, dropLate, none⟩]) ∧
  (∀ (s : State) (init page : Nat) (dropLate : Bool) (p : PageInfo), page < 4096 → s.performs init (pageAddr page 0x10) →
      pageInfo page = some p → p.shadow = true → s.fld (.hdrCommitState page) ≠ 1 → s.lateFor (s.fld (.hdrCommitStroke page)) = false →
      s.commitRange (s.withShadows (s.together page (s.fld (.hdrCommitStroke page)))) page = false →
    Completes (.commitGo init page true dropLate) s fun t =>
      t.answeredOk ∧ t.fld (.hdrCommitState page) = 2 ∧ t.fld (.hdrCommitReason page) = 2 ∧
        SameRegisters [pageAddr page 0x10] [] s t) ∧
  (∀ (s : State) (init page : Nat) (p : PageInfo), page < 4096 → s.performs init (pageAddr page 0x10) →
      pageInfo page = some p → p.shadow = true → s.fld (.hdrCommitState page) = 1 →
    Completes (.commitCancel init page) s fun t =>
      t.answeredOk ∧ t.fld (.hdrCommitState page) = 0 ∧ t.access.commits = s.access.commits.filter (fun c => c.page != page) ∧
        SameRegisters [pageAddr page 0x10] [] s t ∧ SameMemories s t)

/-- R33, R38 and R41: LATCH_INSTANT, SNAP_REQ and BLKRESET. -/
def Obligations.LatchAndSnapshotRequests : Prop :=
  (∀ (s : State) (stroke : Nat) (c : Commit), s.isTile = true → s.strokesRun = true → s.boot.warning = false →
      s.access.commits = [c] → c.page < 4096 → c.target = wrap32 (s.stroke + 1) → c.grouped = false → c.recorded = none →
      s.latchReason [c.page] c.page = 0 →
    Completes (.latchInstant stroke) s fun t =>
      t.fld (.hdrCommitState c.page) = 0 ∧ t.fld (.hdrCommitStroke c.page) = wrap32 (s.stroke + 1) ∧ t.access.commits = [] ∧
        t.access.prepared = wrap32 (s.stroke + 1) ∧
        (∀ a ∈ shadowedAddrs c.page, (a, s.reg (a + 0x800)) ∈ t.access.captured) ∧
        SameRegisters [pageAddr c.page 0x10, pageAddr c.page 0x14] [] s t ∧ SameMemories s t) ∧
  (∀ (s : State) (init page : Nat) (auto : Bool) (p : PageInfo), page < 4096 → s.performs init (pageAddr page 0x20) →
      pageInfo page = some p → p.snapable = true →
    Completes (.snapReq init page auto) s fun t =>
      t.answeredOk ∧ t.fld (.hdrSnapDone page) = 0 ∧ t.fld (.hdrSnapAuto page) = bit auto ∧ page ∈ t.access.snapReqs ∧
        SameRegisters [pageAddr page 0x20] [] s t ∧ SameMemories s t) ∧
  (∀ (s : State) (init page : Nat) (p : PageInfo), page < 4096 → s.performs init (pageAddr page 0x0C) →
      pageInfo page = some p → p.block ≠ 13 → p.block ≠ 15 →
    Completes (.blkreset init page) s fun t => t.answeredOk ∧ t.flt.windows.any (fun w => w.block == p.block) = true)

/-- R82: TIM_RATE_WRITE folds the correction into the offset and rebases the rate. -/
def Obligations.RateWriteKeepsTimeContinuous : Prop :=
  ∀ (s : State) (init : Nat) (rate : Word), s.performs init 0x1044 →
    Completes (.timRateWrite init rate) s fun t =>
      t.answeredOk ∧ t.now = s.now ∧
        (s.isTile = false →
          t.time.offset = s.time.offset + s.corr ∧ t.time.base = s.frc ∧
          t.sfld .timRate = clampInt (-549755813) 549755813 (signed 32 rate.toNat) ∧
          ((signed 32 rate.toNat < -549755813 ∨ 549755813 < signed 32 rate.toNat) → t.raised srcTimRateclamp)) ∧
        (s.isTile = true → t.reg 0x1044 = s.reg 0x1044 ∧ t.time = s.time) ∧
        SameRegisters [0x1044] [] s t ∧ SameMemories s t

/-- R83: TIM_STEP. -/
def Obligations.StepAddsItsDeltaOrIsRefused : Prop :=
  ∀ (s : State) (init : Nat) (force : Bool), s.performs init 0x1050 →
    Completes (.timStep init force) s fun t =>
      t.answeredOk ∧
      (s.isTile = false → (s.stepDelta.natAbs ≤ s.fld .timJumplim ∨ force = true) →
        t.time.offset = s.time.offset + s.stepDelta ∧ t.fld .timStepstatResult = 1 ∧
          t.fld .timStepstatSeq = (s.fld .timStepstatSeq + 1) % 2 ^ (Fld.width .timStepstatSeq)) ∧
      (s.isTile = false → s.fld .timJumplim < s.stepDelta.natAbs → force = false →
        t.time.offset = s.time.offset ∧ t.fld .timStepstatResult = 2 ∧
          t.fld .timStepstatRefused = (s.fld .timStepstatRefused + 1) % 2 ^ (Fld.width .timStepstatRefused) ∧
          t.flt.pairs.any (fun p => p.index == srcTimJumpref) = true) ∧
      (s.isTile = true → t.time.offset = s.time.offset ∧ t.fld .timStepstatResult = 3) ∧
      SameRegisters [Fld.addr .timStepstatResult] [] s t ∧ SameMemories s t

/-- R88: PTP_TX_TIMESTAMP and TXQ_POP. -/
def Obligations.TransmitTimestampsQueueInOrder : Prop :=
  (∀ (s : State) (q : Nat), q < s.time.txq.length → testBit s.boot.testing 2 = false → (s.time.txq.getD q []).length < 64 →
    Completes (.ptpTxTimestamp q) s fun t =>
      t.time.txq.getD q [] = s.time.txq.getD q [] ++
        [⟨s.time.txId.getD q 0, wrap32 (unsigned 64 (s.now + s.fld (.timPortlatTxlat q))), s.fld .timStepstatSeq % 16⟩] ∧
      (∀ j, j ≠ q → t.time.txq.getD j [] = s.time.txq.getD j []) ∧ SameRegisters [] [] s t ∧ SameMemories s t) ∧
  (∀ (s : State) (init q : Nat), q < 5 → s.performs init (0x110C + 16 * q) →
    Completes (.txqPop init q) s fun t =>
      t.answeredOk ∧ t.time.txq.getD q [] = (s.time.txq.getD q []).drop 1 ∧
      (∀ j, j ≠ q → t.time.txq.getD j [] = s.time.txq.getD j []) ∧ SameRegisters [] [] s t ∧ SameMemories s t)

/-- R91: PTP_MESSAGE_RX and PTP_HOLDOVER. -/
def Obligations.PtpServoStepsAndHoldsOver : Prop :=
  (∀ (s : State) (port octets : Nat) (dest : FrameDest) (ds : List Nat) (raw : Int), s.servoRuns = true → s.ptpPort = port →
      s.receives port 0 = true → s.wakeOnly = false → 64 ≤ octets → octets ≤ 9216 → s.time.master = some ds →
      (s.fld .timPtpstatState = 1 ∨ s.fld .timPtpstatState = 2) → testBit s.boot.testing 2 = false → s.time.servoStepped = false →
    Completes (.ptpMessageRx port octets dest (.sync ds raw)) s fun t =>
      t.time.offset = s.time.offset - (raw - s.fld (.timPortlatRxlat port) - s.fld .timPtpdelay) ∧ t.fld .timStepstatResult = 1 ∧
        t.time.servoStepped = true ∧
        SameRegisters (Fld.addr .timStepstatResult :: Fld.addr .timPtpoffset :: Fld.addr .timPtpstatState :: Fld.addr (.timTxqstatLost port) :: linkRegs port 0)
          (linkCounters port 0) s t ∧ SameMemories s t) ∧
  (∀ (s : State), s.servoRuns = true → (s.fld .timPtpstatState = 1 ∨ s.fld .timPtpstatState = 2) →
    Completes .ptpHoldover s fun t =>
      t.fld .timPtpstatState = 3 ∧ t.time.master = none ∧ t.flt.pairs.any (fun p => p.index == srcTimHoldover) = true ∧
        SameRegisters [Fld.addr .timPtpstatState] [] s t ∧ SameMemories s t)

/-- R94, R99, R100, R101: FRAMEREF_IN_EDGE, REFLOST, FRAMEREF_OUT_PULSE_END, SHUT_EDGE, SHUTLOST and MARKER_MISSING. -/
def Obligations.ReferenceEdgesAndLosses : Prop :=
  (∀ (s : State) (source : Nat) (rising : Bool) (instant : Int), s.isSender = true → s.prof (·.strokeSrc) = source →
      (source = 1 ∧ rising = !s.flag .stkRefioInedge ∨ source = 2 ∧ rising = true) → s.time.lastEdge = none →
    Completes (.framerefInEdge source rising instant) s fun t =>
      t.time.lastEdge = some instant ∧ t.time.edges = 1 ∧ SameRegisters [] [] s t ∧ SameMemories s t) ∧
  (∀ s : State, s.isSender = true → (s.prof (·.strokeSrc) = 1 ∨ s.prof (·.strokeSrc) = 2) →
    Completes .reflost s fun t =>
      t.fld .stkStatLock = 2 ∧ t.time.edges = 0 ∧ t.time.lastEdge = none ∧
        t.flt.pairs.any (fun p => p.index == srcStkReflost) = true ∧ SameRegisters [Fld.addr .stkStatLock] [] s t ∧ SameMemories s t) ∧
  (∀ s : State, Completes .framerefOutPulseEnd s fun t => t.time.refOut = false ∧ SameRegisters [] [] s t ∧ SameMemories s t) ∧
  (∀ (s : State) (n : Nat) (instant : Int), s.isSender = true → n < s.time.shut.length →
    Completes (.shutEdge n true instant) s fun t =>
      (t.time.shut.getD n ShutState.reset).rise = some instant ∧ (t.time.shut.getD n ShutState.reset).lost = false ∧
        SameRegisters ((List.range 4).map (fun v => Fld.addr (.stkViewmeasPhase v))) [] s t ∧ SameMemories s t) ∧
  (∀ (s : State) (n : Nat), s.isSender = true → n < 4 →
    Completes (.shutlost n) s fun t =>
      t.flt.pairs.any (fun p => p.index == srcStkShutlost) = true ∧ SameRegisters [] [] s t ∧ SameMemories s t) ∧
  (∀ s : State, s.isTile = true → s.time.locked = true → s.time.marker = none →
    Completes .markerMissing s fun t =>
      (∃ c, t.time.marker = some (c, s.time.catchAt + s.time.interval) ∧ c.stroke = wrap32 (s.stroke + 1)) ∧
        t.fld .stkMarkerMissed = (s.fld .stkMarkerMissed + 1) % 2 ^ (Fld.width .stkMarkerMissed) ∧
        t.flt.pairs.any (fun p => p.index == srcStkMarkermiss) = true ∧
        SameRegisters [Fld.addr .stkMarkerMissed] [] s t ∧ SameMemories s t)

/-- R108, R112: CUE_PUSH and CUE_CANCEL. -/
def Obligations.CuePushAndCancel : Prop :=
  (∀ (s : State) (init : Nat), s.performs init 0x3048 → s.cueIn.malformed s.isTile = false → s.cueFree ≠ 0 →
      (s.cueIn.toTiles || !s.cueLate s.cueIn.stroke) = true →
    Completes (.cuePush init) s fun t =>
      t.answeredOk ∧
      t.cue.queue = cueInsert { entry := s.cueIn, seq := s.cue.nextSeq, late := false, due := 0, prepared := false, status := 0 } s.cue.queue ∧
      t.cue.nextSeq = wrap32 (s.cue.nextSeq + 1) ∧ t.fld .cuePushResult = 1 ∧ t.fld .cuePushSeq = s.cue.nextSeq % 65536 ∧
      SameRegisters [Fld.addr .cuePushResult] [] s t ∧ SameMemories s t) ∧
  (∀ (s : State) (init : Nat), s.performs init 0x3048 → s.cueIn.malformed s.isTile = true →
    Completes (.cuePush init) s fun t =>
      t.answeredOk ∧ t.cue = s.cue ∧ t.fld .cuePushResult = 3 ∧ SameRegisters [Fld.addr .cuePushResult] [] s t ∧ SameMemories s t) ∧
  (∀ (s : State) (init tag : Nat), tag < 65536 → s.performs init 0x304C →
    Completes (.cueCancel init tag) s fun t =>
      t.answeredOk ∧ t.cue.queue = s.cue.queue.filter (fun c => c.entry.tag != tag) ∧
      t.fld .cueCancelnCount = (s.cue.queue.filter (fun c => c.entry.tag == tag)).length % 2 ^ (Fld.width .cueCancelnCount) ∧
      SameRegisters [Fld.addr .cueCancelnCount] [] s t ∧ SameMemories s t)

/-- R111: CUE_DISTRIBUTE and CUE_CELL_RX. -/
def Obligations.CuesAreDistributedAndReceived : Prop :=
  (∀ (s : State) (latched : Nat) (c : Cue), s.drives = true → s.journals = false → s.cue.queue = [c] → c.entry.toTiles = true →
      testBit c.entry.target 10 = false → testBit c.entry.target 11 = false → s.cueBadTarget c.entry = false →
      strokesAhead c.entry.stroke s.stroke ≤ s.fld .cueCfgDistlead →
      0 < s.cueCredit (c.entry.target / 4096 % 8) (c.entry.target % 64) → c.entry.target / 4096 % 8 < s.chain.ports.length →
    Completes (.cueDistribute latched) s fun t =>
      t.cue.queue = [] ∧
        (t.port (c.entry.target / 4096 % 8)).queue = (s.port (c.entry.target / 4096 % 8)).queue ++
          [(wrap32 c.entry.stroke, .cue (c.entry.target % 64) false [{ c.entry with target := 0 }])] ∧
        t.cueCredit (c.entry.target / 4096 % 8) (c.entry.target % 64) =
          s.cueCredit (c.entry.target / 4096 % 8) (c.entry.target % 64) - 1 ∧
        t.sent = [] ∧ SameRegisters [] [] s t ∧ SameMemories s t) ∧
  (∀ (s : State) (port lane pos : Nat) (e : CueEntry), s.isTile = true → s.serves port = true → s.restarting = false →
      s.flag .klsTstatPosvalid = true → pos = s.fld .klsTstatPos → testBit s.boot.testing 3 = false → e.target = 0 → e.action ≠ 0 →
      e.malformed true = false → s.cueFree ≠ 0 → s.cueLate e.stroke = false →
    Completes (.cueCellRx port lane pos false [e] .none) s fun t =>
      t.cue.queue = cueInsert { entry := e, seq := s.cue.nextSeq, late := false, due := 0, prepared := false, status := 0 } s.cue.queue ∧
        t.sent = [] ∧ SameRegisters [] [Fld.addr (.chpCellsrx port)] s t ∧ SameMemories s t)

/-- R107, R109: CUE_EXECUTE_PREPARING and CUE_EXECUTE_BOUNDARY. -/
def Obligations.CuesExecuteAtTheirBoundary : Prop :=
  (∀ (s : State) (c : Cue), s.cuesRun = true → s.access.prepared = s.boundary → s.cue.queue = [c] → c.entry.toTiles = false →
      c.late = false → c.prepared = false → c.status = 0 → c.entry.action = 1 → c.entry.fence = false → 0x800 ≤ c.entry.addr % 4096 →
      c.entry.stroke = wrap32 (s.boundary + 1) → s.performs 3 c.entry.addr →
    Completes .cueExecutePreparing s fun t =>
      t.cue.queue = [] ∧
      t.regs = (({ s with sent := [], reply := none } : State).write 3 c.entry.addr (c.entry.data.getD 0 0) none).1.regs ∧
      t.live (Fld.addr .cueExeccnt) = s.live (Fld.addr .cueExeccnt) + 1) ∧
  (∀ (s : State) (c : Cue), s.cuesRun = true → s.cue.queue = [c] → c.entry.toTiles = false → c.late = false → c.prepared = false →
      c.status = 0 → c.entry.action = 1 → c.entry.fence = false → c.entry.addr % 4096 < 0x800 → 0x40 ≤ c.entry.addr % 4096 →
      strokeAfter c.entry.stroke s.boundary = false → s.performs 3 c.entry.addr → c.entry.addr / 4096 = 0xE →
      c.entry.addr ≠ 0xE074 →
    Completes .cueExecuteBoundary s fun t =>
      t.cue.queue = [] ∧
      t.regs = (({ s with sent := [], reply := none } : State).write 3 c.entry.addr (c.entry.data.getD 0 0) none).1.regs ∧
      t.live (Fld.addr .cueExeccnt) = s.live (Fld.addr .cueExeccnt) + 1)

/-- R176 to R178: TRAIN_CELL_RX, TRAIN_TIMEOUT, CAP_CELL_RX, RATE_VERIFY_DONE, RATE_CHANGE, HOP_RETRY and CHP_RETRAIN. -/
def Obligations.LanesTrainAndHopsStep : Prop :=
  (∀ (s : State) (port lane : Nat) (c : TrainCell) (ready : Bool) (a b : Nat), port < 8 → lane < 2 →
    Completes (.trainCellRx port lane c .none ready a b) s fun t =>
      t.sent = s.wakes port lane ++ [.cell port lane (.link (s.port port).linkSeq (.train
        ⟨a, b, (moveTap (s.fld (.chpTapsPre port lane)) 6 c.reqPre).2, (moveTap (s.fld (.chpTapsPost port lane)) 12 c.reqPost).2, ready, lane⟩))] ∧
      t.fld (.chpTapsPre port lane) =
        (moveTap (s.fld (.chpTapsPre port lane)) 6 c.reqPre).1 % 2 ^ (Fld.width (.chpTapsPre port lane)) ∧
      t.fld (.chpTapsPost port lane) =
        (moveTap (s.fld (.chpTapsPost port lane)) 12 c.reqPost).1 % 2 ^ (Fld.width (.chpTapsPost port lane)) ∧
      SameRegisters [Fld.addr (.chpTapsPre port lane), Fld.addr (.chpStatEidle port)] (cellCounters port) s t ∧ SameMemories s t) ∧
  (∀ (s : State) (port : Nat), port < 8 → s.fld (.chpStatState port) = 1 → (s.port port).trained = false → s.fld (.chpStatRate port) = 0 →
    Completes (.trainTimeout port) s fun t =>
      t.fld (.chpStatState port) = 0 ∧ t.fld (.chpStatLaneup port) = 0 ∧ t.sent = [] ∧ SameRegisters (hopRegs port) [] s t ∧ SameMemories s t) ∧
  (∀ (s : State) (port lane : Nat) (c : CapCell), port < s.chain.ports.length → port < 8 → c.propose < 4 → 4 ≤ c.ack →
    Completes (.capCellRx port lane c .none) s fun t =>
      t.sent = s.wakes port (s.outLane port 0) ++
        [.cell port (s.outLane port 0) (.link (s.port port).linkSeq (.cap ⟨s.ownCap port, 0xFF, c.propose⟩))] ∧
        (t.port port).nextRate = some c.propose ∧ (t.port port).farCap = some (c.cap % 4) ∧
        SameRegisters [Fld.addr (.chpStatEidle port)] (cellCounters port) s t ∧ SameMemories s t) ∧
  (∀ (s : State) (port : Nat), port < 8 → s.fld (.chpStatState port) = 1 → (s.port port).trained = true →
      s.targetRate port ≤ s.fld (.chpStatRate port) →
    Completes (.rateVerifyDone port true) s fun t =>
      t.fld (.chpStatState port) = (if (s.port port).upMask = 3 then 2 else 3) ∧ t.fld (.chpStatLaneup port) = (s.port port).upMask ∧
        SameRegisters (hopRegs port) [] s t ∧ SameMemories s t) ∧
  (∀ (s : State) (port r : Nat), port < 8 → (s.port port).nextRate = some r → r < 4 →
    Completes (.rateChange port) s fun t =>
      t.fld (.chpStatRate port) = r ∧ t.fld (.chpStatState port) = 1 ∧ SameRegisters (hopRegs port) (cellCounters port) s t ∧ SameMemories s t) ∧
  (∀ (s : State) (port : Nat), port < 8 → s.fld (.chpStatState port) = 0 → s.hopOn port = true → s.referenced = true →
    Completes (.hopRetry port) s fun t =>
      t.fld (.chpStatRate port) = 0 ∧ t.fld (.chpStatState port) = 1 ∧ SameRegisters (hopRegs port) (cellCounters port) s t ∧ SameMemories s t) ∧
  (∀ (s : State) (init port : Nat), port < 8 → s.performs init (0x140040 + 0x1000 * port) →
      (s.isTile = true ∨ s.flag (.chpCtrlEnable port) = true) → (s.prof (·.pair) ≠ 1 ∨ port ≠ 7) → s.referenced = true →
    Completes (.chpRetrain init port) s fun t =>
      t.answeredOk ∧ t.fld (.chpStatCapped port) = 0 ∧ t.fld (.chpStatRate port) = 0 ∧ t.fld (.chpStatState port) = 1 ∧
        SameRegisters (hopRegs port) (cellCounters port) s t ∧ SameMemories s t)

/-- R180, R181, R186: LANE_DOWN, LANE_RETRAIN_TIMER, LANE_ALIGNED, EIDLE_ENTER, WAKE_BURST_RX and MARKER_WAKE_LEAD. -/
def Obligations.LanesGoDownIdleAndReturn : Prop :=
  (∀ (s : State) (port lane : Nat), port < s.chain.ports.length → port < 8 → lane < 2 → ((s.port port).lane lane).down = false →
      ((s.port port).lane (1 - lane)).down = false → s.fld (.chpStatState port) = 2 → s.fld (.chpStatLaneup port) = 3 →
    Completes (.laneDown port lane) s fun t =>
      t.fld (.chpStatState port) = 3 ∧ t.fld (.chpStatLaneup port) = 3 - 2 ^ lane ∧ ((t.port port).lane lane).down = true ∧
        t.flt.pairs.any (fun p => p.index == srcChpLanedegr port) = true ∧
        SameRegisters [Fld.addr (.chpStatState port), Fld.addr (.chpBudgetDemand port)] [] s t ∧ SameMemories s t) ∧
  (∀ (s : State) (port lane : Nat), port < 8 → lane < 2 → s.fld (.chpStatState port) = 3 → ((s.port port).lane lane).down = true →
    Completes (.laneRetrainTimer port lane) s fun t =>
      t.sent = s.wakes port lane ++ [.cell port lane (.link (s.port port).linkSeq (.train ⟨0, 0, 0, 0, false, lane⟩))] ∧
        t.fld (.chpTapsPre port lane) = (tapPreset (s.fld (.chpStatRate port))).1 ∧
        t.fld (.chpTapsPost port lane) = (tapPreset (s.fld (.chpStatRate port))).2.1 ∧
        SameRegisters [Fld.addr (.chpTapsPre port lane), Fld.addr (.chpStatEidle port)] [Fld.addr (.chpCellstx port)] s t ∧ SameMemories s t) ∧
  (∀ (s : State) (port lane : Nat), port < 8 → lane < 2 → s.fld (.chpStatState port) = 3 → testBit (s.fld (.chpStatLaneup port)) (1 - lane) = true →
    Completes (.laneAligned port lane) s fun t =>
      t.fld (.chpStatState port) = 2 ∧ t.fld (.chpStatLaneup port) = 3 ∧
        SameRegisters [Fld.addr (.chpStatState port), Fld.addr (.chpBudgetDemand port)] [] s t ∧ SameMemories s t) ∧
  (∀ (s : State) (port lane : Nat), port < 8 → lane < 2 → s.flag .klsCtrlEidleen = true → s.staticStroke = true → (s.port port).queue = [] →
      s.portUp port = true → s.chainRefsrc port = false → testBit (s.fld (.chpStatEidle port)) lane = false →
    Completes (.eidleEnter port lane) s fun t =>
      testBit (t.fld (.chpStatEidle port)) lane = true ∧
        t.live (Fld.addr (.chpEidleent port)) = s.live (Fld.addr (.chpEidleent port)) + 1 ∧
        SameRegisters [Fld.addr (.chpStatEidle port)] [Fld.addr (.chpEidleent port)] s t ∧ SameMemories s t) ∧
  (∀ (s : State) (port lane : Nat), port < 2 → lane < 2 → s.isTile = true →
    Completes (.wakeBurstRx port lane) s fun t =>
      t.sent = [.wakeBurst (1 - port) lane] ∧ testBit (t.fld (.chpStatEidle (1 - port))) lane = false ∧
        SameRegisters [Fld.addr (.chpStatEidle (1 - port))] [] s t ∧ SameMemories s t) ∧
  (∀ s : State, s.isSender = true →
    Completes .markerWakeLead s fun t =>
      (∀ n ∈ s.servicePorts, ∀ l, l < 2 → testBit (t.fld (.chpStatEidle n)) l = false) ∧
        SameRegisters ((List.range 8).map (fun n => Fld.addr (.chpStatEidle n))) [] s t ∧ SameMemories s t)

/-- R203: DLY_EXCHANGE, DLYREQ_RX and DLYRSP_RX. -/
def Obligations.LinkDelaysAreExchanged : Prop :=
  (∀ (s : State) (port lane dep : Nat), lane < 2 → (testBit (s.fld (.chpStatEidle port)) lane = true ∨ ((s.port port).lane lane).down = true) →
    Completes (.dlyExchange port lane dep) s fun t => t.sent = [] ∧ t.chain = s.chain ∧ SameRegisters [] [] s t ∧ SameMemories s t) ∧
  (∀ (s : State) (port lane dep : Nat), port < s.chain.ports.length → port < 8 → lane < 2 → testBit (s.fld (.chpStatEidle port)) lane = false →
      ((s.port port).lane lane).down = false →
    Completes (.dlyExchange port lane dep) s fun t =>
      t.sent = [.cell port lane (.link (s.port port).linkSeq .dlyreq)] ∧ ((t.port port).lane lane).t1 = some dep ∧
        SameRegisters [] [Fld.addr (.chpCellstx port)] s t ∧ SameMemories s t) ∧
  (∀ (s : State) (port lane arr dep : Nat), port < s.chain.ports.length → port < 8 → lane < 2 →
    Completes (.dlyreqRx port lane arr dep .none) s fun t =>
      t.sent = s.wakes port lane ++ [.cell port lane (.link (s.port port).linkSeq (.dlyrsp ((s.port port).lane lane).turn))] ∧
        ((t.port port).lane lane).turn = dep - arr ∧
        SameRegisters [Fld.addr (.chpStatEidle port)] (cellCounters port) s t ∧ SameMemories s t) ∧
  (∀ (s : State) (port lane turn arr t1 : Nat), port < 8 → lane < 2 → ((s.port port).lane lane).t1 = some t1 →
    let old := ((s.port port).lane lane).delays
    let ds := match ((s.port port).lane lane).span with
      | none => old
      | some sp => (old ++ [sp - turn]).drop (old.length + 1 - 16)
    Completes (.dlyrspRx port lane turn arr .none) s fun t =>
      t.fld (.chpLinkdly port lane) = delayMean ds % 2 ^ (Fld.width (.chpLinkdly port lane)) ∧
        SameRegisters [Fld.addr (.chpLinkdly port lane)] [Fld.addr (.chpCellsrx port)] s t ∧ SameMemories s t)

/-- R199: ENUM_START, ENUM_CELL_RX and ENUMR_CELL_RX. -/
def Obligations.ChainsAreEnumerated : Prop :=
  (∀ (s : State) (port : Nat), s.isSender = true → s.chainPorts.contains port = true → port < s.chain.ports.length →
    Completes (.enumStart port) s fun t =>
      (t.port port).queue = (s.port port).queue ++ [(s.stroke, .enumerate 0 (s.nexp port))] ∧ t.sent = [] ∧
        (∀ p, p < 64 → t.flag (.chpEnumrec3Valid port p) = false) ∧ t.fld (.chpStatNtiles port) = 0 ∧
        SameRegisters (Fld.addr (.chpStatNtiles port) :: Fld.addr .klsEnumcmdBusy :: (List.range 64).map (fun p => Fld.addr (.chpEnumrec3Valid port p)))
          [] s t ∧ SameMemories s t) ∧
  (∀ (s : State) (lane index nexp : Nat), s.isTile = true → index < 64 → 2 ≤ s.chain.ports.length →
    Completes (.enumCellRx 0 lane index nexp .none) s fun t =>
      t.fld .klsTstatPos = index ∧ t.flag .klsTstatPosvalid = true ∧
        (t.port 0).queue = (s.port 0).queue ++ (if s.restarting = true then [] else [(s.stroke, .enumr index { s.enumrOf with pos := index })]) ∧
        (t.port 1).queue = (s.port 1).queue ++ (if s.portUp 1 = true then [(s.stroke, .enumerate (index + 1) nexp)] else []) ∧ t.sent = [] ∧
        SameRegisters [Fld.addr .klsTstatPos] [Fld.addr (.chpCellsrx 0)] s t ∧ SameMemories s t) ∧
  (∀ (s : State) (port lane index : Nat) (c : EnumrCell), s.isTile = false → s.isSender = true → port < 8 → c.pos < 64 →
      s.flag (.chpEnumrec3Valid port c.pos) = false → c.pos ∉ (s.port port).clashed →
      (c.pos < s.nexp port ∨ (s.port port).enumerating = false) →
    Completes (.enumrCellRx port lane index c .none) s fun t =>
      t.flag (.chpEnumrec3Valid port c.pos) = true ∧ t.fld (.chpEnumrec0 port c.pos) = c.unitId % 2 ^ 32 ∧
        SameRegisters ([Fld.addr (.chpEnumrec0 port c.pos), Fld.addr (.chpEnumrec1 port c.pos), Fld.addr (.chpEnumrec2Tw port c.pos),
          Fld.addr (.chpStatNtiles port), Fld.addr (.chpBudgetDemand port), Fld.addr .klsEnumcmdBusy] ++
          (List.range 64).map (fun p => Fld.addr (.chpEnumrec3Valid port p))) [Fld.addr (.chpCellsrx port)] s t ∧ SameMemories s t)

/-- R98, R200, R204, R206: COX_CELL_RX, STROKE_CELL_RX and VIDEO_CELL_DROP. -/
def Obligations.MarksAndMarkersPassATile : Prop :=
  (∀ (s : State) (port lane : Nat) (c : CoxCell), port < 2 → s.isTile = true → s.chain.cox = none →
    Completes (.coxCellRx port lane c .none) s fun t =>
      t.fld .klsTstatServ = port + 1 ∧ t.chain.cox = some c ∧ t.flt.pairs.any (fun p => p.index == srcKlsCoxnew) = true ∧
        SameRegisters [Fld.addr .klsTstatServ, Fld.addr .devModestatSplit, Fld.addr .klsCoxidlo, Fld.addr .klsCoxidhi, Fld.addr .klsCoxepoch,
          Fld.addr (.chpStatEidle (1 - port))] [Fld.addr (.chpCellsrx port), Fld.addr (.chpCellstx (1 - port))] s t ∧ SameMemories s t) ∧
  (∀ (s : State) (port lane : Nat) (c : StrokeCell) (arr dep : Nat), port < 2 → s.isTile = true → s.serves port = true →
      s.restarting = false → s.portUp (1 - port) = true →
      (s.time.locked = false ∨ (strokeAfter c.stroke s.stroke = true ∧ s.time.marker.all (fun m => strokeAfter c.stroke m.1.stroke) = true)) →
    Completes (.strokeCellRx port lane c arr dep .none) s fun t =>
      t.time.lastMarker = some c.stroke ∧ t.time.marker.map (·.1) = some c ∧
      t.sent = s.wakes (1 - port) (s.outLane (1 - port) lane) ++ [.cell (1 - port) (s.outLane (1 - port) lane)
        (.stroke { c with accum := wrap32 (wrap32 (c.accum + s.fld (.chpLinkdly port lane)) + (dep - arr)) })] ∧
        SameRegisters [Fld.addr .stkAccum, Fld.addr .stkNumskew, Fld.addr (.chpStatEidle (1 - port))]
          [Fld.addr (.chpCellsrx port), Fld.addr (.chpCellstx (1 - port))] s t ∧ SameMemories s t) ∧
  (∀ (s : State) (port k : Nat) (l : List VideoCell), port < s.chain.ports.length → l ≠ [] → (s.port port).queue = l.map (fun v => (k, .video v)) →
    Completes (.videoCellDrop port) s fun t =>
      (t.port port).queue = [] ∧ t.live (Fld.addr (.chpVidlate port)) = s.live (Fld.addr (.chpVidlate port)) + Word.ofNat l.length ∧
        t.flt.pairs.any (fun p => p.index == srcChpVidlate port) = true ∧ t.sent = [] ∧
        SameRegisters [] [Fld.addr (.chpVidlate port)] s t ∧ SameMemories s t)

/-- R118 to R124, R141: PAUSE_FRAME_RX, PAUSE_EXPIRE, MP_PAUSE_REPEAT, LPI_ENTER, LLDP_TX, ARP_ICMP_RX and SUBLINK_LINK_CHANGE. -/
def Obligations.PauseAndLowPowerIdle : Prop :=
  (∀ (s : State) (q l quanta : Nat), q < 5 → s.hasSublink q l = true → s.netTested q = false → s.wakeOnly = false →
      s.flag (.netCtrlPauserx (netPage q)) = true → quanta ≠ 0 →
    Completes (.pauseFrameRx q l 1 quanta) s fun t =>
      testBit (t.fld (.netStatusPaused (netPage q))) l = true ∧ t.sent = [] ∧
        SameRegisters (linkRegs q l) (linkCounters q l) s t ∧ SameMemories s t) ∧
  (∀ (s : State) (q l : Nat), q < 5 → l < 4 →
    Completes (.pauseExpire q l) s fun t =>
      testBit (t.fld (.netStatusPaused (netPage q))) l = false ∧ t.sent = (s.link q l).waiting.map (·.1) ∧
        SameRegisters (Fld.addr .mpRingstatTxnext :: Fld.addr (.timTxqstatLost q) :: Fld.addr (.netStatusTxlpi 4) :: Fld.addr (.netStathalfHalf 4 0) :: linkRegs q l)
          (linkCounters q l ++ linkCounters 4 0) s t ∧
        (q ≠ 4 ∨ s.net.txRun = false → SameMemories s t)) ∧
  (∀ s : State, s.net.xoff = true → s.flag (.netCtrlPausetx 4) = true → s.rxFree ≤ s.fld .mpPausecfgXoff → (s.link 4 0).pause = 0 →
    Completes .mpPauseRepeat s fun t =>
      t.sent = [.frame 4 0 0 (s.txOctets 4 64) (s.txTag 4) (some (s.linkMac 4 0)) [s.fld .mpPausecfgQuanta]] ∧
        SameRegisters (linkRegs 4 0) (linkCounters 4 0) s t ∧ SameMemories s t) ∧
  (∀ (s : State) (q l : Nat), q < 5 → s.hasSublink q l = true → s.netTested q = false → s.wakeOnly = false →
      s.flag (.netCtrlLpien (netPage q)) = true → s.lpiType q = true → s.lpiInhibited q = false → (q = 4 → s.fld .mpLpmodeMode = 1) →
      testBit (s.fld (.netStatusLink (netPage q))) l = true → (s.link q l).waiting = [] → (q = 4 → s.net.txNow = none) →
      testBit (s.fld (.netStatusTxlpi (netPage q))) l = false →
    Completes (.lpiEnter q l) s fun t =>
      testBit (t.fld (.netStatusTxlpi (netPage q))) l = true ∧
        SameRegisters (linkRegs q l) [4096 * netPage q + 0x258 + 0x80 * l] s t ∧ SameMemories s t) ∧
  (∀ (s : State) (q l : Nat) (partner : Option (Nat × Nat)), q < 5 → s.hasSublink q l = true → (s.link q l).pause = 0 →
      l < (s.net.links.getD q []).length →
    Completes (.lldpTx q l partner) s fun t =>
      let times := match partner with
        | some x => (x.1 % 65536, x.2 % 65536)
        | none => s.wakeTimes q l
      (s.flag (.netCtrlLpien (netPage q)) = true → s.lpiType q = true →
        (∃ n, t.sent = [.frame q l 1 n (s.txTag q) (some (s.linkMac q l)) [times.1, times.2]]) ∧
          SameRegisters (linkRegs q l) (linkCounters q l) s t) ∧
      (s.flag (.netCtrlLpien (netPage q)) = false ∨ s.lpiType q = false → t.sent = [] ∧ SameRegisters [] [] s t) ∧ SameMemories s t) ∧
  (∀ (s : State) (q l mac ip octets : Nat) (dest : FrameDest), q < 5 → s.hasSublink q l = true → s.netTested q = false → s.wakeOnly = false →
      64 ≤ octets → octets ≤ 9216 → s.fld (.netIpaddr (netPage q) l) ≠ 0 → (s.link q l).pause = 0 →
    Completes (.arpIcmpRx q l (s.fld (.netIpaddr (netPage q) l)) mac ip octets dest) s fun t =>
      t.sent = [.frame q l 2 (s.txOctets q octets) (s.txTag q) (some (s.linkMac q l)) [mac, ip, s.fld (.netIpaddr (netPage q) l)]] ∧
        SameRegisters (linkRegs q l) (linkCounters q l) s t ∧ SameMemories s t) ∧
  (∀ (s : State) (q l : Nat) (up : Bool), q < 5 → s.hasSublink q l = true → s.net.ptpJoin.all (fun x => decide (x < 4)) = true →
    Completes (.sublinkLinkChange q l up) s fun t =>
      testBit (t.fld (.netStatusLink (netPage q))) l = up ∧ (up = false → t.raised (srcNetLinkdown (netPage q))) ∧
        SameRegisters (Fld.addr (.netStatusLink (netPage q)) :: (List.range 4).flatMap (fun x => linkRegs x 0))
          ((List.range 4).flatMap (fun x => linkCounters x 0)) s t ∧ SameMemories s t)

/-- R124 to R127, R131 to R135: LPMODE_NONE, LPMODE_LPI, LPMODE_WAKEONLY, WAKE_FRAME_RX, MP_RX_FRAME, MP_TXDOOR and MP_TX_COMPLETE. -/
def Obligations.MpTakesModesAndFrames : Prop :=
  (∀ (s : State) (init : Nat), s.performs init 0x4088 → s.wakeOnly = false →
    Completes (.lpmodeNone init) s fun t =>
      t.answeredOk ∧ t.fld .mpLpmodeMode = 0 ∧ t.fld .mpLpmodeResult = 1 ∧
        SameRegisters [0x4088, Fld.addr (.netStatusTxlpi 4)] [] s t ∧ SameMemories s t) ∧
  (∀ (s : State) (init : Nat), s.performs init 0x4088 → s.wakeOnly = false →
    Completes (.lpmodeLpi init) s fun t =>
      t.answeredOk ∧ t.fld .mpLpmodeMode = 1 ∧ t.fld .mpLpmodeResult = 1 ∧ SameRegisters [0x4088] [] s t ∧ SameMemories s t) ∧
  (∀ (s : State) (init : Nat), s.performs init 0x4088 → s.wakeOnly = false → s.modeBusy = false → s.boot.wakeHits = 0 →
    Completes (.lpmodeWakeonly init 0xA5C3) s fun t =>
      t.answeredOk ∧ t.fld .mpLpmodeMode = 2 ∧ t.fld .mpLpmodeResult = 1 ∧
        (s.boundaryComes = true → t.wakeOnly = false ∧ SameRegisters [0x4088, Fld.addr (.netStatusTxlpi 4)] [] s t ∧ SameMemories s t) ∧
        (s.boundaryComes = false → t.wakeOnly = true ∧ t.fld .devRolestatBlockpwr = 0xC000)) ∧
  (∀ (s : State) (frame : List Byte), s.wakeOnly = true → s.wakeBits frame ≠ 0 →
    Completes (.wakeFrameRx frame true) s fun t =>
      t.wakeOnly = false ∧ t.fld .mpLpmodeMode = 0 ∧
        t.reg (Fld.addr .mpWakestatMagic) = s.reg (Fld.addr .mpWakestatMagic) ||| Word.ofNat (s.wakeBits frame) ∧
        t.regs = ((({ s with sent := [], reply := none } : State).count 4 0 1 1).count 4 0 0 (frame.length + 4) |>.wakeUp (s.wakeBits frame)).regs) ∧
  (∀ (s : State) (bs : List Byte) (tagged : Bool),
      let d := s.rxDesc (s.fld .mpRingstatRxnext)
      let buf := s.mpNat d 4 % 0x40000
      s.wakeOnly = false → s.flag (.netCtrlRxen 4) = true → 60 ≤ bs.length → bs.length ≤ 9212 →
      s.descOwn d = true → bs.length ≤ s.mpNat (d + 4) 2 →
    Completes (.mpRxFrame .other bs true tagged) s fun t =>
      t.fld .mpRingstatRxnext = (s.fld .mpRingstatRxnext + 1) % s.rxRing % 1024 ∧
        memNat t.net.mpMem (mpWrap (d + 8)) 4 = bs.length + 65536 * (3 + 512 * bit tagged) ∧
        (∀ a, (a < buf ∨ buf + bs.length ≤ a) → (a < mpWrap (d + 8) ∨ mpWrap (d + 8) + 4 ≤ a) →
          (a < mpWrap (d + 12) ∨ mpWrap (d + 12) + 4 ≤ a) → memByte t.net.mpMem a = memByte s.net.mpMem a) ∧
        SameRegisters (Fld.addr .mpRingstatRxnext :: linkRegs 4 0) (linkCounters 4 0) s t ∧ t.dram = s.dram ∧ t.cmp = s.cmp) ∧
  (∀ (s : State) (init : Nat),
      let i := s.fld .mpRingstatTxnext
      s.performs init 0x407C → s.flag (.netCtrlTxen 4) = true → s.net.txNow = none → (s.link 4 0).pause = 0 → s.descOwn (s.txDesc i) = true →
      testBit (s.descFlags (s.txDesc i)) 0 = true → s.mpNat (s.txDesc i + 4) 2 ≤ 9212 →
    Completes (.mpTxdoor init) s fun t =>
      t.answeredOk ∧ t.net.txRun = true ∧ t.net.txNow = some (i, 1) ∧ SameRegisters [Fld.addr (.netStatusTxlpi 4)] [] s t ∧ SameMemories s t) ∧
  (∀ (s : State) (i n : Nat), s.net.txNow = some (i, n) →
    Completes .mpTxComplete s fun t =>
      t.sent = [.frame 4 0 5 (s.txOctets 4 ((s.txBytes i n).length + 4)) (s.txTag 4) none ((s.txBytes i n).map (·.toNat))] ∧
        (s.net.txRun = false → t.net.txNow = none ∧ t.fld .mpRingstatTxnext = (i + n) % s.txRing % 1024) ∧
        SameRegisters (Fld.addr .mpRingstatTxnext :: Fld.addr (.timTxqstatLost 4) :: linkRegs 4 0) (linkCounters 4 0) s t ∧
        t.dram = s.dram ∧ t.cmp = s.cmp)

/-- R136, R137, R141: FLOW_ENABLE, FLOW_DISABLE, IGMP_REPORT_REPEAT, IGMP_QUERY_RX and LEG_DOWN. -/
def Obligations.FlowsAreEnabledAndJoined : Prop :=
  (∀ (s : State) (init n : Nat), n < 16 → s.performs init (0x110040 + 0x1000 * n) → s.flowOn n = false → s.flowReason n = 0 →
    Completes (.flowEnable init n) s fun t =>
      t.answeredOk ∧ t.flowOn n = true ∧ t.fld (.flwStatState n) = 1 ∧ t.fld (.flwStatReason n) = 0 ∧
        (∀ m ∈ List.range 16, m ≠ n → t.flowOn m = s.flowOn m) ∧ t.dram = s.dram) ∧
  (∀ (s : State) (init n : Nat), n < 16 → s.performs init (0x110040 + 0x1000 * n) → s.flowOn n = false → s.flowReason n ≠ 0 →
    Completes (.flowEnable init n) s fun t =>
      t.answeredOk ∧ t.flowOn n = false ∧ t.fld (.flwStatState n) = 3 ∧ t.fld (.flwStatReason n) = s.flowReason n ∧
        SameRegisters [Fld.addr (.flwStatState n)] [] s t ∧ SameMemories s t) ∧
  (∀ (s : State) (init n : Nat), n < 16 → s.performs init (0x110040 + 0x1000 * n) → s.flowOn n = true →
    Completes (.flowDisable init n) s fun t =>
      t.answeredOk ∧ t.flowOn n = false ∧ t.fld (.flwStatState n) = 0 ∧ (∀ m ∈ List.range 16, m ≠ n → t.flowOn m = s.flowOn m) ∧ t.dram = s.dram) ∧
  (∀ (s : State) (n : Nat),
      let g := s.leg n 0
      n < 16 → (s.flow n).reportDue = true → s.flowOn n = true → s.flag (.flwCtrlDual n) = false →
      s.flag (.flwCtrlSsm n) = false → isMulticast g.group = true → (s.link g.port g.sublink).pause = 0 →
    Completes (.igmpReportRepeat n) s fun t =>
      t.sent = [.frame g.port g.sublink 3 (s.txOctets g.port 64) (s.txTag g.port) (some (s.linkMac g.port g.sublink))
        [s.igmpVersion g.port g.sublink, 2, g.group, 0]] ∧ (t.flow n).reportDue = false ∧
        SameRegisters (linkRegs g.port g.sublink) (linkCounters g.port g.sublink) s t ∧ SameMemories s t) ∧
  (∀ (s : State) (q l version group octets : Nat) (aged : List Nat), q < 5 → s.hasSublink q l = true → s.netTested q = false →
      s.wakeOnly = false → 64 ≤ octets → octets ≤ 9216 → version < 3 →
    Completes (.igmpQueryRx q l version group octets aged) s fun t =>
      t.net.compat.contains (q, l, version) = true ∧ (∀ x ∈ s.flowsOn q l, t.raised (srcFlwIgmpcompat x.1)) ∧
        SameRegisters (linkRegs q l) (linkCounters q l) s t ∧ SameMemories s t) ∧
  (∀ (s : State) (n k : Nat), n < 16 → s.flowOn n = true → (s.legs n).contains k = true →
    Completes (.legDown n k) s fun t =>
      t.flag (if k == 0 then .flwStatLegaup n else .flwStatLegbup n) = false ∧ t.raised (srcFlwLeglost n) ∧
        SameRegisters [Fld.addr (.flwStatLegaup n), Fld.addr .ingStatActive] [] s t ∧ SameMemories s t)

/-- R139 to R142, R145: VIDEO_PACKET_RX, SHED_ESCALATE and SHED_END. -/
def Obligations.VideoPacketsAreWrittenAndShed : Prop :=
  (∀ (s : State) (p : VideoPacket) (held n k : Nat), n < 16 → s.hasSublink p.port p.sublink = true → s.netTested p.port = false →
      s.wakeOnly = false → p.fcsOk = true → 64 ≤ p.octets → p.octets ≤ 9216 → held ≤ rxBuffer → s.aboveHigh held = false → p.port < 4 →
      s.flowOn n = true → (∀ m ∈ List.range 16, m ≠ n → s.flowOn m = false) → s.acceptLeg n p = some k →
    Completes (.videoPacketRx p held) s fun t =>
      t.fld (.flwStatState n) = 2 ∧ t.flag (if k == 0 then .flwStatLegaup n else .flwStatLegbup n) = true ∧
        t.live (Fld.addr .ingPkts) = s.live (Fld.addr .ingPkts) + 1 ∧
        ∀ (r : Srd) (b bytes px : Nat) (o : OpenFrame), p.srds = [r] → s.srdBad n r = false →
          pgroup (s.fld (.flwFmtSampling n)) (s.fld (.flwFmtDepth n)) = some (bytes, px) →
          (s.flow n).open_ = some o → o.rtp = p.rtp → o.buf = some b → (s.flow n).lastRtp = some p.rtp →
          (s.flag (.flwCtrlDual n) = true → (s.flow n).tooOld p.ext = false ∧ (s.flow n).seqs.find? (fun x => x.ext == p.ext) = none) →
          memRead t.dram.mem ((s.surface (s.flowSurf n b)).base + r.row * s.flowStrideOf n + r.offset / px * bytes) r.data.length = r.data) ∧
  (∀ (s : State) (held n : Nat), s.aboveHigh held = true → s.ing.shed.isEmpty = false → s.nextShed = some n →
    Completes (.shedEscalate held) s fun t =>
      t.ing.shed = s.ing.shed ++ [n] ∧ t.fld (.flwStatShedding n) = 1 ∧ t.raised srcIngShed ∧ SameMemories s t) ∧
  (∀ (s : State) (l : List Nat) (n : Nat), n < 16 → s.ing.shed = l ++ [n] →
    Completes .shedEnd s fun t =>
      t.ing.shed = l ∧ t.fld (.flwStatShedding n) = 0 ∧
        SameRegisters [Fld.addr (.flwStatShedding n), Fld.addr .ingStatShedding] [] s t ∧ SameMemories s t)

/-- R146, R147: MON_ENABLE, MON_FRAME_START and MON_FRAME_CUT. -/
def Obligations.MonitorFramesStartAndAreCut : Prop :=
  (∀ (s : State) (init : Nat), s.performs init 0x6040 → s.flag .monCtrlEnable = false →
    Completes (.monEnable init) s fun t =>
      t.answeredOk ∧
      (s.monReason = 0 → t.flag .monCtrlEnable = true ∧ t.fld .monStatActive = 1 ∧ t.fld .monStatRefused = 0) ∧
      (s.monReason ≠ 0 → t.flag .monCtrlEnable = false ∧ t.fld .monStatRefused = 1 ∧ t.fld .monStatReason = s.monReason) ∧
      SameRegisters [0x6040, Fld.addr .monStatActive, Fld.addr (.netStatusTxlpi (netPage (s.fld .monCtrlPort)))] [] s t ∧ SameMemories s t) ∧
  (∀ (s : State) (k : Nat), s.flag .monCtrlEnable = true → s.ing.monNow = none → s.ing.monCount % (s.fld .monCtrlDiv + 1) = 0 →
      s.paused (s.fld .monCtrlPort) (s.fld .monCtrlSublink) = false →
    Completes (.monFrameStart k) s fun t =>
      t.ing.monNow = some k ∧ t.ing.monCount = s.ing.monCount + 1 ∧
        t.sent = (s.monFrame k).map (fun x => s.ownFrame (s.fld .monCtrlPort) (s.fld .monCtrlSublink) 6 x.1 x.2) ∧
        SameRegisters (linkRegs (s.fld .monCtrlPort) (s.fld .monCtrlSublink)) (linkCounters (s.fld .monCtrlPort) (s.fld .monCtrlSublink)) s t ∧
        SameMemories s t) ∧
  (∀ (s : State) (k : Nat), s.ing.monNow = some k →
    Completes .monFrameCut s fun t =>
      t.ing.monNow = none ∧ t.live (Fld.addr .monSkipped) = s.live (Fld.addr .monSkipped) + 1 ∧ t.raised srcMonMonskip ∧
        SameRegisters [Fld.addr .cmpRetire] [Fld.addr .monSkipped] s t ∧ SameMemories s t)

/-- R151, R169, R171, R172: CMP_WINDOW_ACCESS, VIEW_COMPOSED and COMPOSE_DEADLINE. -/
def Obligations.ViewsAreComposedOrAbandoned : Prop :=
  (∀ (s : State) (init off : Nat) (data : Word), s.performs init (0x7400 + off % 1024) → s.fld .cmpWinctrlTarget = 1 →
      s.winOffset (off % 1024) < 0x20000 → (s.surface (s.winOffset (off % 1024) / 32)).owned = false →
    Completes (.cmpWindowAccess init off true data) s fun t =>
      t.answeredOk ∧ memRead t.cmp.table (s.winOffset (off % 1024)) 4 = leBytes 4 data.toNat ∧
        (∀ a, (a < s.winOffset (off % 1024) ∨ s.winOffset (off % 1024) + 4 ≤ a) → memByte t.cmp.table a = memByte s.cmp.table a) ∧
        SameRegisters [] [] s t ∧ t.dram = s.dram) ∧
  (∀ (s : State) (init off : Nat) (data : Word), s.readable init (0x7400 + off % 1024) → s.fld .cmpWinctrlTarget = 1 →
      s.winOffset (off % 1024) < 0x20000 →
    Completes (.cmpWindowAccess init off false data) s fun t =>
      t.reply = some ⟨0, 0, [Word.ofNat (memNat s.cmp.table (s.winOffset (off % 1024)) 4)]⟩ ∧ SameRegisters [] [] s t ∧ SameMemories s t) ∧
  (∀ (s : State) (init off : Nat) (data : Word), s.performs init (0x7400 + off % 1024) → s.fld .cmpWinctrlTarget = 0 →
      s.winAddr (off % 1024) < s.userBytes → s.dram.poison = [] →
    Completes (.cmpWindowAccess init off true data) s fun t =>
      t.answeredOk ∧ memRead t.dram.mem (s.winAddr (off % 1024)) 4 = leBytes 4 data.toNat ∧
        ∀ a, (a < s.winAddr (off % 1024) ∨ s.winAddr (off % 1024) + 4 ≤ a) → memByte t.dram.mem a = memByte s.dram.mem a) ∧
  (∀ (s : State) (f : Flight) (v : ViewPlan) (slack : Int), s.cmp.flights = [f] → f.views = [v] → v.done = false → v.view < 4 →
    Completes (.viewComposed f.stroke v.view slack) s fun t =>
      t.cmp.flights = [] ∧ t.fld .cmpStatInflight = 0 ∧
        t.liveFld (.cmpSlack v.view) = unsigned 32 (clampInt (-2 ^ 31) (2 ^ 31 - 1) slack) ∧
        ∃ p ∈ t.cmp.pictures, p.view = v.view ∧ p.stroke = f.stroke ∧
          p.px = v.canvas s.cmp s.dram.mem s.dram.poison f.bank f.width f.height) ∧
  (∀ (s : State) (f : Flight) (v : ViewPlan) (progress : List (Nat × Nat × Nat)), s.cmp.flights = [f] → f.views = [v] → v.done = false →
      v.view < 4 → f.stroke < 2 ^ 32 →
    Completes (.composeDeadline f.stroke progress) s fun t =>
      t.cmp.flights = [] ∧ t.fld .cmpUnderstroke = f.stroke ∧ t.fld .cmpUnderposView = v.view ∧
        t.live (Fld.addr .cmpUnderruns) = s.live (Fld.addr .cmpUnderruns) + 1 ∧ t.raised srcCmpUnderrun)

/-- R163, R164: UNDERLAY_BUILD_GO, UNDERLAY_BUILD_ABORT and UNDERLAY_BUILD_DONE. -/
def Obligations.UnderlaysAreBuilt : Prop :=
  (∀ (s : State) (init v buf : Nat), v < 4 → s.performs init (0x128040 + 0x1000 * v) → s.underlaySelected v (buf % 2) = true →
    Completes (.underlayBuildGo init v buf) s fun t =>
      t.answeredOk ∧ t.fld (.undStatState v) = 3 ∧ t.fld (.undStatReason v) = 3 ∧ t.cmp = s.cmp ∧
        SameRegisters [Fld.addr (.undStatState v)] [] s t ∧ SameMemories s t) ∧
  (∀ (s : State) (init v buf : Nat), v < 4 → s.performs init (0x128040 + 0x1000 * v) → s.underlaySelected v (buf % 2) = false →
      s.cmp.builds.any (fun x => x.view == v) = false →
      s.rgbSurface (s.fld (.undBufBuf0 v)) (s.fld .cmpCanvasWidth) (s.fld .cmpCanvasHeight) = true →
      s.rgbSurface (s.fld (.undBufBuf1 v)) (s.fld .cmpCanvasWidth) (s.fld .cmpCanvasHeight) = true →
      (∀ i ∈ List.range 16, s.flag (.undLctrlEn v i) = true → s.fld (.undLctrlKind v i) = 0) →
    Completes (.underlayBuildGo init v buf) s fun t =>
      t.answeredOk ∧ t.fld (.undStatState v) = 1 ∧ t.underlayValid v (buf % 2) = false ∧
        t.cmp.builds.any (fun x => x.view == v && x.buf == buf % 2) = true ∧
        SameRegisters [Fld.addr (.undStatState v), Fld.addr (.undStatProgress v)] [] s t ∧ SameMemories s t) ∧
  (∀ (s : State) (init v : Nat) (b : Build), v < 4 → s.performs init (0x128040 + 0x1000 * v) →
      s.cmp.builds.find? (fun b => b.view == v) = some b →
    Completes (.underlayBuildAbort init v) s fun t =>
      t.answeredOk ∧ t.fld (.undStatState v) = 3 ∧ t.fld (.undStatReason v) = 5 ∧ t.underlayValid v b.buf = false ∧
        t.cmp.builds.any (fun x => x.view == v) = false ∧ SameMemories s t) ∧
  (∀ (s : State) (v : Nat), s.cmp.flights ≠ [] →
    Completes (.underlayBuildDone v) s fun t => t.cmp = s.cmp ∧ SameRegisters [] [] s t ∧ SameMemories s t) ∧
  (∀ (s : State) (v : Nat) (b : Build), v < 4 → s.cmp.builds.find? (fun b => b.view == v) = some b → s.cmp.flights = [] →
    Completes (.underlayBuildDone v) s fun t =>
      t.fld (.undStatState v) = 2 ∧ t.underlayValid v b.buf = true ∧ t.fld (.undBuilt v) = s.stroke ∧
        t.cmp.builds.any (fun x => x.view == v) = false)

/-- R94, R95, R97, R98, R204: SENDER_CATCH, COMPOSE_LEAD_POINT and STROKE_MARKER_LAUNCH. -/
def Obligations.SendersPaceTheirStrokes : Prop :=
  (∀ s : State, s.generates = true → s.prof (·.pair) ≠ 1 → s.mayCatch = true →
    Completes .senderCatch s fun t =>
      t.time.running = true ∧
      (s.time.running = true → s.fld .devBootstatStage = 7 →
        t.time.catchAt = s.time.catchAt + s.time.length ∧ t.stroke = (s.time.frame + 1) % 2 ^ 32) ∧
      (s.steady = false → t.time.catchAt = (s.referenceAt s.dueCatch).1 ∧
        (s.prof (·.strokeSrc) = 0 → t.time.catchAt = s.catchOf (s.nearestFrame s.dueCatch))) ∧
      SameRegisters [Fld.addr .stkNow, Fld.addr .stkLen, Fld.addr .stkPherr, Fld.addr .stkNumskew, Fld.addr .stkStatLock] [Fld.addr .cueLatecnt] s t ∧
      SameMemories s t) ∧
  (∀ (s : State) (k : Nat) (env : ComposeEnv), s.isSender = true → s.strokesRun = true → s.prof (·.pair) ≠ 1 → s.boot.warning = false →
      testBit s.boot.ready 4 = true → s.fld .mpLpmodeMode ≠ 2 →
    Completes (.composeLeadPoint k env) s fun t => t.cmp.newest = wrap32 k ∧ t.access.snapReqs = [] ∧ t.access.prepared = wrap32 k) ∧
  (∀ s : State, s.generates = true → s.time.running = true → s.drives = true →
      (s.fld .devBootstatStage = 7 ∨ s.boot.warm = false ∨ s.boot.holdThrough = true) →
    Completes .strokeMarkerLaunch s fun t =>
      (∀ n ∈ s.servicePorts, Sent.cell n (s.outLane n 0) (.stroke s.nextMarker) ∈ t.sent ∧
        Sent.cell n (s.outLane n 0) (.cox { s.ownCox 0 with stroke := s.nextMarker.stroke, port := n }) ∈ t.sent) ∧
        s.nextMarker.stroke = wrap32 (s.stroke + 1) ∧ SameRegisters ((List.range 8).map (fun n => Fld.addr (.chpStatEidle n)))
          ((List.range 8).map (fun n => Fld.addr (.chpCellstx n))) s t ∧ SameMemories s t)

/-- R71, R98, R215, R218, R221: TILE_LATCH and TILE_CATCH. -/
def Obligations.TilesCatchAndLatch : Prop :=
  (∀ s : State, s.isTile = true → s.strokesRun = true → s.time.locked = true → s.boot.warning = false →
    Completes .tileLatch s fun t =>
      t.scan.windowOpen = false ∧ t.scan.latchAt = s.latchInstant ∧ t.access.prepared = wrap32 (s.stroke + 1) ∧
        ∀ v, v < 4 → v < s.scan.views.length → (t.view v).complete = (s.regionComplete v && decide (v < s.prof (·.views)))) ∧
  (∀ (s : State) (c : StrokeCell) (at_ : Int), s.isTile = true → s.powered = true → s.wakeOnly = false → s.restarting = false →
      s.boot.warning = false → s.fld .mpLpmodeMode ≠ 2 → s.time.marker = some (c, at_) →
    Completes .tileCatch s fun t =>
      t.stroke = c.stroke % 2 ^ 32 ∧ t.time.catchAt = at_ ∧ t.time.locked = true ∧ t.scan.windowOpen = true ∧
        t.access.prepared = t.stroke ∧ t.boot.resuming = false) ∧
  (∀ s : State, s.isTile = true → s.powered = true → s.wakeOnly = false → s.restarting = true → s.boot.holdThrough = true →
      s.fld .mpLpmodeMode ≠ 2 →
    Completes .tileCatch s fun t =>
      t.grain.heldStrokes = s.grain.heldStrokes + 1 ∧ SameRegisters [] [] s t ∧ SameMemories s t)

/-- R111, R217, R323, R332: TILE_VIDEO_CELL_RX, HEALTH_CELL_RX and CHAIN_END_COX_RX. -/
def Obligations.ChainCellsAreTaken : Prop :=
  (∀ (s : State) (n l : Nat) (c : VideoCell), s.isTile = true → s.serves n = true → s.restarting = false →
      s.flag .klsTstatPosvalid = true → c.pos = s.fld .klsTstatPos → s.scan.windowOpen = true → c.view < s.prof (·.views) → c.view < 4 →
      c.index < s.regionCells → s.bist.running.contains (10 + c.view) = false → c.view < s.scan.views.length →
    Completes (.tileVideoCellRx n l c .none) s fun t =>
      (t.view c.view).cells.contains c.index = true ∧ t.fld (.scnViewbufComplete c.view) = bit (t.regionComplete c.view) ∧
        (t.view c.view).recv = putSamples (s.view c.view).recv s.regionSamples (64 * c.index) (c.samples.take 64) ∧
        SameRegisters [Fld.addr (.scnViewbufComplete c.view)] [Fld.addr (.chpCellsrx n)] s t ∧ SameMemories s t) ∧
  (∀ (s : State) (n l : Nat) (h : HealthCell), s.isTile = false → s.isSender = true → n < 8 →
    Completes (.healthCellRx n l h .none) s fun t =>
      assocGet t.cue.credits (64 * n + h.pos) 0 = h.cueFree ∧
        t.live (Fld.addr (.chpCellsrx n)) = s.live (Fld.addr (.chpCellsrx n)) + 1 ∧ SameMemories s t) ∧
  (∀ (s : State) (n l : Nat) (c : StrokeCell), s.isSender = true → s.paired = true → s.standsBy = true →
    Completes (.chainEndCoxRx n l (.stroke c) .none) s fun t =>
      t.stroke = (c.stroke + 2 ^ 32 - 1) % 2 ^ 32 ∧
        SameRegisters [Fld.addr .stkNow, Fld.addr .pairTkskew] [Fld.addr (.chpCellsrx (linkPort n))] s t ∧ SameMemories s t) ∧
  (∀ (s : State) (n l : Nat) (c : CoxCell), s.isSender = true → s.paired = true → c.senderId ≠ s.selfId → s.pairState = 1 →
      s.pairing.control = false →
    Completes (.chainEndCoxRx n l (.cox c) .none) s fun t =>
      t.pairing.active = some (c.senderId, c.epoch) ∧ t.pairState = 4 ∧ SameMemories s t)

/-- R220, R222, R224, R226, R229, R246, R285, R315: ROW_CONVERTED, REFRESH_DONE, HOLD_LIMIT_EXPIRY, LINE_SLOT_START and VIEW_SLOT_END. -/
def Obligations.RowsAreConvertedAndDriven : Prop :=
  (∀ (s : State) (v row : Nat), s.converts = true → s.poisonedCopies = [] → v < s.prof (·.views) → v < s.scan.views.length → (s.view v).late.contains row = false →
      s.rowPresent v row = true →
    Completes (.rowConverted v row) s fun t =>
      (t.view v).rows.contains row = true ∧ (t.view v).prep = putWords (s.view v).prep (s.convertRow (s.view v).recv row) ∧
        (t.view v).drive = (s.view v).drive ∧ (∀ a, t.reg a = s.reg a) ∧ SameMemories s t) ∧
  (∀ (s : State) (v row : Nat), s.converts = true → s.poisonedCopies = [] → v < s.prof (·.views) → (s.view v).late.contains row = true →
    Completes (.rowConverted v row) s fun t =>
      (t.view v).late.contains row = false ∧ (t.view v).drive = putWords (s.view v).drive (s.convertRow (s.view v).front row) ∧
        (t.view v).prep = (s.view v).prep ∧ (∀ a, t.reg a = s.reg a) ∧ SameMemories s t) ∧
  (∀ (s : State) (v : Nat), s.converts = true → s.poisonedCopies = [] → (s.view v).refreshing = true →
    Completes (.refreshDone v) s fun t =>
      (t.view v).refreshed = true ∧ (t.view v).refreshing = false ∧
        t.live (Fld.addr .scnRefreshes) = s.live (Fld.addr .scnRefreshes) + 1 ∧ (∀ a, t.reg a = s.reg a) ∧ SameMemories s t) ∧
  (∀ s : State, s.converts = true → s.poisonedCopies = [] → s.flag .scnStatHold = true → s.scan.holdDue = false →
    Completes .holdLimitExpiry s fun t =>
      t.scan.holdDue = true ∧ (∀ v, v < s.prof (·.views) → v < s.scan.views.length → (t.view v).hold.isSome = true) ∧
        (∀ a, t.reg a = s.reg a) ∧ SameMemories s t) ∧
  (∀ (s : State) (v row : Nat), s.converts = true → v < s.prof (·.views) → s.poisonedCopies ≠ [] →
    Completes (.rowConverted v row) s fun t => t.scan = s.scan ∧ t.counters = s.counters) ∧
  (∀ (s : State) (view slot fail : Nat) (slack : Int) (samples : List (Nat × Nat)), s.isTile = true → view < s.prof (·.views) →
      slot < s.prof (·.rows) * s.prof (·.subfr) →
    Completes (.lineSlotStart view slot slack fail samples) s fun t =>
      (s.sinksOff = true → t.lamp.dark = true ∧ t.lamp.rowEn = false ∧ t.lamp.rowDisch = true ∧ t.lamp.pulses = [] ∧ SameRegisters [] [] s t) ∧
      (s.sinksOff = false → t.lamp.rowEn = true ∧ t.lamp.rowDisch = false ∧
        t.lamp.rowAddr = scanRow (s.fld .ltbRowcfgRowfirst) (s.fld .ltbRowcfgRowstep) (s.prof (·.rows)) (slot % s.prof (·.rows))) ∧
      SameMemories s t) ∧
  (∀ (s : State) (view : Nat) (upset : List (Nat × Nat)), s.isTile = true →
    Completes (.viewSlotEnd view upset) s fun t =>
      t.lamp.rowEn = false ∧ t.lamp.rowDisch = true ∧ t.lamp.pulses = [] ∧ (∀ a, t.reg a = s.reg a) ∧ SameMemories s t)

/-- R74, R242, R255, R257, R258: PROBE, FMAPSEL_CLR, LTB_LOCK_LOST, LTB_RELOCK and REFERENCE_SOURCE_LOCK. -/
def Obligations.LampsAreProbedAndLocked : Prop :=
  (∀ (s : State) (samples : List (Nat × Nat)), s.isTile = true → s.flag .snkCtrlProbeen = true → s.sinksOff = false → s.boot.warning = false →
      s.restarting = false → s.lamp.probed = false →
    Completes (.probe samples) s fun t =>
      t.lamp.probed = true ∧
      (s.probeWindow = none → t.live (Fld.addr .snkProbeskip) = s.live (Fld.addr .snkProbeskip) + 1 ∧ t.raised srcSnkProbeskip ∧
        SameRegisters [] [Fld.addr .snkProbeskip] s t) ∧
      (∀ kind, s.probeWindow = some kind →
        t.fld .snkProbestatRow = (s.fld .snkProbestatRow + 1) % max 1 (s.prof (·.rows)) % 2 ^ (Fld.width .snkProbestatRow) ∧
          t.fld .snkProbestatLastwin = kind % 2 ^ (Fld.width .snkProbestatLastwin) ∧
          t.live (Fld.addr .snkProbes) = s.live (Fld.addr .snkProbes) + 1) ∧ SameMemories s t) ∧
  (∀ (s : State) (init : Nat), s.performs init 0xE074 →
    Completes (.fmapselClr init) s fun t =>
      t.answeredOk ∧ t.lamp.opens = [] ∧ t.lamp.shorts = [] ∧ t.fld .snkFlagcntOpens = 0 ∧ t.fld .snkFlagcntShorts = 0 ∧
        SameRegisters [0xE074, Fld.addr .snkFlagcntOpens] [] s t ∧ SameMemories s t) ∧
  (∀ s : State, s.isTile = true → s.flag .ltbStatLocked = true →
    Completes .ltbLockLost s fun t =>
      t.flag .ltbStatLocked = false ∧ t.raised srcLtbLocklost ∧ SameRegisters [Fld.addr .ltbStatLocked] [] s t ∧ SameMemories s t) ∧
  (∀ s : State, s.isTile = true → s.flag .ltbStatLocked = false → s.flag .calNosetDly = false → s.cal.dlyWait = false → s.referenced = true →
    Completes .ltbRelock s fun t =>
      t.flag .ltbStatLocked = true ∧ t.lamp.waitCatch = true ∧ SameRegisters [Fld.addr .ltbStatLocked] [] s t ∧ SameMemories s t) ∧
  (∀ (s : State) (a b : Bool), s.isTile = true → s.prof (·.flags) % 2 = 1 → s.boot.refSource = none → (a || b) = true →
    Completes (.referenceSourceLock a b) s fun t =>
      t.boot.refSource = some (if a then 0 else 1) ∧ t.flag .ltbStatRecovered = true ∧
        SameRegisters (Fld.addr .ltbStatRecovered :: (hopRegs 0 ++ hopRegs 1)) [Fld.addr (.chpCellstx 0), Fld.addr (.chpCellstx 1)] s t ∧ SameMemories s t)

/-- R271, R275 to R278, R283 to R285: GRN_CHECK, GRN_INSTALL, GRN_INSTALL_VOLATILE, GRN_STOP_BURNISH, GRN_SAVE_CHECKPOINT, GRN_CLEAR_ACCUMULATORS, GRN_XFERID_WRITE, GRN_ACCUM_WRITE and IMAGE_CELL_RX. -/
def Obligations.GrainCommandsAct : Prop :=
  (∀ (s : State) (init : Nat), s.performs init 0xC048 → s.grain.op = none →
    let e := if s.fld .grnXferstatMissing ≠ 0 then 10 else s.tableErr s.staged (some (s.fld .grnXferlenLength))
    Completes (.grnCheck init) s fun t =>
      t.answeredOk ∧ t.fld .grnTabstatResult = (if e = 0 then 2 else 3) ∧ t.fld .grnTabstatErr = e % 16 ∧ t.grain = s.grain ∧
        SameRegisters [Fld.addr .grnTabstatResult] [] s t ∧ SameMemories s t) ∧
  (∀ (s : State) (init : Nat), s.performs init 0xC048 → s.grain.op = none → s.fld .grnXferstatMissing = 0 →
      s.copyBusy s.installTarget true = false →
    let e := s.tableErr s.staged (some (s.fld .grnXferlenLength))
    Completes (.grnInstall init 0xA5C3) s fun t =>
      t.answeredOk ∧ t.fld .grnTabstatResult = (if e = 0 then 1 else 3) ∧ t.fld .grnTabstatErr = e % 16 ∧
        t.grain.op = if e = 0 then some ⟨s.installTarget, true⟩ else none) ∧
  (∀ (s : State) (init : Nat), s.performs init 0xC048 → s.grain.op = none → s.fld .grnXferstatMissing = 0 →
      s.copyBusy s.installTarget false = false →
    let e := s.tableErr s.staged (some (s.fld .grnXferlenLength))
    Completes (.grnInstallVolatile init 0xA5C3) s fun t =>
      t.answeredOk ∧ t.fld .grnTabstatResult = (if e = 0 then 1 else 3) ∧ t.fld .grnTabstatErr = e % 16 ∧
        t.grain.op = (if e = 0 then some ⟨s.installTarget, false⟩ else none) ∧
        (∀ a, memByte t.boot.flash a = memByte s.boot.flash a) ∧ ∀ a, memByte t.boot.store a = memByte s.boot.store a) ∧
  (∀ (s : State) (init : Nat), s.performs init 0xC048 → s.grain.op = none →
    Completes (.grnStopBurnish init) s fun t =>
      t.answeredOk ∧ t.fld .grnTabstatResult = 2 ∧ t.grain.burn = s.grain.burn.map (fun b => { b with step := true }) ∧
        SameRegisters [Fld.addr .grnTabstatResult] [] s t ∧ SameMemories s t) ∧
  (∀ (s : State) (init : Nat), s.performs init 0xC048 → s.grain.op = none →
    Completes (.grnSaveCheckpoint init) s fun t =>
      t.answeredOk ∧ t.fld .grnTabstatResult = 1 ∧ t.grain.saveDue = true ∧
        SameRegisters [Fld.addr .grnTabstatResult] [] s t ∧ SameMemories s t) ∧
  (∀ (s : State) (init key : Nat), s.performs init 0xC048 → s.grain.op = none → key < 65536 →
    Completes (.grnClearAccumulators init key) s fun t =>
      t.answeredOk ∧ (key = 0xA5C3 → t.fld .grnTabstatResult = 1 ∧ t.grain.clearDue = true) ∧
      (key ≠ 0xA5C3 → t.fld .grnTabstatResult = 3 ∧ t.fld .grnTabstatErr = 12 ∧ t.grain = s.grain) ∧
        SameRegisters [Fld.addr .grnTabstatResult] [] s t ∧ SameMemories s t) ∧
  (∀ (s : State) (init : Nat) (data : Word), s.performs init 0xC058 → s.grain.op = none →
    Completes (.grnXferidWrite init data) s fun t =>
      t.answeredOk ∧ t.fld .grnXferidXfer = data.toNat % 65536 ∧ t.flag .grnXferidSrc = data.getLsbD 16 ∧ t.grain.chunks = [] ∧
        t.grain.mapped = !data.getLsbD 16 ∧ SameRegisters [0xC058, Fld.addr .grnXferstatMissing] [] s t ∧ SameMemories s t) ∧
  (∀ (s : State) (init off : Nat) (data : Word),
      let n := (s.fld .grnWinbaseBase / 4 * 4 + 4 * (off % 1024 / 4)) / 4
      s.performs init (0xC400 + off % 1024) → s.fld .grnWinctrlTarget = 1 → n < s.lampCount →
    Completes (.grnAccumWrite init off data) s fun t =>
      t.answeredOk ∧ t.acc n = data.toNat * 2 ^ 32 ∧ t.poisoned (accBase + 8 * n) = false ∧
      (∀ m, m ≠ n → t.acc m = if s.poisoned (accBase + 8 * n) && m / 8 == n / 8 then 0 else s.acc m) ∧
      (∀ a, a ≠ Fld.addr .grnAgestatSaturated → s.poisoned (accBase + 8 * n) = false ∨ a / 4096 ≠ 9 → t.reg a = s.reg a) ∧
      ∀ a, t.live a = s.live a) ∧
  (∀ (s : State) (n l : Nat) (c : ImageCell), s.isTile = true → s.serves n = true → s.restarting = false → c.bcast = false →
      s.flag .klsTstatPosvalid = true → c.pos = s.fld .klsTstatPos → c.kind = 1 → s.grain.mapped = true → s.grain.op = none →
      c.xfer = s.fld .grnXferidXfer → c.offset % 120 = 0 → c.offset < s.fld .grnXferlenLength → s.fld .grnXferlenLength ≤ stageSize →
      c.data.length = min 120 (s.fld .grnXferlenLength - c.offset) →
    Completes (.imageCellRx n l c .none) s fun t =>
      memRead t.dram.mem c.offset c.data.length = c.data ∧ t.grain.chunks.contains (c.offset / 120) = true ∧
        t.live (Fld.addr .grnChunks) = s.live (Fld.addr .grnChunks) + 1)

/-- R271, R278: GRN_INSTALL_DONE, CHECKPOINT_TIMER and CHECKPOINT_SAVED. -/
def Obligations.InstallsAndCheckpointsEnd : Prop :=
  (∀ (s : State) (x : GrainOp), s.grain.op = some x → s.boot.warning = false →
    Completes (.grnInstallDone true) s fun t =>
      t.grain.op = none ∧ t.fld .grnTabstatResult = 2 ∧ t.fld .grnTabstatErr = 0 ∧
        (x.copy < s.grain.copies.length → (t.copy x.copy).ready = true ∧ (t.copy x.copy).persist = x.persist)) ∧
  (∀ s : State, s.isTile = true → s.fld .grnAgecfgCkpt ≠ 0 →
    Completes .checkpointTimer s fun t => t.grain.saveDue = true ∧ SameRegisters [] [] s t ∧ SameMemories s t) ∧
  (∀ (s : State) (slot : Nat) (bytes : List Byte), s.grain.saving = some (slot, bytes) → s.boot.warning = false →
    Completes (.checkpointSaved true) s fun t =>
      t.grain.saving = none ∧ memRead t.boot.flash (ckptSlot slot) bytes.length = bytes ∧
        t.live (Fld.addr .grnCkpts) = s.live (Fld.addr .grnCkpts) + 1 ∧
        SameRegisters [Fld.addr .grnTabstatResult] [Fld.addr .grnCkpts] s t) ∧
  (∀ (s : State) (slot : Nat) (bytes : List Byte), s.grain.saving = some (slot, bytes) → s.boot.warning = false →
    Completes (.checkpointSaved false) s fun t =>
      t.grain.saving = none ∧ t.raised srcGrnCkptfail ∧ SameRegisters [Fld.addr .grnTabstatResult] [] s t ∧ SameMemories s t)

/-- R288 to R296, R298: CAL_GO, CAL_ABORT, CAL_AUTO_REQUEST, CAL_STEP, CAL_SEQUENCE_APPLY and DLY_RETRY. -/
def Obligations.CalibrationRuns : Prop :=
  (∀ (s : State) (init kind : Nat) (all : Bool) (env : CalEnv), s.performs init 0xF040 → 1 ≤ kind → kind ≤ 5 → s.calReason kind all = 0 →
      s.cal.startKinds = [] → s.cal.queue = [] → s.calCheck (s.newSeq kind (all && kind == 2) false) env = none →
    Completes (.calGo init kind all env) s fun t =>
      t.answeredOk ∧ t.cal.running = some (s.newSeq kind (all && kind == 2) false) ∧ t.fld .calStatState = 2 ∧ t.fld .calStatKind = kind ∧
        t.fld .calStatProgress = 0 ∧ SameMemories s t) ∧
  (∀ (s : State) (init kind : Nat) (all : Bool) (env : CalEnv), s.performs init 0xF040 → 1 ≤ kind → kind ≤ 5 → s.calReason kind all ≠ 0 →
      s.testing (calBlock kind) = false →
    Completes (.calGo init kind all env) s fun t =>
      t.answeredOk ∧ t.fld .calStatResult = 5 ∧ t.fld .calStatReason = s.calReason kind all ∧ t.cal = s.cal ∧
        SameRegisters [Fld.addr .calStatResult] [] s t ∧ SameMemories s t) ∧
  (∀ (s : State) (init : Nat) (q : CalSeq), s.performs init 0xF040 → s.cal.running = some q →
    Completes (.calAbort init) s fun t =>
      t.answeredOk ∧ t.cal.running = none ∧ t.fld .calStatResult = 4 ∧ t.raised srcCalCalPrecond ∧
        t.live (Fld.addr .calSeqabort) = s.live (Fld.addr .calSeqabort) + 1 ∧ SameMemories s t) ∧
  (∀ (s : State) (kind : Nat) (env : CalEnv) (q : CalSeq), s.isTile = true → kind = 1 ∨ kind = 2 ∨ kind = 4 →
      testBit (s.fld .calCtrlAuto) (kind - 1) = true →
      16 * s.fld .calCtrlTdrift ≤ (s.sfld .thsTjmaxTj - 16 * s.sfld (.calLasttjTj (kind - 1))).natAbs → s.regattaOpen = false →
      s.fld .devBootstatStage = 7 → s.cal.running = some q →
    Completes (.calAutoRequest kind env) s fun t =>
      t.cal.queue.contains (kind, false) = true ∧ t.cal.running = some q ∧ SameMemories s t) ∧
  (∀ (s : State) (before after : CalEnv) (values : List Int) (q : CalSeq), s.boot.warning = false → s.restarting = false →
      s.boot.inReset = false → s.cal.running = some q → q.done < q.steps → s.testing (calBlock q.kind) = false → s.sinksOff = true →
      s.calCheck q before = none → s.calCheck q after = none → (s.stepResults q values).2 = none →
    Completes (.calStep before after values) s fun t =>
      t.cal.running = some { q with done := q.done + 1, values := q.values ++ (s.stepResults q values).1 } ∧ SameMemories s t) ∧
  (∀ (s : State) (env : CalEnv) (q : CalSeq), s.cal.running = some q → q.steps ≤ q.done → s.boot.warning = false → q.kind ≤ 5 →
      s.calCheck q env = none →
    Completes (.calSequenceApply env) s fun t =>
      t.cal.running = none ∧
        (s.fld .devBootstatStage = 7 → t.fld .calStatState = 3 ∧ t.cal.applying.map (·.1) = some q.kind) ∧
        (s.fld .devBootstatStage ≠ 7 → t.fld .calStatResult = 1 ∧ t.cal.applying = none ∧
          t.live (Fld.addr .calSeqdone) = s.live (Fld.addr .calSeqdone) + 1)) ∧
  (∀ (s : State) (env : CalEnv) (q : CalSeq), s.isTile = true → s.flag .ltbStatLocked = false → (s.cal.dlyWait || s.flag .calNosetDly) = true →
      s.cal.startKinds.contains 1 = false → s.cal.running = some q → q.kind ≠ 1 →
    Completes (.dlyRetry env) s fun t =>
      t.cal.startKinds = s.cal.startKinds ++ [1] ∧ t.cal.running = some q ∧ SameRegisters [] [] s t ∧ SameMemories s t)

/-- R305 to R311, R315 to R317: DRAM_OPREQ, DRAM_OP_SWITCH, GATHER_BOUND_EXCEEDED, DRAM_TRAINING_DONE, MR4_POLL, OSCILLATOR_SAMPLE, RETRAIN_STEP, PATROL_SCRUB and DRC_LOG_CLEAR. -/
def Obligations.DramKeepsItsChannels : Prop :=
  (∀ (s : State) (init op : Nat), s.performs init 0x9048 → op < 4 → s.dram.training = none →
      s.channels.any (fun c => s.flag (.dcStatSr c)) = false → op ≠ s.fld .drcOpstatCur → s.dramFitsAt op = true →
      testBit (s.fld .drcOpstatTrained) op = true →
    Completes (.dramOpreq init op) s fun t =>
      t.answeredOk ∧ t.dram.held = some op ∧ t.fld .drcOpstatResult = 1 ∧ SameRegisters [Fld.addr .drcOpstatResult] [] s t ∧ SameMemories s t) ∧
  (∀ (s : State) (op : Nat), s.dram.held = some op → op < 4 → s.gathering = false → s.boot.warning = false →
      s.channels.any (fun c => s.flag (.dcStatSr c)) = false →
    Completes .dramOpSwitch s fun t =>
      t.dram.held = none ∧ t.fld .drcOpstatCur = op ∧ t.fld .drcOpstatResult = 3 ∧
        SameRegisters [Fld.addr .drcOpstatResult] [] s t ∧ SameMemories s t) ∧
  (∀ (s : State) (c : Nat), s.dram.held.isSome = true → s.flag (.dcStatGather c) = true →
    Completes (.gatherBoundExceeded c) s fun t =>
      t.dram.held = none ∧ t.fld .drcOpstatResult = 4 ∧ SameRegisters [Fld.addr .drcOpstatResult] [] s t ∧ SameMemories s t) ∧
  (∀ (s : State) (c ident op : Nat), s.dram.training = some op → op < 4 → c < 8 → s.channels.contains c = true →
      (∀ d ∈ s.channels, d = c ∨ s.dram.trainedNow.contains d = true) →
    Completes (.dramTrainingDone c ident true) s fun t =>
      t.dram.training = none ∧ t.dram.held = some op ∧ t.fld .drcOpstatResult = 1 ∧ testBit (t.fld (.dcStatTrained c)) op = true) ∧
  (∀ (s : State) (c ident op : Nat), s.dram.training = some op → s.channels.contains c = true →
    Completes (.dramTrainingDone c ident false) s fun t =>
      t.dram.training = none ∧ t.fld .drcOpstatResult = 6 ∧ t.raised srcDrcTrainfail ∧
        SameRegisters [Fld.addr .drcOpstatResult] [] s t ∧ SameMemories s t) ∧
  (∀ (s : State) (c rate : Nat), s.hasChannel c = true →
    Completes (.mr4Poll c rate) s fun t =>
      t.fld (.dcStatMr4rate c) = min rate 2 ∧
        t.fld (.dcStatRefrate c) = (if s.flag (.dcCfgPriv c) then max 1 (min rate 2) else min rate 2) ∧
        SameRegisters [Fld.addr (.dcStatMr4rate c), Fld.addr (.dcRefcostCost c)] [] s t ∧ SameMemories s t) ∧
  (∀ (s : State) (c : Nat) (ended : Bool) (drift : Int), s.hasChannel c = true →
    Completes (.oscillatorSample c ended drift) s fun t =>
      (ended = false → t.fld (.dcStatGather c) = 1) ∧
      (ended = true → t.fld (.dcStatGather c) = 0 ∧ t.sfld (.dcDriftnowPs c) = clampInt (-32768) 32767 drift ∧
        t.live (Fld.addr (.dcOscsamples c)) = s.live (Fld.addr (.dcOscsamples c)) + 1) ∧
      SameRegisters [Fld.addr (.dcStatGather c), Fld.addr (.dcDriftnowPs c)] [Fld.addr (.dcOscsamples c)] s t ∧ SameMemories s t) ∧
  (∀ (s : State) (c : Nat) (ended : Bool), s.hasChannel c = true → (ended || s.retrainDue c) = true →
    Completes (.retrainStep c ended) s fun t =>
      (ended = false → t.fld (.dcStatGather c) = 2) ∧
      (ended = true → t.fld (.dcStatGather c) = 0 ∧ t.fld (.dcDriftnowPs c) = 0 ∧
        t.live (Fld.addr (.dcRetrains c)) = s.live (Fld.addr (.dcRetrains c)) + 1) ∧
      SameRegisters [Fld.addr (.dcStatGather c), Fld.addr (.dcDriftnowPs c)] [Fld.addr (.dcRetrains c)] s t ∧ SameMemories s t) ∧
  (∀ (s : State) (addr outcome syndrome : Nat), s.fld .drcCfgScrubh ≠ 0 → s.eccOn = true →
    Completes (.patrolScrub addr outcome syndrome) s fun t =>
      t.live (Fld.addr .drcScrubbed) = s.live (Fld.addr .drcScrubbed) + 1 ∧
      (outcome ≠ 1 → outcome ≠ 2 → SameRegisters [] [Fld.addr .drcScrubbed] s t ∧ t.dram = s.dram) ∧
      (outcome = 1 → t.live (Fld.addr .drcCe) = s.live (Fld.addr .drcCe) + 1 ∧ t.raised srcDrcDramce ∧ t.dram = s.dram) ∧
      (outcome = 2 → t.live (Fld.addr .drcUe) = s.live (Fld.addr .drcUe) + 1 ∧ t.raised srcDrcDramue ∧ t.poisoned addr = true) ∧
      SameMemories s t) ∧
  (∀ (s : State) (init : Nat), s.performs init 0x9058 →
    Completes (.drcLogClear init) s fun t =>
      t.answeredOk ∧ t.fld .drcLogstatCount = 0 ∧ t.fld .drcLogstatNext = 0 ∧
        SameRegisters [Fld.addr .drcLogstatCount] [] s t ∧ SameMemories s t)

/-- R57 to R60, R64, R65: PROFWDATA_WRITE, PROFILE_COMMIT_SLOT, PROFILE_INVALIDATE, PROFILE_SWITCH_REQUEST and PROFILE_SWITCH. -/
def Obligations.ProfilesAreStoredAndSwitched : Prop :=
  (∀ (s : State) (init : Nat) (data : Word), s.performs init 0x88 → s.boot.warning = false →
    Completes (.profwdataWrite init data) s fun t =>
      t.answeredOk ∧
      memRead t.boot.store (profSlot (s.profOlder (s.fld .devProfwaddrProf)) + 4 * s.fld .devProfwaddrWord) 4 = leBytes 4 data.toNat ∧
      t.fld .devProfwaddrWord = (s.fld .devProfwaddrWord + 1) % 2048 ∧ SameRegisters [Fld.addr .devProfwaddrWord] [] s t ∧
      ∀ a, memByte t.boot.flash a = memByte s.boot.flash a) ∧
  (∀ (s : State) (init n : Nat), n < 4 → s.performs init 0x78 →
    Completes (.profileCommitSlot init n 0xA5C3) s fun t =>
      t.answeredOk ∧
      (∀ r, s.checkSlot (s.profOlder n) = .inl r → t.fld .devProfstatResult = r % 8 ∧ SameMemories s t) ∧
      (∀ p, s.checkSlot (s.profOlder n) = .inr p → t.fld .devProfstatResult = 2 ∧
        (s.boot.warning = false → memNat t.boot.store (profSlot (s.profOlder n) + 8) 4 =
          (match (s.profIn n).bind s.profSeq with
            | some x => if wrap32 (x + 1) = 0 then 1 else wrap32 (x + 1)
            | none => 1)))) ∧
  (∀ (s : State) (init n : Nat), n < 4 → s.performs init 0x78 → s.boot.warning = false →
    Completes (.profileInvalidate init n 0xA5C3) s fun t =>
      t.answeredOk ∧ t.stored n = none ∧ t.fld .devProfstatResult = 2 ∧ SameRegisters [Fld.addr .devProfstatResult] [] s t) ∧
  (∀ (s : State) (init n : Nat) (p q : Profile), n < 4 → s.performs init 0x78 → s.stored n = some p → s.boot.profile = some q →
      s.boundaryAhead (s.fld .devProfstroke) = true → p.needsReset q = false →
    Completes (.profileSwitchRequest init n 0xA5C3) s fun t =>
      t.answeredOk ∧ t.boot.switch = some (n, s.fld .devProfstroke) ∧ t.fld .devProfstatResult = 1 ∧
        SameRegisters [Fld.addr .devProfstatResult] [] s t ∧ SameMemories s t) ∧
  (∀ (s : State) (n k : Nat) (p q : Profile), n < 4 → s.boot.switch = some (n, k) → s.boot.profile = some q → s.boundaryAhead k = false →
      s.boot.warning = false → s.stored n = some p → p.needsReset q = false → s.switchFits q p = true → p.sections = q.sections →
    Completes .profileSwitch s fun t =>
      t.boot.switch = none ∧ t.boot.profile = some p ∧ t.fld .devRolestatProfile = n ∧ t.fld .devProfstatResult = 2)

/-- R66 to R68, R70, R76, R375: POWER_ON, RESET_N_PIN, SUPPLY_RESET, RSTCTL_FULL, HOLD_THROUGH_EXPIRY and TAP_RESET. -/
def Obligations.FullResetsRestoreResetValues : Prop :=
  (∀ s : State, Completes .powerOn s fun t => FullyReset .por s t ∧ t.boot.inReset = true ∧ t.ths.shutdown = false) ∧
  (∀ s : State, s.ths.shutdown = false → Completes .resetNPin s fun t => FullyReset .pin s t ∧ t.boot.inReset = true) ∧
  (∀ s : State, s.ths.shutdown = true → s.ths.coolRun < 8 →
    Completes .resetNPin s fun t =>
      t.ths.ignored = min 254 (s.ths.ignored + 1) ∧ t.ths.shutdown = true ∧ SameRegisters [] [] s t ∧ SameMemories s t) ∧
  (∀ (s : State) (rail lowest : Nat), rail ≠ 0 → s.belowReset rail lowest = true →
    Completes (.supplyReset rail lowest) s fun t =>
      FullyReset .supply s t ∧ t.boot.inReset = true ∧ t.boot.supplyLatch = some (rail, lowest)) ∧
  (∀ (s : State) (init prof : Nat) (named : Bool), s.performs init 0x70 → prof < 4 →
    Completes (.rstctlFull init 0xA5C3 named prof) s fun t =>
      t.answeredOk ∧ FullyReset .swFull s t ∧ t.boot.inReset = false ∧ t.boot.select = (if named then some prof else none)) ∧
  (∀ s : State, s.boot.expiry = true → s.fld .devBootstatStage ≠ 7 →
    Completes .holdThroughExpiry s fun t => FullyReset .htExpire s t ∧ t.boot.inReset = false) ∧
  (∀ s : State, s.boot.switch = none →
    Completes .tapReset s fun t => t.boot.tapReset = true ∧ SameRegisters [] [] s t ∧ SameMemories s t) ∧
  (∀ s : State, s.boot.switch ≠ none →
    Completes .tapReset s fun t =>
      t.boot.tapReset = true ∧ t.boot.switch = none ∧ t.fld .devProfstatResult = 0 ∧
        SameRegisters [Fld.addr .devProfstatResult] [] s t ∧ SameMemories s t)

/-- R62, R63, R72, R73, R75, R76, R434: RESET_RELEASE, CHUCK_BOOT, FLASH_NO_ANSWER, FIRMWARE_START and ENTER_SERVICE. -/
def Obligations.StartRunsThroughItsStages : Prop :=
  (∀ (s : State) (pins vddioFr : Nat), s.boot.inReset = true → s.ths.shutdown = false →
    Completes (.resetRelease pins vddioFr) s fun t =>
      t.boot.inReset = false ∧ t.boot.pins = pins % 4 ∧ t.boot.frHigh = decide (2500 < vddioFr) ∧ t.fld .devProfstatPins = pins % 4 ∧
        t.fld .devBootstatStage = 1 ∧ SameRegisters [Fld.addr .devProfstatPins, Fld.addr .devBootstatStage] [] s t ∧ SameMemories s t) ∧
  (∀ (s : State) (flash refclk : Bool), s.boot.inReset = false → s.ths.shutdown = false →
      (s.fld .devBootstatStage ≤ 3 ∨ s.fld .devBootstatStage = 9) → (s.lcs = 0 ∨ s.lcs = 5) → s.life.target = none → s.life.erasePend = false →
    Completes (.chuckBoot flash refclk) s fun t =>
      ChuckHolds 1 bootShown [] s t ∧ t.boot.store = s.boot.store ∧ t.boot.flash = s.boot.flash) ∧
  (∀ (s : State) (refclk : Bool),
      let s2 := ({ s with sent := [], reply := none, boot.refclk := refclk } : State).readStore true
      s.boot.inReset = false → s.ths.shutdown = false → (s.fld .devBootstatStage ≤ 3 ∨ s.fld .devBootstatStage = 9) →
      s.lcs ≠ 0 → s.lcs ≠ 5 → (s.shutPend = true → testBit (s.fld .devRstcauseCause) 0 = false) →
    Completes (.chuckBoot true refclk) s fun t =>
      match s2.imageOrder.2.find? s2.imageOrder.1.imagePasses with
      | none => ChuckHolds 2 bootShown [Fld.addr .thsNvlost] s t ∧ t.boot.store = s2.imageOrder.1.boot.store ∧ t.boot.flash = s2.imageOrder.1.boot.flash
      | some i =>
        t.fld .devBootstatStage = 4 ∧ t.fld .devBootstatImage = i ∧ t.fld .devBootstatFail = 0 ∧
          t.upd.running = memRead s2.imageOrder.1.boot.flash (imageBase i) 256 ∧
          SameRegisters (Fld.addr .devBootstatStage :: Fld.addr .updVer :: bootShown) [Fld.addr .thsNvlost] s t ∧ SameMemories s2.imageOrder.1 t) ∧
  (∀ s : State, s.boot.inReset = false → s.ths.shutdown = false → (s.fld .devBootstatStage ≤ 3 ∨ s.fld .devBootstatStage = 9) →
    Completes .flashNoAnswer s fun t => ChuckHolds 4 [] [] s t ∧ t.boot.store = s.boot.store ∧ t.boot.flash = s.boot.flash) ∧
  (∀ (s : State) (env : StartEnv), s.boot.inReset = false → s.ths.shutdown = false → s.fld .devBootstatStage = 4 → s.takeable = none →
    Completes (.firmwareStart env) s fun t => ChuckHolds 3 [] [] s t ∧ t.boot.store = s.boot.store ∧ t.boot.flash = s.boot.flash) ∧
  (∀ (s : State) (env : StartEnv) (p : Profile) (n : Nat) (fb : Bool), s.boot.inReset = false → s.ths.shutdown = false →
      s.fld .devBootstatStage = 4 → s.takeable = some (p, n, fb) →
    Completes (.firmwareStart env) s fun t =>
      let s0 := { s with sent := [], reply := none, boot.profile := some p, boot.watchdog := true }
      let s1 := ((s0.setFld .devRolestatRole p.role).setFld .devRolestatProfile n).setFld .devProfstatFallback (bit fb)
      let s2 := (s1.setFld .devBootstatStage 5).setFld .devVcorectlAdapt (bit p.adapt)
      let s3 := if fb = true ∧ s.boot.warm = false then s2.raise srcDevProffallback else s2
      t = { s3.startBlocks (!s.boot.warm) s.boot.holdThrough (fun _ => false) env with pending := s.pending }) ∧
  (∀ (s : State) (tests : List GroupTest) (p : Profile) (n : Nat) (fb : Bool), s.boot.inReset = false → s.ths.shutdown = false →
      s.fld .devBootstatStage = 4 → s.takeable = some (p, n, fb) → s.boot.warm = false → p.sections = [] → 0 ∈ p.channels →
    Completes (.firmwareStart ⟨[], tests⟩) s fun t =>
      t.fld .devBootstatStage = 8 ∧ t.fld .devBootstatFail = 5 ∧ t.fld .devRolestatRole = 0 ∧ t.boot.profile = none ∧ t.boot.ready = 0 ∧
        ∀ a, chuckKeeps a = false → t.reg a = regReset a) ∧
  (∀ (s : State) (ms : Nat), s.mayServe = true →
    Completes (.enterService ms) s fun t =>
      t.fld .devBootstatStage = 7 ∧ t.fld .devBootstatTime = min ms 65535 ∧ t.boot.warm = false ∧
        (s.boot.warning = false → t.lastGood = some (s.fld .devRolestatProfile)) ∧
        SameRegisters [Fld.addr .devBootstatStage, Fld.addr .thsNvqQueued] [Fld.addr .thsNvlost] s t)

/-- R67, R69, R70: RSTCTL_WARM, WARM_RESTART and MC_WATCHDOG. -/
def Obligations.WarmRestartsGoOnOrEscalate : Prop :=
  (∀ (s : State) (init : Nat), s.performs init 0x70 → s.boot.warning = false →
      (s.boot.warmTimes.filter (fun t => decide (s.since t < 60 * 10 ^ 9))).length < 3 →
    Completes (.rstctlWarm init 0xA5C3) s fun t => t.answeredOk ∧ WarmlyRestarted .swWarm s t) ∧
  (∀ (s : State) (w : WarmCause), s.boot.inReset = false → s.ths.shutdown = false → s.boot.warning = false →
      (s.boot.warmTimes.filter (fun t => decide (s.since t < 60 * 10 ^ 9))).length < 3 →
    Completes (.warmRestart w) s fun t =>
      WarmlyRestarted (match w with | .software => .swWarm | .watchdog => .wdog | .regatta => .regatta) s t) ∧
  (∀ (s : State) (w : WarmCause), s.boot.inReset = false → s.ths.shutdown = false → s.boot.warning = true →
    Completes (.warmRestart w) s fun t => t.boot.warmDue = some w ∧ SameRegisters [] [] s t ∧ SameMemories s t) ∧
  (∀ (s : State) (w : WarmCause), s.boot.inReset = false → s.ths.shutdown = false → s.boot.warning = false →
      3 ≤ (s.boot.warmTimes.filter (fun t => decide (s.since t < 60 * 10 ^ 9))).length →
    Completes (.warmRestart w) s fun t => FullyReset .escalate s t ∧ t.boot.inReset = false) ∧
  (∀ s : State, s.boot.watchdog = true → s.wakeOnly = false → s.boot.inReset = false → s.ths.shutdown = false → s.boot.warning = false →
      (s.boot.warmTimes.filter (fun t => decide (s.since t < 60 * 10 ^ 9))).length < 3 →
    Completes .mcWatchdog s fun t => WarmlyRestarted .wdog s t)

/-- R18, R78, R375 to R378, R425: SUPPLY_WARNING, SUPPLY_WARNING_CLEAR, VCORE_ADAPT_STEP, SHUTPEND_RECHECK, RECOVERY_START, RECOVDATA_WRITE and RECOVERY_GO. -/
def Obligations.SupplyEventsFreezeAndResume : Prop :=
  (∀ (s : State) (rail lowest : Nat), s.ths.shutdown = false → s.boot.inReset = false → s.belowWarning rail lowest = true → s.boot.warning = false →
    Completes (.supplyWarning rail lowest) s fun t =>
      t.boot.warning = true ∧ testBit (t.fld .thsRailstatWarn) rail = true ∧ t.fld .thsRailstatFirst = rail ∧ t.raised srcThsSupwarn ∧
        t.live (Fld.addr .thsSupwarns) = s.live (Fld.addr .thsSupwarns) + 1 ∧ SameMemories s t ∧
        (s.bist.running = [] → SameRegisters [Fld.addr .thsRailstatWarn, Fld.addr .cmpStatInflight, Fld.addr .cmpRetire, Fld.addr .snkServostatState]
          [Fld.addr .thsSupwarns] s t)) ∧
  (∀ (s : State) (rail lowest : Nat), s.ths.shutdown = false → s.boot.inReset = false → s.belowWarning rail lowest = true → s.boot.warning = true →
    Completes (.supplyWarning rail lowest) s fun t =>
      t.boot.warning = true ∧ testBit (t.fld .thsRailstatWarn) rail = true ∧ t.raised srcThsSupwarn ∧
        SameRegisters [Fld.addr .thsRailstatWarn] [] s t ∧ SameMemories s t) ∧
  (∀ (s : State) (duration : Nat), s.boot.warning = true → s.life.target = none → s.boot.warmDue = none →
    Completes (.supplyWarningClear duration) s fun t =>
      t.boot.warning = false ∧ t.boot.resuming = true ∧ t.boot.nvQueue = [] ∧ t.boot.nvLost = 0 ∧ t.fld .thsRailstatWarn = 0 ∧
        t.fld .thsNvqQueued = 0 ∧
        ∀ a, a ≠ Fld.addr .thsRailstatWarn → a ≠ Fld.addr .thsNvqQueued → (∀ g, a ≠ Fld.addr (.bstGroupResult g)) → t.reg a = s.reg a) ∧
  (∀ (s : State) (underrun answered : Bool) (num den vnow : Nat), s.flag .devVcorectlAdapt = false →
    Completes (.vcoreAdaptStep underrun num den answered vnow) s fun t =>
      t.fld .devVcorectlVnow = vnow % 256 ∧ t.boot = s.boot ∧ SameRegisters [Fld.addr .devVcorectlVnow] [] s t ∧ SameMemories s t) ∧
  (∀ (s : State) (num den vnow : Nat), s.flag .devVcorectlAdapt = true → s.prof (·.pmbusAdr) ≠ 0 →
    Completes (.vcoreAdaptStep true num den true vnow) s fun t =>
      let v := min ((s.setFld .devVcorectlVnow vnow).setpoint + 2) (s.fld .devVcorectlCeil)
      t.boot.vset = v ∧ t.sent = [.pmbus (s.prof (·.pmbusAdr)) v] ∧
        t.flag .devVcorectlPmbusOk = true ∧ t.fld .devVcorectlVnow = vnow % 256 ∧
        SameRegisters [Fld.addr .devVcorectlVnow] [] s t ∧ SameMemories s t) ∧
  (∀ (s : State) (sensors : List Int), s.fld .devBootstatStage = 2 → s.shutPend = true → sensors ≠ [] → (∀ x ∈ sensors, x < 1760) →
    Completes (.shutpendRecheck sensors) s fun t =>
      testBit (t.fld .devRstcauseCause) 3 = true ∧ t.shutPend = false ∧ t.ths.ignored = 0 ∧ SameRegisters [0x74] [] s t) ∧
  (∀ (s : State) (init : Nat), s.performs init 0x90 → s.fld .devBootstatStage = 8 → s.lcs ≠ 0 → s.lcs ≠ 5 →
    Completes (.recoveryStart init 0xA5C3) s fun t =>
      t.answeredOk ∧ t.upd.recov = some [] ∧ t.fld .devRecovstatWords = 0 ∧ t.fld .devRecovstatResult = 1 ∧
        SameRegisters [Fld.addr .devRecovstatWords] [] s t ∧ SameMemories s t) ∧
  (∀ (s : State) (init : Nat) (data : Word) (ws : List Word), s.performs init 0x94 → s.upd.recov = some ws → s.fld .devRecovstatResult = 1 →
      ws.length < 4194303 → ws.length ≠ 1023 →
    Completes (.recovdataWrite init data) s fun t =>
      t.answeredOk ∧ t.upd.recov = some (data :: ws) ∧ t.fld .devRecovstatWords = ws.length + 1 ∧
        SameRegisters [Fld.addr .devRecovstatWords] [] s t ∧ SameMemories s t) ∧
  (∀ (s : State) (init : Nat) (ws : List Word), s.performs init 0x90 → s.upd.recov = some ws → s.fld .devRecovstatResult = 1 →
      s.fld .devBootstatStage = 8 →
    Completes (.recoveryGo init 0xA5C3) s fun t =>
      let e := if 4 * ws.length < (recovFile ws).num 0x18 4 then 6 else s.recovErr (recovFile ws) true
      t.answeredOk ∧ SameMemories s t ∧
      (e = 0 → t.fld .devRecovstatResult = 2 ∧ t.fld .devBootstatStage = 4 ∧ t.fld .devBootstatImage = 0 ∧ t.upd.recov = none) ∧
      (e ≠ 0 → t.fld .devRecovstatResult = 3 ∧ t.fld .devRecovstatErr = e ∧ t.fld .devBootstatStage = 8 ∧ t.upd = s.upd))

/-- R312, R313, R328 to R330, R341: JOURNAL_CELL_RX, JOURNAL_BUFFER_FLUSH, SRCMD_JOURNAL_RETENTION, SRCMD_RETURN_SERVICE and CROSSLINK_LOST. -/
def Obligations.StandbysTakeTheJournal : Prop :=
  (∀ (s : State) (l first stroke : Nat) (b : JournalRec), s.standsBy = true → s.restarting = false → s.pairing.joined = true →
      s.retained = false → wrap32 first = wrap32 (s.fld .pairJseq + 1) →
    Completes (.journalCellRx 8 l first stroke [b] .none) s fun t =>
      let u := { ({ s with sent := [], reply := none } : State).goodCell 7 l with pairing.lostRecords := false }
      t = { (((u.setFld .pairJseq (wrap32 first)).applyJournal ⟨wrap32 first, stroke, b⟩).moveValid.judgeStale) with pending := s.pending }) ∧
  (∀ (s : State) (l first stroke : Nat) (b : JournalRec), s.standsBy = true → s.restarting = false → s.pairing.joined = true →
      s.retained = false → wrap32 first = wrap32 (s.fld .pairJseq + 1) → b.kind = 7 → b.addr + b.extra.length ≤ s.userBytes →
      s.channels ≠ [] → s.dram.poison = [] →
    Completes (.journalCellRx 8 l first stroke [b] .none) s fun t =>
      t.fld .pairJseq = wrap32 first ∧ memRead t.dram.mem b.addr b.extra.length = b.extra ∧
        (∀ a, a < b.addr ∨ b.addr + b.extra.length ≤ a → memByte t.dram.mem a = memByte s.dram.mem a) ∧
        t.boot.store = s.boot.store ∧ t.boot.flash = s.boot.flash ∧ t.cmp.table = s.cmp.table) ∧
  (∀ (s : State) (l first stroke : Nat) (b : JournalRec), s.standsBy = true → s.restarting = false → s.pairing.joined = true →
      s.retained = true → wrap32 first = wrap32 (s.fld .pairJseq + 1) → (s.pairing.onDie.map (·.body.units)).sum + b.units ≤ 65536 →
    Completes (.journalCellRx 8 l first stroke [b] .none) s fun t =>
      t.pairing.onDie = s.pairing.onDie ++ [⟨wrap32 first, stroke, b⟩] ∧ t.fld .pairJseq = wrap32 first ∧
        SameRegisters [Fld.addr .pairJseq, Fld.addr .pairValidto, Fld.addr .pairStaleageAge, Fld.addr .pairStatStale] [Fld.addr (.chpCellsrx 7)] s t ∧
        SameMemories s t) ∧
  (∀ (s : State) (l first stroke : Nat) (b : JournalRec), s.standsBy = true → s.restarting = false → s.pairing.joined = true →
      wrap32 first ≠ wrap32 (s.fld .pairJseq + 1) →
    Completes (.journalCellRx 8 l first stroke [b] .none) s fun t =>
      t.fld .pairJseq = s.fld .pairJseq ∧ t.pairing.onDie = s.pairing.onDie ∧
        SameRegisters [Fld.addr .pairValidto, Fld.addr .pairStaleageAge, Fld.addr .pairStatStale] [Fld.addr (.chpCellsrx 7)] s t ∧ SameMemories s t) ∧
  (∀ s : State, s.retained = true →
    Completes .journalBufferFlush s fun t =>
      t.pairing.flushed = s.pairing.flushed ++ s.pairing.onDie ∧ t.pairing.onDie = [] ∧ SameRegisters [] [] s t ∧ SameMemories s t) ∧
  (∀ (s : State) (init : Nat), s.performs init 0x9054 → s.retained = false →
      (s.isSender && (s.fld .devRolestatPairpos == 2 || (s.prof (·.pair) != 1 && s.noCanvas))) = true →
    Completes (.srcmdJournalRetention init 0xA5C3) s fun t =>
      t.answeredOk ∧ t.fld .drcSrcmdState = 2 ∧ t.fld .drcSrcmdResult = 1 ∧ t.dram.mem = [] ∧ t.cmp.table = [] ∧
        (∀ c ∈ s.channels, t.fld (.dcStatSr c) = (if c = 0 then 2 else 3) ∧ t.fld (.dcStatReady c) = 0) ∧
        SameRegisters (0x9054 :: Fld.addr .cmpStatInflight :: Fld.addr .cmpRetire :: (List.range 8).map (fun c => Fld.addr (.dcStatSr c))) [] s t ∧
        t.boot.store = s.boot.store ∧ t.boot.flash = s.boot.flash) ∧
  (∀ (s : State) (init : Nat), s.performs init 0x9054 → s.retained = false →
      (s.isSender && (s.fld .devRolestatPairpos == 2 || (s.prof (·.pair) != 1 && s.noCanvas))) = false →
    Completes (.srcmdJournalRetention init 0xA5C3) s fun t =>
      t.answeredOk ∧ t.fld .drcSrcmdResult = 2 ∧ t.fld .drcSrcmdState = s.fld .drcSrcmdState ∧ SameRegisters [0x9054] [] s t ∧
        SameMemories s t) ∧
  (∀ (s : State) (init : Nat), s.performs init 0x9054 → s.retained = false →
    Completes (.srcmdReturnService init 0xA5C3) s fun t =>
      t.answeredOk ∧ t.fld .drcSrcmdResult = 1 ∧ t.fld .drcSrcmdState = s.fld .drcSrcmdState ∧ SameRegisters [0x9054] [] s t ∧
        SameMemories s t) ∧
  (∀ (s : State) (init : Nat), s.performs init 0x9054 → s.retained = true → s.pairing.flushed = [] → s.pairing.onDie = [] →
    Completes (.srcmdReturnService init 0xA5C3) s fun t =>
      t.answeredOk ∧ t.fld .drcSrcmdResult = 1 ∧ t.fld .drcSrcmdState = 0 ∧
        ∀ c ∈ s.channels, t.fld (.dcStatSr c) = 0 ∧ t.fld (.dcStatReady c) = 1) ∧
  (∀ (s : State) (init key : Nat), s.performs init 0x9054 → key % 65536 ≠ 0xA5C3 →
    Completes (.srcmdJournalRetention init key) s fun t =>
      t.answeredOk ∧ t.fld .drcSrcmdResult = 3 ∧ SameRegisters [0x9054] [] s t ∧ SameMemories s t) ∧
  (∀ s : State, s.paired = true →
    Completes .crosslinkLost s fun t =>
      t.flag .pairStatXlink = false ∧ t.raised srcPairCrosslinkLost ∧ (s.pairState = 2 → t.pairing.crew = none) ∧
        SameRegisters [Fld.addr .pairStatXlink, Fld.addr .pairCmdstatResult] [] s t ∧ SameMemories s t)

/-- R323, R324: PAIR_CELL_RX and PAIR_FORM_TIMEOUT. -/
def Obligations.PairsForm : Prop :=
  (∀ (s : State) (path l : Nat) (c : PairCell), s.paired = true → c.senderId ≠ s.selfId → s.pairing.control = false → s.pairState = 1 →
      (s.lcs ≠ c.lcs ∨ s.pairConfig ≠ c.config) →
    Completes (.pairCellRx path l c .none) s fun t =>
      t.pairState = 0 ∧ t.fld .devRolestatPairpos = 0 ∧ t.raised srcPairPairmismatch ∧
        SameRegisters pairShown [Fld.addr (.chpCellsrx (linkPort path))] s t ∧ SameMemories s t) ∧
  (∀ (s : State) (path l : Nat) (c : PairCell), s.paired = true → c.senderId ≠ s.selfId → s.pairing.control = false → s.pairState = 1 →
      s.lcs = c.lcs → s.pairConfig = c.config → c.state = 2 →
    Completes (.pairCellRx path l c .none) s fun t =>
      t.pairState = 4 ∧ t.fld .devRolestatPairpos = 2 ∧ t.fld .pairStatPartner = 3 ∧ t.pairing.partner = some c ∧
        t.pairing.active = some (c.senderId, c.epoch) ∧ (path = 8 → t.flag .pairStatXlink = true) ∧
        (s.flag .pairCfgCold = false → SameRegisters pairShown [Fld.addr (.chpCellsrx (linkPort path))] s t ∧ SameMemories s t)) ∧
  (∀ (s : State) (path l : Nat) (c : PairCell), s.paired = true → c.senderId ≠ s.selfId → s.pairing.control = false → s.pairState = 1 →
      s.lcs = c.lcs → s.pairConfig = c.config → c.state = 1 → s.pairing.active = none →
    Completes (.pairCellRx path l c .none) s fun t =>
      t.pairing.partner = some c ∧
      if (if s.flag .pairCfgPrefer = c.prefer then decide (s.selfId < c.senderId) else s.flag .pairCfgPrefer) = true then
        t.pairState = 2 ∧ t.fld .devRolestatPairpos = 1 ∧ t.pairing.control = true ∧ t.fld .pairTakeinfoCause = 6
      else t.pairState = 3 ∧ t.fld .devRolestatPairpos = 2 ∧ t.pairing.control = false) ∧
  (∀ (s : State) (path l : Nat) (c : PairCell), s.paired = true → c.senderId ≠ s.selfId → s.pairing.control = false → s.standsBy = true →
      c.state = 2 →
    Completes (.pairCellRx path l c .none) s fun t =>
      t.pairing.partner = some c ∧ t.pairing.active = some (c.senderId, c.epoch) ∧ t.fld .pairStatPartner = 3 ∧
        (s.flag .pairCfgCold = false →
          SameRegisters pairShown [Fld.addr (.chpCellsrx (linkPort path)), Fld.addr .pairDiverge] s t ∧ SameMemories s t)) ∧
  (∀ s : State, s.paired = true → s.pairState = 1 → s.pairing.partner = none → s.pairing.active = none →
      s.fld .pairCfgHoldwit ≤ s.pairing.coxAgo → s.boot.warm = false →
    let own := newerEpoch s.storedEpoch (s.fld .pairEpoch)
    let top := match s.pairing.seen with
      | none => own
      | some x => newerEpoch own x
    Completes .pairFormTimeout s fun t =>
      t.pairState = 2 ∧ t.fld .devRolestatPairpos = 1 ∧ t.pairing.control = true ∧ t.fld .pairEpoch = wrap32 (top + 1) ∧
        (s.boot.warning = false → t.storedEpoch = wrap32 (top + 1)) ∧ t.fld .pairTakeinfoCause = 6 ∧ t.fld .pairStatPartner = 0 ∧
        ∀ n ∈ s.servicePorts, .cell n (s.outLane n 0) (.cox ⟨s.selfId, wrap32 (top + 1), s.stroke, n, false⟩) ∈ t.sent)

/-- R334, R336, R342 to R345: PAIR_CREW_CHANGE, CREW_PERIOD, PAIR_YIELD, PAIR_REJOIN, CREW_HANDOVER and WITNESS_LOST. -/
def Obligations.PairCommandsActOnControl : Prop :=
  (∀ (s : State) (init : Nat), s.reaches init 0x12060 = true →
    Completes (.pairCrewChange init 0xA5C3) s fun t =>
      t.answeredOk ∧
      (s.crewRefusal (s.fld .pairCrewstroke) true = 0 →
        t.pairing.crew = some (s.fld .pairCrewstroke, false) ∧ t.fld .pairCmdstatResult = 1) ∧
      (s.crewRefusal (s.fld .pairCrewstroke) true ≠ 0 →
        t.pairing.crew = s.pairing.crew ∧ t.fld .pairCmdstatResult = s.crewRefusal (s.fld .pairCrewstroke) true) ∧
      SameRegisters [Fld.addr .pairCmdstatResult, Fld.addr .pairJseq, Fld.addr (.chpStatEidle 7)] [Fld.addr (.chpCellstx 7)] s t ∧ SameMemories s t) ∧
  (∀ s : State, s.paired = true → s.pairState = 2 → s.flag .pairCfgCrewper = true →
    Completes .crewPeriod s fun t =>
      (s.crewRefusal (wrap32 (s.stroke + 8)) true = 0 →
        t.pairing.crew = some (wrap32 (s.stroke + 8), false) ∧ t.fld .pairCmdstatResult = 1) ∧
      (s.crewRefusal (wrap32 (s.stroke + 8)) true ≠ 0 →
        t.pairing.crew = s.pairing.crew ∧ t.fld .pairCmdstatResult = s.crewRefusal (wrap32 (s.stroke + 8)) true ∧
          (s.pairing.crew = none → 2 * s.fld .pairCfgCrewper < (s.ths.uptimeMs - s.pairing.changedMs) / 3600000 →
            t.raised srcPairStandbyage)) ∧
      SameRegisters [Fld.addr .pairCmdstatResult] [] s t ∧ SameMemories s t) ∧
  (∀ (s : State) (init : Nat), s.reaches init 0x12060 = true → s.paired = true → s.pairState = 2 → s.mayYield = true →
      s.pairing.crew = none → s.boot.warm = false →
    Completes (.pairYield init 0xA5C3) s fun t =>
      t.answeredOk ∧ t.pairState = 5 ∧ t.fld .devRolestatPairpos = 2 ∧ t.pairing.control = false ∧ t.pairing.yieldOut = true ∧
        t.fld .pairCmdstatResult = 2 ∧ (s.portUp 7 = true → .cell 8 (s.outLane 8 0) (.yield ⟨s.selfId, s.fld .pairEpoch, s.stroke, 0xFFFF⟩) ∈ t.sent) ∧
        (∀ n ∈ s.servicePorts, .cell n (s.outLane n 0) (.yield ⟨s.selfId, s.fld .pairEpoch, s.stroke, 0xFFFF⟩) ∈ t.sent) ∧
        t.live (Fld.addr .pairYields) = s.live (Fld.addr .pairYields) + 1 ∧ SameMemories s t ∧
        (s.access.tunnel = [] → s.upd.dist = none →
          SameRegisters (pairShown ++ (List.range 8).map (fun n => Fld.addr (.chpStatEidle n)))
            (Fld.addr .pairYields :: (List.range 8).map (fun n => Fld.addr (.chpCellstx n))) s t)) ∧
  (∀ (s : State) (init : Nat), s.reaches init 0x12060 = true → s.paired = true → s.pairState = 2 → s.mayYield = false →
    Completes (.pairYield init 0xA5C3) s fun t =>
      t.answeredOk ∧ t.pairState = 2 ∧ t.pairing.control = s.pairing.control ∧ t.raised srcPairYieldblock ∧
        t.fld .pairCmdstatResult = 3 ∧ SameRegisters [Fld.addr .pairCmdstatResult, Fld.addr .pairJseq, Fld.addr (.chpStatEidle 7)] [Fld.addr (.chpCellstx 7)] s t ∧ SameMemories s t) ∧
  (∀ (s : State) (init : Nat), s.performs init 0x12060 → s.pairState = 5 →
    Completes (.pairRejoin init 0xA5C3) s fun t =>
      t.answeredOk ∧ t.pairState = 4 ∧ t.flag .pairStatResync = true ∧ t.pairing.yieldOut = false ∧ t.pairing.joined = false ∧
        t.fld .pairCmdstatResult = 2 ∧
        (s.flag .pairCfgCold = false →
          SameRegisters [Fld.addr .pairCmdstatResult, Fld.addr .pairStatState, Fld.addr .devRolestatPairpos] [] s t ∧ SameMemories s t)) ∧
  (∀ (s : State) (init : Nat), s.performs init 0x12060 → s.pairState ≠ 5 →
    Completes (.pairRejoin init 0xA5C3) s fun t =>
      t.answeredOk ∧ t.pairing = s.pairing ∧ t.fld .pairCmdstatResult = 7 ∧ SameRegisters [Fld.addr .pairCmdstatResult] [] s t ∧
        SameMemories s t) ∧
  (∀ (s : State) (k : Nat) (c : PairCell), s.pairing.crew = some (k, true) → s.pairState = 2 → s.crewRefusal k false = 0 →
      s.pairing.partner = some c → s.boot.warning = false → s.life.target = none →
    Completes .crewHandover s fun t =>
      t.pairState = 3 ∧ t.fld .devRolestatPairpos = 2 ∧ t.pairing.control = false ∧ t.pairing.crew = none ∧
        t.pairing.active = some (c.senderId, wrap32 (s.fld .pairEpoch + 1)) ∧ t.fld .pairCmdstatResult = 2 ∧
        t.fld .pairValidto = s.stroke ∧ t.live (Fld.addr .pairCrewchanges) = s.live (Fld.addr .pairCrewchanges) + 1 ∧
        (s.flag .pairCfgCold = false → s.access.tunnel = [] → s.upd.dist = none →
          SameRegisters pairShown [Fld.addr .pairCrewchanges] s t ∧ SameMemories s t)) ∧
  (∀ (s : State) (k : Nat) (acked : Bool), s.pairing.crew = some (k, acked) → s.pairState = 3 → s.boot.warning = false →
      s.life.target = none → s.boot.warm = false →
    let own := newerEpoch s.storedEpoch (s.fld .pairEpoch)
    let top := match s.pairing.seen with
      | none => own
      | some x => newerEpoch own x
    Completes .crewHandover s fun t =>
      t.pairState = 2 ∧ t.fld .devRolestatPairpos = 1 ∧ t.pairing.control = true ∧ t.fld .pairTakeinfoCause = 5 ∧
        t.fld .pairEpoch = wrap32 (top + 1) ∧ t.storedEpoch = wrap32 (top + 1) ∧
        (∀ n ∈ s.servicePorts, .cell n (s.outLane n 0) (.cox ⟨s.selfId, wrap32 (top + 1), s.stroke, n, false⟩) ∈ t.sent) ∧
        t.live (Fld.addr .pairCrewchanges) = s.live (Fld.addr .pairCrewchanges) + 1) ∧
  (∀ s : State, s.paired = true → s.standsBy = true → s.fld .pairCfgHoldwit ≤ s.pairing.lostRun → 0 < s.pairing.lostRun →
    Completes .witnessLost s fun t =>
      t.pairState = 6 ∧ t.fld .pairTakeinfoCause = 4 ∧
        SameRegisters [Fld.addr .pairTakeinfoCause, Fld.addr .pairStatState, Fld.addr .devRolestatPairpos] [] s t ∧ SameMemories s t)

/-- R335: YIELD_IN_ASSERTED and YIELD_CELL_RX. -/
def Obligations.StandbysTakeOverOnAYield : Prop :=
  (∀ s : State, s.paired = true → s.standsBy = true →
    Completes .yieldInAsserted s fun t =>
      t.pairState = 6 ∧ t.fld .pairTakeinfoCause = 1 ∧
        SameRegisters [Fld.addr .pairTakeinfoCause, Fld.addr .pairStatState, Fld.addr .devRolestatPairpos] [] s t ∧ SameMemories s t) ∧
  (∀ (s : State) (path l : Nat) (c : YieldCell), s.paired = true → s.standsBy = true → s.pairing.active = some (c.senderId, c.epoch) →
    Completes (.yieldCellRx path l c .none) s fun t =>
      t.pairState = 6 ∧ t.fld .pairTakeinfoCause = (if path = 8 then 2 else 3) ∧ t.fld .pairTakeinfoSource = c.source % 65536 ∧
        SameRegisters [Fld.addr .pairTakeinfoCause, Fld.addr .pairStatState, Fld.addr .devRolestatPairpos] [Fld.addr (.chpCellsrx (linkPort path))] s t ∧
        SameMemories s t) ∧
  (∀ (s : State) (path l : Nat) (c : YieldCell), s.paired = true → s.standsBy = true → s.pairing.active ≠ some (c.senderId, c.epoch) →
    Completes (.yieldCellRx path l c .none) s fun t => t.pairState = s.pairState ∧ SameRegisters [] [Fld.addr (.chpCellsrx (linkPort path))] s t ∧ SameMemories s t) ∧
  (∀ (s : State) (path l : Nat) (c : YieldCell), s.paired = true → s.pairState = 2 →
    Completes .yieldInAsserted s (fun t =>
      t.live (Fld.addr .pairYields) = s.live (Fld.addr .pairYields) + 1 ∧ SameRegisters [] [Fld.addr .pairYields] s t ∧ SameMemories s t) ∧
    Completes (.yieldCellRx path l c .none) s (fun t =>
      t.live (Fld.addr .pairYields) = s.live (Fld.addr .pairYields) + 1 ∧ SameRegisters [] [Fld.addr .pairYields, Fld.addr (.chpCellsrx (linkPort path))] s t ∧ SameMemories s t))

/-- R337 to R340, R345: TAKEOVER, COLD_TAKEOVER_READY, RESYNC_COMPLETE, SPLIT_DRIVE_START and SPLIT_DRIVE_END. -/
def Obligations.TakeoversAndSplitDriveRun : Prop :=
  (∀ s : State, s.paired = true → s.pairState = 6 → s.pairing.control = false → s.boot.warning = false → s.restarting = false →
      s.flag .pairCfgCold = false → s.pairing.flushed = [] → s.pairing.onDie = [] →
    let own := newerEpoch s.storedEpoch (s.fld .pairEpoch)
    let top := match s.pairing.seen with
      | none => own
      | some x => newerEpoch own x
    Completes .takeover s fun t =>
      t.pairState = 2 ∧ t.fld .pairEpoch = wrap32 (top + 1) ∧ t.storedEpoch = wrap32 (top + 1) ∧
        (∀ n ∈ s.servicePorts, .cell n (s.outLane n 0) (.cox ⟨s.selfId, wrap32 (top + 1), s.stroke, n, false⟩) ∈ t.sent) ∧ t.fld .devRolestatPairpos = 1 ∧ t.pairing.control = true ∧
        t.flag .pairStatFromstale = s.flag .pairStatStale ∧ t.fld .pairLasttake = s.stroke ∧ t.fld .pairStatSplit = 0 ∧
        t.pairing.sentCues = [] ∧ t.live (Fld.addr .pairTakeovers) = s.live (Fld.addr .pairTakeovers) + 1 ∧ t.raised srcPairTakeover) ∧
  (∀ s : State, s.paired = true → s.pairState = 6 → s.pairing.control = false → s.boot.warning = false → s.restarting = false →
      s.flag .pairCfgCold = true → s.pairing.flushed = [] → s.pairing.onDie = [] →
    Completes .takeover s fun t => t.pairState = 6 ∧ t.pairing.control = true ∧ t.fld .pairLasttake = s.stroke) ∧
  (∀ s : State, s.cold = true → s.pairState = 6 → s.pairing.control = true → s.boot.warning = false → s.pairing.flushed = [] →
      s.pairing.onDie = [] →
    Completes .coldTakeoverReady s fun t =>
      t.pairState = 2 ∧ t.fld .devRolestatPairpos = 1 ∧ t.raised srcPairTakeover ∧ (s.retained = true → t.fld .drcSrcmdState = 0)) ∧
  (∀ s : State, s.pairState = 4 → s.flag .pairStatResync = true → s.pairing.joined = true → s.staleAge ≤ s.fld .pairCfgStalelim →
      s.bist.holdMark = none → s.bist.running = [] → s.bist.failed = [] →
    Completes .resyncComplete s fun t =>
      t.pairState = 3 ∧ t.fld .devRolestatPairpos = 2 ∧ t.flag .pairStatResync = false ∧
        t.live (Fld.addr .pairResyncs) = s.live (Fld.addr .pairResyncs) + 1 ∧
        (s.flag .pairCfgCold = false →
          SameRegisters [Fld.addr .pairStatState, Fld.addr .devRolestatPairpos, Fld.addr .pairStaleageAge] [Fld.addr .pairResyncs] s t ∧
          SameMemories s t)) ∧
  (∀ (s : State) (port : Nat), s.standsBy = true → s.flag .pairCfgSpliten = true → port < 8 → testBit (s.fld .pairStatSplit) port = false →
      1 ≤ assocGet s.pairing.without port 0 → s.fld .pairCfgSplitwait ≤ assocGet s.pairing.without port 0 →
    Completes (.splitDriveStart port) s fun t =>
      testBit (t.fld .pairStatSplit) port = true ∧ t.raised srcPairSplitdrive ∧
        t.live (Fld.addr .pairSplits) = s.live (Fld.addr .pairSplits) + 1 ∧
        SameRegisters [Fld.addr .pairStatSplit] [Fld.addr .pairSplits] s t ∧ SameMemories s t) ∧
  (∀ (s : State) (port : Nat), port < 8 → testBit (s.fld .pairStatSplit) port = true → 16 ≤ assocGet s.pairing.withCox port 0 →
    Completes (.splitDriveEnd port) s fun t =>
      testBit (t.fld .pairStatSplit) port = false ∧ (t.raised srcPairSplitdrive ↔ t.fld .pairStatSplit ≠ 0) ∧
        SameRegisters [Fld.addr .pairStatSplit] [] s t ∧ SameMemories s t)

/-- R349 to R361, R364: FAULT_RECOGNISED, BROKEN_WIRE, BROKEN_WIRE_CLEAR, FLT_RELEASE, MASKING_WINDOW_CLOSE, FLT_LOG_CLEAR, FLT_PROOF, FLT_PROOF_SWEEP, FLT_PROOF_ABORT and PROOF_MISS. -/
def Obligations.FaultsAreRecognisedAndProved : Prop :=
  (∀ (s : State) (idx : Nat), s.flt.sampling = true → (sourceSpec idx).isSome = true → idx ∉ s.flt.ignored → s.flt.inject = none →
      s.flt.pairs.any (fun p => p.index == idx && p.taken) = false →
    Completes (.faultRecognised idx) s fun t =>
      (s.masked (idx / 32) = true →
        testBit (assocGet t.flt.secondary (idx / 32) 0) (idx % 32) = true ∧ t.sticky idx = s.sticky idx ∧
          t.live (Fld.addr .fltSecondary) = s.live (Fld.addr .fltSecondary) + 1) ∧
      (s.masked (idx / 32) = false → s.reactClass idx = 0 →
        t.sticky idx = true ∧
          t.reg (0x11100 + 8 * s.fld .fltLogstatNext) = Word.ofNat (idx + 2 ^ 16) ∧
          t.reg (0x11104 + 8 * s.fld .fltLogstatNext) = Word.ofNat s.stroke ∧
          SameRegisters [Fld.addr (.hdrSticky (idx / 32)), Fld.addr .fltLogstatNext, 0x11100 + 8 * s.fld .fltLogstatNext,
            0x11104 + 8 * s.fld .fltLogstatNext] [Fld.addr .fltEvents] s t ∧ SameMemories s t) ∧
      (s.masked (idx / 32) = false → s.reactClass idx = 2 → s.isTile = true → t.sticky idx = true ∧ t.flt.safeDark = true) ∧
      (s.masked (idx / 32) = false → idx ≠ srcFltResetloop → s.reactClass idx = 1 → s.reactBlock idx ≠ 13 → s.reactBlock idx ≠ 15 →
          s.blockInRole (s.reactBlock idx) = true → s.flt.windows.any (fun w => w.block == s.reactBlock idx) = false →
          4 ≤ (s.recentResets (s.reactBlock idx)).length →
        t.raised srcFltResetloop ∧ ∀ i, (sourceSpec i).isSome = true → s.reactBlock i = s.reactBlock idx → t.reactClass i = 0) ∧
      (s.masked (idx / 32) = false → s.reactClass idx = 1 → s.reactBlock idx ≠ 13 → s.reactBlock idx ≠ 15 →
          s.blockInRole (s.reactBlock idx) = true → s.flt.windows.any (fun w => w.block == s.reactBlock idx) = false →
          (s.recentResets (s.reactBlock idx)).length < 4 →
        t.sticky idx = true ∧ t.flt.windows = s.flt.windows ++ [⟨s.reactBlock idx, s.fld .fltCtrlMaskwin⟩] ∧
          t.live (Fld.addr .fltResets) = s.live (Fld.addr .fltResets) + 1)) ∧
  (∀ (s : State) (idx : Nat), s.flt.sampling = true → (sourceSpec idx).isSome = true → idx ∉ s.flt.ignored →
    Completes (.brokenWire idx) s fun t =>
      idx ∈ t.flt.ignored ∧ (s.reactClass idx = 0 → t.fld .fltBwidxIndex = idx % 65536 ∧ t.raised srcFltBrokenwire ∧ t.sticky idx = true ∧
        SameRegisters [Fld.addr .fltBwidxIndex, Fld.addr (.hdrSticky (idx / 32)), Fld.addr .fltLogstatNext, 0x11100 + 8 * s.fld .fltLogstatNext,
          0x11104 + 8 * s.fld .fltLogstatNext] [Fld.addr .fltEvents] s t ∧ SameMemories s t)) ∧
  (∀ (s : State) (idx : Nat),
    Completes (.brokenWireClear idx) s fun t =>
      t.flt.ignored = s.flt.ignored.filter (· != idx) ∧ SameRegisters [] [] s t ∧ SameMemories s t) ∧
  (∀ (s : State) (init : Nat), s.performs init 0x11050 →
    Completes (.fltRelease init 0xA5C3) s fun t =>
      t.answeredOk ∧ (s.darkSticky = true → t.fld .fltStatRelresult = 2 ∧ t.flt = s.flt) ∧
        (s.darkSticky = false → t.fld .fltStatRelresult = 1 ∧ t.flt.safeDark = false) ∧
        SameRegisters [Fld.addr .fltStatRelresult] [] s t ∧ SameMemories s t) ∧
  (∀ (s : State) (block : Nat), testBit s.boot.ready block = true →
    Completes (.maskingWindowClose block) s fun t =>
      t.flt.windows = s.flt.windows.filter (fun w => !(w.block == block && decide (w.left ≤ 1))) ∧ SameRegisters [] [] s t ∧ SameMemories s t) ∧
  (∀ (s : State) (init : Nat), s.performs init 0x11070 →
    Completes (.fltLogClear init) s fun t =>
      t.answeredOk ∧ t.fld .fltLogstatCount = 0 ∧ t.fld .fltLogstatNext = 0 ∧
        (∀ a, 0x11100 ≤ a → a < 0x11200 → t.reg a = regReset a) ∧
        (∀ a, a ≠ Fld.addr .fltLogstatCount → (a < 0x11100 ∨ 0x11200 ≤ a) → t.reg a = s.reg a) ∧ SameMemories s t) ∧
  (∀ (s : State) (init : Nat), s.performs init 0x11050 →
    Completes (.fltProof init) s fun t =>
      t.answeredOk ∧
        ((sourceSpec (s.fld .fltProofidxIndex)).isNone = true → t.fld .fltProofstatResult = 4 ∧ t.fld .fltProofstatIndex = s.fld .fltProofstatIndex ∧ t.flt = s.flt) ∧
        ((sourceSpec (s.fld .fltProofidxIndex)).isSome = true →
          t.fld .fltProofstatResult = 1 ∧ t.fld .fltProofstatIndex = s.fld .fltProofidxIndex ∧ t.flag .fltProofstatRealcoinc = false ∧ t.flt.inject = some (s.fld .fltProofidxIndex, 0)) ∧
        SameRegisters [Fld.addr .fltProofstatResult] [] s t ∧ SameMemories s t) ∧
  (∀ (s : State) (init : Nat), s.performs init 0x11050 →
    Completes (.fltProofSweep init) s fun t =>
      t.answeredOk ∧ t.flt.inject = some (allSources.headD 0, 0) ∧ t.flt.sweep = some (allSources.drop 1, 100) ∧
        t.fld .fltProofstatResult = 1 ∧ SameRegisters [Fld.addr .fltProofstatResult] [] s t ∧ SameMemories s t) ∧
  (∀ (s : State) (init : Nat), s.performs init 0x11050 →
    Completes (.fltProofAbort init) s fun t =>
      t.answeredOk ∧ t.flt.sweep = none ∧ t.flt.inject = s.flt.inject ∧ SameRegisters [] [] s t ∧ SameMemories s t) ∧
  (∀ (s : State) (x : Nat × Nat), s.flt.inject = some x →
    Completes .proofMiss s fun t =>
      t.flt.inject = none ∧ t.flt.sweep = none ∧ t.fld .fltProofstatResult = 3 ∧ t.raised srcFltProofmiss ∧
        SameRegisters [Fld.addr .fltProofstatResult] [] s t ∧ SameMemories s t)

/-- R367 to R374: THS_SAMPLE, THS_THRCFG_WRITE and THERMAL_SHUTDOWN. -/
def Obligations.ThermalSamplesThrottleAndShutDown : Prop :=
  (∀ (s : State) (sensors : List Int) (vNum vDen : Nat), s.ths.shutdown = false → s.restarting = false → s.boot.inReset = false →
    Completes (.thsSample sensors vNum vDen) s fun t =>
      t.ths.uptimeMs = s.ths.uptimeMs + 1 ∧
        (∀ i, i < 8 → t.fld (.thsSensorT i) = unsigned 16 (sensors.getD i 0 -
          (if i % 2 = 0 then s.sfld (.calTsofsLo (i / 2)) else s.sfld (.calTsofsHi (i / 2))))) ∧
        ((s.isTile = false ∨ s.flag .thsThrcfgEn = false) → t.fld .thsThrstatStep = 0) ∧
        (s.isTile = true → s.flag .thsThrcfgEn = true → t.validSensors.length < 4 → t.fld .thsThrstatStep = s.fld .thsThrcfgNsteps) ∧
        (s.isTile = true → s.flag .thsThrcfgEn = true → 4 ≤ t.validSensors.length →
          t.fld .thsThrstatStep ≤ s.fld .thsThrstatStep + 1 ∧ s.fld .thsThrstatStep ≤ t.fld .thsThrstatStep + 1) ∧
        (∀ a, a / 4096 ≠ 0x10 →
          (t.sfld .thsTjmaxTj - s.cal.lastTj).natAbs < 32 ∨ s.isTile = false ∨ a / 4096 / 8 ≠ 0x2C → t.reg a = s.reg a) ∧
        ∀ a, memByte t.dram.mem a = memByte s.dram.mem a) ∧
  (∀ (s : State) (sensors : List Int) (vNum vDen : Nat), s.ths.shutdown = true →
    Completes (.thsSample sensors vNum vDen) s fun t =>
      t.ths.uptimeMs = s.ths.uptimeMs + 1 ∧
        t.ths.coolRun = (if sensors.all (fun r => decide (r < 1760)) = true then s.ths.coolRun + 1 else 0) ∧
        SameRegisters [] [] s t ∧ SameMemories s t) ∧
  (∀ (s : State) (init : Nat) (data : Word), s.performs init 0x1004C →
    Completes (.thsThrcfgWrite init data) s fun t =>
      t.answeredOk ∧ t.reg 0x1004C = (s.store 0x1004C data).reg 0x1004C ∧
        ((s.isTile = false ∨ t.flag .thsThrcfgEn = false) → t.fld .thsThrstatStep = 0) ∧
        (s.isTile = true → t.flag .thsThrcfgEn = true →
          t.fld .thsThrstatStep = min (t.fld .thsThrcfgNsteps) (s.fld .thsThrstatStep)) ∧
        SameRegisters [0x1004C, Fld.addr .thsThrstatStep, Fld.addr .thsNvqQueued]
          [Fld.addr .thsThrup, Fld.addr .thsThrdown, Fld.addr .thsNvlost] s t ∧
        ∀ a, memByte t.dram.mem a = memByte s.dram.mem a) ∧
  (∀ s : State, s.ths.shutdown = false → 8 ≤ s.ths.hotRun →
    Completes .thermalShutdown s fun t =>
      t.ths.shutdown = true ∧ t.boot.inReset = true ∧ t.shutPend = true ∧ t.dram.mem = [] ∧
        t.fld .devRstcauseCause = s.fld .devRstcauseCause ∧
        (∀ a, a ≠ 0x74 → a ≠ Fld.addr .devProfstatPins → (∀ b ∈ s.cmp.builds, a ≠ Fld.addr (.undStatState b.view)) → t.reg a = regReset a) ∧
        ∀ a, memByte t.boot.flash a = memByte s.boot.flash a) ∧
  (∀ s : State, s.ths.hotRun < 8 → Completes .thermalShutdown s fun t => SameRegisters [] [] s t ∧ SameMemories s t)

/-- R383 to R385, R388, R391 to R393: BIST_RUN_GROUPS, BIST_RUN_ALL, BIST_ABORT, BIST_CLEAR_SOFT, BIST_BURN_FUSES, BIST_GROUP_START and BIST_GROUP_DONE. -/
def Obligations.SelfTestsRunAndRepair : Prop :=
  (∀ (s : State) (init : Nat), s.reaches init 0x13044 = true →
    Completes (.bistRunGroups init 0xA5C3) s (fun t =>
      (s.testReason true s.maskGroups 0xA5C3 = 0 →
        t.answeredOk ∧ t.bist.waiting = s.maskGroups ∧ t.fld .bstStatResult = (if s.maskGroups = [] then 2 else 1) ∧
          t.fld .bstStatReason = 0 ∧ ∀ g ∈ s.maskGroups, t.fld (.bstGroupResult g) = 6) ∧
      (s.testReason true s.maskGroups 0xA5C3 ≠ 0 →
        t.reply = some ⟨if s.testReason true s.maskGroups 0xA5C3 ≤ 3 then 1 else 0, if s.testReason true s.maskGroups 0xA5C3 ≤ 3 then 0 else 1, []⟩ ∧
          t.fld .bstStatResult = 3 ∧ t.fld .bstStatReason = s.testReason true s.maskGroups 0xA5C3 ∧ t.bist = s.bist ∧
          SameRegisters [Fld.addr .bstStatResult, Fld.addr .pairJseq, Fld.addr (.chpStatEidle 7)] [Fld.addr (.chpCellstx 7)] s t) ∧ SameMemories s t) ∧
    Completes (.bistRunAll init 0xA5C3) s (fun t =>
      s.testReason false (s.roleGroups.filter (fun g => !groupStartOnly g)) 0xA5C3 = 0 →
        t.answeredOk ∧ t.bist.waiting = s.roleGroups.filter (fun g => !groupStartOnly g) ∧ t.fld .bstStatReason = 0 ∧
          (∀ g ∈ t.bist.waiting, t.fld (.bstGroupResult g) = 6) ∧ SameMemories s t)) ∧
  (∀ (s : State) (init : Nat), s.performs init 0x13044 →
    Completes (.bistAbort init 0xA5C3) s fun t =>
      t.answeredOk ∧ t.bist.running = [] ∧ t.bist.waiting = [] ∧ t.fld .bstStatResult = 2 ∧ t.fld .bstStatReason = 0 ∧
        (s.bist.running = [] →
          SameRegisters (Fld.addr .bstStatResult :: s.bist.waiting.map (fun g => Fld.addr (.bstGroupResult g))) [] s t ∧ SameMemories s t)) ∧
  (∀ (s : State) (init : Nat), s.performs init 0x13044 → s.boot.warning = false → (s.lcs = 1 ∨ s.lcs = 2 ∨ s.lcs = 4) →
    Completes (.bistClearSoft init 0xA5C3) s fun t =>
      t.answeredOk ∧ t.softEntries = [] ∧ t.failMask = 0 ∧ t.bist = s.bist ∧ t.fld .bstStatResult = 2 ∧
        SameRegisters [Fld.addr .bstStatResult] [] s t) ∧
  (∀ (s : State) (init : Nat), s.performs init 0x13044 → s.lcs = 1 →
    Completes (.bistBurnFuses init 0xA5C3) s fun t =>
      t.answeredOk ∧ t.bist.fuses = s.bist.fuses ++ s.softEntries.take (64 - s.bist.fuses.length) ∧ t.fld .bstStatResult = 2 ∧
        t.fld .bstStatReason = 0 ∧
        (s.boot.warning = false → t.softEntries = s.softEntries.drop (64 - s.bist.fuses.length) ∧ SameRegisters [Fld.addr .bstStatResult] [] s t)) ∧
  (∀ (s : State) (g : Nat) (gs : List Nat), s.bist.waiting = g :: gs → g < 23 → s.bist.running.length < 4 → s.boot.warning = false →
      s.bist.parked = false → s.sfld .thsTjmaxTj < s.threshold 1 →
    Completes .bistGroupStart s fun t =>
      g ∈ t.bist.running ∧ t.bist.waiting = (g :: gs).filter (· != g) ∧ t.fld (.bstGroupResult g) = 5 ∧
        t.fld .bstStatRunning = s.bist.running.length + 1 ∧ testBit t.boot.testing (groupBlock g) = true) ∧
  (∀ (s : State) (g : Nat) (gs : List Nat), s.bist.waiting = g :: gs → s.bist.running.length < 4 → s.boot.warning = false →
      s.bist.parked = false → s.threshold 1 ≤ s.sfld .thsTjmaxTj → g ∉ s.bist.deferred →
    Completes .bistGroupStart s fun t =>
      t.bist.waiting = g :: gs ∧ t.bist.running = s.bist.running ∧ t.live (Fld.addr .bstDeferred) = s.live (Fld.addr .bstDeferred) + 1 ∧
        SameRegisters [Fld.addr (.bstGroupResult g)] [Fld.addr .bstDeferred] s t ∧ SameMemories s t) ∧
  (∀ (s : State) (g : Nat) (retestOk : Bool), s.bist.running.contains g = true → g < 23 →
    Completes (.bistGroupDone g [] retestOk) s fun t =>
      g ∉ t.bist.running ∧ t.fld (.bstGroupResult g) = 1 ∧ t.bist.soft = s.bist.soft ∧
        t.live (Fld.addr .bstRuns) = s.live (Fld.addr .bstRuns) + 1) ∧
  (∀ (s : State) (g : Nat) (faults : List BistFault) (es : List Repair), s.bist.running.contains g = true → g < 23 → faults ≠ [] →
      allotSpares s.repairs g faults.eraseDups = some es →
    Completes (.bistGroupDone g faults true) s fun t =>
      g ∉ t.bist.running ∧ t.fld (.bstGroupResult g) = 2 ∧ t.bist.soft = s.bist.soft ++ es) ∧
  (∀ (s : State) (g : Nat) (faults : List BistFault) (retestOk : Bool), s.bist.running.contains g = true → g < 23 → faults ≠ [] →
      allotSpares s.repairs g faults.eraseDups = none →
    Completes (.bistGroupDone g faults retestOk) s fun t =>
      g ∉ t.bist.running ∧ t.fld (.bstGroupResult g) = 3 ∧ t.bist.soft = s.bist.soft ∧ g ∈ t.bist.failed ∧
        testBit t.boot.ready (groupBlock g) = false ∧ t.raised srcDevBistfail)

/-- R396 to R400: LCS_TRANSITION and KEY_ENROL. -/
def Obligations.LifeCycleMovesOnAuthority : Prop :=
  (∀ (s : State) (init target key : Nat), s.reaches init 0xE00044 = true → target < 8 → key < 65536 → s.lcsRefusal init target key ≠ 0 →
    Completes (.lcsTransition init target key) s fun t =>
      t.answeredOk ∧ t.fld .lcsResultResult = s.lcsRefusal init target key ∧
        t.fld .lcsResultFails = min 65535 (s.fld .lcsResultFails + 1) ∧ t.raised srcDevLcdenied ∧ t.life.blown = s.life.blown ∧
        t.life.target = s.life.target ∧
        SameRegisters [Fld.addr .lcsResultResult, Fld.addr .pairJseq, Fld.addr (.chpStatEidle 7)] [Fld.addr (.chpCellstx 7)] s t ∧ SameMemories s t) ∧
  (∀ (s : State) (init target key : Nat), s.performs init 0xE00044 → target < 8 → key < 65536 → s.lcsRefusal init target key = 0 →
      s.boot.warning = false →
    Completes (.lcsTransition init target key) s fun t =>
      t.answeredOk ∧ FullyReset .swFull s t ∧ t.boot.inReset = false ∧ t.life.blown = stateCopies target ∧ t.lcs = target ∧ t.life.target = some target ∧
        t.life.erasePend = (target == 4 || target == 5)) ∧
  (∀ (s : State) (init target key : Nat), s.performs init 0xE00044 → target < 8 → key < 65536 → s.lcsRefusal init target key = 0 →
      s.boot.warning = true →
    Completes (.lcsTransition init target key) s fun t =>
      t.answeredOk ∧ t.fld .lcsResultResult = 1 ∧ t.fld .lcsStatePending = target ∧ t.life.target = some target ∧
        t.life.blown = s.life.blown ∧ t.lcs = s.lcs ∧
        SameRegisters [Fld.addr .lcsResultResult, Fld.addr .lcsStateState, Fld.addr .devModestatLcs, Fld.addr .keyStatEnrolled] [] s t ∧ SameMemories s t) ∧
  (∀ (s : State) (init key : Nat), s.performs init 0xE01040 → key < 65536 →
    Completes (.keyEnrol init key) s fun t =>
      t.answeredOk ∧ SameMemories s t ∧
      (s.enrolRefusal key = 0 →
        t.fld .keyStatResult = 2 ∧ t.flag .keyStatEnrolled = true ∧ t.life.keyValid = true ∧ t.life.keyFuses = pubBytes s.life.pub ∧
          SameRegisters [Fld.addr .keyStatResult, Fld.addr .lcsStateState, Fld.addr .devModestatLcs] [] s t) ∧
      (s.enrolRefusal key ≠ 0 →
        t.fld .keyStatResult = s.enrolRefusal key ∧ t.life = s.life ∧ t.raised srcDevLcdenied ∧
          SameRegisters [Fld.addr .keyStatResult] [] s t))

/-- R410 to R413, R419: UPD_XFER_OPEN, STAGE_SECTOR_PROGRAMMED, UPD_VERIFY, STAGE_VERIFY_DONE, SECTOR_COPY, UPD_DISCARD and UPD_DISTRIBUTE. -/
def Obligations.UpdatesAreStagedAndVerified : Prop :=
  (∀ (s : State) (init : Nat) (data : Word), s.performs init 0x14050 → data.toNat / 65536 % 4 = 2 → s.upd.xfer = none →
      s.fld .updXferlenLength ≤ 67108864 →
    Completes (.updXferOpen init data) s fun t =>
      t.answeredOk ∧
      ((s.fld .updStatState < 2 ∨ s.fld .updStatState = 5 ∨ s.fld .updStatState = 6 ∨ s.fld .updStatState = 9) →
        t.fld .updStatState = 1 ∧ t.upd.image = none ∧ t.upd.programmed = [] ∧
          t.upd.xfer = some ⟨data.toNat % 65536, 2, s.fld .updXferlenLength, testBit data.toNat 18, [], false⟩) ∧
      ((s.fld .updStatState = 3 ∨ s.fld .updStatState = 4 ∨ s.fld .updStatState = 7 ∨ s.fld .updStatState = 8) →
        t.fld .updStatResult = 3 ∧ t.fld .updStatErr = 13 ∧ t.upd = s.upd ∧ SameRegisters [Fld.addr .updStatResult] [] s t ∧
          SameMemories s t)) ∧
  (∀ (s : State) (n o len : Nat) (x : UpdXfer), s.upd.xfer = some x → s.upd.image = some (o, len) → s.boot.warning = false → x.kind = 2 →
      n < sectorsOf len → n ∉ s.upd.programmed → x.present (o + sectorSize * n) (min (o + sectorSize * n + sectorSize) (o + len)) = true →
      (s.fld .updStatState = 1 ∨ s.fld .updStatState = 2) →
    Completes (.stageSectorProgrammed n true) s (fun t =>
      t.upd.programmed = s.upd.programmed ++ [n] ∧ t.fld .updStatState = 2 ∧
        memRead t.boot.flash (imageBase 2 + sectorSize * n) (min (o + sectorSize * n + sectorSize) (o + len) - (o + sectorSize * n)) =
          memRead s.dram.mem (s.updStage 2 + (o + sectorSize * n))
            (min (o + sectorSize * n + sectorSize) (o + len) - (o + sectorSize * n))) ∧
    Completes (.stageSectorProgrammed n false) s (fun t =>
      t.upd.programmed = [] ∧ t.fld .updStatState = 0 ∧ t.fld .updStatErr = 10 ∧ t.raised srcDevUpdfail ∧ SameMemories s t)) ∧
  (∀ (s : State) (init key : Nat), s.performs init 0x14048 → (s.fld .updStatState = 1 ∨ s.fld .updStatState = 2) →
      s.flag .updMissingValue = false →
    Completes (.updVerify init key) s fun t =>
      t.answeredOk ∧ (s.stageComplete = true → t.fld .updStatState = 3 ∧ t.fld .updStatResult = 1 ∧ t.fld .updStatErr = 0) ∧
        (s.stageComplete = false → t.fld .updStatState = s.fld .updStatState ∧ t.fld .updStatResult = 3 ∧ t.fld .updStatErr = 11 ∧
          SameRegisters [Fld.addr .updStatResult] [] s t ∧ SameMemories s t)) ∧
  (∀ s : State, s.fld .updStatState = 3 →
    Completes .stageVerifyDone s fun t =>
      let e := s.imageErr (s.flashImage 2) s.role (some s.runVersion)
      (e ≠ 0 → t.fld .updStatErr = e ∧ t.fld .updStatResult = 3 ∧ t.upd.programmed = [] ∧ t.raised srcDevUpdfail ∧
        t.fld .updStatState = (if s.upd.record.state = 9 then 9 else 0)) ∧
      (e = 0 → s.keepCurrent = true → t.fld .updStatState = 5 ∧ t.fld .updStatResult = 2 ∧ t.upd.record.state = 5 ∧
        t.fld .updStagever = (s.flashImage 2).num 0x10 4) ∧
      (e = 0 → s.keepCurrent = false → s.imageErr (s.flashImage 1) s.role none = 0 → t.fld .updStatState = 4 ∧ t.upd.record.jop = 1 ∧
        t.upd.record.jnext = 0)) ∧
  (∀ s : State, s.upd.record.jop ≠ 0 → s.boot.warning = false → s.upd.record.jnext + 1 < s.upd.record.jtotal → s.upd.record.jnext < 256 →
    Completes (.sectorCopy true) s (fun t =>
      t.upd.record.jnext = s.upd.record.jnext + 1 ∧ t.upd.record.jop = s.upd.record.jop ∧
        memRead t.boot.flash (imageBase (copyEnds s.upd.record.jop).2 + sectorSize * s.upd.record.jnext) sectorSize =
          memRead s.boot.flash (imageBase (copyEnds s.upd.record.jop).1 + sectorSize * s.upd.record.jnext) sectorSize) ∧
    Completes (.sectorCopy false) s (fun t =>
      t.upd = s.upd ∧ t.fld .updStatErr = 10 ∧ t.raised srcDevUpdfail ∧ SameMemories s t)) ∧
  (∀ s : State, s.upd.record.jop ≠ 0 → s.boot.warning = false → s.upd.record.jtotal ≤ s.upd.record.jnext →
    Completes (.sectorCopy true) s fun t =>
      let e := s.imageErr (s.flashImage (copyEnds s.upd.record.jop).2) s.role none
      (e ≠ 0 → t.fld .updStatErr = e ∧ t.upd.record.jnext = 0 ∧ t.upd.record.jop = s.upd.record.jop ∧ t.raised srcDevUpdfail) ∧
      (e = 0 → s.upd.record.jop = 1 → t.fld .updStatState = 5 ∧ t.upd.record.jop = 0 ∧
        t.upd.record.keepVer = (s.flashImage 3).num 0x10 4) ∧
      (e = 0 → s.upd.record.jop = 2 → t.fld .updStatState = 0 ∧ t.upd.record.jop = 0 ∧
        t.upd.record.activeVer = (s.flashImage 1).num 0x10 4)) ∧
  (∀ (s : State) (init : Nat), s.performs init 0x14048 →
    Completes (.updDiscard init 0xA5C3) s fun t =>
      t.answeredOk ∧
      ((s.fld .updStatState = 7 ∨ s.fld .updStatState = 8) → t.fld .updStatResult = 3 ∧ t.fld .updStatErr = 13 ∧ t.upd = s.upd) ∧
      (s.fld .updStatState ≠ 0 → s.fld .updStatState < 7 → t.fld .updStatResult = 2 ∧ t.upd.programmed = [] ∧ t.upd.image = none ∧
        t.fld .updStatState = (if s.upd.record.state = 9 then 9 else 0))) ∧
  (∀ (s : State) (init : Nat) (x : UpdXfer) (d : DistTile) (ds : List DistTile), s.performs init 0x14048 → s.drives = true →
      s.upd.dist = none → s.flag .updDistselKind3 = true → s.upd.xfer = some x → x.kind = 3 → s.flag .updMissingValue = false →
      (s.servicePorts.filter (fun n => testBit (s.fld .updDistselPorts) n)).flatMap (fun n =>
        ((List.range 64).filter (fun p => s.flag (.chpEnumrec3Valid n p))).map (fun p => (⟨n, p, 0, 0⟩ : DistTile))) = d :: ds →
    Completes (.updDistribute init 0xA5C3) s fun t =>
      t.answeredOk ∧ t.fld .updStatResult = 1 ∧
        ∃ y, t.upd.dist = some y ∧ y.kind3 = true ∧ y.opening = d :: ds ∧
          y.data = memRead s.dram.mem (s.updStage 3) (s.fld .updXferlenLength)) ∧
  (∀ (s : State) (init : Nat), s.performs init 0x14048 → s.drives = false →
    Completes (.updDistribute init 0xA5C3) s fun t =>
      t.answeredOk ∧ t.fld .updStatResult = 3 ∧ t.fld .updStatErr = 13 ∧ t.upd = s.upd ∧
        SameRegisters [Fld.addr .updStatResult] [] s t ∧ SameMemories s t)

/-- R414, R415, R418, R423: UPD_ARM, PRIOR_COPY_DONE, UPD_DISARM, REGATTA_ACTIVATE, UPD_CONFIRM, AUTOCONF_EXPIRY, UPD_REJECT, UPD_STORE_SETTINGS and UPD_APPLY_SETTINGS. -/
def Obligations.UpdatesAreArmedAndTried : Prop :=
  (∀ (s : State) (init : Nat), s.performs init 0x14048 →
    Completes (.updArm init 0xA5C3) s fun t =>
      t.answeredOk ∧ SameRegisters [Fld.addr .updStatResult] [] s t ∧ SameMemories s t ∧
      (s.fld .updStatState ≠ 5 → t.fld .updStatErr = 13 ∧ t.upd = s.upd) ∧
      (s.fld .updStatState = 5 →
        (strokeAfter (s.fld .updRegstroke) s.stroke = false ∨ s.untilBoundary (s.fld .updRegstroke) < 10 ^ 9) →
        t.fld .updStatErr = 14 ∧ t.upd = s.upd) ∧
      (s.fld .updStatState = 5 → strokeAfter (s.fld .updRegstroke) s.stroke = true → 10 ^ 9 ≤ s.untilBoundary (s.fld .updRegstroke) →
        t.upd.arming = true ∧ t.fld .updStatResult = 1 ∧ t.fld .updStatErr = 0)) ∧
  (∀ s : State, s.upd.arming = true →
    Completes .priorCopyDone s fun t =>
      t.upd.arming = false ∧ t.fld .updStatState = 6 ∧ t.upd.record.state = 6 ∧ t.fld .updStatResult = 2) ∧
  (∀ (s : State) (init key : Nat), s.performs init 0x14048 →
    Completes (.updDisarm init key) s fun t =>
      t.answeredOk ∧
      (s.fld .updStatState = 6 → t.fld .updStatState = 5 ∧ t.upd.record.state = 5 ∧ t.fld .updStatResult = 2) ∧
      (s.fld .updStatState ≠ 6 → t.upd.arming = false ∧ t.upd.record = s.upd.record ∧
        t.fld .updStatResult = (if s.upd.arming = true then 2 else 3))) ∧
  (∀ s : State, s.fld .updStatState = 6 → strokeAtOrAfter (if s.isSender then s.access.prepared else s.stroke) (s.fld .updRegstroke) = true →
      s.boot.warning = false → s.life.target = none → s.pairState ≠ 6 → s.pairing.crew = none → s.boot.inReset = false →
      s.ths.shutdown = false → (s.boot.warmTimes.filter (fun t => decide (s.since t < 60 * 10 ^ 9))).length < 3 →
    Completes .regattaActivate s fun t =>
      t.upd.record.state = 7 ∧ t.upd.record.trials = 0 ∧ t.boot.switch = none ∧ t.upd.deferring = false ∧ WarmlyRestarted .regatta s t) ∧
  (∀ s : State, s.fld .updStatState = 6 → strokeAtOrAfter (if s.isSender then s.access.prepared else s.stroke) (s.fld .updRegstroke) = true →
      s.boot.warning = true ∨ s.life.target ≠ none ∨ s.pairState = 6 ∨ s.pairing.crew ≠ none →
    Completes .regattaActivate s fun t =>
      t.upd.deferring = true ∧
        t.live (Fld.addr .updDeferred) = s.live (Fld.addr .updDeferred) + (if s.upd.deferring = true then 0 else 1) ∧ SameRegisters [] [Fld.addr .updDeferred] s t ∧
        SameMemories s t) ∧
  (∀ (s : State) (init : Nat), s.performs init 0x14048 →
    Completes (.updConfirm init 0xA5C3) s fun t =>
      t.answeredOk ∧
      (s.fld .updStatState = 7 → t.fld .updStatState = 8 ∧ t.fld .updStatResult = 1 ∧ t.upd.record.state = 8 ∧ t.upd.record.jop = 2 ∧
        t.upd.record.jnext = 0) ∧
      (s.fld .updStatState ≠ 7 → t.fld .updStatResult = 3 ∧ t.fld .updStatErr = 13 ∧ t.upd = s.upd)) ∧
  (∀ s : State, s.flag .updCtrlAutoconf = true → s.fld .updStatState = 7 → s.fld .devBootstatStage = 7 →
    Completes .autoconfExpiry s fun t =>
      t.fld .updStatState = 8 ∧ t.fld .updStatResult = 1 ∧ t.upd.record.state = 8 ∧ t.upd.record.jop = 2 ∧ t.upd.record.jnext = 0) ∧
  (∀ (s : State) (init : Nat), s.performs init 0x14048 → s.fld .updStatState = 7 → s.boot.warning = false →
      (s.boot.warmTimes.filter (fun t => decide (s.since t < 60 * 10 ^ 9))).length < 3 →
    Completes (.updReject init 0xA5C3) s fun t =>
      t.answeredOk ∧ t.upd.record.trials = 3 ∧ WarmlyRestarted .swWarm s t) ∧
  (∀ (s : State) (init : Nat) (x : UpdXfer) (l : List (Nat × List Word)),
      let r : TableFile := ⟨s.dram.mem, s.updStage 3⟩
      s.performs init 0x14048 → s.fld .updStatState ≠ 6 → s.upd.xfer = some x → x.kind = 3 → s.flag .updMissingValue = false →
      settingsOk r s.role = true → r.num 8 4 = x.len → r.num 4 1 = s.setFmt → s.settingsRecords r = some l →
    Completes (.updStoreSettings init 0xA5C3) s (fun t =>
      t.answeredOk ∧ t.fld .updStatResult = 2 ∧ t.boot.flash = (s.storeSettings false (settingsBytes r) none none).boot.flash) ∧
    Completes (.updApplySettings init 0xA5C3) s (fun t =>
      t.answeredOk ∧
        let u := ({ s with sent := [], reply := none } : State).storeSettings false (settingsBytes r) none none
        t.regs = ((u.updResult 2 0).applyRecords l).regs ∧ t.boot.flash = ((u.updResult 2 0).applyRecords l).boot.flash ∧
        (l = [] → t.fld .updStatResult = 2 ∧ t.fld .updStatErr = 0 ∧
          SameRegisters [Fld.addr .updStatResult, Fld.addr .thsNvqQueued] [Fld.addr .thsNvlost] s t))) ∧
  (∀ (s : State) (init : Nat) (x : UpdXfer), s.performs init 0x14048 → s.fld .updStatState ≠ 6 → s.upd.xfer = some x → x.kind = 3 →
      s.flag .updMissingValue = false → settingsOk ⟨s.dram.mem, s.updStage 3⟩ s.role = false →
    Completes (.updStoreSettings init 0xA5C3) s (fun t =>
      t.answeredOk ∧ t.fld .updStatErr = 15 ∧ t.upd = s.upd ∧ SameRegisters [Fld.addr .updStatResult] [] s t ∧ SameMemories s t) ∧
    Completes (.updApplySettings init 0xA5C3) s (fun t =>
      t.answeredOk ∧ t.fld .updStatErr = 15 ∧ t.upd = s.upd ∧ SameRegisters [Fld.addr .updStatResult] [] s t ∧ SameMemories s t))
end

