-- ==== Sys2Proof/Machine/Line.lean ====
section
/-!
DEFINITION. The line coding of KorovLink (spec/07, R182 to R188): the bits of a cell between two lane PHYs. The cells of this model come and
go as their fields; these functions compute the bits that such a cell occupies on a lane, which no register of the device shows.

A lane's bits are a list of booleans, first sent first. Multi-bit fields are sent most significant bit first (R9).
-/

namespace Sys2Proof.Machine

/-- The fields of a cell's header (R188). -/
structure CellHeader where
  kind : Nat
  alt : Bool
  bcast : Bool
  pos : Nat
  sub : Nat
  index : Nat
  deriving DecidableEq, Repr

/-- The 32 bits of a header as a number (R188). -/
def CellHeader.word (h : CellHeader) : Nat :=
  h.kind % 16 * 2 ^ 28 + bit h.alt * 2 ^ 27 + bit h.bcast * 2 ^ 26 + h.pos % 64 * 2 ^ 20 + h.sub % 16 * 2 ^ 16 + h.index % 65536

/-- The low `n` bits of a number, most significant first (R9). -/
def Line.bits : Nat → Nat → List Bool
  | 0, _ => []
  | n + 1, w => testBit w n :: Line.bits n w

/-- The bits of bytes in the order in which they are sent (R9). -/
def Line.ofBytes (l : List Byte) : List Bool := l.flatMap (fun b => Line.bits 8 b.toNat)

/-- The comma: 12 ones followed by 12 zeros (R186, R187). -/
def Line.comma : List Bool := List.replicate 12 true ++ List.replicate 12 false

/-! ### Scrambling (R182) -/

/-- Seed A, loaded after the last bit of each comma (R182). -/
def Line.seedA : Nat := 0x7FFFFF

/-- Seed B, loaded before the first payload bit of a cell with ALT (R182). -/
def Line.seedB : Nat := 0x555555

/-- The bit o of the scrambler state s: s[22] xor s[17] (R182). -/
def Line.out (s : Nat) : Bool := testBit s 22 ^^ testBit s 17

/-- The scrambler state after one bit: s shifted up with o below, in 23 bits (R182). -/
def Line.next (s : Nat) : Nat := (2 * s + bit (Line.out s)) % 2 ^ 23

/-- The scrambler state after `n` bits. -/
def Line.after : Nat → Nat → Nat
  | 0, s => s
  | n + 1, s => Line.after n (Line.next s)

/-- Data bits scrambled from a state: each xor o (R182). -/
def Line.scramble : Nat → List Bool → List Bool
  | _, [] => []
  | s, b :: bs => (b ^^ Line.out s) :: Line.scramble (Line.next s) bs

/-- The header and the bits that follow it, scrambled from seed A, and from the first payload bit on from seed B with ALT (R182). -/
def Line.scrambled (alt : Bool) (head rest : List Bool) : List Bool :=
  Line.scramble Line.seedA head ++ Line.scramble (if alt then Line.seedB else Line.after head.length Line.seedA) rest

/-! ### Stuffing (R183) -/

/-- Bits with stuffing (R183, Transmit): `last` is the bit sent last and `run` how many in a row equal it. Where seven equal bits stand sent and
the next would equal them, one of the opposite value goes first; it is the first bit of the run that follows it. -/
def Line.stuff : Bool → Nat → List Bool → List Bool
  | _, _, [] => []
  | last, run, b :: bs =>
    if b == last then
      if 7 ≤ run then (!b) :: b :: Line.stuff b 1 bs else b :: Line.stuff b (run + 1) bs
    else b :: Line.stuff b 1 bs

/-- Bits without their stuffing (R183, Receive): the bit after any seven identical bits is removed; none where that bit equals them, which is a
framing error. -/
def Line.unstuff : Bool → Nat → List Bool → Option (List Bool)
  | _, _, [] => some []
  | last, run, b :: bs =>
    if 7 ≤ run then (if b == last then none else Line.unstuff b 1 bs)
    else (Line.unstuff b (if b == last then run + 1 else 1) bs).map (b :: ·)

/-- The bits of a cell after its comma, whose twelve zeros count as a run (R183). -/
def Line.body (alt : Bool) (head rest : List Bool) : List Bool := Line.stuff false 12 (Line.scrambled alt head rest)

/-! ### Cells (R184, R185, R187) -/

/-- The payload and the CRC of a cell, the CRC over header and payload before scrambling (R187). -/
def Line.rest (h : CellHeader) (payload : List Byte) : List Bool :=
  let head := [Word.ofNat (h.word / 2 ^ 24), Word.ofNat (h.word / 2 ^ 16), Word.ofNat (h.word / 2 ^ 8), Word.ofNat h.word].map (·.setWidth 8)
  Line.ofBytes payload ++ Line.bits 32 (crc32 (head ++ payload)).toNat

/-- ALT of a cell that a transmitter originates or alters (R184): clear when the cell, scrambled from seed A alone, needs at most 139 stuffed
bits. -/
def Line.alt (h : CellHeader) (payload : List Byte) : Bool :=
  let h := { h with alt := false }
  let head := Line.bits 32 h.word
  let rest := Line.rest h payload
  decide (139 < (Line.body false head rest).length - (head.length + rest.length))

/-- The line bits of a cell that a transmitter originates or alters: comma, header, payload and CRC (R184, R187). -/
def Line.cell (h : CellHeader) (payload : List Byte) : List Bool :=
  let h := { h with alt := Line.alt h payload }
  Line.comma ++ Line.body h.alt (Line.bits 32 h.word) (Line.rest h payload)

/-- Pad of `n` bits after a bit: alternating, beginning with its complement (R185). -/
def Line.pad : Nat → Bool → List Bool
  | 0, _ => []
  | n + 1, last => (!last) :: Line.pad n (!last)

/-- The search of a receiver out of alignment: the bits that follow the first comma (R186). -/
def Line.search : List Bool → Option (List Bool)
  | [] => none
  | b :: bs => if (b :: bs).take 24 == Line.comma then some ((b :: bs).drop 24) else Line.search bs

end Sys2Proof.Machine
end

