-- ==== Sys2Proof/Laws/Line.lean ====
section
/-!
SUPPORT. Lemmas about the line coding: scrambling undoes itself and keeps the length, and what follows a comma is found.
-/

namespace Sys2Proof.Machine

@[simp] theorem Line.scramble_length (s : Nat) (l : List Bool) : (Line.scramble s l).length = l.length := by
  induction l generalizing s with
  | nil => rfl
  | cons b bs ih => simp [Line.scramble, ih]

/-- The receiver's descrambler is the scrambler itself (R182). -/
@[simp] theorem Line.scramble_scramble (s : Nat) (l : List Bool) : Line.scramble s (Line.scramble s l) = l := by
  induction l generalizing s with
  | nil => rfl
  | cons b bs ih => simp [Line.scramble, ih]

@[simp] theorem Line.bits_length (n w : Nat) : (Line.bits n w).length = n := by
  induction n with
  | zero => rfl
  | succ n ih => simp [Line.bits, ih]

/-- A receiver that starts at a comma finds what follows it (R186). -/
theorem Line.search_comma (l : List Bool) : Line.search (Line.comma ++ l) = some l := by
  simp [Line.search, Line.comma, List.replicate]

end Sys2Proof.Machine
end

