-- ==== Sys2Proof/Laws/Sparse.lean ====
section
/-!
SUPPORT. Laws of the sparse maps: a read after a write, the other keys, and the canonical form that every operation keeps.
-/

namespace Sys2Proof.Machine

variable {β : Type}

@[simp] theorem sparseGet_erase_self (d : Nat → β) (m : List (Nat × β)) (k : Nat) : sparseGet d (sparseErase k m) k = d k := by
  induction m with
  | nil => rfl
  | cons e m ih =>
    obtain ⟨a, v⟩ := e
    by_cases h : a = k <;> simp [sparseErase, sparseGet, h, ih]

theorem sparseGet_erase_ne (d : Nat → β) (m : List (Nat × β)) {k j : Nat} (hj : j ≠ k) :
    sparseGet d (sparseErase k m) j = sparseGet d m j := by
  induction m with
  | nil => rfl
  | cons e m ih =>
    obtain ⟨a, v⟩ := e
    by_cases h : a = k
    · subst h; simp [sparseErase, sparseGet, ih, Ne.symm hj]
    · by_cases h2 : a = j
      · simp [sparseErase, sparseGet, h2, hj]
      · simp [sparseErase, sparseGet, h, h2, ih]

theorem sparseGet_insert_ne (d : Nat → β) (m : List (Nat × β)) {k j : Nat} (v : β) (hj : j ≠ k) :
    sparseGet d (sparseInsert k v m) j = sparseGet d m j := by
  induction m with
  | nil => simp [sparseInsert, sparseGet, Ne.symm hj]
  | cons e m ih =>
    obtain ⟨a, x⟩ := e
    by_cases h : k < a <;> simp [sparseInsert, sparseGet, h, ih, Ne.symm hj]

theorem sparseGet_insert_self (d : Nat → β) (m : List (Nat × β)) (k : Nat) (v : β) (hm : ∀ e ∈ m, e.1 ≠ k) :
    sparseGet d (sparseInsert k v m) k = v := by
  induction m with
  | nil => simp [sparseInsert, sparseGet]
  | cons e m ih =>
    obtain ⟨a, x⟩ := e
    have ha : a ≠ k := hm (a, x) (by simp)
    by_cases h : k < a
    · simp [sparseInsert, sparseGet, h]
    · simp [sparseInsert, sparseGet, h, ha, ih (fun e he => hm e (by simp [he]))]

theorem sparseErase_keys (m : List (Nat × β)) (k : Nat) : ∀ e ∈ sparseErase k m, e.1 ≠ k := by
  induction m with
  | nil => simp [sparseErase]
  | cons e m ih =>
    obtain ⟨a, v⟩ := e
    by_cases h : a = k
    · simpa [sparseErase, h] using ih
    · intro e he
      simp [sparseErase, h] at he
      rcases he with he | he
      · simp [he, h]
      · exact ih e he

variable [DecidableEq β]

/-- A read after a write of the same key gives the value written. -/
@[simp] theorem sparseGet_put_self (d : Nat → β) (m : List (Nat × β)) (k : Nat) (v : β) : sparseGet d (sparsePut d m k v) k = v := by
  unfold sparsePut
  split
  · next h => simp [h]
  · exact sparseGet_insert_self d _ k v (sparseErase_keys m k)

/-- A write leaves every other key alone. -/
theorem sparseGet_put_ne (d : Nat → β) (m : List (Nat × β)) {k j : Nat} (v : β) (hj : j ≠ k) :
    sparseGet d (sparsePut d m k v) j = sparseGet d m j := by
  unfold sparsePut
  split
  · exact sparseGet_erase_ne d m hj
  · rw [sparseGet_insert_ne d _ v hj, sparseGet_erase_ne d m hj]

/-! ### The canonical form -/

omit [DecidableEq β] in
theorem sparseSorted_mono {lo hi : Nat} (h : lo ≤ hi) : ∀ (m : List (Nat × β)), sparseSorted hi m = true → sparseSorted lo m = true
  | [], _ => rfl
  | (a, _) :: m, hm => by
    simp only [sparseSorted, Bool.and_eq_true, decide_eq_true_eq] at hm ⊢
    exact ⟨by omega, hm.2⟩

omit [DecidableEq β] in
theorem sparseSorted_erase (k : Nat) : ∀ (lo : Nat) (m : List (Nat × β)), sparseSorted lo m = true → sparseSorted lo (sparseErase k m) = true
  | _, [], _ => rfl
  | lo, (a, v) :: m, hm => by
    simp only [sparseSorted, Bool.and_eq_true, decide_eq_true_eq] at hm
    have ih := sparseSorted_erase k (a + 1) m hm.2
    by_cases h : a = k
    · simp only [sparseErase, h, if_true]
      exact sparseSorted_mono (show lo ≤ a + 1 by omega) _ (h ▸ ih)
    · simp only [sparseErase, h, if_false, sparseSorted, Bool.and_eq_true, decide_eq_true_eq]
      exact ⟨hm.1, ih⟩

omit [DecidableEq β] in
theorem sparseSorted_insert (k : Nat) (v : β) : ∀ (lo : Nat) (m : List (Nat × β)), sparseSorted lo m = true → lo ≤ k → (∀ e ∈ m, e.1 ≠ k) →
    sparseSorted lo (sparseInsert k v m) = true
  | lo, [], _, hk, _ => by simp [sparseInsert, sparseSorted, hk]
  | lo, (a, x) :: m, hm, hk, hne => by
    simp only [sparseSorted, Bool.and_eq_true, decide_eq_true_eq] at hm
    have ha : a ≠ k := hne (a, x) (by simp)
    by_cases h : k < a
    · simp only [sparseInsert, h, if_true, sparseSorted, Bool.and_eq_true, decide_eq_true_eq]
      exact ⟨hk, by omega, hm.2⟩
    · simp only [sparseInsert, h, if_false, sparseSorted, Bool.and_eq_true, decide_eq_true_eq]
      exact ⟨hm.1, sparseSorted_insert k v (a + 1) m hm.2 (by omega) (fun e he => hne e (by simp [he]))⟩

theorem sparseLean_erase (d : Nat → β) (k : Nat) : ∀ (m : List (Nat × β)), sparseLean d m = true → sparseLean d (sparseErase k m) = true
  | [], _ => rfl
  | (a, v) :: m, hm => by
    simp only [sparseLean, Bool.and_eq_true] at hm
    have ih := sparseLean_erase d k m hm.2
    by_cases h : a = k
    · simpa [sparseErase, h] using ih
    · simp only [sparseErase, h, if_false, sparseLean, Bool.and_eq_true]; exact ⟨hm.1, ih⟩

theorem sparseLean_insert (d : Nat → β) (k : Nat) (v : β) (hv : v ≠ d k) : ∀ (m : List (Nat × β)), sparseLean d m = true →
    sparseLean d (sparseInsert k v m) = true
  | [], _ => by simp [sparseInsert, sparseLean, hv]
  | (a, x) :: m, hm => by
    simp only [sparseLean, Bool.and_eq_true] at hm
    by_cases h : k < a
    · simp only [sparseInsert, h, if_true, sparseLean, Bool.and_eq_true]; exact ⟨by simp [hv], hm.1, hm.2⟩
    · simp only [sparseInsert, h, if_false, sparseLean, Bool.and_eq_true]; exact ⟨hm.1, sparseLean_insert d k v hv m hm.2⟩

/-- A write keeps the canonical form. -/
@[simp] theorem sparseWf_put (d : Nat → β) (m : List (Nat × β)) (k : Nat) (v : β) (h : sparseWf d m = true) :
    sparseWf d (sparsePut d m k v) = true := by
  simp only [sparseWf, Bool.and_eq_true] at h ⊢
  unfold sparsePut
  split
  · exact ⟨sparseSorted_erase k 0 m h.1, sparseLean_erase d k m h.2⟩
  · next hv =>
    exact ⟨sparseSorted_insert k v 0 _ (sparseSorted_erase k 0 m h.1) (Nat.zero_le k) (sparseErase_keys m k),
      sparseLean_insert d k v hv _ (sparseLean_erase d k m h.2)⟩

omit [DecidableEq β] in
theorem sparseSorted_filterMap (g : Nat × β → Option (Nat × β)) (hg : ∀ e e', g e = some e' → e'.1 = e.1) :
    ∀ (lo : Nat) (m : List (Nat × β)), sparseSorted lo m = true → sparseSorted lo (m.filterMap g) = true
  | _, [], _ => rfl
  | lo, (a, v) :: m, hm => by
    simp only [sparseSorted, Bool.and_eq_true, decide_eq_true_eq] at hm
    have ih := sparseSorted_filterMap g hg (a + 1) m hm.2
    rw [List.filterMap_cons]
    split
    · exact sparseSorted_mono (by omega) _ ih
    · next e' he =>
      have h1 := hg _ _ he
      obtain ⟨b, w⟩ := e'
      simp only at h1
      simp only [sparseSorted, Bool.and_eq_true, decide_eq_true_eq]
      exact ⟨by omega, by rw [h1]; exact ih⟩

theorem sparseLean_filterMap (d : Nat → β) (g : Nat × β → Option (Nat × β)) (hg : ∀ e e', g e = some e' → e.2 ≠ d e.1 → e'.2 ≠ d e'.1) :
    ∀ (m : List (Nat × β)), sparseLean d m = true → sparseLean d (m.filterMap g) = true
  | [], _ => rfl
  | (a, v) :: m, hm => by
    simp only [sparseLean, Bool.and_eq_true, decide_eq_true_eq] at hm
    have ih := sparseLean_filterMap d g hg m hm.2
    rw [List.filterMap_cons]
    split
    · exact ih
    · next e' he =>
      have h1 := hg _ _ he hm.1
      obtain ⟨b, w⟩ := e'
      simp only [sparseLean, Bool.and_eq_true, decide_eq_true_eq]
      exact ⟨h1, ih⟩

/-- Dropping entries keeps the canonical form. -/
@[simp] theorem sparseWf_filter (d : Nat → β) (m : List (Nat × β)) (p : Nat × β → Bool) (h : sparseWf d m = true) :
    sparseWf d (m.filter p) = true := by
  simp only [sparseWf, Bool.and_eq_true] at h ⊢
  rw [← List.filterMap_eq_filter]
  refine ⟨sparseSorted_filterMap _ ?_ 0 m h.1, sparseLean_filterMap d _ ?_ m h.2⟩
  · intro e e' he; simp [Option.guard] at he; simp [he.2]
  · intro e e' he hv; simp [Option.guard] at he; rw [← he.2]; exact hv

/-- Dropping keys keeps the canonical form. -/
@[simp] theorem sparseWf_drop (d : Nat → β) (m : List (Nat × β)) (p : Nat → Bool) (h : sparseWf d m = true) :
    sparseWf d (sparseDrop p m) = true := sparseWf_filter d m _ h

/-! ### Byte memories -/

@[simp] theorem memByte_put_self (m : List Host.Cell) (a : Nat) (b : Byte) : memByte (memPut m a b) a = b :=
  sparseGet_put_self _ m a b

theorem memByte_put_ne (m : List Host.Cell) {a c : Nat} (b : Byte) (h : c ≠ a) : memByte (memPut m a b) c = memByte m c :=
  sparseGet_put_ne _ m b h

/-- A write leaves every byte outside the bytes written alone. -/
theorem memByte_write_out (bs : List Byte) : ∀ (m : List Host.Cell) (a c : Nat), (c < a ∨ a + bs.length ≤ c) →
    memByte (memWrite m a bs) c = memByte m c := by
  induction bs with
  | nil => intros; rfl
  | cons b bs ih =>
    intro m a c h
    simp only [List.length_cons] at h
    rw [memWrite, ih _ _ _ (by omega), memByte_put_ne _ _ (by omega)]

/-- A read of a byte written gives it. -/
theorem memByte_write_in (bs : List Byte) : ∀ (m : List Host.Cell) (a i : Nat) (h : i < bs.length),
    memByte (memWrite m a bs) (a + i) = bs[i] := by
  induction bs with
  | nil => intro m a i h; simp at h
  | cons b bs ih =>
    intro m a i h
    cases i with
    | zero => rw [memWrite, memByte_write_out _ _ _ _ (by omega)]; simp
    | succ i =>
      have := ih (memPut m a b) (a + 1) i (by simpa using h)
      rw [memWrite, show a + (i + 1) = a + 1 + i by omega, this]; simp

/-- Every memory operation keeps the canonical form. -/
@[simp] theorem memWf_write (bs : List Byte) : ∀ (m : List Host.Cell) (a : Nat), memWf m = true → memWf (memWrite m a bs) = true := by
  induction bs with
  | nil => intro m a h; exact h
  | cons b bs ih => intro m a h; exact ih _ _ (sparseWf_put _ m a b h)

@[simp] theorem memWf_putNat (m : List Host.Cell) (a n x : Nat) (h : memWf m = true) : memWf (memPutNat m a n x) = true :=
  memWf_write _ m a h

end Sys2Proof.Machine
end

