-- ==== Sys2Proof/Laws/State.lean ====
section
/-!
SUPPORT. The fields of State that each named update leaves alone, one lemma per field and update.
-/

namespace Sys2Proof.Machine

/-! ### setReg -/

@[simp] theorem State.setReg_counters (s : State) (a : Nat) (v : Word) : (s.setReg a v).counters = s.counters := rfl

@[simp] theorem State.setReg_frc (s : State) (a : Nat) (v : Word) : (s.setReg a v).frc = s.frc := rfl

@[simp] theorem State.setReg_access (s : State) (a : Nat) (v : Word) : (s.setReg a v).access = s.access := rfl

@[simp] theorem State.setReg_boot (s : State) (a : Nat) (v : Word) : (s.setReg a v).boot = s.boot := rfl

@[simp] theorem State.setReg_time (s : State) (a : Nat) (v : Word) : (s.setReg a v).time = s.time := rfl

@[simp] theorem State.setReg_cue (s : State) (a : Nat) (v : Word) : (s.setReg a v).cue = s.cue := rfl

@[simp] theorem State.setReg_net (s : State) (a : Nat) (v : Word) : (s.setReg a v).net = s.net := rfl

@[simp] theorem State.setReg_ing (s : State) (a : Nat) (v : Word) : (s.setReg a v).ing = s.ing := rfl

@[simp] theorem State.setReg_cmp (s : State) (a : Nat) (v : Word) : (s.setReg a v).cmp = s.cmp := rfl

@[simp] theorem State.setReg_chain (s : State) (a : Nat) (v : Word) : (s.setReg a v).chain = s.chain := rfl

@[simp] theorem State.setReg_scan (s : State) (a : Nat) (v : Word) : (s.setReg a v).scan = s.scan := rfl

@[simp] theorem State.setReg_lamp (s : State) (a : Nat) (v : Word) : (s.setReg a v).lamp = s.lamp := rfl

@[simp] theorem State.setReg_grain (s : State) (a : Nat) (v : Word) : (s.setReg a v).grain = s.grain := rfl

@[simp] theorem State.setReg_cal (s : State) (a : Nat) (v : Word) : (s.setReg a v).cal = s.cal := rfl

@[simp] theorem State.setReg_dram (s : State) (a : Nat) (v : Word) : (s.setReg a v).dram = s.dram := rfl

@[simp] theorem State.setReg_pairing (s : State) (a : Nat) (v : Word) : (s.setReg a v).pairing = s.pairing := rfl

@[simp] theorem State.setReg_flt (s : State) (a : Nat) (v : Word) : (s.setReg a v).flt = s.flt := rfl

@[simp] theorem State.setReg_ths (s : State) (a : Nat) (v : Word) : (s.setReg a v).ths = s.ths := rfl

@[simp] theorem State.setReg_bist (s : State) (a : Nat) (v : Word) : (s.setReg a v).bist = s.bist := rfl

@[simp] theorem State.setReg_life (s : State) (a : Nat) (v : Word) : (s.setReg a v).life = s.life := rfl

@[simp] theorem State.setReg_upd (s : State) (a : Nat) (v : Word) : (s.setReg a v).upd = s.upd := rfl

@[simp] theorem State.setReg_sent (s : State) (a : Nat) (v : Word) : (s.setReg a v).sent = s.sent := rfl

@[simp] theorem State.setReg_reply (s : State) (a : Nat) (v : Word) : (s.setReg a v).reply = s.reply := rfl

@[simp] theorem State.setReg_free (s : State) (a : Nat) (v : Word) : (s.setReg a v).free = s.free := rfl

@[simp] theorem State.setReg_pending (s : State) (a : Nat) (v : Word) : (s.setReg a v).pending = s.pending := rfl

/-! ### setFld -/

@[simp] theorem State.setFld_counters (s : State) (f : Fld) (v : Nat) : (s.setFld f v).counters = s.counters := rfl

@[simp] theorem State.setFld_frc (s : State) (f : Fld) (v : Nat) : (s.setFld f v).frc = s.frc := rfl

@[simp] theorem State.setFld_access (s : State) (f : Fld) (v : Nat) : (s.setFld f v).access = s.access := rfl

@[simp] theorem State.setFld_boot (s : State) (f : Fld) (v : Nat) : (s.setFld f v).boot = s.boot := rfl

@[simp] theorem State.setFld_time (s : State) (f : Fld) (v : Nat) : (s.setFld f v).time = s.time := rfl

@[simp] theorem State.setFld_cue (s : State) (f : Fld) (v : Nat) : (s.setFld f v).cue = s.cue := rfl

@[simp] theorem State.setFld_net (s : State) (f : Fld) (v : Nat) : (s.setFld f v).net = s.net := rfl

@[simp] theorem State.setFld_ing (s : State) (f : Fld) (v : Nat) : (s.setFld f v).ing = s.ing := rfl

@[simp] theorem State.setFld_cmp (s : State) (f : Fld) (v : Nat) : (s.setFld f v).cmp = s.cmp := rfl

@[simp] theorem State.setFld_chain (s : State) (f : Fld) (v : Nat) : (s.setFld f v).chain = s.chain := rfl

@[simp] theorem State.setFld_scan (s : State) (f : Fld) (v : Nat) : (s.setFld f v).scan = s.scan := rfl

@[simp] theorem State.setFld_lamp (s : State) (f : Fld) (v : Nat) : (s.setFld f v).lamp = s.lamp := rfl

@[simp] theorem State.setFld_grain (s : State) (f : Fld) (v : Nat) : (s.setFld f v).grain = s.grain := rfl

@[simp] theorem State.setFld_cal (s : State) (f : Fld) (v : Nat) : (s.setFld f v).cal = s.cal := rfl

@[simp] theorem State.setFld_dram (s : State) (f : Fld) (v : Nat) : (s.setFld f v).dram = s.dram := rfl

@[simp] theorem State.setFld_pairing (s : State) (f : Fld) (v : Nat) : (s.setFld f v).pairing = s.pairing := rfl

@[simp] theorem State.setFld_flt (s : State) (f : Fld) (v : Nat) : (s.setFld f v).flt = s.flt := rfl

@[simp] theorem State.setFld_ths (s : State) (f : Fld) (v : Nat) : (s.setFld f v).ths = s.ths := rfl

@[simp] theorem State.setFld_bist (s : State) (f : Fld) (v : Nat) : (s.setFld f v).bist = s.bist := rfl

@[simp] theorem State.setFld_life (s : State) (f : Fld) (v : Nat) : (s.setFld f v).life = s.life := rfl

@[simp] theorem State.setFld_upd (s : State) (f : Fld) (v : Nat) : (s.setFld f v).upd = s.upd := rfl

@[simp] theorem State.setFld_sent (s : State) (f : Fld) (v : Nat) : (s.setFld f v).sent = s.sent := rfl

@[simp] theorem State.setFld_reply (s : State) (f : Fld) (v : Nat) : (s.setFld f v).reply = s.reply := rfl

@[simp] theorem State.setFld_free (s : State) (f : Fld) (v : Nat) : (s.setFld f v).free = s.free := rfl

@[simp] theorem State.setFld_pending (s : State) (f : Fld) (v : Nat) : (s.setFld f v).pending = s.pending := rfl

/-! ### setSfld -/

@[simp] theorem State.setSfld_counters (s : State) (f : Fld) (v : Int) : (s.setSfld f v).counters = s.counters := rfl

@[simp] theorem State.setSfld_frc (s : State) (f : Fld) (v : Int) : (s.setSfld f v).frc = s.frc := rfl

@[simp] theorem State.setSfld_access (s : State) (f : Fld) (v : Int) : (s.setSfld f v).access = s.access := rfl

@[simp] theorem State.setSfld_boot (s : State) (f : Fld) (v : Int) : (s.setSfld f v).boot = s.boot := rfl

@[simp] theorem State.setSfld_time (s : State) (f : Fld) (v : Int) : (s.setSfld f v).time = s.time := rfl

@[simp] theorem State.setSfld_cue (s : State) (f : Fld) (v : Int) : (s.setSfld f v).cue = s.cue := rfl

@[simp] theorem State.setSfld_net (s : State) (f : Fld) (v : Int) : (s.setSfld f v).net = s.net := rfl

@[simp] theorem State.setSfld_ing (s : State) (f : Fld) (v : Int) : (s.setSfld f v).ing = s.ing := rfl

@[simp] theorem State.setSfld_cmp (s : State) (f : Fld) (v : Int) : (s.setSfld f v).cmp = s.cmp := rfl

@[simp] theorem State.setSfld_chain (s : State) (f : Fld) (v : Int) : (s.setSfld f v).chain = s.chain := rfl

@[simp] theorem State.setSfld_scan (s : State) (f : Fld) (v : Int) : (s.setSfld f v).scan = s.scan := rfl

@[simp] theorem State.setSfld_lamp (s : State) (f : Fld) (v : Int) : (s.setSfld f v).lamp = s.lamp := rfl

@[simp] theorem State.setSfld_grain (s : State) (f : Fld) (v : Int) : (s.setSfld f v).grain = s.grain := rfl

@[simp] theorem State.setSfld_cal (s : State) (f : Fld) (v : Int) : (s.setSfld f v).cal = s.cal := rfl

@[simp] theorem State.setSfld_dram (s : State) (f : Fld) (v : Int) : (s.setSfld f v).dram = s.dram := rfl

@[simp] theorem State.setSfld_pairing (s : State) (f : Fld) (v : Int) : (s.setSfld f v).pairing = s.pairing := rfl

@[simp] theorem State.setSfld_flt (s : State) (f : Fld) (v : Int) : (s.setSfld f v).flt = s.flt := rfl

@[simp] theorem State.setSfld_ths (s : State) (f : Fld) (v : Int) : (s.setSfld f v).ths = s.ths := rfl

@[simp] theorem State.setSfld_bist (s : State) (f : Fld) (v : Int) : (s.setSfld f v).bist = s.bist := rfl

@[simp] theorem State.setSfld_life (s : State) (f : Fld) (v : Int) : (s.setSfld f v).life = s.life := rfl

@[simp] theorem State.setSfld_upd (s : State) (f : Fld) (v : Int) : (s.setSfld f v).upd = s.upd := rfl

@[simp] theorem State.setSfld_sent (s : State) (f : Fld) (v : Int) : (s.setSfld f v).sent = s.sent := rfl

@[simp] theorem State.setSfld_reply (s : State) (f : Fld) (v : Int) : (s.setSfld f v).reply = s.reply := rfl

@[simp] theorem State.setSfld_free (s : State) (f : Fld) (v : Int) : (s.setSfld f v).free = s.free := rfl

@[simp] theorem State.setSfld_pending (s : State) (f : Fld) (v : Int) : (s.setSfld f v).pending = s.pending := rfl

/-! ### setFldBit -/

@[simp] theorem State.setFldBit_counters (s : State) (f : Fld) (i : Nat) (b : Bool) : (s.setFldBit f i b).counters = s.counters := rfl

@[simp] theorem State.setFldBit_frc (s : State) (f : Fld) (i : Nat) (b : Bool) : (s.setFldBit f i b).frc = s.frc := rfl

@[simp] theorem State.setFldBit_access (s : State) (f : Fld) (i : Nat) (b : Bool) : (s.setFldBit f i b).access = s.access := rfl

@[simp] theorem State.setFldBit_boot (s : State) (f : Fld) (i : Nat) (b : Bool) : (s.setFldBit f i b).boot = s.boot := rfl

@[simp] theorem State.setFldBit_time (s : State) (f : Fld) (i : Nat) (b : Bool) : (s.setFldBit f i b).time = s.time := rfl

@[simp] theorem State.setFldBit_cue (s : State) (f : Fld) (i : Nat) (b : Bool) : (s.setFldBit f i b).cue = s.cue := rfl

@[simp] theorem State.setFldBit_net (s : State) (f : Fld) (i : Nat) (b : Bool) : (s.setFldBit f i b).net = s.net := rfl

@[simp] theorem State.setFldBit_ing (s : State) (f : Fld) (i : Nat) (b : Bool) : (s.setFldBit f i b).ing = s.ing := rfl

@[simp] theorem State.setFldBit_cmp (s : State) (f : Fld) (i : Nat) (b : Bool) : (s.setFldBit f i b).cmp = s.cmp := rfl

@[simp] theorem State.setFldBit_chain (s : State) (f : Fld) (i : Nat) (b : Bool) : (s.setFldBit f i b).chain = s.chain := rfl

@[simp] theorem State.setFldBit_scan (s : State) (f : Fld) (i : Nat) (b : Bool) : (s.setFldBit f i b).scan = s.scan := rfl

@[simp] theorem State.setFldBit_lamp (s : State) (f : Fld) (i : Nat) (b : Bool) : (s.setFldBit f i b).lamp = s.lamp := rfl

@[simp] theorem State.setFldBit_grain (s : State) (f : Fld) (i : Nat) (b : Bool) : (s.setFldBit f i b).grain = s.grain := rfl

@[simp] theorem State.setFldBit_cal (s : State) (f : Fld) (i : Nat) (b : Bool) : (s.setFldBit f i b).cal = s.cal := rfl

@[simp] theorem State.setFldBit_dram (s : State) (f : Fld) (i : Nat) (b : Bool) : (s.setFldBit f i b).dram = s.dram := rfl

@[simp] theorem State.setFldBit_pairing (s : State) (f : Fld) (i : Nat) (b : Bool) : (s.setFldBit f i b).pairing = s.pairing := rfl

@[simp] theorem State.setFldBit_flt (s : State) (f : Fld) (i : Nat) (b : Bool) : (s.setFldBit f i b).flt = s.flt := rfl

@[simp] theorem State.setFldBit_ths (s : State) (f : Fld) (i : Nat) (b : Bool) : (s.setFldBit f i b).ths = s.ths := rfl

@[simp] theorem State.setFldBit_bist (s : State) (f : Fld) (i : Nat) (b : Bool) : (s.setFldBit f i b).bist = s.bist := rfl

@[simp] theorem State.setFldBit_life (s : State) (f : Fld) (i : Nat) (b : Bool) : (s.setFldBit f i b).life = s.life := rfl

@[simp] theorem State.setFldBit_upd (s : State) (f : Fld) (i : Nat) (b : Bool) : (s.setFldBit f i b).upd = s.upd := rfl

@[simp] theorem State.setFldBit_sent (s : State) (f : Fld) (i : Nat) (b : Bool) : (s.setFldBit f i b).sent = s.sent := rfl

@[simp] theorem State.setFldBit_reply (s : State) (f : Fld) (i : Nat) (b : Bool) : (s.setFldBit f i b).reply = s.reply := rfl

@[simp] theorem State.setFldBit_free (s : State) (f : Fld) (i : Nat) (b : Bool) : (s.setFldBit f i b).free = s.free := rfl

@[simp] theorem State.setFldBit_pending (s : State) (f : Fld) (i : Nat) (b : Bool) : (s.setFldBit f i b).pending = s.pending := rfl

/-! ### setLive -/

@[simp] theorem State.setLive_regs (s : State) (a : Nat) (v : Word) : (s.setLive a v).regs = s.regs := rfl

@[simp] theorem State.setLive_frc (s : State) (a : Nat) (v : Word) : (s.setLive a v).frc = s.frc := rfl

@[simp] theorem State.setLive_access (s : State) (a : Nat) (v : Word) : (s.setLive a v).access = s.access := rfl

@[simp] theorem State.setLive_boot (s : State) (a : Nat) (v : Word) : (s.setLive a v).boot = s.boot := rfl

@[simp] theorem State.setLive_time (s : State) (a : Nat) (v : Word) : (s.setLive a v).time = s.time := rfl

@[simp] theorem State.setLive_cue (s : State) (a : Nat) (v : Word) : (s.setLive a v).cue = s.cue := rfl

@[simp] theorem State.setLive_net (s : State) (a : Nat) (v : Word) : (s.setLive a v).net = s.net := rfl

@[simp] theorem State.setLive_ing (s : State) (a : Nat) (v : Word) : (s.setLive a v).ing = s.ing := rfl

@[simp] theorem State.setLive_cmp (s : State) (a : Nat) (v : Word) : (s.setLive a v).cmp = s.cmp := rfl

@[simp] theorem State.setLive_chain (s : State) (a : Nat) (v : Word) : (s.setLive a v).chain = s.chain := rfl

@[simp] theorem State.setLive_scan (s : State) (a : Nat) (v : Word) : (s.setLive a v).scan = s.scan := rfl

@[simp] theorem State.setLive_lamp (s : State) (a : Nat) (v : Word) : (s.setLive a v).lamp = s.lamp := rfl

@[simp] theorem State.setLive_grain (s : State) (a : Nat) (v : Word) : (s.setLive a v).grain = s.grain := rfl

@[simp] theorem State.setLive_cal (s : State) (a : Nat) (v : Word) : (s.setLive a v).cal = s.cal := rfl

@[simp] theorem State.setLive_dram (s : State) (a : Nat) (v : Word) : (s.setLive a v).dram = s.dram := rfl

@[simp] theorem State.setLive_pairing (s : State) (a : Nat) (v : Word) : (s.setLive a v).pairing = s.pairing := rfl

@[simp] theorem State.setLive_flt (s : State) (a : Nat) (v : Word) : (s.setLive a v).flt = s.flt := rfl

@[simp] theorem State.setLive_ths (s : State) (a : Nat) (v : Word) : (s.setLive a v).ths = s.ths := rfl

@[simp] theorem State.setLive_bist (s : State) (a : Nat) (v : Word) : (s.setLive a v).bist = s.bist := rfl

@[simp] theorem State.setLive_life (s : State) (a : Nat) (v : Word) : (s.setLive a v).life = s.life := rfl

@[simp] theorem State.setLive_upd (s : State) (a : Nat) (v : Word) : (s.setLive a v).upd = s.upd := rfl

@[simp] theorem State.setLive_sent (s : State) (a : Nat) (v : Word) : (s.setLive a v).sent = s.sent := rfl

@[simp] theorem State.setLive_reply (s : State) (a : Nat) (v : Word) : (s.setLive a v).reply = s.reply := rfl

@[simp] theorem State.setLive_free (s : State) (a : Nat) (v : Word) : (s.setLive a v).free = s.free := rfl

@[simp] theorem State.setLive_pending (s : State) (a : Nat) (v : Word) : (s.setLive a v).pending = s.pending := rfl

/-! ### bump -/

@[simp] theorem State.bump_regs (s : State) (f : Fld) (n : Nat) : (s.bump f n).regs = s.regs := rfl

@[simp] theorem State.bump_frc (s : State) (f : Fld) (n : Nat) : (s.bump f n).frc = s.frc := rfl

@[simp] theorem State.bump_access (s : State) (f : Fld) (n : Nat) : (s.bump f n).access = s.access := rfl

@[simp] theorem State.bump_boot (s : State) (f : Fld) (n : Nat) : (s.bump f n).boot = s.boot := rfl

@[simp] theorem State.bump_time (s : State) (f : Fld) (n : Nat) : (s.bump f n).time = s.time := rfl

@[simp] theorem State.bump_cue (s : State) (f : Fld) (n : Nat) : (s.bump f n).cue = s.cue := rfl

@[simp] theorem State.bump_net (s : State) (f : Fld) (n : Nat) : (s.bump f n).net = s.net := rfl

@[simp] theorem State.bump_ing (s : State) (f : Fld) (n : Nat) : (s.bump f n).ing = s.ing := rfl

@[simp] theorem State.bump_cmp (s : State) (f : Fld) (n : Nat) : (s.bump f n).cmp = s.cmp := rfl

@[simp] theorem State.bump_chain (s : State) (f : Fld) (n : Nat) : (s.bump f n).chain = s.chain := rfl

@[simp] theorem State.bump_scan (s : State) (f : Fld) (n : Nat) : (s.bump f n).scan = s.scan := rfl

@[simp] theorem State.bump_lamp (s : State) (f : Fld) (n : Nat) : (s.bump f n).lamp = s.lamp := rfl

@[simp] theorem State.bump_grain (s : State) (f : Fld) (n : Nat) : (s.bump f n).grain = s.grain := rfl

@[simp] theorem State.bump_cal (s : State) (f : Fld) (n : Nat) : (s.bump f n).cal = s.cal := rfl

@[simp] theorem State.bump_dram (s : State) (f : Fld) (n : Nat) : (s.bump f n).dram = s.dram := rfl

@[simp] theorem State.bump_pairing (s : State) (f : Fld) (n : Nat) : (s.bump f n).pairing = s.pairing := rfl

@[simp] theorem State.bump_flt (s : State) (f : Fld) (n : Nat) : (s.bump f n).flt = s.flt := rfl

@[simp] theorem State.bump_ths (s : State) (f : Fld) (n : Nat) : (s.bump f n).ths = s.ths := rfl

@[simp] theorem State.bump_bist (s : State) (f : Fld) (n : Nat) : (s.bump f n).bist = s.bist := rfl

@[simp] theorem State.bump_life (s : State) (f : Fld) (n : Nat) : (s.bump f n).life = s.life := rfl

@[simp] theorem State.bump_upd (s : State) (f : Fld) (n : Nat) : (s.bump f n).upd = s.upd := rfl

@[simp] theorem State.bump_sent (s : State) (f : Fld) (n : Nat) : (s.bump f n).sent = s.sent := rfl

@[simp] theorem State.bump_reply (s : State) (f : Fld) (n : Nat) : (s.bump f n).reply = s.reply := rfl

@[simp] theorem State.bump_free (s : State) (f : Fld) (n : Nat) : (s.bump f n).free = s.free := rfl

@[simp] theorem State.bump_pending (s : State) (f : Fld) (n : Nat) : (s.bump f n).pending = s.pending := rfl

/-! ### send -/

@[simp] theorem State.send_regs (s : State) (x : Sent) : (s.send x).regs = s.regs := rfl

@[simp] theorem State.send_counters (s : State) (x : Sent) : (s.send x).counters = s.counters := rfl

@[simp] theorem State.send_frc (s : State) (x : Sent) : (s.send x).frc = s.frc := rfl

@[simp] theorem State.send_access (s : State) (x : Sent) : (s.send x).access = s.access := rfl

@[simp] theorem State.send_boot (s : State) (x : Sent) : (s.send x).boot = s.boot := rfl

@[simp] theorem State.send_time (s : State) (x : Sent) : (s.send x).time = s.time := rfl

@[simp] theorem State.send_cue (s : State) (x : Sent) : (s.send x).cue = s.cue := rfl

@[simp] theorem State.send_net (s : State) (x : Sent) : (s.send x).net = s.net := rfl

@[simp] theorem State.send_ing (s : State) (x : Sent) : (s.send x).ing = s.ing := rfl

@[simp] theorem State.send_cmp (s : State) (x : Sent) : (s.send x).cmp = s.cmp := rfl

@[simp] theorem State.send_chain (s : State) (x : Sent) : (s.send x).chain = s.chain := rfl

@[simp] theorem State.send_scan (s : State) (x : Sent) : (s.send x).scan = s.scan := rfl

@[simp] theorem State.send_lamp (s : State) (x : Sent) : (s.send x).lamp = s.lamp := rfl

@[simp] theorem State.send_grain (s : State) (x : Sent) : (s.send x).grain = s.grain := rfl

@[simp] theorem State.send_cal (s : State) (x : Sent) : (s.send x).cal = s.cal := rfl

@[simp] theorem State.send_dram (s : State) (x : Sent) : (s.send x).dram = s.dram := rfl

@[simp] theorem State.send_pairing (s : State) (x : Sent) : (s.send x).pairing = s.pairing := rfl

@[simp] theorem State.send_flt (s : State) (x : Sent) : (s.send x).flt = s.flt := rfl

@[simp] theorem State.send_ths (s : State) (x : Sent) : (s.send x).ths = s.ths := rfl

@[simp] theorem State.send_bist (s : State) (x : Sent) : (s.send x).bist = s.bist := rfl

@[simp] theorem State.send_life (s : State) (x : Sent) : (s.send x).life = s.life := rfl

@[simp] theorem State.send_upd (s : State) (x : Sent) : (s.send x).upd = s.upd := rfl

@[simp] theorem State.send_reply (s : State) (x : Sent) : (s.send x).reply = s.reply := rfl

@[simp] theorem State.send_free (s : State) (x : Sent) : (s.send x).free = s.free := rfl

@[simp] theorem State.send_pending (s : State) (x : Sent) : (s.send x).pending = s.pending := rfl

/-! ### answer -/

@[simp] theorem State.answer_regs (s : State) (st n : Nat) (ws : List Word) : (s.answer st n ws).regs = s.regs := rfl

@[simp] theorem State.answer_counters (s : State) (st n : Nat) (ws : List Word) : (s.answer st n ws).counters = s.counters := rfl

@[simp] theorem State.answer_frc (s : State) (st n : Nat) (ws : List Word) : (s.answer st n ws).frc = s.frc := rfl

@[simp] theorem State.answer_access (s : State) (st n : Nat) (ws : List Word) : (s.answer st n ws).access = s.access := rfl

@[simp] theorem State.answer_boot (s : State) (st n : Nat) (ws : List Word) : (s.answer st n ws).boot = s.boot := rfl

@[simp] theorem State.answer_time (s : State) (st n : Nat) (ws : List Word) : (s.answer st n ws).time = s.time := rfl

@[simp] theorem State.answer_cue (s : State) (st n : Nat) (ws : List Word) : (s.answer st n ws).cue = s.cue := rfl

@[simp] theorem State.answer_net (s : State) (st n : Nat) (ws : List Word) : (s.answer st n ws).net = s.net := rfl

@[simp] theorem State.answer_ing (s : State) (st n : Nat) (ws : List Word) : (s.answer st n ws).ing = s.ing := rfl

@[simp] theorem State.answer_cmp (s : State) (st n : Nat) (ws : List Word) : (s.answer st n ws).cmp = s.cmp := rfl

@[simp] theorem State.answer_chain (s : State) (st n : Nat) (ws : List Word) : (s.answer st n ws).chain = s.chain := rfl

@[simp] theorem State.answer_scan (s : State) (st n : Nat) (ws : List Word) : (s.answer st n ws).scan = s.scan := rfl

@[simp] theorem State.answer_lamp (s : State) (st n : Nat) (ws : List Word) : (s.answer st n ws).lamp = s.lamp := rfl

@[simp] theorem State.answer_grain (s : State) (st n : Nat) (ws : List Word) : (s.answer st n ws).grain = s.grain := rfl

@[simp] theorem State.answer_cal (s : State) (st n : Nat) (ws : List Word) : (s.answer st n ws).cal = s.cal := rfl

@[simp] theorem State.answer_dram (s : State) (st n : Nat) (ws : List Word) : (s.answer st n ws).dram = s.dram := rfl

@[simp] theorem State.answer_pairing (s : State) (st n : Nat) (ws : List Word) : (s.answer st n ws).pairing = s.pairing := rfl

@[simp] theorem State.answer_flt (s : State) (st n : Nat) (ws : List Word) : (s.answer st n ws).flt = s.flt := rfl

@[simp] theorem State.answer_ths (s : State) (st n : Nat) (ws : List Word) : (s.answer st n ws).ths = s.ths := rfl

@[simp] theorem State.answer_bist (s : State) (st n : Nat) (ws : List Word) : (s.answer st n ws).bist = s.bist := rfl

@[simp] theorem State.answer_life (s : State) (st n : Nat) (ws : List Word) : (s.answer st n ws).life = s.life := rfl

@[simp] theorem State.answer_upd (s : State) (st n : Nat) (ws : List Word) : (s.answer st n ws).upd = s.upd := rfl

@[simp] theorem State.answer_sent (s : State) (st n : Nat) (ws : List Word) : (s.answer st n ws).sent = s.sent := rfl

@[simp] theorem State.answer_free (s : State) (st n : Nat) (ws : List Word) : (s.answer st n ws).free = s.free := rfl

@[simp] theorem State.answer_pending (s : State) (st n : Nat) (ws : List Word) : (s.answer st n ws).pending = s.pending := rfl

/-! ### raise -/

@[simp] theorem State.raise_regs (s : State) (i : Nat) : (s.raise i).regs = s.regs := by unfold State.raise; split <;> rfl

@[simp] theorem State.raise_counters (s : State) (i : Nat) : (s.raise i).counters = s.counters := by unfold State.raise; split <;> rfl

@[simp] theorem State.raise_frc (s : State) (i : Nat) : (s.raise i).frc = s.frc := by unfold State.raise; split <;> rfl

@[simp] theorem State.raise_access (s : State) (i : Nat) : (s.raise i).access = s.access := by unfold State.raise; split <;> rfl

@[simp] theorem State.raise_boot (s : State) (i : Nat) : (s.raise i).boot = s.boot := by unfold State.raise; split <;> rfl

@[simp] theorem State.raise_time (s : State) (i : Nat) : (s.raise i).time = s.time := by unfold State.raise; split <;> rfl

@[simp] theorem State.raise_cue (s : State) (i : Nat) : (s.raise i).cue = s.cue := by unfold State.raise; split <;> rfl

@[simp] theorem State.raise_net (s : State) (i : Nat) : (s.raise i).net = s.net := by unfold State.raise; split <;> rfl

@[simp] theorem State.raise_ing (s : State) (i : Nat) : (s.raise i).ing = s.ing := by unfold State.raise; split <;> rfl

@[simp] theorem State.raise_cmp (s : State) (i : Nat) : (s.raise i).cmp = s.cmp := by unfold State.raise; split <;> rfl

@[simp] theorem State.raise_chain (s : State) (i : Nat) : (s.raise i).chain = s.chain := by unfold State.raise; split <;> rfl

@[simp] theorem State.raise_scan (s : State) (i : Nat) : (s.raise i).scan = s.scan := by unfold State.raise; split <;> rfl

@[simp] theorem State.raise_lamp (s : State) (i : Nat) : (s.raise i).lamp = s.lamp := by unfold State.raise; split <;> rfl

@[simp] theorem State.raise_grain (s : State) (i : Nat) : (s.raise i).grain = s.grain := by unfold State.raise; split <;> rfl

@[simp] theorem State.raise_cal (s : State) (i : Nat) : (s.raise i).cal = s.cal := by unfold State.raise; split <;> rfl

@[simp] theorem State.raise_dram (s : State) (i : Nat) : (s.raise i).dram = s.dram := by unfold State.raise; split <;> rfl

@[simp] theorem State.raise_pairing (s : State) (i : Nat) : (s.raise i).pairing = s.pairing := by unfold State.raise; split <;> rfl

@[simp] theorem State.raise_ths (s : State) (i : Nat) : (s.raise i).ths = s.ths := by unfold State.raise; split <;> rfl

@[simp] theorem State.raise_bist (s : State) (i : Nat) : (s.raise i).bist = s.bist := by unfold State.raise; split <;> rfl

@[simp] theorem State.raise_life (s : State) (i : Nat) : (s.raise i).life = s.life := by unfold State.raise; split <;> rfl

@[simp] theorem State.raise_upd (s : State) (i : Nat) : (s.raise i).upd = s.upd := by unfold State.raise; split <;> rfl

@[simp] theorem State.raise_sent (s : State) (i : Nat) : (s.raise i).sent = s.sent := by unfold State.raise; split <;> rfl

@[simp] theorem State.raise_reply (s : State) (i : Nat) : (s.raise i).reply = s.reply := by unfold State.raise; split <;> rfl

@[simp] theorem State.raise_free (s : State) (i : Nat) : (s.raise i).free = s.free := by unfold State.raise; split <;> rfl

@[simp] theorem State.raise_pending (s : State) (i : Nat) : (s.raise i).pending = s.pending := by unfold State.raise; split <;> rfl

/-! ### lower -/

@[simp] theorem State.lower_regs (s : State) (i : Nat) : (s.lower i).regs = s.regs := rfl

@[simp] theorem State.lower_counters (s : State) (i : Nat) : (s.lower i).counters = s.counters := rfl

@[simp] theorem State.lower_frc (s : State) (i : Nat) : (s.lower i).frc = s.frc := rfl

@[simp] theorem State.lower_access (s : State) (i : Nat) : (s.lower i).access = s.access := rfl

@[simp] theorem State.lower_boot (s : State) (i : Nat) : (s.lower i).boot = s.boot := rfl

@[simp] theorem State.lower_time (s : State) (i : Nat) : (s.lower i).time = s.time := rfl

@[simp] theorem State.lower_cue (s : State) (i : Nat) : (s.lower i).cue = s.cue := rfl

@[simp] theorem State.lower_net (s : State) (i : Nat) : (s.lower i).net = s.net := rfl

@[simp] theorem State.lower_ing (s : State) (i : Nat) : (s.lower i).ing = s.ing := rfl

@[simp] theorem State.lower_cmp (s : State) (i : Nat) : (s.lower i).cmp = s.cmp := rfl

@[simp] theorem State.lower_chain (s : State) (i : Nat) : (s.lower i).chain = s.chain := rfl

@[simp] theorem State.lower_scan (s : State) (i : Nat) : (s.lower i).scan = s.scan := rfl

@[simp] theorem State.lower_lamp (s : State) (i : Nat) : (s.lower i).lamp = s.lamp := rfl

@[simp] theorem State.lower_grain (s : State) (i : Nat) : (s.lower i).grain = s.grain := rfl

@[simp] theorem State.lower_cal (s : State) (i : Nat) : (s.lower i).cal = s.cal := rfl

@[simp] theorem State.lower_dram (s : State) (i : Nat) : (s.lower i).dram = s.dram := rfl

@[simp] theorem State.lower_pairing (s : State) (i : Nat) : (s.lower i).pairing = s.pairing := rfl

@[simp] theorem State.lower_ths (s : State) (i : Nat) : (s.lower i).ths = s.ths := rfl

@[simp] theorem State.lower_bist (s : State) (i : Nat) : (s.lower i).bist = s.bist := rfl

@[simp] theorem State.lower_life (s : State) (i : Nat) : (s.lower i).life = s.life := rfl

@[simp] theorem State.lower_upd (s : State) (i : Nat) : (s.lower i).upd = s.upd := rfl

@[simp] theorem State.lower_sent (s : State) (i : Nat) : (s.lower i).sent = s.sent := rfl

@[simp] theorem State.lower_reply (s : State) (i : Nat) : (s.lower i).reply = s.reply := rfl

@[simp] theorem State.lower_free (s : State) (i : Nat) : (s.lower i).free = s.free := rfl

@[simp] theorem State.lower_pending (s : State) (i : Nat) : (s.lower i).pending = s.pending := rfl

/-! ### level -/

@[simp] theorem State.level_regs (s : State) (i : Nat) (b : Bool) : (s.level i b).regs = s.regs := by cases b <;> simp [State.level]

@[simp] theorem State.level_counters (s : State) (i : Nat) (b : Bool) : (s.level i b).counters = s.counters := by cases b <;> simp [State.level]

@[simp] theorem State.level_frc (s : State) (i : Nat) (b : Bool) : (s.level i b).frc = s.frc := by cases b <;> simp [State.level]

@[simp] theorem State.level_access (s : State) (i : Nat) (b : Bool) : (s.level i b).access = s.access := by cases b <;> simp [State.level]

@[simp] theorem State.level_boot (s : State) (i : Nat) (b : Bool) : (s.level i b).boot = s.boot := by cases b <;> simp [State.level]

@[simp] theorem State.level_time (s : State) (i : Nat) (b : Bool) : (s.level i b).time = s.time := by cases b <;> simp [State.level]

@[simp] theorem State.level_cue (s : State) (i : Nat) (b : Bool) : (s.level i b).cue = s.cue := by cases b <;> simp [State.level]

@[simp] theorem State.level_net (s : State) (i : Nat) (b : Bool) : (s.level i b).net = s.net := by cases b <;> simp [State.level]

@[simp] theorem State.level_ing (s : State) (i : Nat) (b : Bool) : (s.level i b).ing = s.ing := by cases b <;> simp [State.level]

@[simp] theorem State.level_cmp (s : State) (i : Nat) (b : Bool) : (s.level i b).cmp = s.cmp := by cases b <;> simp [State.level]

@[simp] theorem State.level_chain (s : State) (i : Nat) (b : Bool) : (s.level i b).chain = s.chain := by cases b <;> simp [State.level]

@[simp] theorem State.level_scan (s : State) (i : Nat) (b : Bool) : (s.level i b).scan = s.scan := by cases b <;> simp [State.level]

@[simp] theorem State.level_lamp (s : State) (i : Nat) (b : Bool) : (s.level i b).lamp = s.lamp := by cases b <;> simp [State.level]

@[simp] theorem State.level_grain (s : State) (i : Nat) (b : Bool) : (s.level i b).grain = s.grain := by cases b <;> simp [State.level]

@[simp] theorem State.level_cal (s : State) (i : Nat) (b : Bool) : (s.level i b).cal = s.cal := by cases b <;> simp [State.level]

@[simp] theorem State.level_dram (s : State) (i : Nat) (b : Bool) : (s.level i b).dram = s.dram := by cases b <;> simp [State.level]

@[simp] theorem State.level_pairing (s : State) (i : Nat) (b : Bool) : (s.level i b).pairing = s.pairing := by cases b <;> simp [State.level]

@[simp] theorem State.level_ths (s : State) (i : Nat) (b : Bool) : (s.level i b).ths = s.ths := by cases b <;> simp [State.level]

@[simp] theorem State.level_bist (s : State) (i : Nat) (b : Bool) : (s.level i b).bist = s.bist := by cases b <;> simp [State.level]

@[simp] theorem State.level_life (s : State) (i : Nat) (b : Bool) : (s.level i b).life = s.life := by cases b <;> simp [State.level]

@[simp] theorem State.level_upd (s : State) (i : Nat) (b : Bool) : (s.level i b).upd = s.upd := by cases b <;> simp [State.level]

@[simp] theorem State.level_sent (s : State) (i : Nat) (b : Bool) : (s.level i b).sent = s.sent := by cases b <;> simp [State.level]

@[simp] theorem State.level_reply (s : State) (i : Nat) (b : Bool) : (s.level i b).reply = s.reply := by cases b <;> simp [State.level]

@[simp] theorem State.level_free (s : State) (i : Nat) (b : Bool) : (s.level i b).free = s.free := by cases b <;> simp [State.level]

@[simp] theorem State.level_pending (s : State) (i : Nat) (b : Bool) : (s.level i b).pending = s.pending := by cases b <;> simp [State.level]

end Sys2Proof.Machine
end

