-- ==== Sys2Proof/Laws/Ops.lean ====
section
/-!
SUPPORT. Laws of register words, fields, running counters, detector pairs and the outcome of a command.
-/

namespace Sys2Proof.Machine

/-! ### Words -/

@[simp] theorem State.reg_setReg_self (s : State) (a : Nat) (v : Word) : (s.setReg a v).reg a = v := sparseGet_put_self _ _ a v

theorem State.reg_setReg_ne (s : State) {a c : Nat} (v : Word) (h : c ≠ a) : (s.setReg a v).reg c = s.reg c := sparseGet_put_ne _ _ v h

@[simp] theorem State.live_setLive_self (s : State) (a : Nat) (v : Word) : (s.setLive a v).live a = v := sparseGet_put_self _ _ a v

theorem State.live_setLive_ne (s : State) {a c : Nat} (v : Word) (h : c ≠ a) : (s.setLive a v).live c = s.live c := sparseGet_put_ne _ _ v h

/-- A state with the same register list reads the same words. -/
theorem State.reg_congr {s t : State} (h : t.regs = s.regs) (a : Nat) : t.reg a = s.reg a := by unfold State.reg; rw [h]

/-- A state with the same running counters reads the same running values. -/
theorem State.live_congr {s t : State} (h : t.counters = s.counters) (a : Nat) : t.live a = s.live a := by unfold State.live; rw [h]

@[simp] theorem State.reg_setLive (s : State) (a c : Nat) (v : Word) : (s.setLive a v).reg c = s.reg c := rfl
@[simp] theorem State.reg_bump (s : State) (f : Fld) (n c : Nat) : (s.bump f n).reg c = s.reg c := rfl
@[simp] theorem State.reg_send (s : State) (x : Sent) (c : Nat) : (s.send x).reg c = s.reg c := rfl
@[simp] theorem State.reg_answer (s : State) (st n : Nat) (ws : List Word) (c : Nat) : (s.answer st n ws).reg c = s.reg c := rfl
@[simp] theorem State.reg_raise (s : State) (i c : Nat) : (s.raise i).reg c = s.reg c := State.reg_congr (by simp) c
@[simp] theorem State.reg_lower (s : State) (i c : Nat) : (s.lower i).reg c = s.reg c := rfl
@[simp] theorem State.reg_level (s : State) (i : Nat) (b : Bool) (c : Nat) : (s.level i b).reg c = s.reg c := State.reg_congr (by simp) c
@[simp] theorem State.live_setReg (s : State) (a c : Nat) (v : Word) : (s.setReg a v).live c = s.live c := rfl
@[simp] theorem State.live_setFld (s : State) (f : Fld) (v c : Nat) : (s.setFld f v).live c = s.live c := rfl
@[simp] theorem State.live_send (s : State) (x : Sent) (c : Nat) : (s.send x).live c = s.live c := rfl
@[simp] theorem State.live_answer (s : State) (st n : Nat) (ws : List Word) (c : Nat) : (s.answer st n ws).live c = s.live c := rfl
@[simp] theorem State.live_raise (s : State) (i c : Nat) : (s.raise i).live c = s.live c := State.live_congr (by simp) c
@[simp] theorem State.live_lower (s : State) (i c : Nat) : (s.lower i).live c = s.live c := rfl
@[simp] theorem State.live_level (s : State) (i : Nat) (b : Bool) (c : Nat) : (s.level i b).live c = s.live c := State.live_congr (by simp) c

/-! ### Fields of a word -/

theorem Fld.put_toNat (f : Fld) (w : Word) (v : Nat) (h : f.lo + f.width ≤ 32) :
    (f.put w v).toNat = 2 ^ f.lo * (2 ^ f.width * (w.toNat / 2 ^ (f.lo + f.width)) + v % 2 ^ f.width) + w.toNat % 2 ^ f.lo := by
  have e : w.toNat % 2 ^ f.lo + v % 2 ^ f.width * 2 ^ f.lo + w.toNat / 2 ^ (f.lo + f.width) * 2 ^ (f.lo + f.width) =
      2 ^ f.lo * (2 ^ f.width * (w.toNat / 2 ^ (f.lo + f.width)) + v % 2 ^ f.width) + w.toNat % 2 ^ f.lo := by
    rw [Nat.pow_add]; ring
  have hc : w.toNat / 2 ^ (f.lo + f.width) < 2 ^ (32 - (f.lo + f.width)) := by
    rw [Nat.div_lt_iff_lt_mul (Nat.two_pow_pos _), ← Nat.pow_add, Nat.sub_add_cancel h]; exact w.isLt
  have hb : v % 2 ^ f.width < 2 ^ f.width := Nat.mod_lt _ (Nat.two_pow_pos _)
  have ha : w.toNat % 2 ^ f.lo < 2 ^ f.lo := Nat.mod_lt _ (Nat.two_pow_pos _)
  have hlt : 2 ^ f.lo * (2 ^ f.width * (w.toNat / 2 ^ (f.lo + f.width)) + v % 2 ^ f.width) + w.toNat % 2 ^ f.lo < 2 ^ 32 := by
    have h1 : 2 ^ f.width * (w.toNat / 2 ^ (f.lo + f.width)) + v % 2 ^ f.width + 1 ≤ 2 ^ f.width * 2 ^ (32 - (f.lo + f.width)) := by
      have := Nat.mul_le_mul_left (2 ^ f.width) (Nat.succ_le_of_lt hc)
      rw [Nat.mul_succ] at this; omega
    have h2 := Nat.mul_le_mul_left (2 ^ f.lo) h1
    have h3 : 2 ^ f.lo * (2 ^ f.width * 2 ^ (32 - (f.lo + f.width))) = 2 ^ 32 := by
      rw [← Nat.pow_add, ← Nat.pow_add]; congr 1; omega
    rw [h3, Nat.mul_add, Nat.mul_one] at h2; omega
  unfold Fld.put Word.ofNat
  rw [BitVec.toNat_ofNat, e, Nat.mod_eq_of_lt hlt]

/-- A field reads the low bits of what was put into it. -/
theorem Fld.get_put_self (f : Fld) (w : Word) (v : Nat) (h : f.lo + f.width ≤ 32) : f.get (f.put w v) = v % 2 ^ f.width := by
  have ha : w.toNat % 2 ^ f.lo < 2 ^ f.lo := Nat.mod_lt _ (Nat.two_pow_pos _)
  unfold Fld.get
  rw [Fld.put_toNat f w v h, Nat.mul_add_div (Nat.two_pow_pos _), Nat.div_eq_of_lt ha, Nat.add_zero, Nat.mul_add_mod, Nat.mod_mod]

/-- A field put leaves every field that shares no bit with it alone. -/
theorem Fld.get_put_disjoint (f g : Fld) (w : Word) (v : Nat) (h : f.lo + f.width ≤ 32)
    (hd : g.lo + g.width ≤ f.lo ∨ f.lo + f.width ≤ g.lo) : g.get (f.put w v) = g.get w := by
  have ha : w.toNat % 2 ^ f.lo < 2 ^ f.lo := Nat.mod_lt _ (Nat.two_pow_pos _)
  have hb : v % 2 ^ f.width < 2 ^ f.width := Nat.mod_lt _ (Nat.two_pow_pos _)
  unfold Fld.get
  rw [Fld.put_toNat f w v h]
  apply Nat.eq_of_testBit_eq
  intro i
  rw [Nat.testBit_mod_two_pow, Nat.testBit_mod_two_pow, Nat.testBit_div_two_pow, Nat.testBit_div_two_pow]
  by_cases hi : i < g.width
  · simp only [hi, decide_true, Bool.true_and]
    rw [Nat.testBit_two_pow_mul_add _ ha]
    rcases hd with hd | hd
    · have : i + g.lo < f.lo := by omega
      simp [this]
    · have h1 : ¬ i + g.lo < f.lo := by omega
      have h2 : ¬ i + g.lo - f.lo < f.width := by omega
      rw [if_neg h1, Nat.testBit_two_pow_mul_add _ hb, if_neg h2, Nat.testBit_div_two_pow]
      congr 1; omega
  · simp [hi]

/-! ### Fields of the state -/

/-- A field reads the low bits of what was set. -/
theorem State.fld_setFld_self (s : State) (f : Fld) (v : Nat) (h : f.lo + f.width ≤ 32) : (s.setFld f v).fld f = v % 2 ^ f.width := by
  unfold State.fld State.setFld; rw [State.reg_setReg_self, Fld.get_put_self f _ v h]

/-- Setting a field leaves the fields of other registers alone. -/
theorem State.fld_setFld_ne (s : State) (f g : Fld) (v : Nat) (h : g.addr ≠ f.addr) : (s.setFld f v).fld g = s.fld g := by
  unfold State.fld State.setFld; rw [State.reg_setReg_ne _ _ h]

/-- Setting a field leaves the other fields of its register alone. -/
theorem State.fld_setFld_disjoint (s : State) (f g : Fld) (v : Nat) (h : f.lo + f.width ≤ 32)
    (hd : g.lo + g.width ≤ f.lo ∨ f.lo + f.width ≤ g.lo) : (s.setFld f v).fld g = s.fld g := by
  by_cases ha : g.addr = f.addr
  · unfold State.fld State.setFld; rw [ha, State.reg_setReg_self, Fld.get_put_disjoint f g _ v h hd]
  · exact State.fld_setFld_ne s f g v ha

theorem State.reg_setFld_ne (s : State) (f : Fld) (v : Nat) {c : Nat} (h : c ≠ f.addr) : (s.setFld f v).reg c = s.reg c :=
  State.reg_setReg_ne s _ h

/-- A state with the same register list reads the same fields. -/
theorem State.fld_congr {s t : State} (h : t.regs = s.regs) (f : Fld) : t.fld f = s.fld f := by
  unfold State.fld; rw [State.reg_congr h]

@[simp] theorem State.fld_setLive (s : State) (a : Nat) (v : Word) (f : Fld) : (s.setLive a v).fld f = s.fld f := rfl
@[simp] theorem State.fld_bump (s : State) (g : Fld) (n : Nat) (f : Fld) : (s.bump g n).fld f = s.fld f := rfl
@[simp] theorem State.fld_send (s : State) (x : Sent) (f : Fld) : (s.send x).fld f = s.fld f := rfl
@[simp] theorem State.fld_answer (s : State) (st n : Nat) (ws : List Word) (f : Fld) : (s.answer st n ws).fld f = s.fld f := rfl
@[simp] theorem State.fld_raise (s : State) (i : Nat) (f : Fld) : (s.raise i).fld f = s.fld f := State.fld_congr (by simp) f
@[simp] theorem State.fld_lower (s : State) (i : Nat) (f : Fld) : (s.lower i).fld f = s.fld f := rfl
@[simp] theorem State.fld_level (s : State) (i : Nat) (b : Bool) (f : Fld) : (s.level i b).fld f = s.fld f := State.fld_congr (by simp) f

/-- A running counter after it is advanced. -/
@[simp] theorem State.live_bump_self (s : State) (f : Fld) (n : Nat) : (s.bump f n).live f.addr = s.live f.addr + Word.ofNat n :=
  State.live_setLive_self s _ _

theorem State.live_bump_ne (s : State) (f : Fld) (n : Nat) {c : Nat} (h : c ≠ f.addr) : (s.bump f n).live c = s.live c :=
  State.live_setLive_ne s _ h

/-! ### Detector pairs -/

/-- A raised source's pair stands in the collector's list. -/
theorem State.raise_any (s : State) (i : Nat) : (s.raise i).flt.pairs.any (fun p => p.index == i) = true := by
  unfold State.raise
  split
  · assumption
  · simp

/-- A lowered source's pair does not. -/
theorem State.lower_any (s : State) (i : Nat) : (s.lower i).flt.pairs.any (fun p => p.index == i) = false := by
  simp [State.lower]

/-! ### The outcome of a command -/

/-- A command's effect answers a next state, with the queue as it was. -/
theorem run_next (s : State) (f : State → State) :
    run s f = .next { f { s with sent := [], reply := none } with pending := s.pending } := rfl

end Sys2Proof.Machine
end

