-- ==== Sys2Proof/Machine/Wire.lean ====
section
/-!
DEFINITION. How the device's packets stand on the wire (R9): the header and the payload of every cell (spec/07, R187 to R198; spec/13, R321, R322, R327; spec/08, R230), the packets of the Dolad Access Protocol (R50), and the frames of the SPI slave (R48). The commands of this model carry the fields; these functions give their places.
-/

namespace Sys2Proof.Machine

/-- The 128 bytes of a payload with each field at its offset; unlisted bytes are reserved and 0 (R189). -/
def Wire.payload (fields : List (Nat × List Byte)) : List Byte :=
  fields.foldl (fun b f => b.take f.1 ++ f.2 ++ b.drop (f.1 + f.2.length)) (List.replicate 128 0)

/-- One byte. -/
def Wire.byte (x : Nat) : List Byte := beBytes 1 x

/-- The types of cells (R189, R321, R327). -/
def Cell.type : Cell → Nat
  | .link _ _ => 0x1
  | .stroke _ => 0x2
  | .cox _ => 0x3
  | .yield _ => 0x4
  | .video _ => 0x5
  | .cue _ _ _ => 0x6
  | .tunreq _ => 0x7
  | .tunrsp _ => 0x8
  | .image _ => 0x9
  | .health _ => 0xA
  | .enumerate _ _ => 0xB
  | .enumr _ _ => 0xC
  | .journal _ _ _ => 0xD
  | .pair _ => 0xE

/-- The subtypes of LINK cells (R198). -/
def LinkCell.sub : LinkCell → Nat
  | .train _ => 0
  | .cap _ => 1
  | .dlyreq => 2
  | .dlyrsp _ => 3

/-- BCAST, POS, SUB and INDEX of a cell (R188, R189). A position that an ENUMR does not give is sent as POS 0. -/
def Cell.address : Cell → Bool × Nat × Nat × Nat
  | .link seq c => (false, 0, c.sub, seq)
  | .stroke c => (true, 0, 0, c.stroke)
  | .cox c => (true, 0, 0, c.stroke)
  | .yield _ => (true, 0, 0, 0)
  | .pair _ => (true, 0, 0, 0)
  | .journal first _ _ => (false, 0, 0, first)
  | .video c => (false, c.pos, c.view % 4, c.index)
  | .cue pos bcast _ => (bcast, pos, 0, 0)
  | .tunreq c => (c.bcast, c.pos, 0, c.tag)
  | .tunrsp c => (false, c.pos, 0, c.tag)
  | .image c => (c.bcast, c.pos, 0, 0)
  | .health c => (false, c.pos, 0, c.stroke)
  | .enumerate index _ => (true, 0, 0, index)
  | .enumr index c => (false, if c.pos < 64 then c.pos else 0, 0, index)

/-- The header of a cell, but for ALT, which follows from its bits (R184, R188). -/
def Cell.header (c : Cell) : CellHeader :=
  let a := c.address
  { kind := c.type, alt := false, bcast := a.1, pos := a.2.1, sub := a.2.2.1, index := a.2.2.2 }

/-! ### Payloads -/

/-- An operation in the layout of R50: its code or status, the address in three bytes, the word. -/
def Wire.operation (code addr : Nat) (w : Word) : List Byte := beBytes 1 code ++ beBytes 3 addr ++ beBytes 4 w.toNat

/-- The request form of an operation (R50): a read carries 0 as its data. -/
def AccessOp.bytes (o : AccessOp) : List Byte := Wire.operation o.op o.addr (if o.op == 2 then o.data else 0)

/-- The response form of an operation (R50). -/
def OpResult.bytes (r : OpResult) : List Byte := Wire.operation r.status r.addr r.data

/-- The operations of a tunnel cell, from 0x08 on (R194). -/
def Wire.operations (l : List (List Byte)) : List Byte := Wire.payload [(0, Wire.byte l.length), (8, l.flatten)]

/-- LINK payloads (R198). -/
def LinkCell.payload : LinkCell → List Byte
  | .train c => Wire.payload [(0, Wire.byte (c.reqPre + 4 * c.reqPost)), (1, Wire.byte (c.statPre + 4 * c.statPost)), (2, Wire.byte (bit c.ready)),
      (3, Wire.byte c.lane)]
  | .cap c => Wire.payload [(0, Wire.byte c.cap), (1, Wire.byte c.propose), (2, Wire.byte c.ack)]
  | .dlyreq => Wire.payload []
  | .dlyrsp turn => Wire.payload [(0, beBytes 4 turn)]

/-- The STROKE payload (R190). -/
def StrokeCell.payload (c : StrokeCell) : List Byte :=
  Wire.payload ([(0x00, beBytes 4 c.stroke), (0x04, beBytes 8 c.tk), (0x0C, beBytes 4 c.accum), (0x10, beBytes 4 c.length),
    (0x14, beBytes 2 (bit c.unchanged)), (0x16, Wire.byte c.views.length)] ++
    c.views.mapIdx (fun v x => (0x18 + 8 * v, beBytes 2 x.start ++ beBytes 2 x.expStart ++ beBytes 2 x.expLen)))

/-- The COX payload (R191). -/
def CoxCell.payload (c : CoxCell) : List Byte :=
  Wire.payload [(0x00, beBytes 8 c.senderId), (0x08, beBytes 4 c.epoch), (0x0C, beBytes 4 c.stroke), (0x10, Wire.byte c.port), (0x11, Wire.byte (bit c.relay))]

/-- The YIELD payload (R322). -/
def YieldCell.payload (c : YieldCell) : List Byte :=
  Wire.payload [(0x00, beBytes 8 c.senderId), (0x08, beBytes 4 c.epoch), (0x0C, beBytes 4 c.stroke), (0x10, beBytes 2 c.source)]

/-- The PAIR payload (R321). -/
def PairCell.payload (c : PairCell) : List Byte :=
  let flags := bit c.xlink + 2 * bit c.cold + 4 * bit c.crewreq + 8 * bit c.crewack + 16 * bit c.prefer + 32 * c.lcs
  Wire.payload [(0x00, beBytes 8 c.senderId), (0x08, beBytes 4 c.epoch), (0x0C, beBytes 4 c.stroke), (0x10, Wire.byte c.state), (0x11, Wire.byte flags),
    (0x12, Wire.byte c.jfmt), (0x13, Wire.byte c.split), (0x14, beBytes 4 c.jseq), (0x18, beBytes 4 c.crewstroke), (0x1C, beBytes 4 c.validto),
    (0x20, c.digests.flatMap (fun d => beBytes 4 d.toNat)), (0x30, beBytes 4 c.fwver), (0x34, beBytes 4 c.config)]

/-- The units of a journal record (R327): the first, and the following ones as they stand, filled to 16 bytes. -/
def JournalRec.bytes (r : JournalRec) : List Byte :=
  let first := beBytes 1 r.kind ++ beBytes 1 r.units ++ beBytes 1 r.init ++ beBytes 1 r.target ++ beBytes 5 r.addr ++ beBytes 1 r.flags ++
    [0, 0] ++ beBytes 4 r.data
  first ++ r.extra ++ List.replicate (16 * (r.units - 1) - r.extra.length) 0

/-- The JOURNAL payload (R327). -/
def journalPayload (first stroke : Nat) (records : List JournalRec) : List Byte :=
  Wire.payload [(0x00, beBytes 4 first), (0x04, beBytes 4 stroke), (0x08, Wire.byte records.length), (0x10, records.flatMap JournalRec.bytes)]

/-- The CHECK field of a HEALTH cell (R230). -/
def HealthCheck.bytes (c : HealthCheck) : List Byte :=
  let window := fun (w : Nat) => beBytes 4 (c.crcs.getD w 0).toNat ++ beBytes 2 (c.regions.getD w 0)
  beBytes 1 c.gen ++ beBytes 1 c.valid ++ beBytes 1 c.drvFail ++ beBytes 1 c.drvValid ++ beBytes 4 c.shown ++ (List.range 8).flatMap window ++
    List.replicate 8 0

/-- The HEALTH payload (R196). -/
def HealthCell.payload (c : HealthCell) : List Byte :=
  let flags := bit c.hold + 2 * bit c.split + 4 * bit c.coxA + 8 * bit c.coxB + 16 * bit c.anyFault + 32 * bit c.commitRefused
  Wire.payload [(0x00, beBytes 4 c.stroke), (0x04, beBytes 4 c.lastFull), (0x08, Wire.byte flags), (0x09, Wire.byte (unsigned 8 c.temp)),
    (0x0A, beBytes 2 c.cueFree), (0x0C, beBytes 4 c.epoch), (0x10, beBytes 8 c.senderId), (0x18, beBytes 4 c.blockAny), (0x20, c.check.bytes)]

/-- The ENUMR payload (R197). -/
def EnumrCell.payload (c : EnumrCell) : List Byte :=
  Wire.payload [(0x00, beBytes 8 c.unitId), (0x08, beBytes 2 c.tw), (0x0A, beBytes 2 c.th), (0x0C, Wire.byte c.prim), (0x0D, Wire.byte c.pos),
    (0x0E, Wire.byte c.hopsB), (0x0F, Wire.byte c.rates), (0x10, beBytes 4 c.fwver)]

/-- The payload of a cell (R190 to R198, R321, R322, R327): 128 bytes. -/
def Cell.payload : Cell → List Byte
  | .link _ c => c.payload
  | .stroke c => c.payload
  | .cox c => c.payload
  | .yield c => c.payload
  | .pair c => c.payload
  | .journal first k records => journalPayload first k records
  | .video c => (c.samples.take 64).flatMap (beBytes 2)
  | .cue _ _ es => Wire.payload ((es.take 2).mapIdx (fun i e => (64 * i, e.bytes 0)))
  | .tunreq c => Wire.operations (c.ops.map AccessOp.bytes)
  | .tunrsp c => Wire.operations (c.results.map OpResult.bytes)
  | .image c => Wire.payload [(0x00, beBytes 2 c.xfer), (0x02, Wire.byte c.kind), (0x03, Wire.byte c.data.length), (0x04, beBytes 4 c.offset), (0x08, c.data)]
  | .health c => c.payload
  | .enumerate _ nexp => Wire.payload [(0x00, Wire.byte nexp)]
  | .enumr _ c => c.payload

/-- The bits of a cell on its lane (R182 to R187). -/
def Cell.line (c : Cell) : List Bool := Line.cell c.header c.payload

/-! ### The Dolad Access Protocol (R50) -/

/-- The 16 bytes before the operations of a DAP packet (R50). -/
def Wire.dapHeader (type session seq count retry status target : Nat) : List Byte :=
  beBytes 2 0x4441 ++ beBytes 1 1 ++ beBytes 1 type ++ beBytes 2 session ++ beBytes 2 seq ++ beBytes 2 count ++ beBytes 2 retry ++ beBytes 1 status ++
    [0] ++ beBytes 2 target

/-- A DAP packet that the device sends, as its UDP datagram carries it (R50). -/
def DapReply.bytes (r : DapReply) : List Byte :=
  Wire.dapHeader r.type r.session r.seq r.results.length r.retry r.status r.target ++ r.results.flatMap OpResult.bytes

/-- The header that the bytes of a received packet spell, with the addresses and the UDP port it came on (R50). -/
def dapHeaderOf (srcMac srcIp udp : Nat) (b : List Byte) : DapHeader :=
  let at_ := fun o n => beNat ((b.drop o).take n)
  { srcMac := srcMac, srcIp := srcIp, udp := udp, magic := at_ 0 2, version := at_ 2 1, type := at_ 3 1, session := at_ 4 2, seq := at_ 6 2,
    count := at_ 8 2, target := at_ 14 2 }

/-- The operations after the header, eight bytes each (R50). -/
def dapOpsOf (b : List Byte) : List AccessOp :=
  (List.range ((b.length - 16) / 8)).map (fun i =>
    let at_ := fun o n => beNat ((b.drop (16 + 8 * i + o)).take n)
    ⟨at_ 0 1, at_ 1 3, Word.ofNat (at_ 4 4)⟩)

/-! ### SPI frames (R48) -/

/-- The command that the bytes of an SPI frame give (R48): the command byte, the address, and of a write the whole words that follow it, of a read its
LEN. `room` and `clocked` are the circumstances of R49 that no byte gives. None for any other command byte. -/
def spiFrame (room clocked : Nat) (b : List Byte) : Option Instr :=
  let addr := beNat ((b.drop 1).take 3)
  let words := (List.range ((b.length - 4) / 4)).map (fun i => Word.ofNat (beNat ((b.drop (4 + 4 * i)).take 4)))
  let len := beNat ((b.drop 4).take 1)
  match beNat (b.take 1) with
  | 0x02 => some (.spiWrite addr words room)
  | 0x0B => some (.spiRead addr len clocked)
  | 0x32 => some (.spiQuadWrite addr words room)
  | 0x6B => some (.spiQuadRead addr len clocked)
  | _ => none

end Sys2Proof.Machine
end

