-- ==== Sys2Proof/Laws/Wire.lean ====
section
/-!
SUPPORT. Lemmas about the layouts on the wire: the lengths of fields and payloads.
-/

namespace Sys2Proof.Machine

theorem leBytes_length (n x : Nat) : (leBytes n x).length = n := by
  induction n generalizing x with
  | zero => rfl
  | succ n ih => simp [leBytes, ih]

@[simp] theorem beBytes_length (n x : Nat) : (beBytes n x).length = n := by simp [beBytes, leBytes_length]

@[simp] theorem Wire.operation_length (code addr : Nat) (w : Word) : (Wire.operation code addr w).length = 8 := by simp [Wire.operation]

/-- A field that lies within a payload leaves its length. -/
theorem Wire.place_length (b : List Byte) (f : Nat × List Byte) (h : f.1 + f.2.length ≤ b.length) :
    (b.take f.1 ++ f.2 ++ b.drop (f.1 + f.2.length)).length = b.length := by
  simp; omega

/-- A payload whose fields lie within it has 128 bytes. -/
theorem Wire.payload_length (l : List (Nat × List Byte)) (h : ∀ f ∈ l, f.1 + f.2.length ≤ 128) : (Wire.payload l).length = 128 := by
  have go : ∀ (l : List (Nat × List Byte)) (b : List Byte), b.length = 128 → (∀ f ∈ l, f.1 + f.2.length ≤ 128) →
      (l.foldl (fun b f => b.take f.1 ++ f.2 ++ b.drop (f.1 + f.2.length)) b).length = 128 := by
    intro l
    induction l with
    | nil => intro b hb _; exact hb
    | cons f fs ih =>
      intro b hb hf
      refine ih _ ?_ (fun g hg => hf g (List.mem_cons_of_mem _ hg))
      rw [Wire.place_length b f (by have := hf f (List.mem_cons_self ..); omega), hb]
  exact go l _ (List.length_replicate ..) h

end Sys2Proof.Machine
end

