-- ==== Sys2Proof/Machine/Pins.lean ====
section
/-!
DEFINITION. The balls of the device as the outside sees them (spec/20, R434, R437, R438; R100, R245, R334, R362, R363): the level that a ball takes in a state, and the level that an input of VDDIO_FR reads.
-/

namespace Sys2Proof.Machine

/-- What a ball shows (R438): a driven level, high impedance, the keeper's weak level, or the common mode of a terminated lane. -/
inductive Ball where
  | driven (high : Bool)
  | floating
  | keeper (high : Bool)
  | commonMode
  deriving DecidableEq, Repr

/-- The row balls are not driven (R438): the timebase is not in the role, or it has not been READY since the last full reset. -/
def State.rowsFloat (s : State) : Bool := !s.isTile || (!testBit s.boot.ready 11 && !s.boot.warm)

/-- ROWEN (R245, R246, R374, R438). -/
def State.rowEnBall (s : State) : Ball :=
  match s.ths.shutdown, s.ths.keeper with
  | true, some k => .keeper k.rowEn
  | true, none => .floating
  | false, _ => if s.rowsFloat then .floating else .driven s.rowEnHigh

/-- ROWDISCH (R245, R246, R374, R438). -/
def State.rowDischBall (s : State) : Ball :=
  match s.ths.shutdown, s.ths.keeper with
  | true, some k => .keeper k.rowDisch
  | true, none => .floating
  | false, _ => if s.rowsFloat then .floating else .driven s.rowDischHigh

/-- ROWADDR bit `i` (R245, R246, R438). -/
def State.rowAddrBall (s : State) (i : Nat) : Ball :=
  match s.ths.shutdown, s.ths.keeper with
  | true, some k => .keeper (testBit k.rowAddr i)
  | true, none => .floating
  | false, _ => if s.rowsFloat then .floating else .driven (testBit s.lamp.rowAddr i)

/-- VLED_ADJ in units of 0.1 µA, the DAC code (R252, R438, R440): START before STAGE 7 and in a thermal shutdown, 0 before the timebase is READY
and where SNK is not in the role. -/
def State.vledAdj (s : State) : Nat :=
  match s.ths.shutdown, s.ths.keeper with
  | true, some k => k.code
  | true, none => 0
  | false, _ =>
    if s.rowsFloat then 0
    else if s.fld .devBootstatStage == 7 || s.boot.holdThrough then s.fld .snkServostatCode else s.fld .snkServolimStart

/-- No sink conducts (R235, R243, R438): they are held off, or no line slot and no probe runs. -/
def State.sinksDark (s : State) : Bool := s.sinksOff || s.lamp.pulses.isEmpty

/-- A lane's transmitter (R178, R181, R438): high impedance in a thermal shutdown, terminated at common mode while its port is not in the role, is
down or rests in electrical idle, and otherwise sending. `none` says that cells are on the lane. -/
def State.laneBall (s : State) (port lane : Nat) : Option Ball :=
  if s.ths.shutdown then some .floating
  else if !s.hopOn port || testBit (s.fld (.chpStatEidle port)) lane then some .commonMode
  else none

/-- FRAMEREF_OUT (R100, R438). DEDUCED: the first column of R438 holds until a role is taken, and a holding chuck drives the ball low (log entry 135). -/
def State.frameRefBall (s : State) : Ball :=
  if s.ths.shutdown then .floating
  else if s.fld .devBootstatStage == 8 then .driven false
  else if s.fld .devRolestatRole == 0 then .driven (!s.flag .stkRefioOutpol)
  else .driven s.refOutHigh

/-- YIELD_OUT, active low (R334, R437, R438). -/
def State.yieldOutBall (s : State) : Ball := if s.ths.shutdown then .floating else .driven (!s.pairing.yieldOut)

/-- FAULT_N, an open drain (R362, R438): low, or released. -/
def State.faultBall (s : State) : Ball := if s.faultLow then .driven false else .floating

/-- IRQ_N, an open drain (R363). -/
def State.irqBall (s : State) : Ball := if s.irqLow then .driven false else .floating

/-- What a ball of the VDDIO_FR domain reads at a voltage in mV, with the rail at `rail` mV (R434, R437); between VIL and VIH the spec gives no
level. -/
def State.frInput (s : State) (rail mv : Nat) : Option Bool :=
  let low := if s.boot.frHigh then decide (mv ≤ 800) else decide (100 * mv ≤ 35 * rail)
  let high := if s.boot.frHigh then decide (2000 ≤ mv) else decide (65 * rail ≤ 100 * mv)
  if high then some true else if low then some false else none

/-- YIELD_IN, active low with a pull-up: an open or unpowered ball reads not asserted (R437). -/
def State.yieldInAsserted (s : State) (rail : Nat) (mv : Option Nat) : Option Bool :=
  match mv with
  | none => some false
  | some v => (s.frInput rail v).map (fun h => !h)

/-- FRAMEREF_IN and SHUTn have a pull-down: an open ball reads low (R437). -/
def State.pulledDown (s : State) (rail : Nat) (mv : Option Nat) : Option Bool :=
  match mv with
  | none => some false
  | some v => s.frInput rail v

/-- PROF1:PROF0 have a pull-down each, so an open pair selects P0 (R437). -/
def profPins (p1 p0 : Option Bool) : Nat := 2 * bit (p1.getD false) + bit (p0.getD false)

end Sys2Proof.Machine
end

