-- ==== Sys2Proof/WellFormed.lean ====
section
/-!
DEFINITION. Well-formed commands: the operands that name something of the block lie in the ranges spec/ gives them. A command that is not well formed names no register, port, view, flow or code of this hardware.
-/

namespace Sys2Proof

/-- An operand of a command with what it names. -/
inductive Operand where
  /-- An initiator of R43: 0 SPI, 1 tunnel, 2 MC, 3 cue, 8 to 15 DAP sessions. -/
  | initiator (n : Nat)
  /-- A page of the register map (R28). -/
  | page (n : Nat)
  /-- A register address of 24 bits, which the access checks for alignment (R28, R47). -/
  | address (n : Nat)
  /-- An offset in a window page. -/
  | offset (n : Nat)
  /-- A chain port CP0 to CP7; a tile has 0 and 1. -/
  | chainPort (n : Nat)
  /-- A chain port, or 8 for the cross-link. -/
  | path (n : Nat)
  /-- A lane of a port. -/
  | lane (n : Nat)
  /-- A tile position on a chain. -/
  | position (n : Nat)
  /-- A network port: NP0 to NP3, or 4 for MP. -/
  | netPort (n : Nat)
  /-- A sub-link of a network port. -/
  | sublink (n : Nat)
  /-- A transmit timestamp queue. -/
  | queue (n : Nat)
  /-- A video flow. -/
  | flow (n : Nat)
  /-- A leg of a flow. -/
  | leg (n : Nat)
  /-- A view. -/
  | view (n : Nat)
  /-- A buffer of an underlay. -/
  | buffer (n : Nat)
  /-- A shutter input. -/
  | shutter (n : Nat)
  /-- A stroke number (R92). -/
  | stroke (n : Nat)
  /-- A DAP session. -/
  | session (n : Nat)
  /-- A number of 16 bits. -/
  | half (n : Nat)
  /-- A cue tag. -/
  | tag (n : Nat)
  /-- A key of 16 bits. -/
  | key (n : Nat)
  /-- A field that codes a kind, an operation or a target in three bits. -/
  | code (n : Nat)
  /-- A profile P0 to P3. -/
  | profile (n : Nat)
  /-- The profile pins. -/
  | pins (n : Nat)
  /-- A supply rail in the order of R76. -/
  | rail (n : Nat)
  /-- A DRAM channel. -/
  | channel (n : Nat)
  /-- A block of R11. -/
  | block (n : Nat)
  /-- A memory group of R382. -/
  | group (n : Nat)
  /-- A byte: LEN of an SPI frame, or a field of a DAP header. -/
  | length (n : Nat)
  /-- How many words a page's access queue of 16 entries takes, as it drains, before it is full (R49). -/
  | queueRoom (n : Nat)
  /-- How many entries a payload or a field holds, within the limits of its layout (R189 to R198, R327). -/
  | count (n lo hi : Nat)
  deriving DecidableEq, Repr

/-- An operand lies in its range. -/
def Operand.ok : Operand → Bool
  | .initiator n => decide (n < 4) || (decide (8 ≤ n) && decide (n < 16))
  | .page n => decide (n < 4096)
  | .address n => decide (n < 2 ^ 24)
  | .offset n => decide (n < 1024)
  | .chainPort n => decide (n < 8)
  | .path n => decide (n < 9)
  | .lane n => decide (n < 2)
  | .position n => decide (n < 64)
  | .netPort n => decide (n < 5)
  | .sublink n => decide (n < 4)
  | .queue n => decide (n < 5)
  | .flow n => decide (n < 16)
  | .leg n => decide (n < 2)
  | .view n => decide (n < 4)
  | .buffer n => decide (n < 2)
  | .shutter n => decide (n < 4)
  | .stroke n => decide (n < 2 ^ 32)
  | .session n => decide (n < 8)
  | .half n => decide (n < 65536)
  | .tag n => decide (n < 65536)
  | .key n => decide (n < 65536)
  | .code n => decide (n < 8)
  | .profile n => decide (n < 4)
  | .pins n => decide (n < 4)
  | .rail n => decide (n < 10)
  | .channel n => decide (n < 8)
  | .block n => decide (n < 16)
  | .group n => decide (n < 23)
  | .length n => decide (n < 256)
  | .queueRoom n => decide (n < 256)
  | .count n lo hi => decide (lo ≤ n) && decide (n ≤ hi)

/-- The operands of a command that name something. -/
def Instr.operands : Instr → List Operand
  | .registerWrite init addr _ => [.initiator init, .address addr]
  | .spiWrite addr _ room => [.address addr, .queueRoom room]
  | .spiRead addr len _ => [.address addr, .length len]
  | .spiQuadWrite addr _ room => [.address addr, .queueRoom room]
  | .spiQuadRead addr len _ => [.address addr, .length len]
  | .dapOpen header => [.half header.udp, .half header.magic, .half header.session, .half header.seq, .half header.count, .half header.target, .length header.version, .length header.type]
  | .dapRequest header _ _ => [.half header.udp, .half header.magic, .half header.session, .half header.seq, .half header.count, .half header.target, .length header.version, .length header.type]
  | .dapClose header => [.half header.udp, .half header.magic, .half header.session, .half header.seq, .half header.count, .half header.target, .length header.version, .length header.type]
  | .dapSessionTimeout session => [.session session]
  | .tunnelTimeout tag => [.half tag]
  | .fenceWrite init _ => [.initiator init]
  | .fenceRead init => [.initiator init]
  | .fenceReadComplete init => [.initiator init]
  | .commitGo init page _ _ => [.initiator init, .page page]
  | .commitCancel init page => [.initiator init, .page page]
  | .blkreset init page => [.initiator init, .page page]
  | .snapReq init page _ => [.initiator init, .page page]
  | .latchInstant stroke => [.stroke stroke]
  | .profwdataWrite init _ => [.initiator init]
  | .profileCommitSlot init prof key => [.initiator init, .profile prof, .key key]
  | .profileSwitchRequest init prof key => [.initiator init, .profile prof, .key key]
  | .profileInvalidate init prof key => [.initiator init, .profile prof, .key key]
  | .profileSwitch => []
  | .powerOn => []
  | .resetNPin => []
  | .supplyReset rail _ => [.rail rail]
  | .resetRelease pins _ => [.pins pins]
  | .rstctlFull init key _ prof => [.initiator init, .key key, .profile prof]
  | .rstctlWarm init key => [.initiator init, .key key]
  | .warmRestart _ => []
  | .mcWatchdog => []
  | .holdThroughExpiry => []
  | .tapReset => []
  | .chuckBoot _ _ => []
  | .flashNoAnswer => []
  | .firmwareStart _ => []
  | .enterService _ => []
  | .supplyWarning rail _ => [.rail rail]
  | .supplyWarningClear _ => []
  | .vcoreAdaptStep _ _ _ _ _ => []
  | .timRateWrite init _ => [.initiator init]
  | .timStep init _ => [.initiator init]
  | .txqPop init queue => [.initiator init, .queue queue]
  | .ptpTxTimestamp queue => [.queue queue]
  | .ptpMessageRx port _ _ _ => [.netPort port]
  | .ptpHoldover => []
  | .senderCatch => []
  | .framerefInEdge _ _ _ => []
  | .reflost => []
  | .shutEdge input _ _ => [.shutter input]
  | .shutlost input => [.shutter input]
  | .composeLeadPoint stroke _ => [.stroke stroke]
  | .strokeMarkerLaunch => []
  | .strokeCellRx port lane cell _ _ _ => [.chainPort port, .lane lane, .stroke cell.stroke, .count cell.views.length 1 4]
  | .markerMissing => []
  | .cuePush init => [.initiator init]
  | .cueCancel init tag => [.initiator init, .tag tag]
  | .cueExecutePreparing => []
  | .cueExecuteBoundary => []
  | .cueDistribute tilesLatched => [.stroke tilesLatched]
  | .cueCellRx port lane pos _ entries _ => [.chainPort port, .lane lane, .position pos, .count entries.length 0 2]
  | .pauseFrameRx port sublink _ _ => [.netPort port, .sublink sublink]
  | .pauseExpire port sublink => [.netPort port, .sublink sublink]
  | .mpPauseRepeat => []
  | .lpiEnter port sublink => [.netPort port, .sublink sublink]
  | .lldpTx port sublink _ => [.netPort port, .sublink sublink]
  | .lpmodeNone init => [.initiator init]
  | .lpmodeLpi init => [.initiator init]
  | .lpmodeWakeonly init key => [.initiator init, .key key]
  | .wakeFrameRx _ _ => []
  | .mpRxFrame _ _ _ _ => []
  | .arpIcmpRx port sublink _ _ _ _ _ => [.netPort port, .sublink sublink]
  | .mpTxdoor init => [.initiator init]
  | .mpTxComplete => []
  | .flowEnable init flow => [.initiator init, .flow flow]
  | .flowDisable init flow => [.initiator init, .flow flow]
  | .igmpReportRepeat flow => [.flow flow]
  | .igmpQueryRx port sublink _ _ _ _ => [.netPort port, .sublink sublink]
  | .videoPacketRx packet _ => [.netPort packet.port]
  | .legDown flow leg => [.flow flow, .leg leg]
  | .shedEscalate _ => []
  | .shedEnd => []
  | .monEnable init => [.initiator init]
  | .monFrameStart stroke => [.stroke stroke]
  | .monFrameCut => []
  | .cmpWindowAccess init offset _ _ => [.initiator init, .offset offset]
  | .viewComposed stroke view _ => [.stroke stroke, .view view]
  | .composeDeadline stroke _ => [.stroke stroke]
  | .underlayBuildGo init view buf => [.initiator init, .view view, .buffer buf]
  | .underlayBuildAbort init view => [.initiator init, .view view]
  | .underlayBuildDone view => [.view view]
  | .trainCellRx port lane cell _ _ _ _ => [.chainPort port, .lane lane, .count cell.reqPre 0 2, .count cell.reqPost 0 2, .count cell.statPre 0 3, .count cell.statPost 0 3, .lane cell.lane]
  | .trainTimeout port => [.chainPort port]
  | .capCellRx port lane cell _ => [.chainPort port, .lane lane, .length cell.cap, .length cell.propose, .length cell.ack]
  | .rateVerifyDone port _ => [.chainPort port]
  | .rateChange port => [.chainPort port]
  | .hopRetry port => [.chainPort port]
  | .chpRetrain init port => [.initiator init, .chainPort port]
  | .laneDown port lane => [.chainPort port, .lane lane]
  | .laneRetrainTimer port lane => [.chainPort port, .lane lane]
  | .eidleEnter port lane => [.chainPort port, .lane lane]
  | .wakeBurstRx port lane => [.chainPort port, .lane lane]
  | .markerWakeLead => []
  | .dlyExchange port lane _ => [.chainPort port, .lane lane]
  | .dlyreqRx port lane _ _ _ => [.chainPort port, .lane lane]
  | .dlyrspRx port lane _ _ _ => [.chainPort port, .lane lane]
  | .enumStart port => [.chainPort port]
  | .enumCellRx port lane index nexp _ => [.chainPort port, .lane lane, .half index, .length nexp]
  | .enumrCellRx port lane index cell _ => [.chainPort port, .lane lane, .half index, .length cell.pos, .length cell.hopsB, .length cell.rates]
  | .coxCellRx port lane cell _ => [.chainPort port, .lane lane, .chainPort cell.port]
  | .tileVideoCellRx port lane cell _ => [.chainPort port, .lane lane, .view cell.view, .position cell.pos, .half cell.index, .count cell.samples.length 64 64]
  | .videoCellDrop port => [.chainPort port]
  | .tunreqCellRx port lane cell _ => [.path port, .lane lane, .half cell.tag, .position cell.pos, .chainPort cell.chain, .count cell.ops.length 1 15]
  | .tunrspCellRx port lane cell _ => [.path port, .lane lane, .half cell.tag, .position cell.pos, .count cell.results.length 1 15]
  | .imageCellRx port lane cell _ => [.chainPort port, .lane lane, .position cell.pos, .half cell.xfer, .length cell.kind, .count cell.data.length 1 120]
  | .healthCellRx port lane cell _ => [.chainPort port, .lane lane, .position cell.pos, .stroke cell.stroke]
  | .tileCatch => []
  | .tileLatch => []
  | .holdLimitExpiry => []
  | .rowConverted view _ => [.view view]
  | .refreshDone view => [.view view]
  | .lineSlotStart view _ _ _ _ => [.view view]
  | .viewSlotEnd view _ => [.view view]
  | .probe _ => []
  | .ltbLockLost => []
  | .ltbRelock => []
  | .referenceSourceLock _ _ => []
  | .fmapselClr init => [.initiator init]
  | .grnCheck init => [.initiator init]
  | .grnInstall init key => [.initiator init, .key key]
  | .grnInstallVolatile init key => [.initiator init, .key key]
  | .grnInstallDone _ => []
  | .grnStopBurnish init => [.initiator init]
  | .grnSaveCheckpoint init => [.initiator init]
  | .grnClearAccumulators init key => [.initiator init, .key key]
  | .checkpointTimer => []
  | .grnXferidWrite init _ => [.initiator init]
  | .grnAccumWrite init offset _ => [.initiator init, .offset offset]
  | .calGo init kind _ _ => [.initiator init, .code kind]
  | .calAbort init => [.initiator init]
  | .calAutoRequest kind _ => [.code kind]
  | .calStep _ _ _ => []
  | .calSequenceApply _ => []
  | .dlyRetry _ => []
  | .dramOpreq init op => [.initiator init, .code op]
  | .dramOpSwitch => []
  | .dramTrainingDone channel _ _ => [.channel channel]
  | .gatherBoundExceeded channel => [.channel channel]
  | .mr4Poll channel _ => [.channel channel]
  | .oscillatorSample channel _ _ => [.channel channel]
  | .retrainStep channel _ => [.channel channel]
  | .patrolScrub _ _ _ => []
  | .srcmdJournalRetention init key => [.initiator init, .key key]
  | .srcmdReturnService init key => [.initiator init, .key key]
  | .journalBufferFlush => []
  | .drcLogClear init => [.initiator init]
  | .pairCellRx path lane _ _ => [.path path, .lane lane]
  | .pairFormTimeout => []
  | .journalCellRx path lane _ stroke records _ => [.path path, .lane lane, .stroke stroke, .count records.length 1 7]
  | .pairCrewChange init key => [.initiator init, .key key]
  | .pairYield init key => [.initiator init, .key key]
  | .pairRejoin init key => [.initiator init, .key key]
  | .resyncComplete => []
  | .yieldInAsserted => []
  | .yieldCellRx path lane _ _ => [.path path, .lane lane]
  | .witnessLost => []
  | .takeover => []
  | .coldTakeoverReady => []
  | .crewHandover => []
  | .crewPeriod => []
  | .crosslinkLost => []
  | .splitDriveStart port => [.chainPort port]
  | .splitDriveEnd port => [.chainPort port]
  | .faultRecognised _ => []
  | .brokenWire _ => []
  | .brokenWireClear _ => []
  | .fltRelease init key => [.initiator init, .key key]
  | .fltProof init => [.initiator init]
  | .fltProofSweep init => [.initiator init]
  | .fltProofAbort init => [.initiator init]
  | .proofMiss => []
  | .maskingWindowClose block => [.block block]
  | .fltLogClear init => [.initiator init]
  | .thsSample _ _ _ => []
  | .thsThrcfgWrite init _ => [.initiator init]
  | .thermalShutdown => []
  | .bistRunGroups init key => [.initiator init, .key key]
  | .bistRunAll init key => [.initiator init, .key key]
  | .bistAbort init key => [.initiator init, .key key]
  | .bistClearSoft init key => [.initiator init, .key key]
  | .bistBurnFuses init key => [.initiator init, .key key]
  | .bistGroupStart => []
  | .bistGroupDone group _ _ => [.group group]
  | .lcsTransition init target key => [.initiator init, .code target, .key key]
  | .keyEnrol init key => [.initiator init, .key key]
  | .updXferOpen init _ => [.initiator init]
  | .stageSectorProgrammed _ _ => []
  | .updVerify init key => [.initiator init, .key key]
  | .updArm init key => [.initiator init, .key key]
  | .updDisarm init key => [.initiator init, .key key]
  | .updConfirm init key => [.initiator init, .key key]
  | .updReject init key => [.initiator init, .key key]
  | .updDistribute init key => [.initiator init, .key key]
  | .updDiscard init key => [.initiator init, .key key]
  | .updStoreSettings init key => [.initiator init, .key key]
  | .updApplySettings init key => [.initiator init, .key key]
  | .regattaActivate => []
  | .autoconfExpiry => []
  | .sectorCopy _ => []
  | .recoveryStart init key => [.initiator init, .key key]
  | .recovdataWrite init _ => [.initiator init]
  | .recoveryGo init key => [.initiator init, .key key]
  | .laneAligned port lane => [.chainPort port, .lane lane]
  | .sublinkLinkChange port sublink _ => [.netPort port, .sublink sublink]
  | .chainEndCoxRx port lane _ _ => [.chainPort port, .lane lane]
  | .framerefOutPulseEnd => []
  | .stageVerifyDone => []
  | .priorCopyDone => []
  | .checkpointSaved _ => []
  | .shutpendRecheck _ => []

/-- A command whose operands all lie in their ranges. -/
def Instr.wellFormed (i : Instr) : Bool := i.operands.all Operand.ok

end Sys2Proof
end

