-- ==== Sys2Proof/Tests/Slice0.lean ====
section
/-!
SUPPORT. Tests: a state and operands that meet the hypotheses of every clause of every statement, ill-formed terms that WellFormed refuses,
and commands run on small states.
-/

set_option maxRecDepth 100000
set_option linter.unusedVariables false

namespace Sys2Proof.Tests

open Machine

/-- The state that a command leaves. -/
def out (r : Result) : State := match r with
  | .next s => s
  | _ => State.reset

def dev : PageInfo := ⟨.dev, 0, 1, 1, .both, false, false, 6, 15⟩

/-- A tile at 60 strokes a second with two views of 96 rows and 4 sub-frames at 16-bit PWM: the worked example of R20. -/
def tileProfile : Profile :=
  { seq := 1, role := 2, pair := 0, flags := 1, laneRate := 0, netPorts := 0, dramPop := 1, dramOp := 0, mpCfg := 1, rateNum := 60,
    rateDen := 1, views := 2, rows := 96, subfr := 4, pwmBits := 16, feather := 0, holdLim := 1000, sinkRange := 0, pmbusAdr := 0,
    strokeSrc := 0, sections := [] }

/-- A sender with four channels and its stroke rate from the network clock. -/
def senderProfile : Profile :=
  { seq := 1, role := 1, pair := 0, flags := 0, laneRate := 0, netPorts := 0x1111, dramPop := 0xF, dramOp := 0, mpCfg := 1,
    rateNum := 60, rateDen := 1, views := 1, rows := 32, subfr := 1, pwmBits := 13, feather := 0, holdLim := 1000, sinkRange := 0,
    pmbusAdr := 0, strokeSrc := 0, sections := [] }

/-- A state with some fields written. -/
def put (s : State) (l : List (Fld × Nat)) : State := l.foldl (fun s x => s.setFld x.1 x.2) s

/-- A part out of reset, in state OPEN, before it takes a role. -/
def base : State :=
  { State.reset with boot.inReset := false, boot.ready := 0xFFFF, boot.refclk := true, life.blown := stateCopies 2, flt.sampling := true }

/-- A tile in service, served by its port A at position 0, locked to its markers. -/
def tile : State :=
  { put base [(.devRolestatRole, 2), (.devBootstatStage, 7), (.klsTstatServ, 1), (.klsTstatPosvalid, 1), (.snkStatMapok, 1)] with
    boot.profile := some tileProfile, boot.refSource := some 0, time.locked := true }

/-- A sender in service, alone. -/
def sender : State :=
  { put base [(.devRolestatRole, 1), (.devBootstatStage, 7)] with boot.profile := some senderProfile, time.running := true }

/-- The active sender of a pair. -/
def pairA : State :=
  { put sender [(.pairStatState, 2), (.devRolestatPairpos, 1)] with
    boot.profile := some { senderProfile with pair := 1 }, pairing.control := true, life.unitId := 1 }

/-- The ready standby of a pair. -/
def pairB : State :=
  { put sender [(.pairStatState, 3), (.devRolestatPairpos, 2)] with
    boot.profile := some { senderProfile with pair := 1 }, pairing.joined := true, pairing.active := some (1, 1), life.unitId := 2 }

/-- A sender of a pair that has not formed. -/
def pairU : State := { put pairB [(.pairStatState, 1)] with pairing.active := none }

/-- A profile record of 68 bytes without SECTIONS (R58), whose CRC takes SEQ as 0. -/
def profileBytes (p : Profile) : List Byte :=
  let body := leBytes 1 p.role ++ leBytes 1 p.pair ++ leBytes 2 p.flags ++ leBytes 2 p.laneRate ++ leBytes 2 p.netPorts ++
    leBytes 1 p.dramPop ++ leBytes 1 p.dramOp ++ leBytes 2 p.mpCfg ++ leBytes 2 p.rateNum ++ leBytes 2 p.rateDen ++ leBytes 1 p.views ++
    leBytes 1 p.rows ++ leBytes 1 p.subfr ++ leBytes 1 p.pwmBits ++ leBytes 2 p.feather ++ leBytes 2 p.holdLim ++ leBytes 1 p.sinkRange ++
    leBytes 1 p.pmbusAdr ++ leBytes 2 p.strokeSrc ++ leBytes 2 0 ++ List.replicate 22 0
  let head := leBytes 4 0x46505953 ++ leBytes 2 1 ++ leBytes 2 68
  head ++ leBytes 4 p.seq ++ body ++ leBytes 4 (crc32 (head ++ List.replicate 4 0 ++ body)).toNat

/-- A tile with its own profile stored as profile 0. -/
def tileStored : State := { tile with boot.store := memWrite [] 0 (profileBytes tileProfile) }

/-- A part at stage 4 with profile 0 stored. -/
def stage4 : State := { put base [(.devBootstatStage, 4)] with boot.store := memWrite [] 0 (profileBytes tileProfile) }

def lane0 : Lane := Lane.reset
def port0 : ChainPort := ChainPort.reset
/-- `s` with its chain port 0 replaced. -/
def onPort0 (s : State) (p : ChainPort) : State := { s with chain.ports := p :: List.replicate 7 ChainPort.reset }

def cell : StrokeCell := ⟨1, 0, 0, 0, false, []⟩
def entry : CueEntry := ⟨1, 1, 1, 0, 0, 0, 0xE040, [5]⟩
def cue : Cue := ⟨entry, 0, false, 0, false, 0⟩
def pcell : PairCell := ⟨1, 1, 1, 2, true, false, false, false, false, 2, 1, 0, 0, 0, 0, [], 0, 0⟩
def plan : ViewPlan := ⟨0, ⟨0, 0, 0⟩, [], none, false, false⟩
def surf : Surface := ⟨0, 0, 0, 0, 0, 0, 0, 0⟩
def check0 : HealthCheck := ⟨0, 0, 0, 0, 0, [], []⟩
def health : HealthCell := ⟨0, 0, 0, false, false, false, false, false, false, 0, 0, 0, 0, 0, check0⟩
def calEnv : CalEnv := ⟨4200, true, 0, true, 0⟩
def seq0 : CalSeq := ⟨1, false, 0, 0, 1, 0, [], false, false⟩
def upd : UpdXfer := ⟨0, 2, 64, true, [], false⟩
/-- A DAP header of a type, to the port of reset, for session 0, SEQ 0, with a count of operations. -/
def hdr (type count : Nat) : DapHeader := ⟨1, 2, base.fld .devDapcfgPort, 0x4441, 1, type, 0, 0, count, 0⟩

/-- A settings record of 36 bytes for a tile, without records (R422). -/
def settingsRecord : List Byte :=
  let b := leBytes 4 0x53544553 ++ [0, 2, 0, 0] ++ leBytes 4 36 ++ List.replicate 20 0
  b ++ leBytes 4 (crc32 b).toNat

/-- A sender whose settings stand and whose first stroke is in composition. -/
def serving : State := { put sender [(.devBootstatStage, 6)] with cmp.flights := [⟨1, 0, 0, 0, [plan], false, false⟩] }

theorem witness_StepRunsTheFrontCommand_1 : ∃ (c : Instr) (rest : List Instr) (s : State),
    (s.pending = c :: rest) :=
  ⟨(.dapOpen (hdr 3 0)), [], ({ base with pending := [.dapOpen (hdr 3 0)] } : State), by decide⟩

theorem witness_IdleStepIsOneSamplePeriod_1 : ∃ (s : State),
    (s.pending = []) :=
  ⟨base, by decide⟩

theorem witness_RegisterFileStaysCanonical_1 : ∃ (s : State) (t : State),
    (s.canonical) ∧
    (step s = .next t) :=
  ⟨base, (out (step base)), ⟨by unfold State.canonical; decide, rfl⟩⟩

theorem witness_ResetIsCanonical_4 : ∃ (a : Nat),
    (a ≠ 0x74) :=
  ⟨0x40, by decide⟩

theorem witness_MisalignedWriteIsAnsweredAlign_1 : ∃ (s : State) (init : Nat) (addr : Nat) (data : Word),
    (s.powered = true) ∧
    (addr % 4 ≠ 0) :=
  ⟨base, 0, 0x41, 0, by decide⟩

theorem witness_RefusedWriteChangesNothing_1 : ∃ (s : State) (init : Nat) (addr : Nat) (data : Word),
    (s.powered = true) ∧
    (s.gate init addr true ≠ 0) :=
  ⟨base, 0, 0xE040, 0, by decide⟩

theorem witness_ShadowWriteStaysOutOfForce_1 : ∃ (s : State) (init : Nat) (addr : Nat) (data : Word) (p : PageInfo) (r : RegSpec),
    (s.performs init addr) ∧
    (pageInfo (addr / 4096) = some p) ∧
    (0x840 ≤ addr % 4096) ∧
    (findReg p.type (addr % 4096 - 0x800) = some r) ∧
    (r.shadowed = true) :=
  ⟨tile, 0, 0xE840, 1, ((pageInfo 0xE).getD dev), ((findReg .snk 0x40).getD ⟨0, 0, 0, 0, 0, false, []⟩), by unfold State.performs; decide⟩

theorem witness_ActiveSenderJournalsItsWrites_1 : ∃ (s : State) (init : Nat) (addr : Nat) (data : Word),
    (s.reaches init addr = true) ∧
    (s.journals = true) ∧
    ((init = 0 ∨ 8 ≤ init)) ∧
    (addr % 4096 ≠ 0x10) ∧
    (addr ≠ 0x3048) ∧
    (addr ≠ 0x304C) ∧
    (addr / 4096 ≠ 7) ∧
    ((({ s with sent := [], reply := none } : State).writeAll init addr data none).2 = 0) :=
  ⟨pairA, 0, 0x40, 5, by decide⟩

theorem witness_SpiFramesActAsRegisterAccesses_1 : ∃ (s : State) (addr : Nat) (room : Nat) (w : Word),
    (addr < 2 ^ 24) ∧
    (0 < room) ∧
    (s.performs 0 addr) ∧
    ((({ s with sent := [], reply := none } : State).write 0 addr w none).2 = 0) :=
  ⟨base, 0x40, 1, 5, by unfold State.performs; decide⟩

theorem witness_SpiFramesActAsRegisterAccesses_2 : ∃ (s : State) (addr : Nat),
    (addr < 2 ^ 24) ∧
    (s.powered = true) ∧
    (s.gate 0 addr false = 0) ∧
    (addr ≠ 0x44) ∧
    (addr / 4096 < 7) :=
  ⟨base, 0x40, by decide⟩

theorem witness_FencesAreCountedByInitiator_1 : ∃ (s : State) (init : Nat) (data : Word),
    (s.performs init 0x44) :=
  ⟨base, 0, 0, by unfold State.performs; decide⟩

theorem witness_FencesAreCountedByInitiator_2 : ∃ (s : State) (init : Nat),
    (s.powered = true) ∧
    (s.gate init 0x44 false = 0) ∧
    (init ∉ s.access.fenceWait) :=
  ⟨base, 0, by decide⟩

theorem witness_FencesAreCountedByInitiator_3 : ∃ (s : State) (init : Nat),
    (init < 16) ∧
    (s.gate init 0x44 false = 0) ∧
    (init ∈ s.access.fenceWait) :=
  ⟨({ base with access.fenceWait := [0] } : State), 0, by decide⟩

theorem witness_DapSessionsOpenAndEnd_1 : ∃ (s : State) (h : DapHeader) (i : Nat),
    (s.takesDap h 3) ∧
    ((List.range 8).find? (fun i => !s.access.sessions.any (fun x => x.id == i)) = some i) :=
  ⟨(put tile [(.devDapcfgEnable, 1)]), (hdr 3 0), 0, by unfold State.takesDap; decide⟩

theorem witness_DapSessionsOpenAndEnd_2 : ∃ (s : State) (h : DapHeader),
    (s.takesDap h 3) ∧
    ((List.range 8).find? (fun i => !s.access.sessions.any (fun x => x.id == i)) = none) :=
  ⟨({ put tile [(.devDapcfgEnable, 1)] with access.sessions := (List.range 8).map (fun i => ⟨i, none, none⟩) } : State), (hdr 3 0), by unfold State.takesDap; decide⟩

theorem witness_DapSessionsOpenAndEnd_3 : ∃ (s : State) (h : DapHeader),
    (s.takesDap h 5) :=
  ⟨(put tile [(.devDapcfgEnable, 1)]), (hdr 5 0), by unfold State.takesDap; decide⟩

theorem witness_DapSessionsOpenAndEnd_5 : ∃ (s : State) (h : DapHeader) (queued : Nat) (x : DapSession),
    (s.takesDap h 1) ∧
    (s.access.sessions.find? (fun x => x.id == h.session) = some x) ∧
    (x.lastSeq = none) ∧
    (h.count = 1) ∧
    (h.target = 0) ∧
    (min queued s.access.queue ≤ 255) :=
  ⟨({ put tile [(.devDapcfgEnable, 1)] with access.sessions := [⟨0, none, none⟩] } : State), (hdr 1 1), 0, ⟨0, none, none⟩, by unfold State.takesDap; decide⟩

theorem witness_DapSessionsOpenAndEnd_6 : ∃ (s : State) (h : DapHeader) (ops : List AccessOp) (queued : Nat) (x : DapSession) (r : DapReply),
    (s.takesDap h 1) ∧
    (s.access.sessions.find? (fun x => x.id == h.session) = some x) ∧
    (x.lastSeq = some (h.seq % 65536)) ∧
    (x.stored = some r) ∧
    (h.count = ops.length) ∧
    (0 < h.count) ∧
    (h.count ≤ 128) ∧
    (h.target = 0) :=
  ⟨({ put tile [(.devDapcfgEnable, 1)] with access.sessions := [⟨0, some 0, some ((hdr 1 1).reply 0 0 [])⟩] } : State), (hdr 1 1), [⟨3, 0x44, 0⟩], 0, ⟨0, some 0, some ((hdr 1 1).reply 0 0 [])⟩, ((hdr 1 1).reply 0 0 []), by unfold State.takesDap; decide⟩

theorem witness_TunnelOperationsAreAnswered_1 : ∃ (s : State) (port : Nat) (lane : Nat) (cell : TunreqCell),
    (port < 2) ∧
    (s.powered = true) ∧
    (s.isTile = true) ∧
    (s.serves port = true) ∧
    (s.restarting = false) ∧
    (s.flag .klsTstatPosvalid = true) ∧
    (cell.pos = s.fld .klsTstatPos) ∧
    (cell.bcast = false) ∧
    (cell.ops = [⟨3, 0x44, 0⟩]) :=
  ⟨tile, 0, 1, ⟨0, 0, false, [⟨3, 0x44, 0⟩], 0⟩, by decide⟩

theorem witness_TunnelOperationsAreAnswered_2 : ∃ (s : State) (port : Nat) (lane : Nat) (cell : TunreqCell),
    (port < 2) ∧
    (s.isTile = true) ∧
    (s.serves port = false) ∧
    (s.restarting = false) ∧
    (s.flag .klsTstatPosvalid = true) ∧
    (cell.pos = s.fld .klsTstatPos) ∧
    (cell.bcast = false) :=
  ⟨tile, 1, 1, ⟨0, 0, false, [⟨3, 0x44, 0⟩], 0⟩, by decide⟩

theorem witness_TunnelOperationsAreAnswered_3 : ∃ (s : State) (port : Nat) (lane : Nat) (cell : TunrspCell) (r : TunnelReq),
    (s.drives = true) ∧
    (s.access.tunnel.find? (fun t => t.tag == cell.tag && (port == 8 || t.port == port) && t.sent) = some r) ∧
    (r.session < 8) :=
  ⟨({ sender with access.tunnel := [⟨0, 0, 0, 0, 0, 0, [⟨3, 0x44, 0⟩], true⟩] } : State), 0, 1, ⟨0, 0, [⟨0, 0x44, 0⟩]⟩, ⟨0, 0, 0, 0, 0, 0, [⟨3, 0x44, 0⟩], true⟩, by decide⟩

theorem witness_TunnelOperationsAreAnswered_4 : ∃ (s : State) (tag : Nat) (r : TunnelReq),
    (s.access.tunnel.find? (fun t => t.tag == tag) = some r) ∧
    (r.session < 8) :=
  ⟨({ sender with access.tunnel := [⟨0, 0, 0, 0, 0, 0, [⟨3, 0x44, 0⟩], true⟩] } : State), 0, ⟨0, 0, 0, 0, 0, 0, [⟨3, 0x44, 0⟩], true⟩, by decide⟩

theorem witness_CommitAcceptedRefusedCancelled_1 : ∃ (s : State) (init : Nat) (page : Nat) (dropLate : Bool) (p : PageInfo),
    (page < 4096) ∧
    (s.performs init (pageAddr page 0x10)) ∧
    (pageInfo page = some p) ∧
    (p.shadow = true) ∧
    (s.fld (.hdrCommitState page) ≠ 1) ∧
    (s.lateFor (s.fld (.hdrCommitStroke page)) = false) ∧
    (s.commitRange (s.withShadows (s.together page (s.fld (.hdrCommitStroke page)))) page = true) ∧
    (s.commitBudget (s.withShadows (s.together page (s.fld (.hdrCommitStroke page)))) page = true) :=
  ⟨(put tile [((.hdrCommitStroke 0xE), 5)]), 0, 0xE, false, ((pageInfo 0xE).getD dev), by unfold State.performs; decide⟩

theorem witness_CommitAcceptedRefusedCancelled_2 : ∃ (s : State) (init : Nat) (page : Nat) (dropLate : Bool) (p : PageInfo),
    (page < 4096) ∧
    (s.performs init (pageAddr page 0x10)) ∧
    (pageInfo page = some p) ∧
    (p.shadow = true) ∧
    (s.fld (.hdrCommitState page) ≠ 1) ∧
    (s.lateFor (s.fld (.hdrCommitStroke page)) = false) ∧
    (s.commitRange (s.withShadows (s.together page (s.fld (.hdrCommitStroke page)))) page = false) :=
  ⟨(put tile [((.hdrCommitStroke 0x2), 5), ((Fld.shadow .stkPhase), 0x7FFFFFFF)]), 0, 0x2, false, ((pageInfo 2).getD dev), by unfold State.performs; decide⟩

theorem witness_CommitAcceptedRefusedCancelled_3 : ∃ (s : State) (init : Nat) (page : Nat) (p : PageInfo),
    (page < 4096) ∧
    (s.performs init (pageAddr page 0x10)) ∧
    (pageInfo page = some p) ∧
    (p.shadow = true) ∧
    (s.fld (.hdrCommitState page) = 1) :=
  ⟨(put tile [((.hdrCommitState 0xE), 1)]), 0, 0xE, ((pageInfo 0xE).getD dev), by unfold State.performs; decide⟩

theorem witness_LatchAndSnapshotRequests_1 : ∃ (s : State) (stroke : Nat) (c : Commit),
    (s.isTile = true) ∧
    (s.strokesRun = true) ∧
    (s.boot.warning = false) ∧
    (s.access.commits = [c]) ∧
    (c.page < 4096) ∧
    (c.target = wrap32 (s.stroke + 1)) ∧
    (c.grouped = false) ∧
    (c.recorded = none) ∧
    (s.latchReason [c.page] c.page = 0) :=
  ⟨({ tile with access.commits := [⟨0xE, 1, false, false, none⟩] } : State), 1, ⟨0xE, 1, false, false, none⟩, by decide⟩

theorem witness_LatchAndSnapshotRequests_2 : ∃ (s : State) (init : Nat) (page : Nat) (auto : Bool) (p : PageInfo),
    (page < 4096) ∧
    (s.performs init (pageAddr page 0x20)) ∧
    (pageInfo page = some p) ∧
    (p.snapable = true) :=
  ⟨tile, 0, 0xE, false, ((pageInfo 0xE).getD dev), by unfold State.performs; decide⟩

theorem witness_LatchAndSnapshotRequests_3 : ∃ (s : State) (init : Nat) (page : Nat) (p : PageInfo),
    (page < 4096) ∧
    (s.performs init (pageAddr page 0x0C)) ∧
    (pageInfo page = some p) ∧
    (p.block ≠ 13) ∧
    (p.block ≠ 15) :=
  ⟨tile, 0, 0xE, ((pageInfo 0xE).getD dev), by unfold State.performs; decide⟩

theorem witness_RateWriteKeepsTimeContinuous_1 : ∃ (s : State) (init : Nat) (rate : Word),
    (s.performs init 0x1044) :=
  ⟨tile, 0, 0, by unfold State.performs; decide⟩

theorem witness_StepAddsItsDeltaOrIsRefused_1 : ∃ (s : State) (init : Nat) (force : Bool),
    (s.performs init 0x1050) :=
  ⟨tile, 0, false, by unfold State.performs; decide⟩

theorem witness_TransmitTimestampsQueueInOrder_1 : ∃ (s : State) (q : Nat),
    (q < s.time.txq.length) ∧
    (testBit s.boot.testing 2 = false) ∧
    ((s.time.txq.getD q []).length < 64) :=
  ⟨sender, 0, by decide⟩

theorem witness_TransmitTimestampsQueueInOrder_2 : ∃ (s : State) (init : Nat) (q : Nat),
    (q < 5) ∧
    (s.performs init (0x110C + 16 * q)) :=
  ⟨sender, 0, 0, by unfold State.performs; decide⟩

theorem witness_PtpServoStepsAndHoldsOver_1 : ∃ (s : State) (port : Nat) (octets : Nat) (dest : FrameDest) (ds : List Nat) (raw : Int),
    (s.servoRuns = true) ∧
    (s.ptpPort = port) ∧
    (s.receives port 0 = true) ∧
    (s.wakeOnly = false) ∧
    (64 ≤ octets) ∧
    (octets ≤ 9216) ∧
    (s.time.master = some ds) ∧
    ((s.fld .timPtpstatState = 1 ∨ s.fld .timPtpstatState = 2)) ∧
    (testBit s.boot.testing 2 = false) ∧
    (s.time.servoStepped = false) :=
  ⟨({ put sender [(.timPtpstatState, 1), (.timPtpcfgOwner, 0)] with time.master := some [] } : State), 0, 64, .multicast, [], 5, by decide⟩

theorem witness_PtpServoStepsAndHoldsOver_2 : ∃ (s : State),
    (s.servoRuns = true) ∧
    ((s.fld .timPtpstatState = 1 ∨ s.fld .timPtpstatState = 2)) :=
  ⟨(put sender [(.timPtpstatState, 2), (.timPtpcfgOwner, 0)]), by decide⟩

theorem witness_ReferenceEdgesAndLosses_1 : ∃ (s : State) (source : Nat) (rising : Bool) (instant : Int),
    (s.isSender = true) ∧
    (s.prof (·.strokeSrc) = source) ∧
    ((source = 1 ∧ rising = !s.flag .stkRefioInedge ∨ source = 2 ∧ rising = true)) ∧
    (s.time.lastEdge = none) :=
  ⟨({ sender with boot.profile := some { senderProfile with strokeSrc := 1 } } : State), 1, true, 0, by decide⟩

theorem witness_ReferenceEdgesAndLosses_2 : ∃ (s : State),
    (s.isSender = true) ∧
    ((s.prof (·.strokeSrc) = 1 ∨ s.prof (·.strokeSrc) = 2)) :=
  ⟨({ sender with boot.profile := some { senderProfile with strokeSrc := 2 } } : State), by decide⟩

theorem witness_ReferenceEdgesAndLosses_4 : ∃ (s : State) (n : Nat) (instant : Int),
    (s.isSender = true) ∧
    (n < s.time.shut.length) :=
  ⟨sender, 3, 0, by decide⟩

theorem witness_ReferenceEdgesAndLosses_5 : ∃ (s : State) (n : Nat),
    (s.isSender = true) ∧
    (n < 4) :=
  ⟨sender, 3, by decide⟩

theorem witness_ReferenceEdgesAndLosses_6 : ∃ (s : State),
    (s.isTile = true) ∧
    (s.time.locked = true) ∧
    (s.time.marker = none) :=
  ⟨tile, by decide⟩

theorem witness_CuePushAndCancel_1 : ∃ (s : State) (init : Nat),
    (s.performs init 0x3048) ∧
    (s.cueIn.malformed s.isTile = false) ∧
    (s.cueFree ≠ 0) ∧
    ((s.cueIn.toTiles || !s.cueLate s.cueIn.stroke) = true) :=
  ⟨(put sender [((.cueIn 1), 0x101), ((.cueIn 0), 1), ((.cueIn 3), 0x1044)]), 0, by unfold State.performs; decide⟩

theorem witness_CuePushAndCancel_2 : ∃ (s : State) (init : Nat),
    (s.performs init 0x3048) ∧
    (s.cueIn.malformed s.isTile = true) :=
  ⟨sender, 0, by unfold State.performs; decide⟩

theorem witness_CuePushAndCancel_3 : ∃ (s : State) (init : Nat) (tag : Nat),
    (tag < 65536) ∧
    (s.performs init 0x304C) :=
  ⟨sender, 0, 65535, by unfold State.performs; decide⟩

theorem witness_CuesAreDistributedAndReceived_1 : ∃ (s : State) (latched : Nat) (c : Cue),
    (s.drives = true) ∧
    (s.journals = false) ∧
    (s.cue.queue = [c]) ∧
    (c.entry.toTiles = true) ∧
    (testBit c.entry.target 10 = false) ∧
    (testBit c.entry.target 11 = false) ∧
    (s.cueBadTarget c.entry = false) ∧
    (strokesAhead c.entry.stroke s.stroke ≤ s.fld .cueCfgDistlead) ∧
    (0 < s.cueCredit (c.entry.target / 4096 % 8) (c.entry.target % 64)) ∧
    (c.entry.target / 4096 % 8 < s.chain.ports.length) :=
  ⟨({ put sender [(.chpCtrlEnable 0, 1), (.chpStatState 0, 2), (.chpEnumrec3Valid 0 0, 1)] with cue.queue := [⟨{ entry with target := 0x8000 }, 0, false, 0, false, 0⟩], cue.credits := [(0, 8)] } : State), 0, ⟨{ entry with target := 0x8000 }, 0, false, 0, false, 0⟩, by decide⟩

theorem witness_CuesAreDistributedAndReceived_2 : ∃ (s : State) (port : Nat) (lane : Nat) (pos : Nat) (e : CueEntry),
    (s.isTile = true) ∧
    (s.serves port = true) ∧
    (s.restarting = false) ∧
    (s.flag .klsTstatPosvalid = true) ∧
    (pos = s.fld .klsTstatPos) ∧
    (testBit s.boot.testing 3 = false) ∧
    (e.target = 0) ∧
    (e.action ≠ 0) ∧
    (e.malformed true = false) ∧
    (s.cueFree ≠ 0) ∧
    (s.cueLate e.stroke = false) :=
  ⟨tile, 0, 0, 0, entry, by decide⟩

theorem witness_CuesExecuteAtTheirBoundary_1 : ∃ (s : State) (c : Cue),
    (s.cuesRun = true) ∧
    (s.access.prepared = s.boundary) ∧
    (s.cue.queue = [c]) ∧
    (c.entry.toTiles = false) ∧
    (c.late = false) ∧
    (c.prepared = false) ∧
    (c.status = 0) ∧
    (c.entry.action = 1) ∧
    (c.entry.fence = false) ∧
    (0x800 ≤ c.entry.addr % 4096) ∧
    (c.entry.stroke = wrap32 (s.boundary + 1)) ∧
    (s.performs 3 c.entry.addr) :=
  ⟨({ tile with cue.queue := [⟨{ entry with addr := 0xE840, stroke := 1 }, 0, false, 0, false, 0⟩] } : State), ⟨{ entry with addr := 0xE840, stroke := 1 }, 0, false, 0, false, 0⟩, by unfold State.performs; decide⟩

theorem witness_CuesExecuteAtTheirBoundary_2 : ∃ (s : State) (c : Cue),
    (s.cuesRun = true) ∧
    (s.cue.queue = [c]) ∧
    (c.entry.toTiles = false) ∧
    (c.late = false) ∧
    (c.prepared = false) ∧
    (c.status = 0) ∧
    (c.entry.action = 1) ∧
    (c.entry.fence = false) ∧
    (c.entry.addr % 4096 < 0x800) ∧
    (0x40 ≤ c.entry.addr % 4096) ∧
    (strokeAfter c.entry.stroke s.boundary = false) ∧
    (s.performs 3 c.entry.addr) ∧
    (c.entry.addr / 4096 = 0xE) ∧
    (c.entry.addr ≠ 0xE074) :=
  ⟨({ tile with cue.queue := [⟨{ entry with stroke := 0 }, 0, false, 0, false, 0⟩] } : State), ⟨{ entry with stroke := 0 }, 0, false, 0, false, 0⟩, by unfold State.performs; decide⟩

theorem witness_LanesTrainAndHopsStep_1 : ∃ (s : State) (port : Nat) (lane : Nat) (c : TrainCell) (ready : Bool) (a : Nat) (b : Nat),
    (port < 8) ∧
    (lane < 2) :=
  ⟨tile, 0, 1, ⟨0, 0, 0, 0, true, 1⟩, true, 0, 0, by decide⟩

theorem witness_LanesTrainAndHopsStep_2 : ∃ (s : State) (port : Nat),
    (port < 8) ∧
    (s.fld (.chpStatState port) = 1) ∧
    ((s.port port).trained = false) ∧
    (s.fld (.chpStatRate port) = 0) :=
  ⟨(put tile [((.chpStatState 0), 1)]), 0, by decide⟩

theorem witness_LanesTrainAndHopsStep_3 : ∃ (s : State) (port : Nat) (lane : Nat) (c : CapCell),
    (port < s.chain.ports.length) ∧
    (port < 8) ∧
    (c.propose < 4) ∧
    (4 ≤ c.ack) :=
  ⟨tile, 7, 1, ⟨0, 3, 4⟩, by decide⟩

theorem witness_LanesTrainAndHopsStep_4 : ∃ (s : State) (port : Nat),
    (port < 8) ∧
    (s.fld (.chpStatState port) = 1) ∧
    ((s.port port).trained = true) ∧
    (s.targetRate port ≤ s.fld (.chpStatRate port)) :=
  ⟨(onPort0 (put tile [(.chpStatState 0, 1), (.chpStatLaneup 0, 3), (.chpStatCapped 0, 1)]) ({ port0 with lane0 := { lane0 with aligned := true, localReady := true, farReady := true }, lane1 := { lane0 with aligned := true, localReady := true, farReady := true } })), 0, by decide⟩

theorem witness_LanesTrainAndHopsStep_5 : ∃ (s : State) (port : Nat) (r : Nat),
    (port < 8) ∧
    ((s.port port).nextRate = some r) ∧
    (r < 4) :=
  ⟨(onPort0 tile { port0 with nextRate := some 3 }), 0, 3, by decide⟩

theorem witness_LanesTrainAndHopsStep_6 : ∃ (s : State) (port : Nat),
    (port < 8) ∧
    (s.fld (.chpStatState port) = 0) ∧
    (s.hopOn port = true) ∧
    (s.referenced = true) :=
  ⟨(put sender [((.chpCtrlEnable 7), 1)]), 7, by decide⟩

theorem witness_LanesTrainAndHopsStep_7 : ∃ (s : State) (init : Nat) (port : Nat),
    (port < 8) ∧
    (s.performs init (0x140040 + 0x1000 * port)) ∧
    ((s.isTile = true ∨ s.flag (.chpCtrlEnable port) = true)) ∧
    ((s.prof (·.pair) ≠ 1 ∨ port ≠ 7)) ∧
    (s.referenced = true) :=
  ⟨tile, 0, 0, by unfold State.performs; decide⟩

theorem witness_LanesGoDownIdleAndReturn_1 : ∃ (s : State) (port : Nat) (lane : Nat),
    (port < s.chain.ports.length) ∧
    (port < 8) ∧
    (lane < 2) ∧
    (((s.port port).lane lane).down = false) ∧
    (((s.port port).lane (1 - lane)).down = false) ∧
    (s.fld (.chpStatState port) = 2) ∧
    (s.fld (.chpStatLaneup port) = 3) :=
  ⟨(put tile [((.chpStatState 0), 2), ((.chpStatLaneup 0), 3)]), 0, 1, by decide⟩

theorem witness_LanesGoDownIdleAndReturn_2 : ∃ (s : State) (port : Nat) (lane : Nat),
    (port < 8) ∧
    (lane < 2) ∧
    (s.fld (.chpStatState port) = 3) ∧
    (((s.port port).lane lane).down = true) :=
  ⟨(onPort0 (put tile [(.chpStatState 0, 3), (.chpStatLaneup 0, 1)]) { port0 with lane1 := { lane0 with down := true } }), 0, 1, by decide⟩

theorem witness_LanesGoDownIdleAndReturn_3 : ∃ (s : State) (port : Nat) (lane : Nat),
    (port < 8) ∧
    (lane < 2) ∧
    (s.fld (.chpStatState port) = 3) ∧
    (testBit (s.fld (.chpStatLaneup port)) (1 - lane) = true) :=
  ⟨(put tile [((.chpStatState 0), 3), ((.chpStatLaneup 0), 1)]), 0, 1, by decide⟩

theorem witness_LanesGoDownIdleAndReturn_4 : ∃ (s : State) (port : Nat) (lane : Nat),
    (port < 8) ∧
    (lane < 2) ∧
    (s.flag .klsCtrlEidleen = true) ∧
    (s.staticStroke = true) ∧
    ((s.port port).queue = []) ∧
    (s.portUp port = true) ∧
    (s.chainRefsrc port = false) ∧
    (testBit (s.fld (.chpStatEidle port)) lane = false) :=
  ⟨({ put sender [(.klsCtrlEidleen, 1), (.chpStatState 0, 2)] with chain.static := true } : State), 0, 1, by decide⟩

theorem witness_LanesGoDownIdleAndReturn_5 : ∃ (s : State) (port : Nat) (lane : Nat),
    (port < 2) ∧
    (lane < 2) ∧
    (s.isTile = true) :=
  ⟨tile, 1, 1, by decide⟩

theorem witness_LanesGoDownIdleAndReturn_6 : ∃ (s : State),
    (s.isSender = true) :=
  ⟨sender, by decide⟩

theorem witness_LinkDelaysAreExchanged_1 : ∃ (s : State) (port : Nat) (lane : Nat) (dep : Nat),
    (lane < 2) ∧
    ((testBit (s.fld (.chpStatEidle port)) lane = true ∨ ((s.port port).lane lane).down = true)) :=
  ⟨(put tile [((.chpStatEidle 7), 2)]), 7, 1, 0, by decide⟩

theorem witness_LinkDelaysAreExchanged_2 : ∃ (s : State) (port : Nat) (lane : Nat) (dep : Nat),
    (port < s.chain.ports.length) ∧
    (port < 8) ∧
    (lane < 2) ∧
    (testBit (s.fld (.chpStatEidle port)) lane = false) ∧
    (((s.port port).lane lane).down = false) :=
  ⟨tile, 7, 1, 0, by decide⟩

theorem witness_LinkDelaysAreExchanged_3 : ∃ (s : State) (port : Nat) (lane : Nat) (arr : Nat) (dep : Nat),
    (port < s.chain.ports.length) ∧
    (port < 8) ∧
    (lane < 2) :=
  ⟨tile, 7, 1, 10, 20, by decide⟩

theorem witness_LinkDelaysAreExchanged_4 : ∃ (s : State) (port : Nat) (lane : Nat) (turn : Nat) (arr : Nat) (t1 : Nat),
    (port < 8) ∧
    (lane < 2) ∧
    (((s.port port).lane lane).t1 = some t1) :=
  ⟨(onPort0 tile { port0 with lane1 := { lane0 with t1 := some 5, span := some 7 } }), 0, 1, 3, 9, 5, by decide⟩

theorem witness_ChainsAreEnumerated_1 : ∃ (s : State) (port : Nat),
    (s.isSender = true) ∧
    (s.chainPorts.contains port = true) ∧
    (port < s.chain.ports.length) :=
  ⟨sender, 7, by decide⟩

theorem witness_ChainsAreEnumerated_2 : ∃ (s : State) (lane : Nat) (index : Nat) (nexp : Nat),
    (s.isTile = true) ∧
    (index < 64) ∧
    (2 ≤ s.chain.ports.length) :=
  ⟨tile, 1, 63, 0, by decide⟩

theorem witness_ChainsAreEnumerated_3 : ∃ (s : State) (port : Nat) (lane : Nat) (index : Nat) (c : EnumrCell),
    (s.isTile = false) ∧
    (s.isSender = true) ∧
    (port < 8) ∧
    (c.pos < 64) ∧
    (s.flag (.chpEnumrec3Valid port c.pos) = false) ∧
    (c.pos ∉ (s.port port).clashed) ∧
    ((c.pos < s.nexp port ∨ (s.port port).enumerating = false)) :=
  ⟨sender, 0, 0, 0, ⟨7, 0, 0, 0, 63, 0, 0, 0⟩, by decide⟩

theorem witness_MarksAndMarkersPassATile_1 : ∃ (s : State) (port : Nat) (lane : Nat) (c : CoxCell),
    (port < 2) ∧
    (s.isTile = true) ∧
    (s.chain.cox = none) :=
  ⟨tile, 1, 0, ⟨1, 1, 1, 0, false⟩, by decide⟩

theorem witness_MarksAndMarkersPassATile_2 : ∃ (s : State) (port : Nat) (lane : Nat) (c : StrokeCell) (arr : Nat) (dep : Nat),
    (port < 2) ∧
    (s.isTile = true) ∧
    (s.serves port = true) ∧
    (s.restarting = false) ∧
    (s.portUp (1 - port) = true) ∧
    ((s.time.locked = false ∨ (strokeAfter c.stroke s.stroke = true ∧ s.time.marker.all (fun m => strokeAfter c.stroke m.1.stroke) = true))) :=
  ⟨(put tile [((.chpStatState 1), 2), ((.chpStatLaneup 1), 3), (.stkNow, 0)]), 0, 0, cell, 0, 0, by decide⟩

theorem witness_MarksAndMarkersPassATile_3 : ∃ (s : State) (port : Nat) (k : Nat) (l : List VideoCell),
    (port < s.chain.ports.length) ∧
    (l ≠ []) ∧
    ((s.port port).queue = l.map (fun v => (k, .video v))) :=
  ⟨(onPort0 sender { port0 with queue := [(1, .video ⟨0, 0, 0, []⟩), (1, .video ⟨0, 1, 0, []⟩)] }), 0, 1, [⟨0, 0, 0, []⟩, ⟨0, 1, 0, []⟩], by decide⟩

theorem witness_PauseAndLowPowerIdle_1 : ∃ (s : State) (q : Nat) (l : Nat) (quanta : Nat),
    (q < 5) ∧
    (s.hasSublink q l = true) ∧
    (s.netTested q = false) ∧
    (s.wakeOnly = false) ∧
    (s.flag (.netCtrlPauserx (netPage q)) = true) ∧
    (quanta ≠ 0) :=
  ⟨(put sender [((.netCtrlPauserx (netPage 0)), 1), ((.netCtrlPauserx (netPage 4)), 1)]), 4, 0, 9, by decide⟩

theorem witness_PauseAndLowPowerIdle_2 : ∃ (s : State) (q : Nat) (l : Nat),
    (q < 5) ∧
    (l < 4) :=
  ⟨sender, 4, 3, by decide⟩

theorem witness_PauseAndLowPowerIdle_3 : ∃ (s : State),
    (s.net.xoff = true) ∧
    (s.flag (.netCtrlPausetx 4) = true) ∧
    (s.rxFree ≤ s.fld .mpPausecfgXoff) ∧
    ((s.link 4 0).pause = 0) :=
  ⟨({ put sender [(.netCtrlPausetx 4, 1), (.mpPausecfgXoff, 0xFFFFFFFF)] with net.xoff := true } : State), by decide⟩

theorem witness_PauseAndLowPowerIdle_4 : ∃ (s : State) (q : Nat) (l : Nat),
    (q < 5) ∧
    (s.hasSublink q l = true) ∧
    (s.netTested q = false) ∧
    (s.wakeOnly = false) ∧
    (s.flag (.netCtrlLpien (netPage q)) = true) ∧
    (s.lpiType q = true) ∧
    (s.lpiInhibited q = false) ∧
    ((q = 4 → s.fld .mpLpmodeMode = 1)) ∧
    (testBit (s.fld (.netStatusLink (netPage q))) l = true) ∧
    ((s.link q l).waiting = []) ∧
    ((q = 4 → s.net.txNow = none)) ∧
    (testBit (s.fld (.netStatusTxlpi (netPage q))) l = false) :=
  ⟨(put sender [((.netCtrlLpien (netPage 4)), 1), (.mpLpmodeMode, 1), (.timPtpcfgOwner, 0), ((.netStatusLink (netPage 4)), 1)]), 4, 0, by decide⟩

theorem witness_PauseAndLowPowerIdle_5 : ∃ (s : State) (q : Nat) (l : Nat) (partner : Option (Nat × Nat)),
    (q < 5) ∧
    (s.hasSublink q l = true) ∧
    ((s.link q l).pause = 0) ∧
    (l < (s.net.links.getD q []).length) :=
  ⟨(put sender [((.netCtrlLpien (netPage 4)), 1)]), 4, 0, none, by decide⟩

theorem witness_PauseAndLowPowerIdle_6 : ∃ (s : State) (q : Nat) (l : Nat) (mac : Nat) (ip : Nat) (octets : Nat) (dest : FrameDest),
    (q < 5) ∧
    (s.hasSublink q l = true) ∧
    (s.netTested q = false) ∧
    (s.wakeOnly = false) ∧
    (64 ≤ octets) ∧
    (octets ≤ 9216) ∧
    (s.fld (.netIpaddr (netPage q) l) ≠ 0) ∧
    ((s.link q l).pause = 0) :=
  ⟨(put sender [((.netIpaddr (netPage 0) 0), 1)]), 0, 0, 5, 1, 64, .unicast, by decide⟩

theorem witness_PauseAndLowPowerIdle_7 : ∃ (s : State) (q : Nat) (l : Nat) (up : Bool),
    (q < 5) ∧
    (s.hasSublink q l = true) ∧
    (s.net.ptpJoin.all (fun x => decide (x < 4)) = true) :=
  ⟨sender, 0, 0, true, by decide⟩

theorem witness_MpTakesModesAndFrames_1 : ∃ (s : State) (init : Nat),
    (s.performs init 0x4088) ∧
    (s.wakeOnly = false) :=
  ⟨sender, 0, by unfold State.performs; decide⟩

theorem witness_MpTakesModesAndFrames_2 : ∃ (s : State) (init : Nat),
    (s.performs init 0x4088) ∧
    (s.wakeOnly = false) :=
  ⟨sender, 0, by unfold State.performs; decide⟩

theorem witness_MpTakesModesAndFrames_3 : ∃ (s : State) (init : Nat),
    (s.performs init 0x4088) ∧
    (s.wakeOnly = false) ∧
    (s.modeBusy = false) ∧
    (s.boot.wakeHits = 0) :=
  ⟨sender, 0, by unfold State.performs; decide⟩

theorem witness_MpTakesModesAndFrames_4 : ∃ (s : State) (frame : List Byte),
    (s.wakeOnly = true) ∧
    (s.wakeBits frame ≠ 0) :=
  ⟨(put sender [(.devModestatWakeonly, 1), (.mpWakecfgMagic, 1)]), (List.replicate 12 0xFF ++ List.replicate 102 0), by decide⟩

theorem witness_MpTakesModesAndFrames_5 : ∃ (s : State) (bs : List Byte) (tagged : Bool),
    let d := s.rxDesc (s.fld .mpRingstatRxnext)
    (s.wakeOnly = false) ∧
    (s.flag (.netCtrlRxen 4) = true) ∧
    (60 ≤ bs.length) ∧
    (bs.length ≤ 9212) ∧
    (s.descOwn d = true) ∧
    (bs.length ≤ s.mpNat (d + 4) 2) :=
  ⟨({ put sender [(.netCtrlRxen 4, 1)] with net.mpMem := [(5, 0x20), (11, 0x80)] } : State), (List.replicate 60 1), false, by decide⟩

theorem witness_MpTakesModesAndFrames_6 : ∃ (s : State) (init : Nat),
    let i := s.fld .mpRingstatTxnext
    (s.performs init 0x407C) ∧
    (s.flag (.netCtrlTxen 4) = true) ∧
    (s.net.txNow = none) ∧
    ((s.link 4 0).pause = 0) ∧
    (s.descOwn (s.txDesc i) = true) ∧
    (testBit (s.descFlags (s.txDesc i)) 0 = true) ∧
    (s.mpNat (s.txDesc i + 4) 2 ≤ 9212) :=
  ⟨({ put sender [(.netCtrlTxen 4, 1)] with net.mpMem := [(10, 1), (11, 0x80)] } : State), 0, by unfold State.performs; decide⟩

theorem witness_MpTakesModesAndFrames_7 : ∃ (s : State) (i : Nat) (n : Nat),
    (s.net.txNow = some (i, n)) :=
  ⟨({ sender with net.txNow := some (0, 1) } : State), 0, 1, by decide⟩

theorem witness_FlowsAreEnabledAndJoined_1 : ∃ (s : State) (init : Nat) (n : Nat),
    (n < 16) ∧
    (s.performs init (0x110040 + 0x1000 * n)) ∧
    (s.flowOn n = false) ∧
    (s.flowReason n = 0) :=
  ⟨({ put sender [(.drcMapUsermb, 1), (.flwSizeWidth 15, 16), (.flwSizeHeight 15, 16), (.flwSurfNbuf 15, 3)] with cmp.table := (List.range 3).foldl (fun m i => memWrite m (32 * i) (({ surf with size := 1024, stride := 64, flags := 1 } : Surface).bytes)) [] } : State), 0, 15, by unfold State.performs; decide⟩

theorem witness_FlowsAreEnabledAndJoined_2 : ∃ (s : State) (init : Nat) (n : Nat),
    (n < 16) ∧
    (s.performs init (0x110040 + 0x1000 * n)) ∧
    (s.flowOn n = false) ∧
    (s.flowReason n ≠ 0) :=
  ⟨sender, 0, 15, by unfold State.performs; decide⟩

theorem witness_FlowsAreEnabledAndJoined_3 : ∃ (s : State) (init : Nat) (n : Nat),
    (n < 16) ∧
    (s.performs init (0x110040 + 0x1000 * n)) ∧
    (s.flowOn n = true) :=
  ⟨(put sender [((.flwCtrlEnable 15), 1)]), 0, 15, by unfold State.performs; decide⟩

theorem witness_FlowsAreEnabledAndJoined_4 : ∃ (s : State) (n : Nat),
    let g := s.leg n 0
    (n < 16) ∧
    ((s.flow n).reportDue = true) ∧
    (s.flowOn n = true) ∧
    (s.flag (.flwCtrlDual n) = false) ∧
    (s.flag (.flwCtrlSsm n) = false) ∧
    (isMulticast g.group = true) ∧
    ((s.link g.port g.sublink).pause = 0) :=
  ⟨({ put sender [(.flwCtrlEnable 0, 1), (.flwCtrlSsm 0, 0), (.flwGrpa 0, 0xE0000001)] with ing.flows := { FlowState.reset with reportDue := true } :: List.replicate 15 FlowState.reset } : State), 0, by decide⟩

theorem witness_FlowsAreEnabledAndJoined_5 : ∃ (s : State) (q : Nat) (l : Nat) (version : Nat) (group : Nat) (octets : Nat) (aged : List Nat),
    (q < 5) ∧
    (s.hasSublink q l = true) ∧
    (s.netTested q = false) ∧
    (s.wakeOnly = false) ∧
    (64 ≤ octets) ∧
    (octets ≤ 9216) ∧
    (version < 3) :=
  ⟨sender, 0, 0, 2, 0xE0000000, 64, [], by decide⟩

theorem witness_FlowsAreEnabledAndJoined_6 : ∃ (s : State) (n : Nat) (k : Nat),
    (n < 16) ∧
    (s.flowOn n = true) ∧
    ((s.legs n).contains k = true) :=
  ⟨(put sender [((.flwCtrlEnable 0), 1)]), 0, 0, by decide⟩

theorem witness_VideoPacketsAreWrittenAndShed_1 : ∃ (s : State) (p : VideoPacket) (held : Nat) (n : Nat) (k : Nat),
    (n < 16) ∧
    (s.hasSublink p.port p.sublink = true) ∧
    (s.netTested p.port = false) ∧
    (s.wakeOnly = false) ∧
    (p.fcsOk = true) ∧
    (64 ≤ p.octets) ∧
    (p.octets ≤ 9216) ∧
    (held ≤ rxBuffer) ∧
    (s.aboveHigh held = false) ∧
    (p.port < 4) ∧
    (s.flowOn n = true) ∧
    ((∀ m ∈ List.range 16, m ≠ n → s.flowOn m = false)) ∧
    (s.acceptLeg n p = some k) :=
  ⟨(put sender [((.flwCtrlEnable 0), 1)]), ⟨0, 0, 0, 0, 0, 2, 96, false, 0, 0, 64, true, []⟩, 0, 0, 0, by decide⟩

theorem witness_VideoPacketsAreWrittenAndShed_2 : ∃ (s : State) (held : Nat) (n : Nat),
    (s.aboveHigh held = true) ∧
    (s.ing.shed.isEmpty = false) ∧
    (s.nextShed = some n) :=
  ⟨({ put sender [(.flwCtrlEnable 3, 1), (.flwCtrlPrio 3, 1), (.flwCtrlEnable 2, 1), (.flwCtrlPrio 2, 1)] with ing.shed := [3] } : State), 2097152, 2, by decide⟩

theorem witness_VideoPacketsAreWrittenAndShed_3 : ∃ (s : State) (l : List Nat) (n : Nat),
    (n < 16) ∧
    (s.ing.shed = l ++ [n]) :=
  ⟨({ sender with ing.shed := [3] } : State), [], 3, by decide⟩

theorem witness_MonitorFramesStartAndAreCut_1 : ∃ (s : State) (init : Nat),
    (s.performs init 0x6040) ∧
    (s.flag .monCtrlEnable = false) :=
  ⟨sender, 0, by unfold State.performs; decide⟩

theorem witness_MonitorFramesStartAndAreCut_2 : ∃ (s : State) (k : Nat),
    (s.flag .monCtrlEnable = true) ∧
    (s.ing.monNow = none) ∧
    (s.ing.monCount % (s.fld .monCtrlDiv + 1) = 0) ∧
    (s.paused (s.fld .monCtrlPort) (s.fld .monCtrlSublink) = false) :=
  ⟨(put sender [(.monCtrlEnable, 1)]), 1, by decide⟩

theorem witness_MonitorFramesStartAndAreCut_3 : ∃ (s : State) (k : Nat),
    (s.ing.monNow = some k) :=
  ⟨({ sender with ing.monNow := some 1 } : State), 1, by decide⟩

theorem witness_ViewsAreComposedOrAbandoned_1 : ∃ (s : State) (init : Nat) (off : Nat) (data : Word),
    (s.performs init (0x7400 + off % 1024)) ∧
    (s.fld .cmpWinctrlTarget = 1) ∧
    (s.winOffset (off % 1024) < 0x20000) ∧
    ((s.surface (s.winOffset (off % 1024) / 32)).owned = false) :=
  ⟨(put sender [(.cmpWinctrlTarget, 1)]), 0, 0, 7, by unfold State.performs; decide⟩

theorem witness_ViewsAreComposedOrAbandoned_2 : ∃ (s : State) (init : Nat) (off : Nat) (data : Word),
    (s.readable init (0x7400 + off % 1024)) ∧
    (s.fld .cmpWinctrlTarget = 1) ∧
    (s.winOffset (off % 1024) < 0x20000) :=
  ⟨(put sender [(.cmpWinctrlTarget, 1)]), 0, 0, 7, by unfold State.readable; decide⟩

theorem witness_ViewsAreComposedOrAbandoned_3 : ∃ (s : State) (init : Nat) (off : Nat) (data : Word),
    (s.performs init (0x7400 + off % 1024)) ∧
    (s.fld .cmpWinctrlTarget = 0) ∧
    (s.winAddr (off % 1024) < s.userBytes) ∧
    (s.dram.poison = []) :=
  ⟨(put sender [(.drcMapUsermb, 1)]), 0, 0, 7, by unfold State.performs; decide⟩

theorem witness_ViewsAreComposedOrAbandoned_4 : ∃ (s : State) (f : Flight) (v : ViewPlan) (slack : Int),
    (s.cmp.flights = [f]) ∧
    (f.views = [v]) ∧
    (v.done = false) ∧
    (v.view < 4) :=
  ⟨({ sender with cmp.flights := [⟨1, 0, 0, 0, [plan], false, false⟩] } : State), ⟨1, 0, 0, 0, [plan], false, false⟩, plan, 0, by decide⟩

theorem witness_ViewsAreComposedOrAbandoned_5 : ∃ (s : State) (f : Flight) (v : ViewPlan) (progress : List (Nat × Nat × Nat)),
    (s.cmp.flights = [f]) ∧
    (f.views = [v]) ∧
    (v.done = false) ∧
    (v.view < 4) ∧
    (f.stroke < 2 ^ 32) :=
  ⟨({ sender with cmp.flights := [⟨1, 0, 0, 0, [plan], false, false⟩] } : State), ⟨1, 0, 0, 0, [plan], false, false⟩, plan, [], by decide⟩

theorem witness_UnderlaysAreBuilt_1 : ∃ (s : State) (init : Nat) (v : Nat) (buf : Nat),
    (v < 4) ∧
    (s.performs init (0x128040 + 0x1000 * v)) ∧
    (s.underlaySelected v (buf % 2) = true) :=
  ⟨(put sender [((.vwLctrlKind 3 0), 2), ((.vwLctrlEn 3 0), 1)]), 0, 3, 0, by unfold State.performs; decide⟩

theorem witness_UnderlaysAreBuilt_2 : ∃ (s : State) (init : Nat) (v : Nat) (buf : Nat),
    (v < 4) ∧
    (s.performs init (0x128040 + 0x1000 * v)) ∧
    (s.underlaySelected v (buf % 2) = false) ∧
    (s.cmp.builds.any (fun x => x.view == v) = false) ∧
    (s.rgbSurface (s.fld (.undBufBuf0 v)) (s.fld .cmpCanvasWidth) (s.fld .cmpCanvasHeight) = true) ∧
    (s.rgbSurface (s.fld (.undBufBuf1 v)) (s.fld .cmpCanvasWidth) (s.fld .cmpCanvasHeight) = true) ∧
    ((∀ i ∈ List.range 16, s.flag (.undLctrlEn v i) = true → s.fld (.undLctrlKind v i) = 0)) :=
  ⟨({ put sender [(.drcMapUsermb, 1)] with cmp.table := memWrite [] 0 (({ surf with size := 64, stride := 64, format := 1, flags := 1 } : Surface).bytes) } : State), 0, 3, 0, by unfold State.performs; decide⟩

theorem witness_UnderlaysAreBuilt_3 : ∃ (s : State) (init : Nat) (v : Nat) (b : Build),
    (v < 4) ∧
    (s.performs init (0x128040 + 0x1000 * v)) ∧
    (s.cmp.builds.find? (fun b => b.view == v) = some b) :=
  ⟨({ sender with cmp.builds := [⟨0, 0, surf, 0, 0, 0, plan⟩] } : State), 0, 0, ⟨0, 0, surf, 0, 0, 0, plan⟩, by unfold State.performs; decide⟩

theorem witness_UnderlaysAreBuilt_4 : ∃ (s : State) (v : Nat),
    (s.cmp.flights ≠ []) :=
  ⟨({ sender with cmp.flights := [⟨1, 0, 0, 0, [plan], false, false⟩] } : State), 0, by decide⟩

theorem witness_UnderlaysAreBuilt_5 : ∃ (s : State) (v : Nat) (b : Build),
    (v < 4) ∧
    (s.cmp.builds.find? (fun b => b.view == v) = some b) ∧
    (s.cmp.flights = []) :=
  ⟨({ sender with cmp.builds := [⟨0, 0, surf, 0, 0, 0, plan⟩] } : State), 0, ⟨0, 0, surf, 0, 0, 0, plan⟩, by decide⟩

theorem witness_SendersPaceTheirStrokes_1 : ∃ (s : State),
    (s.generates = true) ∧
    (s.prof (·.pair) ≠ 1) ∧
    (s.mayCatch = true) :=
  ⟨sender, by decide⟩

theorem witness_SendersPaceTheirStrokes_2 : ∃ (s : State) (k : Nat) (env : ComposeEnv),
    (s.isSender = true) ∧
    (s.strokesRun = true) ∧
    (s.prof (·.pair) ≠ 1) ∧
    (s.boot.warning = false) ∧
    (testBit s.boot.ready 4 = true) ∧
    (s.fld .mpLpmodeMode ≠ 2) :=
  ⟨sender, 1, ⟨[], []⟩, by decide⟩

theorem witness_SendersPaceTheirStrokes_3 : ∃ (s : State),
    (s.generates = true) ∧
    (s.time.running = true) ∧
    (s.drives = true) ∧
    ((s.fld .devBootstatStage = 7 ∨ s.boot.warm = false ∨ s.boot.holdThrough = true)) :=
  ⟨sender, by decide⟩

theorem witness_TilesCatchAndLatch_1 : ∃ (s : State),
    (s.isTile = true) ∧
    (s.strokesRun = true) ∧
    (s.time.locked = true) ∧
    (s.boot.warning = false) :=
  ⟨tile, by decide⟩

theorem witness_TilesCatchAndLatch_2 : ∃ (s : State) (c : StrokeCell) (at_ : Int),
    (s.isTile = true) ∧
    (s.powered = true) ∧
    (s.wakeOnly = false) ∧
    (s.restarting = false) ∧
    (s.boot.warning = false) ∧
    (s.fld .mpLpmodeMode ≠ 2) ∧
    (s.time.marker = some (c, at_)) :=
  ⟨({ tile with time.marker := some (cell, 5) } : State), cell, 5, by decide⟩

theorem witness_TilesCatchAndLatch_3 : ∃ (s : State),
    (s.isTile = true) ∧
    (s.powered = true) ∧
    (s.wakeOnly = false) ∧
    (s.restarting = true) ∧
    (s.boot.holdThrough = true) ∧
    (s.fld .mpLpmodeMode ≠ 2) :=
  ⟨({ put tile [(.devBootstatStage, 4)] with boot.warm := true, boot.holdThrough := true } : State), by decide⟩

theorem witness_ChainCellsAreTaken_1 : ∃ (s : State) (n : Nat) (l : Nat) (c : VideoCell),
    (s.isTile = true) ∧
    (s.serves n = true) ∧
    (s.restarting = false) ∧
    (s.flag .klsTstatPosvalid = true) ∧
    (c.pos = s.fld .klsTstatPos) ∧
    (s.scan.windowOpen = true) ∧
    (c.view < s.prof (·.views)) ∧
    (c.view < 4) ∧
    (c.index < s.regionCells) ∧
    (s.bist.running.contains (10 + c.view) = false) ∧
    (c.view < s.scan.views.length) :=
  ⟨({ put tile [(.snkStatTw, 1), (.snkStatTh, 1)] with scan.windowOpen := true } : State), 0, 0, ⟨0, 0, 0, []⟩, by decide⟩

theorem witness_ChainCellsAreTaken_2 : ∃ (s : State) (n : Nat) (l : Nat) (h : HealthCell),
    (s.isTile = false) ∧
    (s.isSender = true) ∧
    (n < 8) :=
  ⟨sender, 7, 0, health, by decide⟩

theorem witness_ChainCellsAreTaken_3 : ∃ (s : State) (n : Nat) (l : Nat) (c : StrokeCell),
    (s.isSender = true) ∧
    (s.paired = true) ∧
    (s.standsBy = true) :=
  ⟨pairB, 0, 1, cell, by decide⟩

theorem witness_ChainCellsAreTaken_4 : ∃ (s : State) (n : Nat) (l : Nat) (c : CoxCell),
    (s.isSender = true) ∧
    (s.paired = true) ∧
    (c.senderId ≠ s.selfId) ∧
    (s.pairState = 1) ∧
    (s.pairing.control = false) :=
  ⟨pairU, 0, 0, ⟨1, 1, 1, 0, false⟩, by decide⟩

theorem witness_RowsAreConvertedAndDriven_1 : ∃ (s : State) (v : Nat) (row : Nat),
    (s.converts = true) ∧
    (s.poisonedCopies = []) ∧
    (v < s.prof (·.views)) ∧
    (v < s.scan.views.length) ∧
    ((s.view v).late.contains row = false) ∧
    (s.rowPresent v row = true) :=
  ⟨({ put tile [(.snkStatTw, 1), (.snkStatTh, 1)] with scan.views := { ScanView.reset with cells := [0, 1] } :: List.replicate 3 ScanView.reset } : State), 0, 0, by decide⟩

theorem witness_RowsAreConvertedAndDriven_2 : ∃ (s : State) (v : Nat) (row : Nat),
    (s.converts = true) ∧
    (s.poisonedCopies = []) ∧
    (v < s.prof (·.views)) ∧
    ((s.view v).late.contains row = true) :=
  ⟨({ tile with scan.views := { ScanView.reset with late := [3], refreshing := true } :: List.replicate 3 ScanView.reset } : State), 0, 3, by decide⟩

theorem witness_RowsAreConvertedAndDriven_3 : ∃ (s : State) (v : Nat),
    (s.converts = true) ∧
    (s.poisonedCopies = []) ∧
    ((s.view v).refreshing = true) :=
  ⟨({ tile with scan.views := { ScanView.reset with late := [3], refreshing := true } :: List.replicate 3 ScanView.reset } : State), 0, by decide⟩

theorem witness_RowsAreConvertedAndDriven_4 : ∃ (s : State),
    (s.converts = true) ∧
    (s.poisonedCopies = []) ∧
    (s.flag .scnStatHold = true) ∧
    (s.scan.holdDue = false) :=
  ⟨(put tile [(.scnStatHold, 1)]), by decide⟩

theorem witness_RowsAreConvertedAndDriven_5 : ∃ (s : State) (v : Nat) (row : Nat),
    (s.converts = true) ∧
    (v < s.prof (·.views)) ∧
    (s.poisonedCopies ≠ []) :=
  ⟨({ put tile [(.grnTabstatInforce, 1)] with dram.poison := [32768] } : State), 0, 0, by decide⟩

theorem witness_RowsAreConvertedAndDriven_6 : ∃ (s : State) (view : Nat) (slot : Nat) (fail : Nat) (slack : Int) (samples : List (Nat × Nat)),
    (s.isTile = true) ∧
    (view < s.prof (·.views)) ∧
    (slot < s.prof (·.rows) * s.prof (·.subfr)) :=
  ⟨tile, 1, 383, 0, 0, [], by decide⟩

theorem witness_RowsAreConvertedAndDriven_7 : ∃ (s : State) (view : Nat) (upset : List (Nat × Nat)),
    (s.isTile = true) :=
  ⟨tile, 0, [], by decide⟩

theorem witness_LampsAreProbedAndLocked_1 : ∃ (s : State) (samples : List (Nat × Nat)),
    (s.isTile = true) ∧
    (s.flag .snkCtrlProbeen = true) ∧
    (s.sinksOff = false) ∧
    (s.boot.warning = false) ∧
    (s.restarting = false) ∧
    (s.lamp.probed = false) :=
  ⟨(put tile [(.snkCtrlDrven, 1), (.scnStatLayoutok, 1), (.ltbStatLocked, 1), (.snkCtrlProbeen, 1)]), [], by decide⟩

theorem witness_LampsAreProbedAndLocked_2 : ∃ (s : State) (init : Nat),
    (s.performs init 0xE074) :=
  ⟨tile, 0, by unfold State.performs; decide⟩

theorem witness_LampsAreProbedAndLocked_3 : ∃ (s : State),
    (s.isTile = true) ∧
    (s.flag .ltbStatLocked = true) :=
  ⟨(put tile [(.snkCtrlDrven, 1), (.scnStatLayoutok, 1), (.ltbStatLocked, 1)]), by decide⟩

theorem witness_LampsAreProbedAndLocked_4 : ∃ (s : State),
    (s.isTile = true) ∧
    (s.flag .ltbStatLocked = false) ∧
    (s.flag .calNosetDly = false) ∧
    (s.cal.dlyWait = false) ∧
    (s.referenced = true) :=
  ⟨tile, by decide⟩

theorem witness_LampsAreProbedAndLocked_5 : ∃ (s : State) (a : Bool) (b : Bool),
    (s.isTile = true) ∧
    (s.prof (·.flags) % 2 = 1) ∧
    (s.boot.refSource = none) ∧
    ((a || b) = true) :=
  ⟨({ tile with boot.refSource := none } : State), true, false, by decide⟩

theorem witness_GrainCommandsAct_1 : ∃ (s : State) (init : Nat),
    (s.performs init 0xC048) ∧
    (s.grain.op = none) :=
  ⟨tile, 0, by unfold State.performs; decide⟩

theorem witness_GrainCommandsAct_2 : ∃ (s : State) (init : Nat),
    (s.performs init 0xC048) ∧
    (s.grain.op = none) ∧
    (s.fld .grnXferstatMissing = 0) ∧
    (s.copyBusy s.installTarget true = false) :=
  ⟨tile, 0, by unfold State.performs; decide⟩

theorem witness_GrainCommandsAct_3 : ∃ (s : State) (init : Nat),
    (s.performs init 0xC048) ∧
    (s.grain.op = none) ∧
    (s.fld .grnXferstatMissing = 0) ∧
    (s.copyBusy s.installTarget false = false) :=
  ⟨tile, 0, by unfold State.performs; decide⟩

theorem witness_GrainCommandsAct_4 : ∃ (s : State) (init : Nat),
    (s.performs init 0xC048) ∧
    (s.grain.op = none) :=
  ⟨tile, 0, by unfold State.performs; decide⟩

theorem witness_GrainCommandsAct_5 : ∃ (s : State) (init : Nat),
    (s.performs init 0xC048) ∧
    (s.grain.op = none) :=
  ⟨tile, 0, by unfold State.performs; decide⟩

theorem witness_GrainCommandsAct_6 : ∃ (s : State) (init : Nat) (key : Nat),
    (s.performs init 0xC048) ∧
    (s.grain.op = none) ∧
    (key < 65536) :=
  ⟨tile, 0, 0, by unfold State.performs; decide⟩

theorem witness_GrainCommandsAct_7 : ∃ (s : State) (init : Nat) (data : Word),
    (s.performs init 0xC058) ∧
    (s.grain.op = none) :=
  ⟨tile, 0, 0, by unfold State.performs; decide⟩

theorem witness_GrainCommandsAct_8 : ∃ (s : State) (init : Nat) (off : Nat) (data : Word),
    let n := (s.fld .grnWinbaseBase / 4 * 4 + 4 * (off % 1024 / 4)) / 4
    (s.performs init (0xC400 + off % 1024)) ∧
    (s.fld .grnWinctrlTarget = 1) ∧
    (n < s.lampCount) :=
  ⟨({ put tile [(.grnWinctrlTarget, 1), (.snkStatTw, 1), (.snkStatTh, 1)] with dram.poison := [accBase / 64] } : State), 0, 0, 5, by unfold State.performs; decide⟩

theorem witness_GrainCommandsAct_9 : ∃ (s : State) (n : Nat) (l : Nat) (c : ImageCell),
    (s.isTile = true) ∧
    (s.serves n = true) ∧
    (s.restarting = false) ∧
    (c.bcast = false) ∧
    (s.flag .klsTstatPosvalid = true) ∧
    (c.pos = s.fld .klsTstatPos) ∧
    (c.kind = 1) ∧
    (s.grain.mapped = true) ∧
    (s.grain.op = none) ∧
    (c.xfer = s.fld .grnXferidXfer) ∧
    (c.offset % 120 = 0) ∧
    (c.offset < s.fld .grnXferlenLength) ∧
    (s.fld .grnXferlenLength ≤ stageSize) ∧
    (c.data.length = min 120 (s.fld .grnXferlenLength - c.offset)) :=
  ⟨({ put tile [(.grnXferlenLength, 120)] with grain.mapped := true } : State), 0, 1, ⟨0, false, 0, 1, 0, List.replicate 120 0⟩, by decide⟩

theorem witness_InstallsAndCheckpointsEnd_1 : ∃ (s : State) (x : GrainOp),
    (s.grain.op = some x) ∧
    (s.boot.warning = false) :=
  ⟨({ tile with grain.op := some ⟨0, false⟩ } : State), ⟨0, false⟩, by decide⟩

theorem witness_InstallsAndCheckpointsEnd_2 : ∃ (s : State),
    (s.isTile = true) ∧
    (s.fld .grnAgecfgCkpt ≠ 0) :=
  ⟨(put tile [(.grnAgecfgCkpt, 1)]), by decide⟩

theorem witness_InstallsAndCheckpointsEnd_3 : ∃ (s : State) (slot : Nat) (bytes : List Byte),
    (s.grain.saving = some (slot, bytes)) ∧
    (s.boot.warning = false) :=
  ⟨({ tile with grain.saving := some (1, []) } : State), 1, [], by decide⟩

theorem witness_InstallsAndCheckpointsEnd_4 : ∃ (s : State) (slot : Nat) (bytes : List Byte),
    (s.grain.saving = some (slot, bytes)) ∧
    (s.boot.warning = false) :=
  ⟨({ tile with grain.saving := some (1, []) } : State), 1, [], by decide⟩

theorem witness_CalibrationRuns_1 : ∃ (s : State) (init : Nat) (kind : Nat) (all : Bool) (env : CalEnv),
    (s.performs init 0xF040) ∧
    (1 ≤ kind) ∧
    (kind ≤ 5) ∧
    (s.calReason kind all = 0) ∧
    (s.cal.startKinds = []) ∧
    (s.cal.queue = []) ∧
    (s.calCheck (s.newSeq kind (all && kind == 2) false) env = none) :=
  ⟨tile, 0, 5, false, calEnv, by unfold State.performs; decide⟩

theorem witness_CalibrationRuns_2 : ∃ (s : State) (init : Nat) (kind : Nat) (all : Bool) (env : CalEnv),
    (s.performs init 0xF040) ∧
    (1 ≤ kind) ∧
    (kind ≤ 5) ∧
    (s.calReason kind all ≠ 0) ∧
    (s.testing (calBlock kind) = false) :=
  ⟨({ tile with cal.running := some seq0 } : State), 0, 1, false, calEnv, by unfold State.performs; decide⟩

theorem witness_CalibrationRuns_3 : ∃ (s : State) (init : Nat) (q : CalSeq),
    (s.performs init 0xF040) ∧
    (s.cal.running = some q) :=
  ⟨({ tile with cal.running := some seq0 } : State), 0, seq0, by unfold State.performs; decide⟩

theorem witness_CalibrationRuns_4 : ∃ (s : State) (kind : Nat) (env : CalEnv) (q : CalSeq),
    (s.isTile = true) ∧
    (kind = 1 ∨ kind = 2 ∨ kind = 4) ∧
    (testBit (s.fld .calCtrlAuto) (kind - 1) = true) ∧
    (16 * s.fld .calCtrlTdrift ≤ (s.sfld .thsTjmaxTj - 16 * s.sfld (.calLasttjTj (kind - 1))).natAbs) ∧
    (s.regattaOpen = false) ∧
    (s.fld .devBootstatStage = 7) ∧
    (s.cal.running = some q) :=
  ⟨({ put tile [(.calCtrlAuto, 0xFF), (.thsTjmaxTj, 1600)] with cal.running := some seq0 } : State), 1, calEnv, seq0, by decide⟩

theorem witness_CalibrationRuns_5 : ∃ (s : State) (before : CalEnv) (after : CalEnv) (values : List Int) (q : CalSeq),
    (s.boot.warning = false) ∧
    (s.restarting = false) ∧
    (s.boot.inReset = false) ∧
    (s.cal.running = some q) ∧
    (q.done < q.steps) ∧
    (s.testing (calBlock q.kind) = false) ∧
    (s.sinksOff = true) ∧
    (s.calCheck q before = none) ∧
    (s.calCheck q after = none) ∧
    ((s.stepResults q values).2 = none) :=
  ⟨({ tile with cal.running := some { seq0 with kind := 5 } } : State), calEnv, calEnv, [], { seq0 with kind := 5 }, by decide⟩

theorem witness_CalibrationRuns_6 : ∃ (s : State) (env : CalEnv) (q : CalSeq),
    (s.cal.running = some q) ∧
    (q.steps ≤ q.done) ∧
    (s.boot.warning = false) ∧
    (q.kind ≤ 5) ∧
    (s.calCheck q env = none) :=
  ⟨({ tile with cal.running := some { seq0 with kind := 5, done := 1 } } : State), calEnv, { seq0 with kind := 5, done := 1 }, by decide⟩

theorem witness_CalibrationRuns_7 : ∃ (s : State) (env : CalEnv) (q : CalSeq),
    (s.isTile = true) ∧
    (s.flag .ltbStatLocked = false) ∧
    ((s.cal.dlyWait || s.flag .calNosetDly) = true) ∧
    (s.cal.startKinds.contains 1 = false) ∧
    (s.cal.running = some q) ∧
    (q.kind ≠ 1) :=
  ⟨({ put tile [(.calNosetDly, 1)] with cal.running := some { seq0 with kind := 2 } } : State), calEnv, { seq0 with kind := 2 }, by decide⟩

theorem witness_DramKeepsItsChannels_1 : ∃ (s : State) (init : Nat) (op : Nat),
    (s.performs init 0x9048) ∧
    (op < 4) ∧
    (s.dram.training = none) ∧
    (s.channels.any (fun c => s.flag (.dcStatSr c)) = false) ∧
    (op ≠ s.fld .drcOpstatCur) ∧
    (s.dramFitsAt op = true) ∧
    (testBit (s.fld .drcOpstatTrained) op = true) :=
  ⟨(put sender [(.drcOpstatTrained, 0xF)]), 0, 3, by unfold State.performs; decide⟩

theorem witness_DramKeepsItsChannels_2 : ∃ (s : State) (op : Nat),
    (s.dram.held = some op) ∧
    (op < 4) ∧
    (s.gathering = false) ∧
    (s.boot.warning = false) ∧
    (s.channels.any (fun c => s.flag (.dcStatSr c)) = false) :=
  ⟨({ sender with dram.held := some 3 } : State), 3, by decide⟩

theorem witness_DramKeepsItsChannels_3 : ∃ (s : State) (c : Nat),
    (s.dram.held.isSome = true) ∧
    (s.flag (.dcStatGather c) = true) :=
  ⟨({ put sender [(.dcStatGather 0, 1)] with dram.held := some 3 } : State), 0, by decide⟩

theorem witness_DramKeepsItsChannels_4 : ∃ (s : State) (c : Nat) (ident : Nat) (op : Nat),
    (s.dram.training = some op) ∧
    (op < 4) ∧
    (c < 8) ∧
    (s.channels.contains c = true) ∧
    ((∀ d ∈ s.channels, d = c ∨ s.dram.trainedNow.contains d = true)) :=
  ⟨({ put sender [(.dcStatReady 0, 1)] with dram.training := some 3 } : State), 0, 0, 3, by decide⟩

theorem witness_DramKeepsItsChannels_5 : ∃ (s : State) (c : Nat) (ident : Nat) (op : Nat),
    (s.dram.training = some op) ∧
    (s.channels.contains c = true) :=
  ⟨({ put sender [(.dcStatReady 0, 1)] with dram.training := some 3 } : State), 0, 0, 3, by decide⟩

theorem witness_DramKeepsItsChannels_6 : ∃ (s : State) (c : Nat) (rate : Nat),
    (s.hasChannel c = true) :=
  ⟨(put sender [((.dcStatReady 0), 1)]), 0, 0, by decide⟩

theorem witness_DramKeepsItsChannels_7 : ∃ (s : State) (c : Nat) (ended : Bool) (drift : Int),
    (s.hasChannel c = true) :=
  ⟨(put sender [((.dcStatReady 0), 1)]), 0, true, 0, by decide⟩

theorem witness_DramKeepsItsChannels_8 : ∃ (s : State) (c : Nat) (ended : Bool),
    (s.hasChannel c = true) ∧
    ((ended || s.retrainDue c) = true) :=
  ⟨(put sender [((.dcStatReady 0), 1)]), 0, true, by decide⟩

theorem witness_DramKeepsItsChannels_9 : ∃ (s : State) (addr : Nat) (outcome : Nat) (syndrome : Nat),
    (s.fld .drcCfgScrubh ≠ 0) ∧
    (s.eccOn = true) :=
  ⟨(put sender [(.drcCfgScrubh, 1), (.drcMapEcc, 1)]), 0, 0, 0, by decide⟩

theorem witness_DramKeepsItsChannels_10 : ∃ (s : State) (init : Nat),
    (s.performs init 0x9058) :=
  ⟨sender, 0, by unfold State.performs; decide⟩

theorem witness_ProfilesAreStoredAndSwitched_1 : ∃ (s : State) (init : Nat) (data : Word),
    (s.performs init 0x88) ∧
    (s.boot.warning = false) :=
  ⟨tile, 0, 5, by unfold State.performs; decide⟩

theorem witness_ProfilesAreStoredAndSwitched_2 : ∃ (s : State) (init : Nat) (n : Nat),
    (n < 4) ∧
    (s.performs init 0x78) :=
  ⟨tile, 0, 3, by unfold State.performs; decide⟩

theorem witness_ProfilesAreStoredAndSwitched_3 : ∃ (s : State) (init : Nat) (n : Nat),
    (n < 4) ∧
    (s.performs init 0x78) ∧
    (s.boot.warning = false) :=
  ⟨tile, 0, 3, by unfold State.performs; decide⟩

theorem witness_ProfilesAreStoredAndSwitched_4 : ∃ (s : State) (init : Nat) (n : Nat) (p : Profile) (q : Profile),
    (n < 4) ∧
    (s.performs init 0x78) ∧
    (s.stored n = some p) ∧
    (s.boot.profile = some q) ∧
    (s.boundaryAhead (s.fld .devProfstroke) = true) ∧
    (p.needsReset q = false) :=
  ⟨(put tileStored [(.devProfstroke, 5)]), 0, 0, tileProfile, tileProfile, by unfold State.performs; decide⟩

theorem witness_ProfilesAreStoredAndSwitched_5 : ∃ (s : State) (n : Nat) (k : Nat) (p : Profile) (q : Profile),
    (n < 4) ∧
    (s.boot.switch = some (n, k)) ∧
    (s.boot.profile = some q) ∧
    (s.boundaryAhead k = false) ∧
    (s.boot.warning = false) ∧
    (s.stored n = some p) ∧
    (p.needsReset q = false) ∧
    (s.switchFits q p = true) ∧
    (p.sections = q.sections) :=
  ⟨({ tileStored with boot.switch := some (0, 0) } : State), 0, 0, tileProfile, tileProfile, by decide⟩

theorem witness_FullResetsRestoreResetValues_2 : ∃ (s : State),
    (s.ths.shutdown = false) :=
  ⟨tile, by decide⟩

theorem witness_FullResetsRestoreResetValues_3 : ∃ (s : State),
    (s.ths.shutdown = true) ∧
    (s.ths.coolRun < 8) :=
  ⟨({ tile with ths.shutdown := true } : State), by decide⟩

theorem witness_FullResetsRestoreResetValues_4 : ∃ (s : State) (rail : Nat) (lowest : Nat),
    (rail ≠ 0) ∧
    (s.belowReset rail lowest = true) :=
  ⟨tile, 9, 0, by decide⟩

theorem witness_FullResetsRestoreResetValues_5 : ∃ (s : State) (init : Nat) (prof : Nat) (named : Bool),
    (s.performs init 0x70) ∧
    (prof < 4) :=
  ⟨tile, 0, 3, true, by unfold State.performs; decide⟩

theorem witness_FullResetsRestoreResetValues_6 : ∃ (s : State),
    (s.boot.expiry = true) ∧
    (s.fld .devBootstatStage ≠ 7) :=
  ⟨({ put tile [(.devBootstatStage, 4)] with boot.expiry := true } : State), by decide⟩

theorem witness_FullResetsRestoreResetValues_7 : ∃ (s : State),
    (s.boot.switch = none) :=
  ⟨tile, by decide⟩

theorem witness_FullResetsRestoreResetValues_8 : ∃ (s : State),
    (s.boot.switch ≠ none) :=
  ⟨({ tile with boot.switch := some (0, 5) } : State), by decide⟩

theorem witness_StartRunsThroughItsStages_1 : ∃ (s : State) (pins : Nat) (vddioFr : Nat),
    (s.boot.inReset = true) ∧
    (s.ths.shutdown = false) :=
  ⟨State.reset, 3, 3300, by decide⟩

theorem witness_StartRunsThroughItsStages_2 : ∃ (s : State) (flash : Bool) (refclk : Bool),
    (s.boot.inReset = false) ∧
    (s.ths.shutdown = false) ∧
    ((s.fld .devBootstatStage ≤ 3 ∨ s.fld .devBootstatStage = 9)) ∧
    ((s.lcs = 0 ∨ s.lcs = 5)) ∧
    (s.life.target = none) ∧
    (s.life.erasePend = false) :=
  ⟨({ base with life.blown := stateCopies 5 } : State), true, true, by decide⟩

theorem witness_StartRunsThroughItsStages_3 : ∃ (s : State) (refclk : Bool),
    (s.boot.inReset = false) ∧
    (s.ths.shutdown = false) ∧
    ((s.fld .devBootstatStage ≤ 3 ∨ s.fld .devBootstatStage = 9)) ∧
    (s.lcs ≠ 0) ∧
    (s.lcs ≠ 5) ∧
    ((s.shutPend = true → testBit (s.fld .devRstcauseCause) 0 = false)) :=
  ⟨base, true, by decide⟩

theorem witness_StartRunsThroughItsStages_4 : ∃ (s : State),
    (s.boot.inReset = false) ∧
    (s.ths.shutdown = false) ∧
    ((s.fld .devBootstatStage ≤ 3 ∨ s.fld .devBootstatStage = 9)) :=
  ⟨base, by decide⟩

theorem witness_StartRunsThroughItsStages_5 : ∃ (s : State) (env : StartEnv),
    (s.boot.inReset = false) ∧
    (s.ths.shutdown = false) ∧
    (s.fld .devBootstatStage = 4) ∧
    (s.takeable = none) :=
  ⟨(put base [(.devBootstatStage, 4)]), ⟨[], []⟩, by decide⟩

theorem witness_StartRunsThroughItsStages_6 : ∃ (s : State) (env : StartEnv) (p : Profile) (n : Nat) (fb : Bool),
    (s.boot.inReset = false) ∧
    (s.ths.shutdown = false) ∧
    (s.fld .devBootstatStage = 4) ∧
    (s.takeable = some (p, n, fb)) :=
  ⟨stage4, ⟨[], []⟩, tileProfile, 0, false, by decide⟩

theorem witness_StartRunsThroughItsStages_7 : ∃ (s : State) (tests : List GroupTest) (p : Profile) (n : Nat) (fb : Bool),
    (s.boot.inReset = false) ∧
    (s.ths.shutdown = false) ∧
    (s.fld .devBootstatStage = 4) ∧
    (s.takeable = some (p, n, fb)) ∧
    (s.boot.warm = false) ∧
    (p.sections = []) ∧
    (0 ∈ p.channels) :=
  ⟨stage4, [], tileProfile, 0, false, by decide⟩

theorem witness_StartRunsThroughItsStages_8 : ∃ (s : State) (ms : Nat),
    (s.mayServe = true) :=
  ⟨serving, 0, by decide⟩

theorem witness_WarmRestartsGoOnOrEscalate_1 : ∃ (s : State) (init : Nat),
    (s.performs init 0x70) ∧
    (s.boot.warning = false) ∧
    ((s.boot.warmTimes.filter (fun t => decide (s.since t < 60 * 10 ^ 9))).length < 3) :=
  ⟨tile, 0, by unfold State.performs; decide⟩

theorem witness_WarmRestartsGoOnOrEscalate_2 : ∃ (s : State) (w : WarmCause),
    (s.boot.inReset = false) ∧
    (s.ths.shutdown = false) ∧
    (s.boot.warning = false) ∧
    ((s.boot.warmTimes.filter (fun t => decide (s.since t < 60 * 10 ^ 9))).length < 3) :=
  ⟨tile, .software, by decide⟩

theorem witness_WarmRestartsGoOnOrEscalate_3 : ∃ (s : State) (w : WarmCause),
    (s.boot.inReset = false) ∧
    (s.ths.shutdown = false) ∧
    (s.boot.warning = true) :=
  ⟨({ tile with boot.warning := true } : State), .watchdog, by decide⟩

theorem witness_WarmRestartsGoOnOrEscalate_4 : ∃ (s : State) (w : WarmCause),
    (s.boot.inReset = false) ∧
    (s.ths.shutdown = false) ∧
    (s.boot.warning = false) ∧
    (3 ≤ (s.boot.warmTimes.filter (fun t => decide (s.since t < 60 * 10 ^ 9))).length) :=
  ⟨({ tile with boot.warmTimes := [0, 0, 0] } : State), .software, by decide⟩

theorem witness_WarmRestartsGoOnOrEscalate_5 : ∃ (s : State),
    (s.boot.watchdog = true) ∧
    (s.wakeOnly = false) ∧
    (s.boot.inReset = false) ∧
    (s.ths.shutdown = false) ∧
    (s.boot.warning = false) ∧
    ((s.boot.warmTimes.filter (fun t => decide (s.since t < 60 * 10 ^ 9))).length < 3) :=
  ⟨({ tile with boot.watchdog := true } : State), by decide⟩

theorem witness_SupplyEventsFreezeAndResume_1 : ∃ (s : State) (rail : Nat) (lowest : Nat),
    (s.ths.shutdown = false) ∧
    (s.boot.inReset = false) ∧
    (s.belowWarning rail lowest = true) ∧
    (s.boot.warning = false) :=
  ⟨tile, 9, 0, by decide⟩

theorem witness_SupplyEventsFreezeAndResume_2 : ∃ (s : State) (rail : Nat) (lowest : Nat),
    (s.ths.shutdown = false) ∧
    (s.boot.inReset = false) ∧
    (s.belowWarning rail lowest = true) ∧
    (s.boot.warning = true) :=
  ⟨({ tile with boot.warning := true } : State), 9, 0, by decide⟩

theorem witness_SupplyEventsFreezeAndResume_3 : ∃ (s : State) (duration : Nat),
    (s.boot.warning = true) ∧
    (s.life.target = none) ∧
    (s.boot.warmDue = none) :=
  ⟨({ tile with boot.warning := true } : State), 5, by decide⟩

theorem witness_SupplyEventsFreezeAndResume_4 : ∃ (s : State) (underrun : Bool) (answered : Bool) (num : Nat) (den : Nat) (vnow : Nat),
    (s.flag .devVcorectlAdapt = false) :=
  ⟨tile, true, false, 1, 1, 0, by decide⟩

theorem witness_SupplyEventsFreezeAndResume_5 : ∃ (s : State) (num : Nat) (den : Nat) (vnow : Nat),
    (s.flag .devVcorectlAdapt = true) ∧
    (s.prof (·.pmbusAdr) ≠ 0) :=
  ⟨({ put tile [(.devVcorectlAdapt, 1)] with boot.profile := some { tileProfile with pmbusAdr := 0x40 } } : State), 1, 1, 0, by decide⟩

theorem witness_SupplyEventsFreezeAndResume_6 : ∃ (s : State) (sensors : List Int),
    (s.fld .devBootstatStage = 2) ∧
    (s.shutPend = true) ∧
    (sensors ≠ []) ∧
    ((∀ x ∈ sensors, x < 1760)) :=
  ⟨({ put base [(.devBootstatStage, 2)] with boot.store := memWrite [] (evBase + 10) [1] } : State), [1759], by decide⟩

theorem witness_SupplyEventsFreezeAndResume_7 : ∃ (s : State) (init : Nat),
    (s.performs init 0x90) ∧
    (s.fld .devBootstatStage = 8) ∧
    (s.lcs ≠ 0) ∧
    (s.lcs ≠ 5) :=
  ⟨(put base [(.devBootstatStage, 8)]), 0, by unfold State.performs; decide⟩

theorem witness_SupplyEventsFreezeAndResume_8 : ∃ (s : State) (init : Nat) (data : Word) (ws : List Word),
    (s.performs init 0x94) ∧
    (s.upd.recov = some ws) ∧
    (s.fld .devRecovstatResult = 1) ∧
    (ws.length < 4194303) ∧
    (ws.length ≠ 1023) :=
  ⟨({ put base [(.devBootstatStage, 8), (.devRecovstatResult, 1)] with upd.recov := some [] } : State), 0, 0, [], by unfold State.performs; decide⟩

theorem witness_SupplyEventsFreezeAndResume_9 : ∃ (s : State) (init : Nat) (ws : List Word),
    (s.performs init 0x90) ∧
    (s.upd.recov = some ws) ∧
    (s.fld .devRecovstatResult = 1) ∧
    (s.fld .devBootstatStage = 8) :=
  ⟨({ put base [(.devBootstatStage, 8), (.devRecovstatResult, 1)] with upd.recov := some [] } : State), 0, [], by unfold State.performs; decide⟩

theorem witness_StandbysTakeTheJournal_1 : ∃ (s : State) (l : Nat) (first : Nat) (stroke : Nat) (b : JournalRec),
    (s.standsBy = true) ∧
    (s.restarting = false) ∧
    (s.pairing.joined = true) ∧
    (s.retained = false) ∧
    (wrap32 first = wrap32 (s.fld .pairJseq + 1)) :=
  ⟨pairB, 0, 1, 0, ⟨2, 0, 0, 0, 0, 0, []⟩, by decide⟩

theorem witness_StandbysTakeTheJournal_2 : ∃ (s : State) (l : Nat) (first : Nat) (stroke : Nat) (b : JournalRec),
    (s.standsBy = true) ∧
    (s.restarting = false) ∧
    (s.pairing.joined = true) ∧
    (s.retained = false) ∧
    (wrap32 first = wrap32 (s.fld .pairJseq + 1)) ∧
    (b.kind = 7) ∧
    (b.addr + b.extra.length ≤ s.userBytes) ∧
    (s.channels ≠ []) ∧
    (s.dram.poison = []) :=
  ⟨(put pairB [(.drcMapUsermb, 1), ((.dcStatReady 0), 1)]), 0, 1, 0, ⟨7, 0, 0, 64, 0, 0, [1, 2]⟩, by decide⟩

theorem witness_StandbysTakeTheJournal_3 : ∃ (s : State) (l : Nat) (first : Nat) (stroke : Nat) (b : JournalRec),
    (s.standsBy = true) ∧
    (s.restarting = false) ∧
    (s.pairing.joined = true) ∧
    (s.retained = true) ∧
    (wrap32 first = wrap32 (s.fld .pairJseq + 1)) ∧
    ((s.pairing.onDie.map (·.body.units)).sum + b.units ≤ 65536) :=
  ⟨(put pairB [(.drcSrcmdState, 2)]), 0, 1, 0, ⟨2, 0, 0, 0, 0, 0, []⟩, by decide⟩

theorem witness_StandbysTakeTheJournal_4 : ∃ (s : State) (l : Nat) (first : Nat) (stroke : Nat) (b : JournalRec),
    (s.standsBy = true) ∧
    (s.restarting = false) ∧
    (s.pairing.joined = true) ∧
    (wrap32 first ≠ wrap32 (s.fld .pairJseq + 1)) :=
  ⟨pairB, 0, 3, 0, ⟨2, 0, 0, 0, 0, 0, []⟩, by decide⟩

theorem witness_StandbysTakeTheJournal_5 : ∃ (s : State),
    (s.retained = true) :=
  ⟨(put pairB [(.drcSrcmdState, 2)]), by decide⟩

theorem witness_StandbysTakeTheJournal_6 : ∃ (s : State) (init : Nat),
    (s.performs init 0x9054) ∧
    (s.retained = false) ∧
    ((s.isSender && (s.fld .devRolestatPairpos == 2 || (s.prof (·.pair) != 1 && s.noCanvas))) = true) :=
  ⟨pairB, 0, by unfold State.performs; decide⟩

theorem witness_StandbysTakeTheJournal_7 : ∃ (s : State) (init : Nat),
    (s.performs init 0x9054) ∧
    (s.retained = false) ∧
    ((s.isSender && (s.fld .devRolestatPairpos == 2 || (s.prof (·.pair) != 1 && s.noCanvas))) = false) :=
  ⟨tile, 0, by unfold State.performs; decide⟩

theorem witness_StandbysTakeTheJournal_8 : ∃ (s : State) (init : Nat),
    (s.performs init 0x9054) ∧
    (s.retained = false) :=
  ⟨tile, 0, by unfold State.performs; decide⟩

theorem witness_StandbysTakeTheJournal_9 : ∃ (s : State) (init : Nat),
    (s.performs init 0x9054) ∧
    (s.retained = true) ∧
    (s.pairing.flushed = []) ∧
    (s.pairing.onDie = []) :=
  ⟨(put pairB [(.drcSrcmdState, 2)]), 0, by unfold State.performs; decide⟩

theorem witness_StandbysTakeTheJournal_10 : ∃ (s : State) (init : Nat) (key : Nat),
    (s.performs init 0x9054) ∧
    (key % 65536 ≠ 0xA5C3) :=
  ⟨pairB, 0, 0, by unfold State.performs; decide⟩

theorem witness_StandbysTakeTheJournal_11 : ∃ (s : State),
    (s.paired = true) :=
  ⟨pairB, by decide⟩

theorem witness_PairsForm_1 : ∃ (s : State) (path : Nat) (l : Nat) (c : PairCell),
    (s.paired = true) ∧
    (c.senderId ≠ s.selfId) ∧
    (s.pairing.control = false) ∧
    (s.pairState = 1) ∧
    ((s.lcs ≠ c.lcs ∨ s.pairConfig ≠ c.config)) :=
  ⟨pairU, 8, 0, { pcell with lcs := 1 }, by decide⟩

theorem witness_PairsForm_2 : ∃ (s : State) (path : Nat) (l : Nat) (c : PairCell),
    (s.paired = true) ∧
    (c.senderId ≠ s.selfId) ∧
    (s.pairing.control = false) ∧
    (s.pairState = 1) ∧
    (s.lcs = c.lcs) ∧
    (s.pairConfig = c.config) ∧
    (c.state = 2) :=
  ⟨pairU, 8, 0, { pcell with config := pairU.pairConfig }, by decide⟩

theorem witness_PairsForm_3 : ∃ (s : State) (path : Nat) (l : Nat) (c : PairCell),
    (s.paired = true) ∧
    (c.senderId ≠ s.selfId) ∧
    (s.pairing.control = false) ∧
    (s.pairState = 1) ∧
    (s.lcs = c.lcs) ∧
    (s.pairConfig = c.config) ∧
    (c.state = 1) ∧
    (s.pairing.active = none) :=
  ⟨pairU, 8, 0, { pcell with state := 1, config := pairU.pairConfig }, by decide⟩

theorem witness_PairsForm_4 : ∃ (s : State) (path : Nat) (l : Nat) (c : PairCell),
    (s.paired = true) ∧
    (c.senderId ≠ s.selfId) ∧
    (s.pairing.control = false) ∧
    (s.standsBy = true) ∧
    (c.state = 2) :=
  ⟨pairB, 8, 0, pcell, by decide⟩

theorem witness_PairsForm_5 : ∃ (s : State),
    (s.paired = true) ∧
    (s.pairState = 1) ∧
    (s.pairing.partner = none) ∧
    (s.pairing.active = none) ∧
    (s.fld .pairCfgHoldwit ≤ s.pairing.coxAgo) ∧
    (s.boot.warm = false) :=
  ⟨({ pairU with pairing.coxAgo := 100 } : State), by decide⟩

theorem witness_PairCommandsActOnControl_1 : ∃ (s : State) (init : Nat),
    (s.reaches init 0x12060 = true) :=
  ⟨pairA, 0, by decide⟩

theorem witness_PairCommandsActOnControl_2 : ∃ (s : State),
    (s.paired = true) ∧
    (s.pairState = 2) ∧
    (s.flag .pairCfgCrewper = true) :=
  ⟨(put pairA [(.pairCfgCrewper, 1)]), by decide⟩

theorem witness_PairCommandsActOnControl_3 : ∃ (s : State) (init : Nat),
    (s.reaches init 0x12060 = true) ∧
    (s.paired = true) ∧
    (s.pairState = 2) ∧
    (s.mayYield = true) ∧
    (s.pairing.crew = none) ∧
    (s.boot.warm = false) :=
  ⟨({ pairA with pairing.partner := some { pcell with state := 3 } } : State), 0, by decide⟩

theorem witness_PairCommandsActOnControl_4 : ∃ (s : State) (init : Nat),
    (s.reaches init 0x12060 = true) ∧
    (s.paired = true) ∧
    (s.pairState = 2) ∧
    (s.mayYield = false) :=
  ⟨pairA, 0, by decide⟩

theorem witness_PairCommandsActOnControl_5 : ∃ (s : State) (init : Nat),
    (s.performs init 0x12060) ∧
    (s.pairState = 5) :=
  ⟨(put pairA [(.pairStatState, 5)]), 0, by unfold State.performs; decide⟩

theorem witness_PairCommandsActOnControl_6 : ∃ (s : State) (init : Nat),
    (s.performs init 0x12060) ∧
    (s.pairState ≠ 5) :=
  ⟨pairB, 0, by unfold State.performs; decide⟩

theorem witness_PairCommandsActOnControl_7 : ∃ (s : State) (k : Nat) (c : PairCell),
    (s.pairing.crew = some (k, true)) ∧
    (s.pairState = 2) ∧
    (s.crewRefusal k false = 0) ∧
    (s.pairing.partner = some c) ∧
    (s.boot.warning = false) ∧
    (s.life.target = none) :=
  ⟨({ put pairA [(.pairStatXlink, 1)] with pairing.crew := some (20, true), pairing.partner := some { pcell with state := 3 } } : State), 20, { pcell with state := 3 }, by decide⟩

theorem witness_PairCommandsActOnControl_8 : ∃ (s : State) (k : Nat) (acked : Bool),
    (s.pairing.crew = some (k, acked)) ∧
    (s.pairState = 3) ∧
    (s.boot.warning = false) ∧
    (s.life.target = none) ∧
    (s.boot.warm = false) :=
  ⟨({ pairB with pairing.crew := some (20, true) } : State), 20, true, by decide⟩

theorem witness_PairCommandsActOnControl_9 : ∃ (s : State),
    (s.paired = true) ∧
    (s.standsBy = true) ∧
    (s.fld .pairCfgHoldwit ≤ s.pairing.lostRun) ∧
    (0 < s.pairing.lostRun) :=
  ⟨({ pairB with pairing.lostRun := 100 } : State), by decide⟩

theorem witness_StandbysTakeOverOnAYield_1 : ∃ (s : State),
    (s.paired = true) ∧
    (s.standsBy = true) :=
  ⟨pairB, by decide⟩

theorem witness_StandbysTakeOverOnAYield_2 : ∃ (s : State) (path : Nat) (l : Nat) (c : YieldCell),
    (s.paired = true) ∧
    (s.standsBy = true) ∧
    (s.pairing.active = some (c.senderId, c.epoch)) :=
  ⟨pairB, 8, 0, ⟨1, 1, 0, 0⟩, by decide⟩

theorem witness_StandbysTakeOverOnAYield_3 : ∃ (s : State) (path : Nat) (l : Nat) (c : YieldCell),
    (s.paired = true) ∧
    (s.standsBy = true) ∧
    (s.pairing.active ≠ some (c.senderId, c.epoch)) :=
  ⟨pairB, 8, 0, ⟨1, 2, 0, 0⟩, by decide⟩

theorem witness_StandbysTakeOverOnAYield_4 : ∃ (s : State) (path : Nat) (l : Nat) (c : YieldCell),
    (s.paired = true) ∧
    (s.pairState = 2) :=
  ⟨pairA, 8, 0, ⟨1, 2, 0, 0⟩, by decide⟩

theorem witness_TakeoversAndSplitDriveRun_1 : ∃ (s : State),
    (s.paired = true) ∧
    (s.pairState = 6) ∧
    (s.pairing.control = false) ∧
    (s.boot.warning = false) ∧
    (s.restarting = false) ∧
    (s.flag .pairCfgCold = false) ∧
    (s.pairing.flushed = []) ∧
    (s.pairing.onDie = []) :=
  ⟨(put pairB [(.pairStatState, 6)]), by decide⟩

theorem witness_TakeoversAndSplitDriveRun_2 : ∃ (s : State),
    (s.paired = true) ∧
    (s.pairState = 6) ∧
    (s.pairing.control = false) ∧
    (s.boot.warning = false) ∧
    (s.restarting = false) ∧
    (s.flag .pairCfgCold = true) ∧
    (s.pairing.flushed = []) ∧
    (s.pairing.onDie = []) :=
  ⟨(put pairB [(.pairStatState, 6), (.pairCfgCold, 1)]), by decide⟩

theorem witness_TakeoversAndSplitDriveRun_3 : ∃ (s : State),
    (s.cold = true) ∧
    (s.pairState = 6) ∧
    (s.pairing.control = true) ∧
    (s.boot.warning = false) ∧
    (s.pairing.flushed = []) ∧
    (s.pairing.onDie = []) :=
  ⟨({ put pairA [(.pairStatState, 6), (.pairCfgCold, 1)] with pairing.control := true } : State), by decide⟩

theorem witness_TakeoversAndSplitDriveRun_4 : ∃ (s : State),
    (s.pairState = 4) ∧
    (s.flag .pairStatResync = true) ∧
    (s.pairing.joined = true) ∧
    (s.staleAge ≤ s.fld .pairCfgStalelim) ∧
    (s.bist.holdMark = none) ∧
    (s.bist.running = []) ∧
    (s.bist.failed = []) :=
  ⟨(put pairB [(.pairStatState, 4), (.pairStatResync, 1)]), by decide⟩

theorem witness_TakeoversAndSplitDriveRun_5 : ∃ (s : State) (port : Nat),
    (s.standsBy = true) ∧
    (s.flag .pairCfgSpliten = true) ∧
    (port < 8) ∧
    (testBit (s.fld .pairStatSplit) port = false) ∧
    (1 ≤ assocGet s.pairing.without port 0) ∧
    (s.fld .pairCfgSplitwait ≤ assocGet s.pairing.without port 0) :=
  ⟨({ put pairB [(.pairCfgSpliten, 1)] with pairing.without := [(7, 100)] } : State), 7, by decide⟩

theorem witness_TakeoversAndSplitDriveRun_6 : ∃ (s : State) (port : Nat),
    (port < 8) ∧
    (testBit (s.fld .pairStatSplit) port = true) ∧
    (16 ≤ assocGet s.pairing.withCox port 0) :=
  ⟨({ put pairB [(.pairStatSplit, 128)] with pairing.withCox := [(7, 16)] } : State), 7, by decide⟩

theorem witness_FaultsAreRecognisedAndProved_1 : ∃ (s : State) (idx : Nat),
    (s.flt.sampling = true) ∧
    ((sourceSpec idx).isSome = true) ∧
    (idx ∉ s.flt.ignored) ∧
    (s.flt.inject = none) ∧
    (s.flt.pairs.any (fun p => p.index == idx && p.taken) = false) :=
  ⟨base, 1, by decide⟩

theorem witness_FaultsAreRecognisedAndProved_2 : ∃ (s : State) (idx : Nat),
    (s.flt.sampling = true) ∧
    ((sourceSpec idx).isSome = true) ∧
    (idx ∉ s.flt.ignored) :=
  ⟨base, 1, by decide⟩

theorem witness_FaultsAreRecognisedAndProved_4 : ∃ (s : State) (init : Nat),
    (s.performs init 0x11050) :=
  ⟨tile, 0, by unfold State.performs; decide⟩

theorem witness_FaultsAreRecognisedAndProved_5 : ∃ (s : State) (block : Nat),
    (testBit s.boot.ready block = true) :=
  ⟨tile, 9, by decide⟩

theorem witness_FaultsAreRecognisedAndProved_6 : ∃ (s : State) (init : Nat),
    (s.performs init 0x11070) :=
  ⟨tile, 0, by unfold State.performs; decide⟩

theorem witness_FaultsAreRecognisedAndProved_7 : ∃ (s : State) (init : Nat),
    (s.performs init 0x11050) :=
  ⟨tile, 0, by unfold State.performs; decide⟩

theorem witness_FaultsAreRecognisedAndProved_8 : ∃ (s : State) (init : Nat),
    (s.performs init 0x11050) :=
  ⟨tile, 0, by unfold State.performs; decide⟩

theorem witness_FaultsAreRecognisedAndProved_9 : ∃ (s : State) (init : Nat),
    (s.performs init 0x11050) :=
  ⟨tile, 0, by unfold State.performs; decide⟩

theorem witness_FaultsAreRecognisedAndProved_10 : ∃ (s : State) (x : Nat × Nat),
    (s.flt.inject = some x) :=
  ⟨({ tile with flt.inject := some (1, 1) } : State), (1, 1), by decide⟩

theorem witness_ThermalSamplesThrottleAndShutDown_1 : ∃ (s : State) (sensors : List Int) (vNum : Nat) (vDen : Nat),
    (s.ths.shutdown = false) ∧
    (s.restarting = false) ∧
    (s.boot.inReset = false) :=
  ⟨tile, (List.replicate 8 400), 0, 1, by decide⟩

theorem witness_ThermalSamplesThrottleAndShutDown_2 : ∃ (s : State) (sensors : List Int) (vNum : Nat) (vDen : Nat),
    (s.ths.shutdown = true) :=
  ⟨({ tile with ths.shutdown := true } : State), (List.replicate 8 400), 0, 1, by decide⟩

theorem witness_ThermalSamplesThrottleAndShutDown_3 : ∃ (s : State) (init : Nat) (data : Word),
    (s.performs init 0x1004C) :=
  ⟨tile, 0, 5, by unfold State.performs; decide⟩

theorem witness_ThermalSamplesThrottleAndShutDown_4 : ∃ (s : State),
    (s.ths.shutdown = false) ∧
    (8 ≤ s.ths.hotRun) :=
  ⟨({ tile with ths.hotRun := 8 } : State), by decide⟩

theorem witness_ThermalSamplesThrottleAndShutDown_5 : ∃ (s : State),
    (s.ths.hotRun < 8) :=
  ⟨tile, by decide⟩

theorem witness_SelfTestsRunAndRepair_1 : ∃ (s : State) (init : Nat),
    (s.reaches init 0x13044 = true) :=
  ⟨tile, 0, by decide⟩

theorem witness_SelfTestsRunAndRepair_2 : ∃ (s : State) (init : Nat),
    (s.performs init 0x13044) :=
  ⟨tile, 0, by unfold State.performs; decide⟩

theorem witness_SelfTestsRunAndRepair_3 : ∃ (s : State) (init : Nat),
    (s.performs init 0x13044) ∧
    (s.boot.warning = false) ∧
    ((s.lcs = 1 ∨ s.lcs = 2 ∨ s.lcs = 4)) :=
  ⟨tile, 0, by unfold State.performs; decide⟩

theorem witness_SelfTestsRunAndRepair_4 : ∃ (s : State) (init : Nat),
    (s.performs init 0x13044) ∧
    (s.lcs = 1) :=
  ⟨({ tile with life.blown := stateCopies 1 } : State), 0, by unfold State.performs; decide⟩

theorem witness_SelfTestsRunAndRepair_5 : ∃ (s : State) (g : Nat) (gs : List Nat),
    (s.bist.waiting = g :: gs) ∧
    (g < 23) ∧
    (s.bist.running.length < 4) ∧
    (s.boot.warning = false) ∧
    (s.bist.parked = false) ∧
    (s.sfld .thsTjmaxTj < s.threshold 1) :=
  ⟨({ tile with bist.waiting := [22] } : State), 22, [], by decide⟩

theorem witness_SelfTestsRunAndRepair_6 : ∃ (s : State) (g : Nat) (gs : List Nat),
    (s.bist.waiting = g :: gs) ∧
    (s.bist.running.length < 4) ∧
    (s.boot.warning = false) ∧
    (s.bist.parked = false) ∧
    (s.threshold 1 ≤ s.sfld .thsTjmaxTj) ∧
    (g ∉ s.bist.deferred) :=
  ⟨({ put tile [(.thsTjmaxTj, 1920)] with bist.waiting := [22] } : State), 22, [], by decide⟩

theorem witness_SelfTestsRunAndRepair_7 : ∃ (s : State) (g : Nat) (retestOk : Bool),
    (s.bist.running.contains g = true) ∧
    (g < 23) :=
  ⟨({ tile with bist.running := [22] } : State), 22, true, by decide⟩

theorem witness_SelfTestsRunAndRepair_8 : ∃ (s : State) (g : Nat) (faults : List BistFault) (es : List Repair),
    (s.bist.running.contains g = true) ∧
    (g < 23) ∧
    (faults ≠ []) ∧
    (allotSpares s.repairs g faults.eraseDups = some es) :=
  ⟨({ tile with bist.running := [10] } : State), 10, [⟨0, 0, 5⟩], ((allotSpares tile.repairs 10 [⟨0, 0, 5⟩]).getD []), by decide⟩

theorem witness_SelfTestsRunAndRepair_9 : ∃ (s : State) (g : Nat) (faults : List BistFault) (retestOk : Bool),
    (s.bist.running.contains g = true) ∧
    (g < 23) ∧
    (faults ≠ []) ∧
    (allotSpares s.repairs g faults.eraseDups = none) :=
  ⟨({ tile with bist.running := [10] } : State), 10, ((List.range 40).map (fun i => ⟨0, 0, i⟩)), true, by decide⟩

theorem witness_LifeCycleMovesOnAuthority_1 : ∃ (s : State) (init : Nat) (target : Nat) (key : Nat),
    (s.reaches init 0xE00044 = true) ∧
    (target < 8) ∧
    (key < 65536) ∧
    (s.lcsRefusal init target key ≠ 0) :=
  ⟨tile, 0, 7, 65535, by decide⟩

theorem witness_LifeCycleMovesOnAuthority_2 : ∃ (s : State) (init : Nat) (target : Nat) (key : Nat),
    (s.performs init 0xE00044) ∧
    (target < 8) ∧
    (key < 65536) ∧
    (s.lcsRefusal init target key = 0) ∧
    (s.boot.warning = false) :=
  ⟨tile, 0, 3, 0xA5C3, by unfold State.performs; decide⟩

theorem witness_LifeCycleMovesOnAuthority_3 : ∃ (s : State) (init : Nat) (target : Nat) (key : Nat),
    (s.performs init 0xE00044) ∧
    (target < 8) ∧
    (key < 65536) ∧
    (s.lcsRefusal init target key = 0) ∧
    (s.boot.warning = true) :=
  ⟨({ tile with boot.warning := true } : State), 0, 3, 0xA5C3, by unfold State.performs; decide⟩

theorem witness_LifeCycleMovesOnAuthority_4 : ∃ (s : State) (init : Nat) (key : Nat),
    (s.performs init 0xE01040) ∧
    (key < 65536) :=
  ⟨tile, 0, 0, by unfold State.performs; decide⟩

theorem witness_UpdatesAreStagedAndVerified_1 : ∃ (s : State) (init : Nat) (data : Word),
    (s.performs init 0x14050) ∧
    (data.toNat / 65536 % 4 = 2) ∧
    (s.upd.xfer = none) ∧
    (s.fld .updXferlenLength ≤ 67108864) :=
  ⟨tile, 0, 0x20000, by unfold State.performs; decide⟩

theorem witness_UpdatesAreStagedAndVerified_2 : ∃ (s : State) (n : Nat) (o : Nat) (len : Nat) (x : UpdXfer),
    (s.upd.xfer = some x) ∧
    (s.upd.image = some (o, len)) ∧
    (s.boot.warning = false) ∧
    (x.kind = 2) ∧
    (n < sectorsOf len) ∧
    (n ∉ s.upd.programmed) ∧
    (x.present (o + sectorSize * n) (min (o + sectorSize * n + sectorSize) (o + len)) = true) ∧
    ((s.fld .updStatState = 1 ∨ s.fld .updStatState = 2)) :=
  ⟨({ put tile [(.updStatState, 1)] with upd.xfer := some { upd with len := 64, chunks := [0, 1] }, upd.image := some (0, 64) } : State), 0, 0, 64, { upd with len := 64, chunks := [0, 1] }, by decide⟩

theorem witness_UpdatesAreStagedAndVerified_3 : ∃ (s : State) (init : Nat) (key : Nat),
    (s.performs init 0x14048) ∧
    ((s.fld .updStatState = 1 ∨ s.fld .updStatState = 2)) ∧
    (s.flag .updMissingValue = false) :=
  ⟨(put tile [(.updStatState, 2)]), 0, 0, by unfold State.performs; decide⟩

theorem witness_UpdatesAreStagedAndVerified_4 : ∃ (s : State),
    (s.fld .updStatState = 3) :=
  ⟨(put tile [(.updStatState, 3)]), by decide⟩

theorem witness_UpdatesAreStagedAndVerified_5 : ∃ (s : State),
    (s.upd.record.jop ≠ 0) ∧
    (s.boot.warning = false) ∧
    (s.upd.record.jnext + 1 < s.upd.record.jtotal) ∧
    (s.upd.record.jnext < 256) :=
  ⟨({ tile with upd.record.jop := 1, upd.record.jtotal := 9 } : State), by decide⟩

theorem witness_UpdatesAreStagedAndVerified_6 : ∃ (s : State),
    (s.upd.record.jop ≠ 0) ∧
    (s.boot.warning = false) ∧
    (s.upd.record.jtotal ≤ s.upd.record.jnext) :=
  ⟨({ tile with upd.record.jop := 1 } : State), by decide⟩

theorem witness_UpdatesAreStagedAndVerified_7 : ∃ (s : State) (init : Nat),
    (s.performs init 0x14048) :=
  ⟨tile, 0, by unfold State.performs; decide⟩

theorem witness_UpdatesAreStagedAndVerified_8 : ∃ (s : State) (init : Nat) (x : UpdXfer) (d : DistTile) (ds : List DistTile),
    (s.performs init 0x14048) ∧
    (s.drives = true) ∧
    (s.upd.dist = none) ∧
    (s.flag .updDistselKind3 = true) ∧
    (s.upd.xfer = some x) ∧
    (x.kind = 3) ∧
    (s.flag .updMissingValue = false) ∧
    ((s.servicePorts.filter (fun n => testBit (s.fld .updDistselPorts) n)).flatMap (fun n => ((List.range 64).filter (fun p => s.flag (.chpEnumrec3Valid n p))).map (fun p => (⟨n, p, 0, 0⟩ : DistTile))) = d :: ds) :=
  ⟨({ put sender [(.updDistselKind3, 1), (.updDistselPorts, 1), (.chpCtrlEnable 0, 1), (.chpStatState 0, 2), (.chpEnumrec3Valid 0 5, 1)] with upd.xfer := some { upd with kind := 3 } } : State), 0, { upd with kind := 3 }, ⟨0, 5, 0, 0⟩, [], by unfold State.performs; decide⟩

theorem witness_UpdatesAreStagedAndVerified_9 : ∃ (s : State) (init : Nat),
    (s.performs init 0x14048) ∧
    (s.drives = false) :=
  ⟨tile, 0, by unfold State.performs; decide⟩

theorem witness_UpdatesAreArmedAndTried_1 : ∃ (s : State) (init : Nat),
    (s.performs init 0x14048) :=
  ⟨tile, 0, by unfold State.performs; decide⟩

theorem witness_UpdatesAreArmedAndTried_2 : ∃ (s : State),
    (s.upd.arming = true) :=
  ⟨({ tile with upd.arming := true } : State), by decide⟩

theorem witness_UpdatesAreArmedAndTried_3 : ∃ (s : State) (init : Nat) (key : Nat),
    (s.performs init 0x14048) :=
  ⟨tile, 0, 0, by unfold State.performs; decide⟩

theorem witness_UpdatesAreArmedAndTried_4 : ∃ (s : State),
    (s.fld .updStatState = 6) ∧
    (strokeAtOrAfter (if s.isSender then s.access.prepared else s.stroke) (s.fld .updRegstroke) = true) ∧
    (s.boot.warning = false) ∧
    (s.life.target = none) ∧
    (s.pairState ≠ 6) ∧
    (s.pairing.crew = none) ∧
    (s.boot.inReset = false) ∧
    (s.ths.shutdown = false) ∧
    ((s.boot.warmTimes.filter (fun t => decide (s.since t < 60 * 10 ^ 9))).length < 3) :=
  ⟨(put tile [(.updStatState, 6)]), by decide⟩

theorem witness_UpdatesAreArmedAndTried_5 : ∃ (s : State),
    (s.fld .updStatState = 6) ∧
    (strokeAtOrAfter (if s.isSender then s.access.prepared else s.stroke) (s.fld .updRegstroke) = true) ∧
    (s.boot.warning = true ∨ s.life.target ≠ none ∨ s.pairState = 6 ∨ s.pairing.crew ≠ none) :=
  ⟨({ put tile [(.updStatState, 6)] with boot.warning := true } : State), by decide⟩

theorem witness_UpdatesAreArmedAndTried_6 : ∃ (s : State) (init : Nat),
    (s.performs init 0x14048) :=
  ⟨tile, 0, by unfold State.performs; decide⟩

theorem witness_UpdatesAreArmedAndTried_7 : ∃ (s : State),
    (s.flag .updCtrlAutoconf = true) ∧
    (s.fld .updStatState = 7) ∧
    (s.fld .devBootstatStage = 7) :=
  ⟨(put tile [(.updStatState, 7), (.updCtrlAutoconf, 1)]), by decide⟩

theorem witness_UpdatesAreArmedAndTried_8 : ∃ (s : State) (init : Nat),
    (s.performs init 0x14048) ∧
    (s.fld .updStatState = 7) ∧
    (s.boot.warning = false) ∧
    ((s.boot.warmTimes.filter (fun t => decide (s.since t < 60 * 10 ^ 9))).length < 3) :=
  ⟨(put tile [(.updStatState, 7)]), 0, by unfold State.performs; decide⟩

theorem witness_UpdatesAreArmedAndTried_9 : ∃ (s : State) (init : Nat) (x : UpdXfer) (l : List (Nat × List Word)),
    let r : TableFile := ⟨s.dram.mem, s.updStage 3⟩
    (s.performs init 0x14048) ∧
    (s.fld .updStatState ≠ 6) ∧
    (s.upd.xfer = some x) ∧
    (x.kind = 3) ∧
    (s.flag .updMissingValue = false) ∧
    (settingsOk r s.role = true) ∧
    (r.num 8 4 = x.len) ∧
    (r.num 4 1 = s.setFmt) ∧
    (s.settingsRecords r = some l) :=
  ⟨({ tile with dram.mem := memWrite [] 0x5280000 settingsRecord, upd.xfer := some { upd with kind := 3, len := 36 } } : State), 0, { upd with kind := 3, len := 36 }, [], by unfold State.performs; decide⟩

theorem witness_UpdatesAreArmedAndTried_10 : ∃ (s : State) (init : Nat) (x : UpdXfer),
    (s.performs init 0x14048) ∧
    (s.fld .updStatState ≠ 6) ∧
    (s.upd.xfer = some x) ∧
    (x.kind = 3) ∧
    (s.flag .updMissingValue = false) ∧
    (settingsOk ⟨s.dram.mem, s.updStage 3⟩ s.role = false) :=
  ⟨({ tile with upd.xfer := some { upd with kind := 3 } } : State), 0, { upd with kind := 3 }, by unfold State.performs; decide⟩

/-! ### Worked examples of the spec -/

/-- R20: 46,080 line slots a second against a ceiling of 93,283. -/
theorem test_line_slot_budget : slotDemand tileProfile = 46080 ∧ slotCeiling 16 = 93283 ∧ slotFits tileProfile = true := by decide

/-- spec/09, one line slot: light to code, code to drive word, and the width of sub-frame 1. -/
theorem test_drive_words : driveWord (2 ^ 18) (encodeLight 5000000) = 0x0001312D ∧ driveWord (2 ^ 18) (encodeLight 3000) = 0x00300BB8 ∧
    driveWord (2 ^ 18) (encodeLight 40) = 0x00300028 := by decide

theorem test_subframe_split : splitWidth true true 4 78125 1 40 7 625817600 = 19532 ∧ splitWidth true true 4 3000 1 40 8 625817600 = 750 ∧
    splitWidth true true 4 40 1 40 9 625817600 = 0 := by decide

/-- spec/10, one lamp: the charge that the fold adds. -/
theorem test_fold_charge : chargeOf 2 128 16 (3 * 2 ^ 20 + 32283) = 6770350 := by decide

/-! ### Commands on small states -/

/-- R47: an address that is no multiple of 4 answers ALIGN. -/
theorem test_write_align : (out (exec (.registerWrite 0 0x41 5) base)).reply = some ⟨5, 0, []⟩ := by decide

/-- R30: a page behind the role answers NOPAGE before a role is taken. -/
theorem test_write_nopage : (out (exec (.registerWrite 0 0xE040 5) base)).reply = some ⟨3, 0, []⟩ := by decide

/-- R50: a frame of two words writes two registers in turn. -/
theorem test_spi_write : (out (exec (.spiWrite (Fld.addr (.cueIn 0)) [5, 6] 16) tile)).fld (.cueIn 1) = 6 := by decide

/-- R46: the fence counts by initiator. -/
theorem test_fence : (out (exec (.fenceWrite 0 0) base)).fences 0 = 1 ∧ (out (exec (.fenceWrite 0 0) base)).fences 2 = 0 := by decide

/-- R66, R67: a part held in reset answers nothing, and stage 1 begins when it is released. -/
theorem test_reset_release : (out (exec (.registerWrite 0 0x40 5) State.reset)).reply = none ∧
    (out (exec (.resetRelease 2 3300) State.reset)).boot.pins = 2 := by decide

/-- R349: a source is recognised at its second sample. -/
theorem test_two_samples : ((out (step (base.raise 1))).sticky 1, (out (step (out (step (base.raise 1))))).sticky 1) = (false, true) := by decide

/-! ### Ill-formed commands -/

theorem ill_initiator : Instr.wellFormed (.registerWrite 5 0x40 0) = false := by decide
theorem ill_address : Instr.wellFormed (.registerWrite 0 0x1000000 0) = false := by decide
theorem ill_queueRoom : Instr.wellFormed (.spiWrite 0 [] 256) = false := by decide
theorem ill_length : Instr.wellFormed (.spiRead 0 256 0) = false := by decide
theorem ill_session : Instr.wellFormed (.dapSessionTimeout 8) = false := by decide
theorem ill_half : Instr.wellFormed (.tunnelTimeout 65536) = false := by decide
theorem ill_page : Instr.wellFormed (.commitCancel 0 4096) = false := by decide
theorem ill_stroke : Instr.wellFormed (.latchInstant 4294967296) = false := by decide
theorem ill_profile : Instr.wellFormed (.profileInvalidate 0 4 0) = false := by decide
theorem ill_key : Instr.wellFormed (.profileInvalidate 0 0 65536) = false := by decide
theorem ill_rail : Instr.wellFormed (.supplyReset 10 0) = false := by decide
theorem ill_pins : Instr.wellFormed (.resetRelease 4 3300) = false := by decide
theorem ill_queue : Instr.wellFormed (.txqPop 0 5) = false := by decide
theorem ill_shutter : Instr.wellFormed (.shutlost 4) = false := by decide
theorem ill_chainPort : Instr.wellFormed (.trainTimeout 8) = false := by decide
theorem ill_lane : Instr.wellFormed (.laneDown 0 2) = false := by decide
theorem ill_tag : Instr.wellFormed (.cueCancel 0 65536) = false := by decide
theorem ill_position : Instr.wellFormed (.cueCellRx 0 0 64 false [] .none) = false := by decide
theorem ill_netPort : Instr.wellFormed (.pauseExpire 5 0) = false := by decide
theorem ill_sublink : Instr.wellFormed (.pauseExpire 0 4) = false := by decide
theorem ill_flow : Instr.wellFormed (.flowEnable 0 16) = false := by decide
theorem ill_leg : Instr.wellFormed (.legDown 0 2) = false := by decide
theorem ill_offset : Instr.wellFormed (.grnAccumWrite 0 1024 0) = false := by decide
theorem ill_view : Instr.wellFormed (.refreshDone 4) = false := by decide
theorem ill_buffer : Instr.wellFormed (.underlayBuildGo 0 0 2) = false := by decide
theorem ill_code : Instr.wellFormed (.dramOpreq 0 8) = false := by decide
theorem ill_channel : Instr.wellFormed (.gatherBoundExceeded 8) = false := by decide
theorem ill_path : Instr.wellFormed (.yieldCellRx 9 0 ⟨0, 0, 0, 0⟩ .none) = false := by decide
theorem ill_block : Instr.wellFormed (.maskingWindowClose 16) = false := by decide
theorem ill_count : Instr.wellFormed (.imageCellRx 0 0 ⟨0, false, 0, 1, 0, List.replicate 121 0⟩ .none) = false := by decide
theorem ill_group : Instr.wellFormed (.bistGroupDone 23 [] true) = false := by decide

end Sys2Proof.Tests
end

section
/-!
SUPPORT. The outcome of REGISTER_WRITE in a unit that is not the active sender of a pair, and what a write at a shadow offset stores (R7, R31, R33, R448).
-/

namespace Sys2Proof.Machine

/-! ### A write that reaches its register -/

theorem exec_registerWrite (init addr : Nat) (data : Word) (s : State) :
    exec (.registerWrite init addr data) s = execRegisterWrite init addr data s := rfl

theorem State.performs_iff (s : State) (init addr : Nat) :
    s.performs init addr ↔ s.powered = true ∧ s.gate init addr true = 0 ∧ s.answers (addr / 4096) = true ∧ s.journals = false := by
  simp only [State.performs, State.reaches, Bool.and_eq_true, beq_iff_eq, and_assoc]

/-- Where nothing is journaled, a write that no check refuses is its plain effect (R326). -/
theorem State.write_of_not_journals {s : State} {init addr : Nat} (data : Word) (env : Option CalEnv)
    (hgate : s.gate init addr true = 0) (hj : s.journals = false) : s.write init addr data env = s.writeAll init addr data env := by
  unfold State.journals at hj
  simp [State.write, hgate, hj]

/-- REGISTER_WRITE performed: the plain effect, answered with the status it gives. -/
theorem exec_registerWrite_of_performs {s t : State} {init addr st : Nat} {data : Word} (h : s.performs init addr)
    (heffect : ({ s with sent := [], reply := none } : State).writeAll init addr data none = (t, st)) :
    exec (.registerWrite init addr data) s = .next { t.answer st (bit (st == 0)) [] with pending := s.pending } := by
  obtain ⟨hpow, hgate, -, hj⟩ := (s.performs_iff init addr).mp h
  have hpow' : ({ s with sent := [], reply := none } : State).powered = true := hpow
  have hwrite := State.write_of_not_journals (s := { s with sent := [], reply := none }) data none hgate hj
  rw [exec_registerWrite, execRegisterWrite, run_next, State.writeAs, hpow', hwrite, heffect]
  rfl

/-! ### What an effect leaves as it was -/

/-- The register file of a state with one word set differs from the old one at that address alone. -/
theorem sameRegisters_of_setReg {s t : State} {a : Nat} {v : Word} (hregs : t.regs = (s.setReg a v).regs) (hcnt : t.counters = s.counters) :
    SameRegisters [a] [] s t := by
  refine ⟨fun c hc => ?_, fun c _ => State.live_congr hcnt c⟩
  rw [State.reg_congr hregs c, State.reg_setReg_ne s v (List.ne_of_not_mem_cons hc)]

/-- The memories lie in BOOT, DRAM, NET and CMP. -/
theorem sameMemories_of_eq {s t : State} (hboot : t.boot = s.boot) (hdram : t.dram = s.dram) (hnet : t.net = s.net) (hcmp : t.cmp = s.cmp) :
    SameMemories s t := by
  simp [SameMemories, hboot, hdram, hnet, hcmp]

/-! ### A write that leaves retention as it was -/

/-- Collected records take effect only after a write that turns DRC.SRCMD.STATE (R313). -/
theorem State.collectedAfter_of_srcmd_eq {s t : State} (h : t.fld .drcSrcmdState = s.fld .drcSrcmdState) : s.collectedAfter t = t := by
  have hr : t.retained = s.retained := by rw [State.retained, State.retained, h]
  simp [State.collectedAfter, hr]

/-! ### A write at a shadow offset -/

/-- The registers whose writes act on the whole unit lie below the shadows. -/
theorem State.writeUnit_of_shadow_offset (s : State) (init : Nat) {addr : Nat} (data : Word) (env : Option CalEnv) (hoff : 0x800 ≤ addr % 4096) :
    s.writeUnit init addr data env = s.writeBase init addr data env := by
  have hsrcmd : (addr == 0x9054) = false := by simp; omega
  have hcfg : (addr == 0x12040) = false := by simp; omega
  have hlp : (addr == 0x4088) = false := by simp; omega
  have hupd : (addr == 0x14048) = false := by simp; omega
  simp [State.writeUnit, hsrcmd, hcfg, hlp, hupd]

/-- In a page in role a write from offset 0x800 on has no effect but the field table's. -/
theorem State.writeBase_of_shadow_offset {s : State} (init : Nat) {addr : Nat} (data : Word) (env : Option CalEnv) {p : PageInfo}
    (hpage : pageInfo (addr / 4096) = some p) (hrole : s.answers (addr / 4096) = true) (hoff : 0x800 ≤ addr % 4096) :
    s.writeBase init addr data env = (s.store addr data, 0) := by
  have hhdr : ¬ addr % 4096 < 0x40 := by omega
  simp [State.writeBase, hpage, hrole, hhdr, hoff]

/-- The field table stores a word at a shadow offset in that shadow's register alone (R7, R31). -/
theorem State.store_of_shadowed (s : State) {addr : Nat} (data : Word) {p : PageInfo} {r : RegSpec} (hpage : pageInfo (addr / 4096) = some p)
    (hoff : 0x840 ≤ addr % 4096) (hreg : findReg p.type (addr % 4096 - 0x800) = some r) (hsh : r.shadowed = true) :
    s.store addr data = s.setReg addr (r.storeShadow (s.reg addr) data) := by
  simp [State.store, hpage, hoff, hreg, hsh]

/-- The whole effect of a write at a shadow offset: that shadow's word, with status OK. -/
theorem State.writeAll_of_shadowed {s : State} (init : Nat) {addr : Nat} (data : Word) (env : Option CalEnv) {p : PageInfo} {r : RegSpec}
    (hpage : pageInfo (addr / 4096) = some p) (hrole : s.answers (addr / 4096) = true) (hoff : 0x840 ≤ addr % 4096)
    (hreg : findReg p.type (addr % 4096 - 0x800) = some r) (hsh : r.shadowed = true) :
    s.writeAll init addr data env = (s.setReg addr (r.storeShadow (s.reg addr) data), 0) := by
  have hoff' : 0x800 ≤ addr % 4096 := by omega
  have hne : Fld.addr .drcSrcmdState ≠ addr := by
    have : Fld.addr .drcSrcmdState = 0x9054 := rfl
    omega
  have hsrcmd : (s.setReg addr (r.storeShadow (s.reg addr) data)).fld .drcSrcmdState = s.fld .drcSrcmdState := by
    rw [State.fld, State.fld, State.reg_setReg_ne s _ hne]
  rw [State.writeAll, s.writeUnit_of_shadow_offset init data env hoff', State.writeBase_of_shadow_offset init data env hpage hrole hoff',
    s.store_of_shadowed data hpage hoff hreg hsh, State.collectedAfter_of_srcmd_eq hsrcmd]

/-- Settles O8: the performed write is one `setReg` at the shadow's address, which no other register, counter or memory reads. -/
theorem shadowWriteStaysOutOfForce : Obligations.ShadowWriteStaysOutOfForce := by
  unfold Obligations.ShadowWriteStaysOutOfForce
  intro s init addr data p r hperf hpage hoff hreg hsh
  obtain ⟨-, -, hrole, -⟩ := (s.performs_iff init addr).mp hperf
  have heffect := State.writeAll_of_shadowed (s := { s with sent := [], reply := none }) init data none hpage hrole hoff hreg hsh
  exact ⟨_, exec_registerWrite_of_performs hperf heffect, rfl, State.reg_setReg_self s addr _, sameRegisters_of_setReg rfl rfl,
    sameMemories_of_eq rfl rfl rfl rfl⟩

end Sys2Proof.Machine
end

section
/-!
SUPPORT. Every operation of the model keeps the register file and the running counters in canonical form (R28, R31, R41; the form itself
is the model's choice, log entry 1). The words change in `setReg` and `setLive`, which keep the form, and in the resets, which drop entries.
Each lemma `State.canonical.f` follows the text of `f`: `h.f.g` is the proof of `((s.f).g).canonical`.
-/

namespace Sys2Proof.Machine

variable {s : State}

/-! ### The form and the state's own operations -/

/-- No other component of the state has a part in the form. -/
theorem State.canonical.update (h : s.canonical) {frc access boot time cue net ing cmp chain scan lamp grain cal dram pairing flt ths bist life
    upd sent reply free pending} :
    State.canonical ⟨s.regs, s.counters, frc, access, boot, time, cue, net, ing, cmp, chain, scan, lamp, grain, cal, dram, pairing, flt, ths,
      bist, life, upd, sent, reply, free, pending⟩ := h

theorem State.canonical.setReg {a : Nat} {v : Word} (h : s.canonical) : (s.setReg a v).canonical :=
  ⟨sparseWf_put _ _ _ _ h.1, h.2⟩

theorem State.canonical.setLive {a : Nat} {v : Word} (h : s.canonical) : (s.setLive a v).canonical :=
  ⟨h.1, sparseWf_put _ _ _ _ h.2⟩

/-- A reset drops registers and counters (R39, R66, R69, R73, R125). -/
theorem State.canonical.filter {p q : Nat × Word → Bool} (h : s.canonical) {frc access boot time cue net ing cmp chain scan lamp grain cal dram
    pairing flt ths bist life upd sent reply free pending} :
    State.canonical ⟨s.regs.filter p, s.counters.filter q, frc, access, boot, time, cue, net, ing, cmp, chain, scan, lamp, grain, cal, dram,
      pairing, flt, ths, bist, life, upd, sent, reply, free, pending⟩ :=
  ⟨sparseWf_filter _ _ _ h.1, sparseWf_filter _ _ _ h.2⟩

theorem State.canonical.reset : State.reset.canonical :=
  ⟨rfl, rfl⟩

theorem State.canonical.pair {α : Type} {x : α} (h : s.canonical) : (s, x).1.canonical := h

theorem State.canonical.ite {a b : State} {c : Prop} {_ : Decidable c} (ha : a.canonical) (hb : b.canonical) :
    (if c then a else b).canonical := by
  split
  · exact ha
  · exact hb

theorem State.canonical.ite_fst {α : Type} {a b : State × α} {c : Prop} {_ : Decidable c} (ha : a.1.canonical) (hb : b.1.canonical) :
    (if c then a else b).1.canonical := by
  split
  · exact ha
  · exact hb

theorem State.canonical.ite_snd {α : Type} {a b : α × State} {c : Prop} {_ : Decidable c} (ha : a.2.canonical) (hb : b.2.canonical) :
    (if c then a else b).2.canonical := by
  split
  · exact ha
  · exact hb

theorem State.canonical.foldl {α : Type} {f : State → α → State} {l : List α} (h : s.canonical)
    (hf : ∀ {t : State} {a : α}, t.canonical → (f t a).canonical) : (l.foldl f s).canonical := by
  induction l generalizing s with
  | nil => exact h
  | cons a l ih => exact ih (hf h)

theorem State.canonical.foldl_fst {α β : Type} {f : State × β → α → State × β} {l : List α} {x : State × β} (h : x.1.canonical)
    (hf : ∀ {y : State × β} {a : α}, y.1.canonical → (f y a).1.canonical) : (l.foldl f x).1.canonical := by
  induction l generalizing x with
  | nil => exact h
  | cons a l ih => exact ih (hf h)

/-- A lemma about a function is a lemma about its text written out. -/
theorem State.canonical.of_eq {f g : State → State} (hfg : f = g) (h : (g s).canonical) : (f s).canonical :=
  hfg ▸ h

/-! ### Ops -/

theorem State.canonical.setFld {f : Fld} {v : Nat} (h : s.canonical) : (s.setFld f v).canonical :=
  h.setReg

theorem State.canonical.setSfld {f : Fld} {v : Int} (h : s.canonical) : (s.setSfld f v).canonical :=
  h.setFld

theorem State.canonical.setFldBit {f : Fld} {i : Nat} {b : Bool} (h : s.canonical) : (s.setFldBit f i b).canonical :=
  h.setFld

theorem State.canonical.advance {f : Fld} (h : s.canonical) : (s.advance f).canonical :=
  h.setFld

theorem State.canonical.bump {f : Fld} {n : Nat} (h : s.canonical) : (s.bump f n).canonical :=
  h.setLive

theorem State.canonical.setLiveFld {f : Fld} {v : Nat} (h : s.canonical) : (s.setLiveFld f v).canonical :=
  h.setLive

theorem State.canonical.send {x : Sent} (h : s.canonical) : (s.send x).canonical :=
  h.update

theorem State.canonical.answer {status count : Nat} {words : List Word} (h : s.canonical) : (s.answer status count words).canonical :=
  h.update

theorem State.canonical.draw (h : s.canonical) : s.draw.2.canonical := h.update

theorem State.canonical.raise {idx : Nat} (h : s.canonical) : (s.raise idx).canonical :=
  .ite h h.update

theorem State.canonical.lower {idx : Nat} (h : s.canonical) : (s.lower idx).canonical :=
  h.update

theorem State.canonical.level {idx : Nat} {b : Bool} (h : s.canonical) : (s.level idx b).canonical :=
  .ite h.raise h.lower

theorem State.canonical.writeEvent {r : EventRec} {shut : Bool} (h : s.canonical) : (s.writeEvent r shut).canonical :=
  h.update

theorem State.canonical.doNvWrite {x1 : NvWrite} (h : s.canonical) : (s.doNvWrite x1).canonical := by
  unfold State.doNvWrite
  split
  · exact h.update
  · exact h.writeEvent
  · exact h.update

theorem State.canonical.nvWrite {w : NvWrite} (h : s.canonical) : (s.nvWrite w).canonical :=
  .ite (.ite h.update.setFld h.update.bump) h.doNvWrite

theorem State.canonical.logEvent {kind index vmin duration : Nat} (h : s.canonical) : (s.logEvent kind index vmin duration).canonical :=
  h.nvWrite

theorem State.canonical.iterate {n : Nat} {f : State → Nat → State} (h : s.canonical) (hf : ∀ {t : State} {a : Nat}, t.canonical → (f t a).canonical) :
    (iterate n f s).canonical :=
  h.foldl hf

theorem State.canonical.onPort {n : Nat} {f : ChainPort → ChainPort} (h : s.canonical) : (s.onPort n f).canonical :=
  h.update

/-! ### Flags -/

theorem State.canonical.setReact {idx v : Nat} (h : s.canonical) : (s.setReact idx v).canonical :=
  h.update

theorem State.canonical.setSticky {idx : Nat} (h : s.canonical) : (s.setSticky idx).canonical :=
  h.setFldBit

theorem State.canonical.openWindow {b : Nat} (h : s.canonical) : (s.openWindow b).canonical :=
  h.update

theorem State.canonical.countWindows (h : s.canonical) : s.countWindows.canonical :=
  h.update

theorem State.canonical.setSecondary {idx : Nat} (h : s.canonical) : (s.setSecondary idx).canonical :=
  h.update

theorem State.canonical.logFault {idx : Nat} {real proof sec bw : Bool} {cls : Nat} (h : s.canonical) :
    (s.logFault idx real proof sec bw cls).canonical :=
  h.setReg.setReg.setFld.setFld.bump

theorem State.canonical.clearSticky {p : Nat} {bits : Word} (h : s.canonical) : (s.clearSticky p bits).canonical :=
  h.setReg

/-! ### Budget -/

theorem State.canonical.judgeChain {n : Nat} (h : s.canonical) : (s.judgeChain n).canonical :=
  .ite h h.setFld.setFld.level.level

/-! ### Time -/

theorem State.canonical.takeRate {rate : Int} (h : s.canonical) : (s.takeRate rate).canonical :=
  h.update.setSfld

theorem State.canonical.writeRate {data : Word} (h : s.canonical) : (writeRate s data).canonical :=
  .ite h (.ite h.takeRate.raise h.takeRate)

theorem State.canonical.shiftInstants {delta : Int} (h : s.canonical) : (s.shiftInstants delta).canonical :=
  h.update

theorem State.canonical.stepTime {delta : Int} (h : s.canonical) : (s.stepTime delta).canonical :=
  h.update.shiftInstants

theorem State.canonical.applyStep {delta : Int} (h : s.canonical) : (s.applyStep delta).canonical :=
  h.stepTime.advance.setFld

theorem State.canonical.refuseStep (h : s.canonical) : s.refuseStep.canonical :=
  h.setFld.advance.raise

theorem State.canonical.stepGo {force : Bool} (h : s.canonical) : (stepGo s force).canonical :=
  .ite h.setFld (.ite (.applyStep (.ite h.update h)) h.refuseStep)

theorem State.canonical.popTxq {q : Nat} (h : s.canonical) : (popTxq s q).canonical :=
  h.update

theorem State.canonical.takeTxStamp {q : Nat} (h : s.canonical) : (takeTxStamp s q).canonical :=
  .ite h.update (.ite h.update.advance.raise h.update)

theorem State.canonical.ptpAnnounce {domain : Nat} {ds : List Nat} (h : s.canonical) : (ptpAnnounce s domain ds).canonical :=
  .ite h (.ite h.update.setFld.lower h.update)

theorem State.canonical.servoStep (h : s.canonical) : s.servoStep.canonical :=
  .ite h.draw h.draw.applyStep

theorem State.canonical.rejoinStep {offset : Int} (h : s.canonical) : (s.rejoinStep offset).canonical :=
  .ite h.update.refuseStep h.update.servoStep

theorem State.canonical.judgeSync {offset : Int} (h : s.canonical) : (s.judgeSync offset).canonical :=
  h.update.setFld

theorem State.canonical.ptpSync {ds : List Nat} {raw : Int} (h : s.canonical) : (ptpSync s ds raw).canonical :=
  .ite h
    (have h₁ : State.canonical _ := h.setSfld.judgeSync
     .ite h₁.update.applyStep
       (have h₂ : State.canonical _ := h₁.draw.takeRate
        .ite h₂.rejoinStep (.ite h₂.servoStep h₂)))

theorem State.canonical.ptpDelay {ds : List Nat} {both : Int} (h : s.canonical) : (ptpDelay s ds both).canonical :=
  .ite h h.setFld

theorem State.canonical.ptpHoldover (h : s.canonical) : (ptpHoldover s).canonical :=
  .ite h.update.setFld.raise h

theorem State.canonical.afterPtpcfg (h : s.canonical) : (afterPtpcfg s).canonical :=
  have h₁ : State.canonical _ := .ite h.setFld h
  .ite h₁.update.setFld.lower (.ite h₁.update.setFld.lower (.ite h₁.setFld h₁))

theorem State.canonical.pulseOut (h : s.canonical) : s.pulseOut.canonical :=
  .ite h.update h

theorem State.canonical.placeFirst (h : s.canonical) : s.placeFirst.canonical :=
  h.update.setFld.setFld.setFld

theorem State.canonical.placeNext (h : s.canonical) : s.placeNext.canonical :=
  have h₁ : State.canonical _ := h.setFld.setSfld.update
  .ite h₁.setFld h₁.setFld.setSfld.raise

theorem State.canonical.senderCatch (h : s.canonical) : (senderCatch s).canonical :=
  .ite h
    (have h₁ : State.canonical _ := .ite h.placeNext h.placeFirst
     .pulseOut (.ite h₁.setFld.setFld h₁.setFld))

theorem State.canonical.framerefEdge {source : Nat} {rising : Bool} {t : Int} (h : s.canonical) : (framerefEdge s source rising t).canonical :=
  .ite h (.ite h (.ite h.update.setFld.lower h.update))

theorem State.canonical.refLost (h : s.canonical) : (refLost s).canonical :=
  .ite h.update.setFld.raise h

theorem State.canonical.showShut {n : Nat} (h : s.canonical) : (s.showShut n).canonical :=
  h.iterate (fun h => .ite h.setFld.setFld h)

theorem State.canonical.shutEdge {n : Nat} {rising : Bool} {t : Int} (h : s.canonical) : (shutEdge s n rising t).canonical :=
  .ite h h.update.showShut.level

theorem State.canonical.shutLost {n : Nat} (h : s.canonical) : (shutLost s n).canonical :=
  .ite h h.update.raise

theorem State.canonical.showSchedule {l : List ViewSched} (h : s.canonical) : (s.showSchedule l).canonical :=
  h.iterate (fun h => h.setFld.setFld)

theorem State.canonical.takeMarker {c : StrokeCell} {accum arrival : Nat} (h : s.canonical) : (takeMarker s c accum arrival).canonical :=
  .ite h (.update (.ite h.setFld.setSfld.raise h.setFld))

theorem State.canonical.markerMissing (h : s.canonical) : (markerMissing s).canonical :=
  .ite h h.update.advance.raise

theorem State.canonical.followCatch (h : s.canonical) : s.followCatch.canonical := by
  unfold State.followCatch
  split
  · exact h.update.setFld
  · exact
      have h₁ : State.canonical _ := h.setFld.update.setFld.setFld
      .ite h₁.setFld.draw.takeRate.showSchedule.shiftInstants.update h₁.setFld

/-! ### Net -/

theorem State.canonical.bringUpPort {q : Nat} (h : s.canonical) : (s.bringUpPort q).canonical :=
  h.setReg

theorem State.canonical.count {q l i n : Nat} (h : s.canonical) : (s.count q l i n).canonical :=
  .ite h.setLive.setFldBit.raise h.setLive

theorem State.canonical.onLink {q l : Nat} {f : Sublink → Sublink} (h : s.canonical) : (s.onLink q l f).canonical :=
  h.update

theorem State.canonical.emit {q l : Nat} {x : Sent} {stamp : Bool} (h : s.canonical) : (s.emit q l x stamp).canonical :=
  have h₁ : State.canonical _ := h.count.count.send
  .ite h₁.takeTxStamp.update h₁

theorem State.canonical.handOver {q l : Nat} {x : Sent} {stamp : Bool} (h : s.canonical) : (s.handOver q l x stamp).canonical :=
  .ite h.onLink h.setFldBit.emit

theorem State.canonical.transmit {q l kind octets : Nat} {data : List Nat} (h : s.canonical) : (s.transmit q l kind octets data).canonical :=
  h.handOver

theorem State.canonical.sendDap {r : DapReply} (h : s.canonical) : (s.sendDap r).canonical :=
  h.handOver

theorem State.canonical.frameIn {q l octets : Nat} {dest : FrameDest} {fcsOk : Bool} (h : s.canonical) :
    (s.frameIn q l octets dest fcsOk).1.canonical := by
  suffices h₁ : State.canonical _ from
    have h₂ : State.canonical _ := .ite h₁ h₁.count
    .ite_fst (.pair h₂.count) (.ite_fst (.pair h₂.count) (.ite_fst (.pair h₂.count) (.pair h₂)))
  split
  · exact h.count.count
  · exact h.count.count.count
  · exact h.count.count.count

theorem State.canonical.takeFrame {q l octets : Nat} {dest : FrameDest} {f : State → State} (h : s.canonical) (hf : ∀ {t : State}, t.canonical → (f t).canonical) :
    (s.takeFrame q l octets dest f).canonical :=
  .ite h (.ite (hf h.frameIn) h.frameIn)

theorem State.canonical.mpPut {a : Nat} {bs : List Byte} (h : s.canonical) : (s.mpPut a bs).canonical :=
  h.update

theorem State.canonical.mpPauseSend {quanta : Nat} (h : s.canonical) : (s.mpPauseSend quanta).canonical :=
  h.count.transmit

theorem State.canonical.mpPauseCheck (h : s.canonical) : s.mpPauseCheck.canonical :=
  .ite h (.ite h.update.mpPauseSend (.ite h.update.mpPauseSend h))

theorem State.canonical.mpPauseRepeat (h : s.canonical) : (mpPauseRepeat s).canonical :=
  .ite h.mpPauseSend h

theorem State.canonical.returnRx {a : Nat} {bs : List Byte} {flags ts : Nat} (h : s.canonical) : (s.returnRx a bs flags ts).canonical :=
  h.mpPut.mpPut.mpPut

theorem State.canonical.ringFrame {bs : List Byte} {fcsOk tagged ptp : Bool} (h : s.canonical) : (ringFrame s bs fcsOk tagged ptp).canonical :=
  .ite h.count.raise
    (have h₁ : State.canonical _ := .setFld (h.foldl (fun h => h.returnRx))
     .mpPauseCheck (.ite h₁.count.raise h₁))

theorem State.canonical.lldpTx {q l : Nat} {partner : Option (Nat × Nat)} (h : s.canonical) : (lldpTx s q l partner).canonical := by
  refine .ite (.transmit (.draw ?_)) h
  split
  · exact h.onLink
  · exact h

theorem State.canonical.takeWake {q l tx rx : Nat} (h : s.canonical) : (takeWake s q l tx rx).canonical :=
  .ite h.lldpTx h

theorem State.canonical.mpConsume {kind : MpKind} {bs : List Byte} {fcsOk tagged : Bool} (h : s.canonical) :
    (mpConsume s kind bs fcsOk tagged).canonical := by
  refine .ite (.ite h.ringFrame h.count) ?_
  split
  · exact .ite (.ite h h.count) (.ite h.ringFrame h.count)
  · exact .ite h (.ite h.ringFrame h.count)
  · exact h
  · exact h.takeWake
  · exact .ite h.ringFrame h.count

theorem State.canonical.mpRxFrame {kind : MpKind} {bs : List Byte} {fcsOk tagged : Bool} (h : s.canonical) :
    (mpRxFrame s kind bs fcsOk tagged).canonical :=
  .ite h.frameIn.mpConsume h.frameIn

theorem State.canonical.returnTx {i n done tsid : Nat} (h : s.canonical) : (s.returnTx i n done tsid).canonical :=
  h.iterate (fun h => h.mpPut)

theorem State.canonical.startTx {fuel : Nat} (h : s.canonical) : (State.startTx fuel s).canonical := by
  induction fuel generalizing s with
  | zero => exact h
  | succ fuel ih => exact .ite h (.ite h.update (.ite h.update (.ite (ih h.returnTx.setFld.count) h.update.setFldBit)))

theorem State.canonical.txDoor (h : s.canonical) : (txDoor s).canonical :=
  .ite h (.ite h.update h.update.startTx)

theorem State.canonical.txComplete (h : s.canonical) : (txComplete s).canonical := by
  unfold Machine.txComplete
  split
  · exact h
  · exact
      have h₁ : State.canonical _ := h.update.emit
      have h₂ : State.canonical _ := .setFld (.returnTx (.ite h₁.takeTxStamp h₁))
      .ite h₂.startTx h₂

theorem State.canonical.resumeLink {q l : Nat} (h : s.canonical) : (s.resumeLink q l).canonical :=
  have h₁ : State.canonical _ := h.onLink.setFldBit
  .ite (.startTx (h₁.foldl (fun h => h.handOver))) (h₁.foldl (fun h => h.handOver))

theorem State.canonical.pauseFrame {q l opcode quanta : Nat} (h : s.canonical) : (pauseFrame s q l opcode quanta).canonical :=
  h.takeFrame (fun h => .ite h.count (.ite h.count (.ite h.count.resumeLink h.count.onLink.setFldBit)))

theorem State.canonical.judgeLpi {q : Nat} (h : s.canonical) : (s.judgeLpi q).canonical :=
  .ite h h.setFld

theorem State.canonical.lpiEnter {q l : Nat} (h : s.canonical) : (lpiEnter s q l).canonical :=
  .ite h.setFldBit.count h

theorem State.canonical.igmpSend {q l mode group source : Nat} (h : s.canonical) : (s.igmpSend q l mode group source).canonical :=
  .ite h h.transmit

theorem State.canonical.judgePtpJoin (h : s.canonical) : s.judgePtpJoin.canonical := by
  unfold State.judgePtpJoin
  extract_lets want s₁ _ s₂
  have h₁ : s₁.canonical := by
    unfold s₁
    split
    · exact .ite h.igmpSend h
    · exact h
  have h₂ : s₂.canonical := h₁.update
  refine .ite h ?_
  clear_value want s₂
  split
  · exact h₂.igmpSend
  · exact h₂

theorem State.canonical.sendPtp {kind : Nat} (h : s.canonical) : (s.sendPtp kind).canonical :=
  h.draw.handOver

theorem State.canonical.mayMeasure (h : s.canonical) : s.mayMeasure.canonical :=
  .ite h.draw.sendPtp h.draw

theorem State.canonical.ptpTake {msg : PtpMessage} (h : s.canonical) : (ptpTake s msg).canonical := by
  unfold Machine.ptpTake
  split
  · exact h.ptpAnnounce
  · exact .ite h.ptpSync.mayMeasure h.ptpSync
  · exact h.ptpDelay
  · exact .ite h.sendPtp.sendPtp h

theorem State.canonical.ptpMessage {q octets : Nat} {dest : FrameDest} {msg : PtpMessage} (h : s.canonical) :
    (ptpMessage s q octets dest msg).canonical :=
  .ite h (h.takeFrame (fun h => .ite h.ptpTake h))

theorem State.canonical.arpIcmp {q l target srcMac srcIp octets : Nat} {dest : FrameDest} (h : s.canonical) :
    (arpIcmp s q l target srcMac srcIp octets dest).canonical :=
  h.takeFrame (fun h => .ite h.transmit h)

theorem State.canonical.judgeLink {q : Nat} (h : s.canonical) : (s.judgeLink q).canonical :=
  h.level

theorem State.canonical.linkChange {q l : Nat} {up : Bool} (h : s.canonical) : (linkChange s q l up).canonical :=
  .ite h
    (have h₁ : State.canonical _ := .ite h.setFldBit.setFld h.setFldBit
     .judgePtpJoin (.judgeLink (.ite h₁ h₁.onLink.setFldBit.setFldBit.setFldBit)))

/-! ### Chain -/

theorem State.canonical.wakeLane {n l : Nat} (h : s.canonical) : (s.wakeLane n l).canonical :=
  h.onPort.setFldBit.send

theorem State.canonical.emitOn {n l : Nat} {x : Sent} (h : s.canonical) : (s.emitOn n l x).canonical :=
  .send (.bump (.ite h.wakeLane h))

theorem State.canonical.sendOn {n l : Nat} {c : Cell} (h : s.canonical) : (s.sendOn n l c).canonical :=
  h.emitOn

theorem State.canonical.sendLink {n l : Nat} {c : LinkCell} (h : s.canonical) : (s.sendLink n l c).canonical :=
  h.onPort.sendOn

theorem State.canonical.submit {n k : Nat} {c : Cell} (h : s.canonical) : (s.submit n k c).canonical :=
  .ite (.ite h h.sendOn) h.onPort

theorem State.canonical.sendCell {n : Nat} {c : Cell} (h : s.canonical) : (s.sendCell n c).canonical :=
  h.submit

theorem State.canonical.sendCross {c : Cell} (h : s.canonical) : (s.sendCross c).canonical :=
  .ite h.sendCell h

theorem State.canonical.forward {n l : Nat} {c : Cell} (h : s.canonical) : (s.forward n l c).canonical :=
  .ite h.sendOn h

theorem State.canonical.sendNext {n l : Nat} (h : s.canonical) : (s.sendNext n l).canonical := by
  refine .ite h ?_
  split
  · exact h
  · exact h.onPort.sendOn

theorem State.canonical.cellBoundary (h : s.canonical) : s.cellBoundary.canonical :=
  h.foldl (fun h => .ite h.sendNext.sendNext h)

theorem State.canonical.freshAllowances (h : s.canonical) : s.freshAllowances.canonical :=
  h.update

theorem State.canonical.videoCellDrop {n : Nat} (h : s.canonical) : (videoCellDrop s n).canonical := by
  unfold Machine.videoCellDrop
  dsimp only
  split
  · exact h
  · exact h.onPort.bump.raise

theorem State.canonical.badCell {n l : Nat} {d : CellDamage} (h : s.canonical) : (s.badCell n l d).canonical :=
  have h₁ : State.canonical _ := .ite h.bump h.bump
  .ite h₁.onPort.setFldBit.bump.raise h₁.onPort

theorem State.canonical.goodCell {n l : Nat} (h : s.canonical) : (s.goodCell n l).canonical :=
  h.bump.onPort

theorem State.canonical.arrive {n l : Nat} {d : CellDamage} {through : Bool} {f : State → State} (h : s.canonical) (hf : ∀ {t : State}, t.canonical → (f t).canonical) :
    (s.arrive n l d through f).canonical :=
  .ite (hf h.goodCell) (.ite h.badCell.emitOn h.badCell)

theorem State.canonical.journal {r : JournalRec} (h : s.canonical) : (s.journal r).canonical :=
  .ite
    (have h₁ : State.canonical _ := h.setFld.update
     .ite h₁.sendCross h₁) h

theorem State.canonical.presetTaps {n code : Nat} (h : s.canonical) : (s.presetTaps n code).canonical :=
  h.iterate (fun h => h.setFld.setFld.setFld)

theorem State.canonical.showChainRate {n : Nat} (h : s.canonical) : (s.showChainRate n).canonical :=
  h.setFld

theorem State.canonical.startHop {n code : Nat} (h : s.canonical) : (s.startHop n code).canonical :=
  .judgeChain (.showChainRate (h.presetTaps.onPort.setFld.setFld.setFld.setFld.sendLink.iterate (fun h => h.sendLink)))

theorem State.canonical.hopDown {n : Nat} (h : s.canonical) : (s.hopDown n).canonical :=
  .judgeChain (.setFld (.setFld (.setFld (.onPort (.ite h.update h)))))

theorem State.canonical.restartHop {n : Nat} (h : s.canonical) : (s.restartHop n).canonical :=
  have h₁ : State.canonical _ := h.hopDown.onPort
  .ite h₁.lower.startHop h₁.lower

theorem State.canonical.trainCell {n l : Nat} {c : TrainCell} {ready : Bool} {askPre askPost : Nat} (h : s.canonical) :
    (trainCell s n l c ready askPre askPost).canonical :=
  h.setFld.setFld.setFld.onPort.sendLink

theorem State.canonical.hopFailed {n : Nat} (h : s.canonical) : (s.hopFailed n).canonical :=
  .ite h.hopDown h.setFld.raise.onPort.startHop

theorem State.canonical.capCell {n : Nat} {c : CapCell} (h : s.canonical) : (capCell s n c).canonical :=
  have h₁ : State.canonical _ := .ite h.onPort.onPort.sendLink h.onPort
  .ite h₁.onPort h₁

theorem State.canonical.rateVerified {n : Nat} {clean : Bool} (h : s.canonical) : (rateVerified s n clean).canonical :=
  .ite h
    (.ite h.hopFailed
       (have h₁ : State.canonical _ := h.setFld.onPort
        .ite (.ite h₁.sendLink h₁) h₁.setFld.showChainRate.judgeChain))

theorem State.canonical.retrainHop {n : Nat} (h : s.canonical) : (retrainHop s n).canonical :=
  have h₁ : State.canonical _ := h.setFld.lower
  .ite h₁.restartHop h₁

theorem State.canonical.laneDown {n l : Nat} (h : s.canonical) : (laneDown s n l).canonical :=
  .ite h
    (have h₁ : State.canonical _ := h.onPort.setFldBit
     .ite (.restartHop (.ite h₁.update h₁)) h₁.setFld.raise.judgeChain)

theorem State.canonical.laneAligned {n l : Nat} (h : s.canonical) : (laneAligned s n l).canonical :=
  have h₁ : State.canonical _ := h.onPort.setFldBit
  .ite h₁.setFld.lower.judgeChain h₁

theorem State.canonical.dlyreq {n l arrival departure : Nat} (h : s.canonical) : (dlyreq s n l arrival departure).canonical :=
  h.onPort.sendLink

theorem State.canonical.dlyrsp {n l turn arrival : Nat} (h : s.canonical) : (dlyrsp s n l turn arrival).canonical := by
  unfold Machine.dlyrsp
  dsimp only
  split
  · exact h
  · exact h.onPort.setFld

theorem State.canonical.startEnum {n : Nat} (h : s.canonical) : (startEnum s n).canonical :=
  .ite (.sendCell (.onPort (.setFld (.setFldBit (.setFldBit (h.iterate (fun h => h.setReg))))))) h

theorem State.canonical.enumConflict {n : Nat} (h : s.canonical) : (s.enumConflict n).canonical :=
  h.setFldBit.raise

theorem State.canonical.countTiles {n : Nat} (h : s.canonical) : (s.countTiles n).canonical :=
  h.setFld.showChainRate.judgeChain

theorem State.canonical.endEnum {n : Nat} (h : s.canonical) : (s.endEnum n).canonical :=
  have h₁ : State.canonical _ := h.onPort.setFldBit
  .countTiles (.iterate (.ite h₁ h₁.enumConflict) (fun h => .ite h.setFld h))

theorem State.canonical.enumCell {n index nexp : Nat} (h : s.canonical) : (enumCell s n index nexp).canonical :=
  .ite
    (have h₁ : State.canonical _ := .ite h.update h
     have h₂ : State.canonical _ := .ite h₁.setFld.setFld h₁
     have h₃ : State.canonical _ := .ite h₂.setFld.setFld (.ite h₂.setFld.setFld h₂)
     have h₄ : State.canonical _ := .ite h₃ h₃.sendCell
     .ite h₄.sendCell h₄) (.ite h.onPort.endEnum h)

theorem State.canonical.putEnumrec {n : Nat} {c : EnumrCell} {valid : Bool} (h : s.canonical) : (s.putEnumrec n c valid).canonical :=
  h.setFld.setFld.setFld.setFld.setFld.setFld.setFld.setFld.setFld

theorem State.canonical.enumrCell {n l index : Nat} {c : EnumrCell} (h : s.canonical) : (enumrCell s n l index c).canonical :=
  .ite h.forward
    (.ite h
       (.ite h.enumConflict
          (have h₁ : State.canonical _ := .ite h.putEnumrec.onPort.enumConflict h.putEnumrec
           have h₂ : State.canonical _ := .ite h₁.raise h₁
           .ite h₂.countTiles.onPort.endEnum h₂.countTiles)))

theorem State.canonical.setServing {n : Nat} {relay : Bool} (h : s.canonical) : (s.setServing n relay).canonical :=
  have h₁ : State.canonical _ := h.setFld.setFld.setFld
  .ite h₁.update h₁

theorem State.canonical.holdCox {c : CoxCell} (h : s.canonical) : (s.holdCox c).canonical :=
  h.update.setFld.setFld.setFld

theorem State.canonical.adoptCox {n : Nat} {c : CoxCell} (h : s.canonical) : (s.adoptCox n c).canonical :=
  h.holdCox.setServing.update

theorem State.canonical.coxCell {n l : Nat} {c : CoxCell} (h : s.canonical) : (coxCell s n l c).canonical := by
  refine .ite h (.forward ?_)
  split
  · exact .raise (.adoptCox (.ite h.update h.update))
  · exact .ite (.adoptCox (.ite (.raise (.ite h.update h.update)) (.ite h.update h.update)))
        (.ite
           (have h₁ : State.canonical _ := .update (.ite h.update h.update)
            .ite h₁ h₁.holdCox.setServing) (.bump (.ite h.update h.update)))

theorem State.canonical.strokeCell {n l : Nat} {c : StrokeCell} {arrival departure : Nat} (h : s.canonical) :
    (strokeCell s n l c arrival departure).canonical :=
  .ite h (.forward (.ite h.takeMarker h))

theorem State.canonical.sendTunreq {t : TunnelReq} (h : s.canonical) : (s.sendTunreq t).canonical :=
  .ite h.sendCross h.sendCell

theorem State.canonical.sendTunnel {t : TunnelReq} (h : s.canonical) : (s.sendTunnel t).canonical :=
  .ite h h.update.onPort.sendTunreq

theorem State.canonical.sendTunnels (h : s.canonical) : s.sendTunnels.canonical :=
  h.foldl (fun h => h.sendTunnel)

theorem State.canonical.addTunnel {n pos session seq off : Nat} {ops : List AccessOp} (h : s.canonical) :
    (State.addTunnel n pos session seq s off ops).canonical :=
  h.update

theorem State.canonical.tunnelTo {n pos session seq : Nat} {ops : List AccessOp} (h : s.canonical) : (s.tunnelTo n pos session seq ops).canonical :=
  .sendTunnels (h.foldl (fun h => h.addTunnel))

theorem State.canonical.answerTunnel {session seq : Nat} (h : s.canonical) : (s.answerTunnel session seq).canonical := by
  unfold State.answerTunnel
  split
  · exact h
  · exact h.update.foldl (fun h => h.sendDap)

theorem State.canonical.endTunnel {t : TunnelReq} {rs : List OpResult} (h : s.canonical) : (s.endTunnel t rs).canonical :=
  have h₁ : State.canonical _ := .update (.update (.ite h.onPort h))
  .ite h₁.sendTunnels.answerTunnel h₁.sendTunnels

theorem State.canonical.tunrspCell {n l : Nat} {c : TunrspCell} (h : s.canonical) : (tunrspCell s n l c).1.canonical := by
  refine .ite_fst (.pair h.forward) (.ite_fst (.pair h.sendCross) ?_)
  split
  · exact .pair h
  · exact .pair h.endTunnel

theorem State.canonical.tunnelTimeout {tag : Nat} (h : s.canonical) : (tunnelTimeout s tag).1.canonical := by
  unfold Machine.tunnelTimeout
  split
  · exact .pair h
  · exact .pair h.endTunnel

/-! ### Cue -/

theorem State.canonical.passOn {n l : Nat} {bcast : Bool} {c : Cell} (h : s.canonical) : (s.passOn n l bcast c).canonical :=
  .ite h.forward (.ite h h.bump)

theorem State.canonical.route {n l pos : Nat} {bcast : Bool} {c : Cell} (h : s.canonical) : (s.route n l pos bcast c).1.canonical :=
  .ite_fst (.pair (.ite h.bump h)) (.ite_fst (.pair h.bump.passOn) (.ite_fst (.pair h.passOn) (.ite_fst (.pair h) (.pair h.passOn))))

theorem State.canonical.lateCue {c : Cue} {due : Nat} (h : s.canonical) : (s.lateCue c due).1.canonical :=
  .pair (.ite h h.bump)

theorem State.canonical.enterCue {e : CueEntry} (h : s.canonical) : (s.enterCue e).canonical :=
  .update (.ite_fst h.lateCue (.pair h))

theorem State.canonical.pushCue (h : s.canonical) : (pushCue s).1.canonical :=
  .ite_fst (.pair h.setFld) (.ite_fst (.pair h.setFld) (.pair h.enterCue.journal.setFld.setFld))

theorem State.canonical.cancelCues {tag : Nat} (h : s.canonical) : (cancelCues s tag).canonical :=
  h.journal.update.setFld

theorem State.canonical.cueError {e : CueEntry} {status : Nat} (h : s.canonical) : (s.cueError e status).canonical :=
  h.setFld.setFld.setFld.bump.raise

theorem State.canonical.useCredit {n p : Nat} (h : s.canonical) : (s.useCredit n p).canonical :=
  h.update

theorem State.canonical.distributeOne {latched : Nat} {c : Cue} (h : s.canonical) : (distributeOne latched s c).canonical :=
  .ite h
    (.ite h.update.cueError
       (.ite (.journal (.foldl (.update (h.update.foldl (fun h => h.useCredit))) (fun h => h.submit)))
          (have h₁ : State.canonical _ := .ite h h.update.bump
           .ite h₁.raise h₁)))

theorem State.canonical.cueCell {n l pos : Nat} {bcast : Bool} {es : List CueEntry} (h : s.canonical) : (cueCell s n l pos bcast es).canonical :=
  .ite (h.route.foldl (fun h => .ite h (.ite h.cueError (.ite h h.enterCue)))) h.route

/-! ### Reset -/

theorem State.canonical.drawChallenge (h : s.canonical) : s.drawChallenge.canonical :=
  h.update

/-- A full reset starts from the reset value of every register (R66). -/
theorem State.canonical.fullReset {cause : Cause} {select : Option Nat} {held : Bool} : (fullReset s cause select held).canonical :=
  .drawChallenge (.setFld (.setFld (.foldl (.update .reset) (fun h => h.setFld.setFld))))

theorem State.canonical.resetPages {p : Nat → Bool} (h : s.canonical) : (s.resetPages p).canonical := by
  obtain ⟨hregs, hcounters⟩ := h
  obtain ⟨hsorted, hlean⟩ := (Bool.and_eq_true _ _).mp hregs
  refine ⟨(Bool.and_eq_true _ _).mpr
    ⟨sparseSorted_filterMap _ (fun e e' he => ?_) 0 _ hsorted, sparseLean_filterMap _ _ (fun e e' he hne => ?_) _ hlean⟩,
    sparseWf_drop _ _ (fun a => p (pageOf a)) hcounters⟩
  · dsimp only at he
    split_ifs at he <;> cases he <;> rfl
  · dsimp only at he
    split_ifs at he with hp hw <;> cases he
    · exact hw
    · exact hne

/-! ### Thermal -/

theorem State.canonical.judgeSensor {readings : List Int} {i : Nat} (h : s.canonical) : (judgeSensor readings s i).canonical :=
  have h₁ : State.canonical _ := h.update.setSfld
  .ite h₁.setFld.raise.logEvent (.ite h₁.setFld h₁)

theorem State.canonical.takeJunction (h : s.canonical) : s.takeJunction.canonical :=
  .level (.setFld (.ite h h.setSfld.setFld))

theorem State.canonical.sampleText {vNum vDen : Nat} (h : s.canonical) : (sampleText s vNum vDen).canonical := by
  refine .ite h.update.setFld.setSfld.lower
      (.ite (.setSfld (.ite (.lower (.ite h.update.setFld.raise.logEvent h.update.setFld)) (.ite h.update.setFld.raise.logEvent h.update.setFld))) ?_)
  split
  · exact .setSfld
        (.update (.ite (.lower (.ite h.update.setFld.raise.logEvent h.update.setFld)) (.ite h.update.setFld.raise.logEvent h.update.setFld)))
  · exact .setSfld
        (.update (.draw (.ite (.lower (.ite h.update.setFld.raise.logEvent h.update.setFld)) (.ite h.update.setFld.raise.logEvent h.update.setFld))))

theorem State.canonical.setStep {n : Nat} (h : s.canonical) : (s.setStep n).canonical :=
  .ite h
    (have h₁ : State.canonical _ := h.update.setFld.setFld.logEvent
     .ite h₁.bump h₁.bump)

theorem State.canonical.evalThrottle (h : s.canonical) : (evalThrottle s).canonical :=
  .ite h.setStep (.ite h.setStep h.setStep)

theorem State.canonical.evalWarn (h : s.canonical) : (evalWarn s).canonical :=
  .ite h.update h.update.level.logEvent

theorem State.canonical.thsSample {sensors : List Int} {vNum vDen : Nat} (h : s.canonical) : (thsSample s sensors vNum vDen).canonical :=
  .ite h.update (.evalThrottle (.evalWarn (.setFld (.update (.sampleText (.takeJunction (h.update.iterate (fun h => h.judgeSensor))))))))

theorem State.canonical.afterThrcfg (h : s.canonical) : (afterThrcfg s).canonical :=
  .ite h.setStep (.ite h.setStep h)

theorem State.canonical.applyThrottle (h : s.canonical) : s.applyThrottle.canonical :=
  h.setFld.setFld.setFld.level

theorem State.canonical.thermalShutdown (h : s.canonical) : (thermalShutdown s).canonical :=
  .ite h State.canonical.fullReset.setFld.update

theorem State.canonical.endShutdown (h : s.canonical) : s.endShutdown.canonical :=
  h.setFldBit.writeEvent.update

theorem State.canonical.supplyWarning {rail lowest : Nat} (h : s.canonical) : (supplyWarning s rail lowest).canonical :=
  .ite h
    (have h₁ : State.canonical _ := .ite h h.update.setFld.bump
     .raise (.setFldBit (.ite h₁.update h₁)))

theorem State.canonical.supplyClear {duration : Nat} (h : s.canonical) : (supplyClear s duration).canonical :=
  .ite h
    (have h₁ : State.canonical _ := h.update.setFld.setFld.lower
     .logEvent (.ite (h₁.foldl (fun h => h.doNvWrite)) (.logEvent (h₁.foldl (fun h => h.doNvWrite)))))

theorem State.canonical.supplyReset {rail lowest : Nat} : (supplyReset s rail lowest).canonical :=
  .ite State.canonical.fullReset.update State.canonical.fullReset.update

theorem State.canonical.powerOn : (powerOn s).canonical :=
  State.canonical.fullReset.update

theorem State.canonical.resetN (h : s.canonical) : (resetN s).canonical :=
  .ite (.ite h.update State.canonical.fullReset.setFldBit.update) State.canonical.fullReset

theorem State.canonical.resetRelease {pins vddioFr : Nat} (h : s.canonical) : (resetRelease s pins vddioFr).canonical :=
  .ite h h.update.setFld.setFld

theorem State.canonical.setVcore {v : Nat} (h : s.canonical) : (s.setVcore v).canonical :=
  h.update.send

theorem State.canonical.vcoreAdapt {underrun : Bool} {slackNum slackDen : Nat} {answered : Bool} {vnow : Nat} (h : s.canonical) :
    (vcoreAdapt s underrun slackNum slackDen answered vnow).canonical :=
  .ite h.setFld
    (have h₁ : State.canonical _ := h.setFld.update
     have h₂ : State.canonical _ := .ite h₁.setVcore (.ite h₁.setVcore (.ite h₁.setVcore h₁))
     .ite h₂
       (.ite h₂.update.setFld
          (have h₃ : State.canonical _ := h₂.update.setFld
           .ite h₃.update.setFld.raise h₃)))

/-! ### Dram -/

theorem State.canonical.dramLog {chan local_ kind port syndrome init : Nat} (h : s.canonical) :
    (s.dramLog chan local_ kind port syndrome init).canonical :=
  h.setReg.setReg.setReg.setFld.setFld

theorem State.canonical.eccCorrected {chan local_ kind port syndrome init : Nat} (h : s.canonical) :
    (s.eccCorrected chan local_ kind port syndrome init).canonical :=
  h.bump.bump.dramLog.raise

theorem State.canonical.eccPoison {a port syndrome init : Nat} (h : s.canonical) : (s.eccPoison a port syndrome init).canonical :=
  .raise (.dramLog (.bump (.bump (.ite h h.update.bump))))

theorem State.canonical.mendBlock {port init addr len b : Nat} (h : s.canonical) : (s.mendBlock port init addr len b).canonical :=
  .ite (.ite h.update h.update.dramLog) h

theorem State.canonical.dramWrite {port init addr : Nat} {bs : List Byte} (h : s.canonical) : (s.dramWrite port init addr bs).canonical :=
  .ite h (.update (h.foldl (fun h => h.mendBlock)))

theorem State.canonical.dramRange {addr init : Nat} (h : s.canonical) : (s.dramRange addr init).canonical :=
  h.dramLog.raise

theorem State.canonical.dramLogClear (h : s.canonical) : (dramLogClear s).canonical :=
  h.setFld.setFld

theorem State.canonical.setRefresh {c : Nat} (h : s.canonical) : (s.setRefresh c).canonical :=
  h.setFld.setFld

theorem State.canonical.mr4Poll {c rate : Nat} (h : s.canonical) : (mr4Poll s c rate).canonical :=
  .ite h h.setFld.setRefresh.level

theorem State.canonical.storeTraining {c op ident : Nat} (h : s.canonical) : (s.storeTraining c op ident).canonical :=
  h.nvWrite

theorem State.canonical.showTrained (h : s.canonical) : s.showTrained.canonical :=
  h.setFld

theorem State.canonical.oscillatorSample {c : Nat} {ended : Bool} {drift : Int} (h : s.canonical) : (oscillatorSample s c ended drift).canonical :=
  .ite h (.ite h.setFld.setSfld.bump h.setFld)

theorem State.canonical.retrainStep {c : Nat} {ended : Bool} (h : s.canonical) : (retrainStep s c ended).canonical :=
  .ite h (.ite h.setFld.setFld.bump h.setFld)

theorem State.canonical.opRequest {op : Nat} (h : s.canonical) : (opRequest s op).canonical :=
  .ite h.setFld (.ite h.update.setFld (.ite h.update.setFld.raise (.ite (.ite h.update.setFld h.update.setFld) h.update.setFld)))

theorem State.canonical.opSwitch (h : s.canonical) : (opSwitch s).canonical := by
  unfold Machine.opSwitch
  split
  · exact h
  · exact .ite h h.update.setFld.setFld

theorem State.canonical.trainingDone {c ident : Nat} {ok : Bool} (h : s.canonical) : (trainingDone s c ident ok).canonical := by
  unfold Machine.trainingDone
  split
  · exact h
  · exact h
  · exact .ite h.update.setFld.raise
        (have h₁ : State.canonical _ := h.storeTraining.setFldBit.showTrained
         .ite h₁.update.setFld h₁.update)

theorem State.canonical.gatherBound {c : Nat} (h : s.canonical) : (gatherBound s c).canonical :=
  .ite h.update.setFld h

theorem State.canonical.raiseChannel {op : Nat} {found : List ChannelFound} {c : Nat} (h : s.canonical) :
    (State.raiseChannel op found s c).canonical :=
  .setRefresh (.setFld (.setFld (.setFld (.setFld (.ite h h.storeTraining)))))

theorem State.canonical.bringUpDram {found : List ChannelFound} (h : s.canonical) : (s.bringUpDram found).1.canonical :=
  have h₁ : State.canonical _ := .ite h.raise h
  .ite_fst (.pair h₁)
    (.pair (.showTrained (.setFld (.setFld (.setFld (.setFld (.setFld (.foldl (.ite h₁.lower h₁.raise) (fun h => h.raiseChannel)))))))))

theorem State.canonical.selfRefresh {sr : Nat} (h : s.canonical) : (s.selfRefresh sr).canonical :=
  .setFld (h.foldl (fun h => h.setFld.setFld))

/-! ### Surface -/

theorem State.canonical.setSurface {i : Nat} {d : Surface} (h : s.canonical) : (s.setSurface i d).canonical :=
  h.update

theorem State.canonical.unmark {k : Nat} (h : s.canonical) : (s.unmark k).canonical :=
  .ite h.update.setFld h.update

theorem State.canonical.mar {k : Nat} (h : s.canonical) : (s.mar k).canonical :=
  h.update.unmark.unmark

theorem State.canonical.checkReuse {own : InUse → Bool} {writer flow init lo len : Nat} (h : s.canonical) :
    (s.checkReuse own writer flow init lo len).canonical := by
  unfold State.checkReuse
  split
  · exact h
  · exact .raise (.setFld (.setFld (.setFld (.setFld (.setFld (.setFld (.setFld (.bump (h.foldl (fun h => h.mar))))))))))

theorem State.canonical.userWrite {port writer flow init addr : Nat} {bs : List Byte} (h : s.canonical) :
    (s.userWrite port writer flow init addr bs).canonical :=
  h.checkReuse.dramWrite

theorem State.canonical.engineWrite {own : InUse → Bool} {addr : Nat} {px : List Px} (h : s.canonical) : (s.engineWrite own addr px).canonical :=
  h.checkReuse.dramWrite

theorem State.canonical.advanceRetire (h : s.canonical) : s.advanceRetire.canonical :=
  .ite h.setFld.raise h

theorem State.canonical.release {p : InUse → Bool} (h : s.canonical) : (s.release p).canonical :=
  h.update.advanceRetire

theorem State.canonical.abandonStrokes (h : s.canonical) : s.abandonStrokes.canonical :=
  h.update.setFld.release

theorem State.canonical.setUnderlay {v b : Nat} {on : Bool} (h : s.canonical) : (s.setUnderlay v b on).canonical :=
  h.setFld

theorem State.canonical.abortBuild {v : Nat} (h : s.canonical) : (s.abortBuild v).canonical := by
  unfold State.abortBuild
  split
  · exact h
  · exact h.update.setUnderlay.setFld.setFld.release

theorem State.canonical.abortBuilds (h : s.canonical) : s.abortBuilds.canonical :=
  h.iterate (fun h => h.abortBuild)

theorem State.canonical.winRead {init x : Nat} (h : s.canonical) : (s.winRead init x).1.canonical := by
  delta State.winRead
  extract_lets o
  split
  · exact .ite_fst (.pair h.dramRange) (.pair h)
  all_goals exact .pair h

theorem State.canonical.winWrite {init x : Nat} {data : Word} (h : s.canonical) : (s.winWrite init x data).canonical := by
  unfold State.winWrite
  split
  · exact .ite h.dramRange h.userWrite
  · exact .ite h (.ite h.raise h.update)
  · exact .ite h (.ite h.raise h.update)
  · exact .ite h (.ite h.raise h.update)
  · exact .ite h (.ite h.raise h.update)
  · exact .ite h (.ite h.raise h.update)
  · exact h

theorem State.canonical.loadSeed {a : Nat} (h : s.canonical) : (s.loadSeed a).1.canonical :=
  .ite_fst (.pair h.update.setSurface) (.pair h.setSurface.raise)

theorem State.canonical.loadSeedsFrom {n a lim : Nat} (h : s.canonical) : (State.loadSeedsFrom n a lim s).canonical := by
  induction n generalizing a s with
  | zero => exact h
  | succ n ih => exact .ite h (ih h.loadSeed)

/-! ### Ingest -/

theorem State.canonical.onFlow {n : Nat} {f : FlowState → FlowState} (h : s.canonical) : (s.onFlow n f).canonical :=
  h.update

theorem State.canonical.igmp {n k : Nat} {leave : Bool} (h : s.canonical) : (s.igmp n k leave).canonical :=
  .ite h h.igmpSend

theorem State.canonical.igmpAll {n : Nat} {leave : Bool} (h : s.canonical) : (s.igmpAll n leave).canonical :=
  h.foldl (fun h => h.igmp)

theorem State.canonical.igmpRepeat {n : Nat} (h : s.canonical) : (igmpRepeat s n).canonical :=
  .ite h.onFlow.igmpAll h

theorem State.canonical.answerQuery {q l group : Nat} (h : s.canonical) : (s.answerQuery q l group).canonical :=
  .foldl (.ite h.igmpSend h) (fun h => .ite h.igmp h)

theorem State.canonical.igmpQuery {q l version group octets : Nat} {aged : List Nat} (h : s.canonical) :
    (igmpQuery s q l version group octets aged).canonical :=
  h.takeFrame (fun h => .answerQuery (.ite h.update (h.update.foldl (fun h => h.raise))))

theorem State.canonical.ownSurfaces {n : Nat} (h : s.canonical) : (s.ownSurfaces n).canonical :=
  h.iterate (fun h => h.setSurface)

theorem State.canonical.freeSurfaces {n : Nat} (h : s.canonical) : (s.freeSurfaces n).canonical :=
  h.iterate (fun h => h.setSurface)

theorem State.canonical.dropBuf {n b : Nat} (h : s.canonical) : (s.dropBuf n b).canonical := by
  unfold State.dropBuf
  split
  · exact .ite h.bump h
  · exact h

theorem State.canonical.flowStart {n : Nat} (h : s.canonical) : (flowStart s n).canonical :=
  .ite h (.ite h.setFld.setFld (.igmpAll (.ownSurfaces (.onFlow (h.setFld.setFld.setFld.iterate (fun h => h.dropBuf))))))

theorem State.canonical.flowStop {n : Nat} (h : s.canonical) : (flowStop s n).canonical :=
  .ite h.setFld.setFld h.igmpAll.freeSurfaces.setFld.setFld.setFldBit.setFld.setFld.lower.setFldBit.setFld.update.onFlow

theorem State.canonical.closeFrame {n : Nat} (h : s.canonical) : (s.closeFrame n).canonical := by
  unfold State.closeFrame
  split
  · exact h
  · exact .onFlow (.ite h.bump h)

theorem State.canonical.openFrame {n rtp : Nat} (h : s.canonical) : (s.openFrame n rtp).canonical := by
  refine .ite h.closeFrame.onFlow.bump.onFlow ?_
  split
  · exact h.closeFrame.onFlow.bump.raise.onFlow
  · exact h.closeFrame.onFlow.dropBuf.onFlow

theorem State.canonical.writeSrd {n b : Nat} {r : Srd} (h : s.canonical) : (State.writeSrd n b s r).canonical := by
  unfold State.writeSrd
  split
  · exact h
  · exact h.userWrite

theorem State.canonical.checkComplete {n : Nat} (h : s.canonical) : (s.checkComplete n).canonical := by
  unfold State.checkComplete
  dsimp only
  split
  · exact .ite h.onFlow.bump.setFld.setFld h
  · exact h

theorem State.canonical.judgeMisses {n : Nat} (h : s.canonical) : (s.judgeMisses n).canonical :=
  h.bump.bump.onFlow

theorem State.canonical.legUp {n k : Nat} (h : s.canonical) : (s.legUp n k).canonical :=
  have h₁ : State.canonical _ := .setFldBit (.setFld (.ite h.setFld.bump h.setFld.bump))
  .ite h₁.lower h₁

theorem State.canonical.placePacket {n : Nat} {p : VideoPacket} (h : s.canonical) : (s.placePacket n p).canonical := by
  unfold State.placePacket
  extract_lets f newest opens s₁
  have h₁ : s₁.canonical := .onFlow (.ite h.openFrame h)
  split
  · exact h₁
  · extract_lets s₂ s₃
    have h₂ : s₂.canonical := by
      unfold s₂
      split
      · exact h₁
      · exact h₁.foldl fun h => h.writeSrd
    exact .ite (.ite h₁.onFlow.checkComplete h₁) (.checkComplete (.ite h₂.onFlow h₂))

theorem State.canonical.flowPacket {n k : Nat} {p : VideoPacket} (h : s.canonical) : (s.flowPacket n k p).canonical := by
  refine .ite (.bump (.ite h.legUp.bump.judgeMisses h.legUp.bump)) (.ite (.bump (.ite h.legUp.bump.judgeMisses h.legUp.bump)) ?_)
  split
  · exact
      have h₁ : State.canonical _ := .onFlow (.ite h.legUp.bump.judgeMisses h.legUp.bump)
      .ite (.ite h₁.bump h₁.bump) (.placePacket (.ite h.legUp.bump.judgeMisses h.legUp.bump))
  · exact .placePacket (.onFlow (.ite h.legUp.bump.judgeMisses h.legUp.bump))

theorem State.canonical.beginShed (h : s.canonical) : s.beginShed.canonical := by
  unfold State.beginShed
  split
  · exact h
  · exact .raise (.update (.setFld (.setFldBit (.ite h.bump.onFlow h))))

theorem State.canonical.takeSlack {q held : Nat} (h : s.canonical) : (s.takeSlack q held).canonical :=
  h.update.setLiveFld

theorem State.canonical.startSlack (h : s.canonical) : s.startSlack.canonical :=
  h.update.setLiveFld

theorem State.canonical.videoPacket {p : VideoPacket} {held : Nat} (h : s.canonical) : (videoPacket s p held).canonical :=
  .ite h
    (.ite h.frameIn
       (have h₁ : State.canonical _ := h.frameIn.takeSlack
        have h₂ : State.canonical _ := .ite h₁.beginShed h₁
        .ite h₂.count.raise (.ite (.ite h₂.count h₂) (h₂.foldl (fun h => h.flowPacket)))))

theorem State.canonical.legDown {n k : Nat} (h : s.canonical) : (legDown s n k).canonical :=
  .ite
    (have h₁ : State.canonical _ := h.setFld.raise
     .ite h₁ h₁.setFldBit) h

theorem State.canonical.shedEnd (h : s.canonical) : (shedEnd s).canonical := by
  unfold Machine.shedEnd
  split
  · exact h
  · exact
      have h₁ : State.canonical _ := h.update.setFldBit.setFld
      .ite h₁.lower h₁

theorem State.canonical.latchFlow {k n : Nat} (h : s.canonical) : (State.latchFlow k s n).canonical := by
  unfold State.latchFlow
  split
  · exact .ite h.bump h
  · exact .setFld (.onFlow (.ite h.bump h))

theorem State.canonical.monStart (h : s.canonical) : (monStart s).canonical :=
  .ite h (.ite h.setFld.setFld h.setFld.setFld.setFld.update.setFld.judgeLpi)

theorem State.canonical.monDone (h : s.canonical) : s.monDone.canonical := by
  unfold State.monDone
  split
  · exact h
  · exact h.update.bump.release

theorem State.canonical.monStop (h : s.canonical) : (monStop s).canonical :=
  h.monDone.setFld.setFld

theorem State.canonical.monFrameStart {k : Nat} (h : s.canonical) : (monFrameStart s k).canonical :=
  .ite h
    (have h₁ : State.canonical _ := h.monDone.update
     .ite h₁ (h₁.update.foldl (fun h => h.transmit)))

theorem State.canonical.monFrameCut (h : s.canonical) : (monFrameCut s).canonical := by
  unfold Machine.monFrameCut
  split
  · exact h
  · exact h.onLink.update.bump.raise.release

/-! ### Compose -/

theorem State.canonical.sendView {p : Picture} (h : s.canonical) : (s.sendView p).canonical :=
  h.foldl (fun h => h.foldl (fun h => .iterate (.ite (h.foldl (fun h => h.submit)) h) (fun h => .ite h.update h)))

theorem State.canonical.carrySrc {stroke : Nat} (h : s.canonical) : (s.carrySrc stroke).canonical :=
  h.update

theorem State.canonical.putPicture {f : Flight} {v : ViewPlan} {px : List Px} (h : s.canonical) : (s.putPicture f v px).canonical := by
  suffices h₂ : State.canonical _ from
    .ite h₂ h₂.sendView
  split
  · exact .ite h.update h.update
  · exact
      have h₁ : State.canonical _ := .foldl (.ite h.update h.update) (fun h => h.engineWrite)
      .ite h₁ h₁.setFld

theorem State.canonical.setPlan {stroke : Nat} {v : ViewPlan} (h : s.canonical) : (s.setPlan stroke v).canonical :=
  h.update

theorem State.canonical.finishView {f : Flight} {v : ViewPlan} (h : s.canonical) : (s.finishView f v).canonical :=
  h.setPlan.release

theorem State.canonical.endFlight {stroke : Nat} (h : s.canonical) : (s.endFlight stroke).canonical := by
  unfold State.endFlight
  split
  · exact h
  · exact .ite h.update.setFld h

theorem State.canonical.sendWithheld {f : Flight} (h : s.canonical) : (s.sendWithheld f).canonical := by
  refine h.foldl fun h => ?_
  split
  · exact h
  · exact h.sendView.setPlan

theorem State.canonical.viewComposed {stroke view : Nat} {slack : Int} (h : s.canonical) : (viewComposed s stroke view slack).canonical := by
  unfold Machine.viewComposed
  split
  · exact h
  · split
    · exact h
    · exact .ite h (.endFlight (.finishView (.setLiveFld (.putPicture (.ite h h.sendWithheld)))))

theorem State.canonical.abandonView {f : Flight} {progress : List (Nat × Nat × Nat)} {v : ViewPlan} (h : s.canonical) :
    (State.abandonView f progress s v).canonical :=
  .ite h h.putPicture.setLiveFld.finishView

theorem State.canonical.composeDeadline {stroke : Nat} {progress : List (Nat × Nat × Nat)} (h : s.canonical) :
    (composeDeadline s stroke progress).canonical := by
  unfold Machine.composeDeadline
  split
  · exact h
  · split
    · exact h
    · exact .update (.endFlight (h.setFld.setFld.setFld.setFld.bump.raise.sendWithheld.mar.foldl (fun h => h.abandonView)))

theorem State.canonical.setRt {v i : Nat} {r : LayerRt} (h : s.canonical) : (s.setRt v i r).canonical :=
  h.update

theorem State.canonical.judgeFlip {k v i : Nat} (h : s.canonical) : (State.judgeFlip k v s i).canonical := by
  unfold State.judgeFlip
  dsimp only
  split
  · exact .setFld (.setFld (.ite h.setRt h.setRt))
  · exact .ite (.setFld (.setFld (.setRt (.ite h.bump h)))) (.ite h.setRt.bump.raise.setFld.setFld h.setRt.setFld.setFld)

theorem State.canonical.latchLayer {k v : Nat} {x : State × List LayerPlan} {i : Nat} (h : x.1.canonical) :
    (State.latchLayer k v x i).1.canonical := by
  refine .ite_fst (.pair h.setFld) ?_
  split
  · exact .pair h.setFld
  · exact .ite_fst (.pair h.setFld) (.pair h.setFld.setFld.update)

theorem State.canonical.latchUnderlay {k v : Nat} (h : s.canonical) : (State.latchUnderlay k v s).canonical :=
  h.update

theorem State.canonical.latchView {k : Nat} {x : State × List ViewPlan} {v : Nat} (h : x.1.canonical) : (State.latchView k x v).1.canonical := by
  unfold State.latchView
  extract_lets s₁
  have h₁ : s₁.canonical := (h.iterate fun h => h.judgeFlip).latchUnderlay
  have h₂ : ((List.range 16).foldl (State.latchLayer k v) (s₁, [])).1.canonical := State.canonical.foldl_fst h₁ fun h => h.latchLayer
  clear_value s₁
  split
  next s₂ layers heq =>
    rw [heq] at h₂
    refine .pair ?_
    dsimp only
    split
    · exact h₂
    · exact h₂.update

theorem State.canonical.beginCompose {k : Nat} (h : s.canonical) : (s.beginCompose k).canonical :=
  have h₁ : State.canonical _ := .update (.foldl_fst (.pair (h.iterate (fun h => h.latchFlow))) (fun h => h.latchView))
  have h₂ : State.canonical _ := .ite h₁.setFld.carrySrc h₁.setFld
  .ite h₂.release h₂.update.setFld.advanceRetire

theorem State.canonical.composeErrors {env : ComposeEnv} (h : s.canonical) : (s.composeErrors env).canonical :=
  .foldl (h.foldl (fun h => h.eccCorrected)) (fun h => h.eccPoison)

theorem State.canonical.buildGo {v b : Nat} (h : s.canonical) : (buildGo s v b).canonical :=
  .ite h.setFld.setFld
    (.ite h.setFld.setFld (.ite h.setFld.setFld.setUnderlay (.ite h.setFld.setFld.setUnderlay h.update.setUnderlay.setFld.setFld.setFld)))

theorem State.canonical.buildDone {v : Nat} (h : s.canonical) : (buildDone s v).canonical := by
  unfold Machine.buildDone
  split
  · exact h
  · exact .ite h (.setFld (.setFld (.setFld (.setUnderlay (.release (.update (h.foldl (fun h => h.engineWrite))))))))

theorem State.canonical.resetCompose (h : s.canonical) : s.resetCompose.canonical :=
  .setFld (.setFld (h.abortBuilds.update.iterate (fun h => h.setUnderlay.setUnderlay)))

theorem State.canonical.checkWindow {n pos : Nat} {hdr : HealthCheck} {w : Nat} (h : s.canonical) : (State.checkWindow n pos hdr s w).canonical := by
  refine .ite h ?_
  dsimp only
  split
  · exact h.bump
  · exact .ite h.bump (.ite h.bump h.bump.bump.raise.setFld.setFld.setFld.setFld.setFld)

/-! ### Drive -/

theorem State.canonical.checkMap (h : s.canonical) : s.checkMap.canonical := by
  unfold State.checkMap
  split
  · exact h.setFld.setFld.setFld.setFld.lower
  · exact h.setFld.setFld.setFld.setFld.raise

theorem State.canonical.idleRows (h : s.canonical) : s.idleRows.canonical :=
  h.update

/-! ### Lamp -/

theorem State.canonical.showFlags (h : s.canonical) : s.showFlags.canonical :=
  h.setFld.setFld

theorem State.canonical.countResult {key result : Nat} (h : s.canonical) : (s.countResult key result).canonical := by
  unfold State.countResult
  split
  · exact .ite h.update.showFlags.raise h.update
  · exact .ite h.update.showFlags.raise h.update
  · exact h.update

theorem State.canonical.detect {key : Nat} {open_ high : Bool} (h : s.canonical) : (s.detect key open_ high).canonical :=
  .ite h.update (.ite (.ite h.update.countResult h.update) (.ite (.ite h.update.countResult h.update) h.update.countResult))

theorem State.canonical.detectAll {row : Nat} {sinks : List Nat} {quorum : Bool} {samples : List (Nat × Nat)} (h : s.canonical) :
    (s.detectAll row sinks quorum samples).canonical :=
  h.foldl (fun h => h.detect)

theorem State.canonical.judgeSlot {row : Nat} {pulses : List Pulse} {samples : List (Nat × Nat)} (h : s.canonical) :
    (s.judgeSlot row pulses samples).canonical :=
  .ite h h.update.detectAll

theorem State.canonical.onView {v : Nat} {f : ScanView → ScanView} (h : s.canonical) : (s.onView v f).canonical :=
  h.update

theorem State.canonical.slotFilled {view j r failAt : Nat} {late : Bool} (h : s.canonical) : (s.slotFilled view j r failAt late).canonical :=
  have h₁ : State.canonical _ := .raise (.bump (.ite h h.update.setFld.setFld.setFld.setFld.setFld))
  .ite h₁.update h₁.update

theorem State.canonical.noteSlack {view slot : Nat} {slack : Int} (h : s.canonical) : (s.noteSlack view slot slack).canonical :=
  h.setLiveFld

theorem State.canonical.lineSlot {view slot : Nat} {slack : Int} {fail : Nat} {samples : List (Nat × Nat)} (h : s.canonical) :
    (lineSlot s view slot slack fail samples).canonical :=
  .ite h
    (.ite h.update.idleRows
       (have h₁ : State.canonical _ := h.noteSlack.update
        have h₂ : State.canonical _ := .ite h₁.slotFilled h₁
        .ite h₂ h₂.judgeSlot))

theorem State.canonical.probe {samples : List (Nat × Nat)} (h : s.canonical) : (probe s samples).canonical := by
  unfold Machine.probe
  refine .ite h ?_
  have h₁ : State.canonical { s with lamp.probed := true } := h.update
  generalize ({ s with lamp.probed := true } : State) = s₁ at h₁ ⊢
  extract_lets +onlyGivenNames s₂
  have h₂ : s₂.canonical := h₁
  clear_value s₂
  split
  · exact h₂.bump.raise
  · extract_lets row pulses sinks low s₃ _ s₄ _ s₅ next s₆ s₇
    have h₆ : s₆.canonical := h₂.detectAll.update.update.setFld.setFld
    have h₇ : s₇.canonical := .ite h₆.advance h₆
    exact h₇.bump

theorem State.canonical.clearFlags (h : s.canonical) : (clearFlags s).canonical :=
  h.update.showFlags

theorem State.canonical.judgeRows (h : s.canonical) : s.judgeRows.canonical :=
  .update (h.iterate (fun h => .ite h.update.setFld.bump.raise h.update))

theorem State.canonical.servoCatch {wasDark : Bool} (h : s.canonical) : (s.servoCatch wasDark).canonical :=
  have h₁ : State.canonical _ := .ite h.setFld.bump h.setFld
  .ite h₁.update.setFld.lower
    (.ite h₁.update.setFld.setFld.lower (.ite h₁.update.setFld.setFld.lower (.level (.setFld (.setFld (.ite h₁.update h₁.update))))))

theorem State.canonical.takePanel (h : s.canonical) : s.takePanel.canonical :=
  h.setSfld.update.level

theorem State.canonical.moveTherm (h : s.canonical) : s.moveTherm.canonical :=
  h.iterate (fun h => .ite h.setFld h.setFld)

theorem State.canonical.judgeExposure (h : s.canonical) : s.judgeExposure.canonical := by
  refine .level (h.iterate fun h => ?_)
  split
  · exact h.setFldBit.setFldBit
  · exact h.setFldBit.setFldBit

/-! ### Grain -/

theorem State.canonical.onCopy {c : Nat} {f : GrainCopy → GrainCopy} (h : s.canonical) : (s.onCopy c f).canonical :=
  h.update

theorem State.canonical.showCopies (h : s.canonical) : s.showCopies.canonical :=
  h.setFld.setFld.setFld.setFld

theorem State.canonical.setAcc {n v : Nat} (h : s.canonical) : (s.setAcc n v).canonical :=
  h.update

theorem State.canonical.countClips {ws : List (Nat × Nat × Bool)} (h : s.canonical) : (s.countClips ws).canonical :=
  .ite h h.bump.raise

theorem State.canonical.foldLamp {times : Nat} {rk : Nat × Nat} (h : s.canonical) : (State.foldLamp times s rk).canonical :=
  .ite h h.setAcc

theorem State.canonical.showSaturated (h : s.canonical) : s.showSaturated.canonical :=
  have h₁ : State.canonical _ := h.update.setFld
  .ite h₁.raise h₁

theorem State.canonical.takeCheckpoint (h : s.canonical) : s.takeCheckpoint.canonical :=
  .ite h h.update

theorem State.canonical.clearAccs (h : s.canonical) : s.clearAccs.canonical :=
  .ite h (.showSaturated (.update (h.update.iterate (fun h => h.setAcc))))

theorem State.canonical.checkpointSaved {ok : Bool} (h : s.canonical) : (checkpointSaved s ok).canonical := by
  unfold Machine.checkpointSaved
  split
  · exact h
  · exact h
  · exact .ite
        (have h₁ : State.canonical _ := h.update.nvWrite
         .ite h₁.bump.setFld h₁.bump)
        (have h₂ : State.canonical _ := h.update.raise
         .ite h₂.setFld.setFld h₂)

theorem State.canonical.restoreAccs (h : s.canonical) : s.restoreAccs.canonical := by
  unfold State.restoreAccs
  split
  · exact .showSaturated (.setFld (h.iterate (fun h => h.setAcc)))
  · exact .raise (.setFld (h.iterate (fun h => h.setAcc)))

theorem State.canonical.reloadAccs (h : s.canonical) : s.reloadAccs.canonical :=
  .ite h
    (have h₁ : State.canonical _ := h.update.foldl (fun h => h.setAcc)
     .showSaturated (.ite h₁.setFld.raise h₁))

theorem State.canonical.fold {times : Nat} (h : s.canonical) : (s.fold times).canonical :=
  .reloadAccs (.ite h (.showSaturated (h.foldl (fun h => h.foldLamp))))

theorem State.canonical.expand {t : TableFile} {c : Nat} (h : s.canonical) : (s.expand t c).canonical :=
  h.onCopy.update

theorem State.canonical.mendCopy {c : Nat} (h : s.canonical) : (s.mendCopy c).canonical :=
  .ite h.expand.onCopy h.onCopy.showCopies

theorem State.canonical.mendCopies (h : s.canonical) : s.mendCopies.canonical :=
  h.foldl (fun h => h.mendCopy)

theorem State.canonical.tabResult {result err : Nat} (h : s.canonical) : (s.tabResult result err).canonical :=
  h.setFld.setFld

theorem State.canonical.tabCheck (h : s.canonical) : (tabCheck s).canonical :=
  .ite h.tabResult h.tabResult

theorem State.canonical.writeSelection {c : Nat} (h : s.canonical) : (s.writeSelection c).canonical :=
  h.nvWrite

theorem State.canonical.tabInstall {persist : Bool} {key : Nat} (h : s.canonical) : (tabInstall s persist key).canonical :=
  .ite h.tabResult (.ite h.tabResult (.ite h.tabResult (.ite h.tabResult (.tabResult (.showCopies (.update (.ite h.expand.nvWrite h.expand)))))))

theorem State.canonical.installDone {ok : Bool} (h : s.canonical) : (installDone s ok).canonical := by
  unfold Machine.installDone
  split
  · exact h
  · exact h
  · exact .ite h.update.tabResult (.tabResult (.showCopies (.onCopy (.ite h.update.nvWrite h.update))))

theorem State.canonical.stopBurnish (h : s.canonical) : (stopBurnish s).canonical :=
  h.update.tabResult

theorem State.canonical.saveCheckpoint (h : s.canonical) : (saveCheckpoint s).canonical :=
  h.update.tabResult

theorem State.canonical.clearAccumulators {key : Nat} (h : s.canonical) : (clearAccumulators s key).canonical :=
  .ite h.tabResult h.update.tabResult

theorem State.canonical.tabCommand {op key : Nat} (h : s.canonical) : (tabCommand s op key).canonical := by
  refine .ite h ?_
  split
  · exact h.tabCheck
  · exact h.tabInstall
  · exact h.tabInstall
  · exact h.stopBurnish
  · exact h.saveCheckpoint
  · exact h.clearAccumulators
  · exact h

theorem State.canonical.showChunks (h : s.canonical) : s.showChunks.canonical :=
  h.setFld.setFld

theorem State.canonical.openTransfer {data : Word} (h : s.canonical) : (openTransfer s data).canonical :=
  .ite h h.setFld.setFld.update.showChunks

theorem State.canonical.grainChunk {c : ImageCell} (h : s.canonical) : (grainChunk s c).canonical :=
  .ite h.bump h.dramWrite.update.bump.showChunks

theorem State.canonical.accWrite {init n : Nat} {data : Word} (h : s.canonical) : (accWrite s init n data).canonical :=
  .ite h h.dramWrite.showSaturated

theorem State.canonical.grainWinWrite {init i : Nat} {data : Word} (h : s.canonical) : (grainWinWrite s init i data).canonical := by
  unfold Machine.grainWinWrite
  split
  · exact .ite h.dramWrite h.dramRange
  · exact h.accWrite
  · exact h

theorem State.canonical.grainWinRead {init i : Nat} (h : s.canonical) : (grainWinRead s init i).1.canonical := by
  unfold Machine.grainWinRead
  split
  · exact .ite_fst (.pair h) (.pair h.dramRange)
  · exact .pair h
  · exact .pair h

theorem State.canonical.showCurves (h : s.canonical) : s.showCurves.canonical := by
  unfold State.showCurves
  split
  · exact h.setFld.setFld.setFld.setFld
  · exact h.setFld.setFld.setFld.setFld

theorem State.canonical.loadTherm {c : Nat} (h : s.canonical) : (s.loadTherm c).canonical :=
  .ite h (h.iterate (fun h => h.iterate (fun h => h.setFld.setFld.setFld.setFld)))

theorem State.canonical.enforce {c : Nat} (h : s.canonical) : (s.enforce c).canonical :=
  h.onCopy.setFld.showCopies.loadTherm.showCurves.lower

theorem State.canonical.switchTable {c : Nat} (h : s.canonical) : (s.switchTable c).canonical := by
  suffices h₁ : State.canonical _ from
    .ite h₁.writeSelection h₁
  split
  · exact .ite h.enforce.setFld h.enforce.update.setFld
  · exact h.enforce.setFld

theorem State.canonical.endBurnish {stepped : Bool} (h : s.canonical) : (s.endBurnish stepped).canonical :=
  have h₁ : State.canonical _ := h.update.setFld.setFld
  .ite h₁.bump.raise h₁

theorem State.canonical.moveBurnish (h : s.canonical) : s.moveBurnish.canonical := by
  unfold State.moveBurnish
  split
  · exact h
  · exact .ite h.endBurnish.bump h.update

theorem State.canonical.showBurn (h : s.canonical) : s.showBurn.canonical := by
  unfold State.showBurn
  split
  · exact h
  · exact h.setFld

theorem State.canonical.stepBurnish (h : s.canonical) : s.stepBurnish.canonical :=
  .ite h.endBurnish h

theorem State.canonical.takeSetTarget (h : s.canonical) : s.takeSetTarget.canonical := by
  unfold State.takeSetTarget
  dsimp only
  split
  · exact h.onCopy.onCopy.setFld.lower
  · exact h.onCopy.onCopy.setFld.setFld.level

theorem State.canonical.moveSets (h : s.canonical) : s.moveSets.canonical := by
  unfold State.moveSets
  dsimp only
  split
  · exact h.onCopy.onCopy.setFld
  · exact h.onCopy.onCopy.setFld

theorem State.canonical.bringUpGrain (h : s.canonical) : s.bringUpGrain.canonical := by
  unfold State.bringUpGrain
  extract_lets file ok pick
  clear_value pick
  split
  · exact h.setFld.showCopies.showCurves.raise
  · extract_lets s₁ s₂ s₃
    have h₁ : s₁.canonical := h.expand.onCopy
    have h₃ : s₃.canonical := h₁.setFld.setFld.enforce.setFld
    exact .ite h₃.raise h₃

/-! ### Scan -/

theorem State.canonical.showSlots (h : s.canonical) : s.showSlots.canonical := by
  unfold State.showSlots
  split
  · exact h
  · exact h.setFld.setFld.setFld.setFld.setSfld

theorem State.canonical.packSchedule (h : s.canonical) : s.packSchedule.canonical := by
  unfold State.packSchedule
  split
  · exact h
  · exact .ite h.update.setFld.showSchedule h.update.setFld.raise

theorem State.canonical.takeSchedule {views : List ViewSched} (h : s.canonical) : (s.takeSchedule views).canonical := by
  unfold State.takeSchedule
  split
  · exact h
  · exact .ite h.update.setFld.lower (.ite h.raise h.raise.packSchedule)

theorem State.canonical.writeCell {c : VideoCell} (h : s.canonical) : (s.writeCell c).canonical :=
  h.onView.setFld

theorem State.canonical.consumeVideo {c : VideoCell} (h : s.canonical) : (s.consumeVideo c).canonical :=
  .ite h.bump (.ite h.update.bump h.writeCell)

theorem State.canonical.videoCell {n l : Nat} {c : VideoCell} (h : s.canonical) : (videoCell s n l c).canonical :=
  .ite h.route.consumeVideo h.route

theorem State.canonical.rowConverted {v row : Nat} (h : s.canonical) : (rowConverted s v row).canonical :=
  .ite h (.ite h.mendCopies (.ite h.onView.countClips (.ite h.onView.countClips h)))

theorem State.canonical.refreshDone {v : Nat} (h : s.canonical) : (refreshDone s v).canonical :=
  .ite h (.ite h.mendCopies h.onView.countClips.bump)

theorem State.canonical.holdLimit (h : s.canonical) : (holdLimit s).canonical :=
  .ite h (.ite h.update (.ite h.mendCopies.update (h.update.iterate (fun h => h.onView.countClips))))

theorem State.canonical.flipView {unchanged : Bool} {stroke v : Nat} (h : s.canonical) : (State.flipView unchanged stroke s v).canonical :=
  .ite h.onView.setFldBit.bump.raise
    (.ite h.onView.setFldBit.setFld.setFld.setFld
       (have h₁ : State.canonical _ := .ite h.onView.setFld (.ite h.onView.setFld h.onView)
        .ite h₁.setFldBit.bump.setFld h₁.setFldBit.bump.raise))

theorem State.canonical.flips {unchanged : Bool} {stroke : Nat} (h : s.canonical) : (s.flips unchanged stroke).canonical :=
  have h₁ : State.canonical _ := .update (h.iterate (fun h => h.flipView))
  .setFld (.setFld (.ite h₁.setFld h₁))

theorem State.canonical.countWitness {ended : Nat} (h : s.canonical) : (s.countWitness ended).canonical :=
  .ite h.update.setFld h.update

theorem State.canonical.judgeHold (h : s.canonical) : s.judgeHold.canonical :=
  have h₁ : State.canonical _ := .ite h.update.setFld.setFld.lower h
  .ite h₁.setFld.setFld.bump.raise h₁

theorem State.canonical.openWindows (h : s.canonical) : s.openWindows.canonical :=
  h.update.iterate (fun h => h.setFld)

theorem State.canonical.closeWindows (h : s.canonical) : s.closeWindows.canonical :=
  .update (h.iterate (fun h => h.onView))

theorem State.canonical.compareWindow {v : Nat} {off : Bool} {upset : List (Nat × Nat)} {w : Nat} (h : s.canonical) :
    (State.compareWindow v off upset s w).canonical :=
  .ite h
    (have h₁ : State.canonical _ := .ite h.setLiveFld h.setLiveFld.setLiveFld
     .ite h₁ (.ite h₁.update h₁.update.bump.raise))

theorem State.canonical.viewSlotEnd {v : Nat} {upset : List (Nat × Nat)} (h : s.canonical) : (viewSlotEnd s v upset).canonical :=
  .ite h
    (have h₁ : State.canonical _ := .idleRows (.update (.ite h (h.iterate (fun h => h.compareWindow))))
     .ite h₁ h₁.update)

theorem State.canonical.takeCheck (h : s.canonical) : s.takeCheck.1.canonical :=
  .pair (.update (.setLiveFld (.setLiveFld (.setLiveFld (h.iterate (fun h => .ite h.setLiveFld h))))))

/-! ### Commit -/

theorem State.canonical.refuseCommit {page reason : Nat} (h : s.canonical) : (s.refuseCommit page reason).canonical :=
  h.update.setFld.setFld

theorem State.canonical.commitGo {page : Nat} {atStroke dropLate : Bool} (h : s.canonical) : (commitGo s page atStroke dropLate).canonical := by
  unfold Machine.commitGo
  split
  · exact h
  · exact .ite h
        (have h₁ : State.canonical _ := h.setFld.setFld
         .ite h₁.refuseCommit (.ite h₁.refuseCommit (.ite h₁.refuseCommit h₁.setFld.setFld.setFld.update)))

theorem State.canonical.commitCancel {page : Nat} (h : s.canonical) : (commitCancel s page).canonical :=
  .ite h h.update.setFld

theorem State.canonical.dropCommit {page reason : Nat} (h : s.canonical) : (s.dropCommit page reason).canonical :=
  .ite h.update.refuseCommit h

theorem State.canonical.afterSenderTake {canvas : Nat × Nat} {page : Nat} (h : s.canonical) : (s.afterSenderTake canvas page).canonical :=
  have h₁ : State.canonical _ := .ite h.update h
  have h₂ : State.canonical _ := .ite h₁.abortBuilds h₁
  .ite (h₂.iterate (fun h => h.judgeChain)) h₂

theorem State.canonical.takeCommit {m page : Nat} (h : s.canonical) : (State.takeCommit m s page).canonical :=
  have h₁ : State.canonical _ := h.update.setFld.setFld.setFld
  .ite (.afterSenderTake (h₁.foldl (fun h => h.setReg))) h₁.update

theorem State.canonical.latchOne {m : Nat} {c : Commit} (h : s.canonical) : (State.latchOne m s c).canonical :=
  .ite h.takeCommit h.refuseCommit

theorem State.canonical.latchGroup {m : Nat} {group : List Commit} (h : s.canonical) : (State.latchGroup m s group).canonical :=
  .ite (h.foldl (fun h => h.takeCommit)) (h.foldl (fun h => h.refuseCommit))

theorem State.canonical.moveLate {m : Nat} {c : Commit} (h : s.canonical) : (State.moveLate m s c).canonical :=
  .ite h (.ite h.refuseCommit h.setFld.setFld.update)

theorem State.canonical.judgeRecorded {c : Commit} (h : s.canonical) : (s.judgeRecorded c).canonical := by
  unfold State.judgeRecorded
  split
  · exact h
  · exact .ite h (.ite h h.bump.raise)

theorem State.canonical.latchCommits {m : Nat} (h : s.canonical) : (latchCommits s m).canonical :=
  .ite h.update (.foldl (.foldl (.latchGroup (h.update.foldl (fun h => h.moveLate))) (fun h => h.latchOne)) (fun h => h.judgeRecorded))

theorem State.canonical.takeCaptured (h : s.canonical) : s.takeCaptured.canonical :=
  have h₁ : State.canonical _ := h.update.foldl (fun h => h.setReg)
  have h₂ : State.canonical _ := .ite h₁ h₁.checkMap
  have h₃ : State.canonical _ := .ite h₂.showCurves h₂
  .ite h₃ h₃.switchTable

/-! ### Cal -/

theorem State.canonical.showCal (h : s.canonical) : s.showCal.canonical :=
  h.setFld.setFld

theorem State.canonical.endStart {q : CalSeq} (h : s.canonical) : (s.endStart q).canonical :=
  .ite h.update h

theorem State.canonical.abandonCal {result : Nat} (h : s.canonical) : (s.abandonCal result).canonical :=
  h.update.setFld.bump

theorem State.canonical.calFails {q : CalSeq} {code : Nat} {after : Bool} (h : s.canonical) : (s.calFails q code after).canonical :=
  h.setFld.setFld.setFld.setFld.abandonCal.raise.showCal.endStart

theorem State.canonical.checked {q : CalSeq} {e : CalEnv} {after : Bool} {k : State → State} (h : s.canonical) (hk : ∀ {t : State}, t.canonical → (k t).canonical) :
    (s.checked q e after k).canonical := by
  unfold State.checked
  dsimp only
  split
  · exact h.setSfld.calFails
  · exact hk h.setSfld

theorem State.canonical.startSeq {q : CalSeq} {e : CalEnv} (h : s.canonical) : (s.startSeq q e).canonical :=
  h.setFld.setFld.setFld.checked (fun h => h.update.showCal)

theorem State.canonical.startNext {e : CalEnv} (h : s.canonical) : (s.startNext e).canonical := by
  refine .ite h ?_
  split
  · exact h.update.startSeq
  · split
    · exact h
    · exact h.update.startSeq

theorem State.canonical.requestCal {kind : Nat} {all : Bool} (h : s.canonical) : (s.requestCal kind all).canonical :=
  h.update.showCal

theorem State.canonical.calGo {kind : Nat} {all : Bool} {e : Option CalEnv} (h : s.canonical) : (calGo s kind all e).canonical := by
  refine .ite h ?_
  split
  · split
    · exact h.requestCal.startNext
    · exact h.requestCal
  · exact h.setFld.setFld

theorem State.canonical.calAbort (h : s.canonical) : (calAbort s).canonical := by
  unfold Machine.calAbort
  split
  · exact h
  · exact h.abandonCal.raise.showCal.endStart

theorem State.canonical.runStep {q : CalSeq} {before after : CalEnv} {values : List Int} (h : s.canonical) :
    (s.runStep q before after values).canonical := by
  refine h.checked fun h => h.update.setFld.checked fun h => ?_
  split
  · exact h.setFld.abandonCal.raise.showCal.endStart
  · exact h

theorem State.canonical.skipStep (h : s.canonical) : s.skipStep.canonical :=
  h.update.bump

theorem State.canonical.calStep {before after : CalEnv} {values : List Int} (h : s.canonical) : (calStep s before after values).canonical := by
  refine .ite h ?_
  dsimp only
  split
  · exact h.startNext
  · refine .ite h.startNext (.ite h.startNext.runStep (.ite h.startNext ?_))
    split
    · exact h.startNext.skipStep
    · exact h.startNext.update.runStep

theorem State.canonical.showSets (h : s.canonical) : s.showSets.canonical :=
  .setFld (.setFld (h.iterate (fun h => h.setFld.setFldBit)))

theorem State.canonical.computeTaps (h : s.canonical) : s.computeTaps.canonical :=
  .ite h h.update

theorem State.canonical.computeCal (h : s.canonical) : s.computeCal.canonical :=
  .ite h (.iterate (h.update.computeTaps.iterate (fun h => h.setFld.setSfld)) (fun h => h.commitGo))

theorem State.canonical.storeCal (h : s.canonical) : s.storeCal.canonical :=
  h.update.nvWrite

theorem State.canonical.loadCal (h : s.canonical) : s.loadCal.canonical := by
  refine .of_eq (f := State.loadCal) (by delta State.loadCal; rfl) ?_
  split
  · exact h.showSets
  · exact .showSets h.update

theorem State.canonical.putSets {q : CalSeq} (h : s.canonical) : (s.putSets q).1.canonical := by
  unfold State.putSets
  split
  · exact .pair h.update
  · exact .pair (.ite (h.iterate (fun h => h.update)) h.update)
  · exact .pair h.update
  · exact .pair h.update
  · exact .pair h.update

theorem State.canonical.applied {kind set : Nat} (h : s.canonical) : (s.applied kind set).canonical :=
  h.update.setFld.setSfld.setFld.setFld.bump.showCal

theorem State.canonical.calApply {env : CalEnv} (h : s.canonical) : (calApply s env).canonical := by
  unfold Machine.calApply
  split
  · exact h
  · exact .ite h
        (h.checked
           (fun h =>
              have h₁ : State.canonical _ := h.putSets.update.showSets.computeCal.storeCal
              have h₃ : State.canonical _ := .ite
                  (have h₂ : State.canonical _ := h₁.update.endStart
                   .ite h₂.setFld.lower h₂) h₁
              .ite h₃.update.showCal h₃.applied))

theorem State.canonical.calCatch (h : s.canonical) : s.calCatch.canonical := by
  unfold State.calCatch
  extract_lets next kept _ s₁ s₂ _ s₃
  have h₁ : s₁.canonical := h.update
  have h₂ : s₂.canonical := by
    unfold s₂
    clear_value next s₁
    split
    · exact h₁
    · exact h₁.iterate fun h => h.setSfld.setSfld
  have h₃ : s₃.canonical := h₂.update
  clear_value s₃
  split
  · exact h₃
  · exact .ite h₃ h₃.applied

/-! ### Pair -/

theorem State.canonical.retain (h : s.canonical) : s.retain.canonical :=
  .setFld (h.update.abandonStrokes.foldl (fun h => h.setFld.setFld))

theorem State.canonical.setPairState {n : Nat} (h : s.canonical) : (s.setPairState n).canonical :=
  have h₁ : State.canonical _ := h.setFld.setFld
  .ite h₁.retain h₁

theorem State.canonical.sawEpoch {e : Nat} (h : s.canonical) : (s.sawEpoch e).canonical :=
  h.update

theorem State.canonical.takeEpoch (h : s.canonical) : s.takeEpoch.canonical :=
  h.nvWrite.setFld

theorem State.canonical.sendCoxAll (h : s.canonical) : s.sendCoxAll.canonical :=
  h.foldl (fun h => h.sendCell)

theorem State.canonical.sendPair (h : s.canonical) : s.sendPair.canonical :=
  .ite h (h.sendCross.foldl (fun h => h.sendCell))

theorem State.canonical.timeOutTunnel (h : s.canonical) : s.timeOutTunnel.canonical :=
  h.foldl (fun h => h.endTunnel)

theorem State.canonical.leaveControl (h : s.canonical) : s.leaveControl.canonical :=
  .timeOutTunnel (.ite (h.update.iterate (fun h => .ite h.setFld h)) h.update)

theorem State.canonical.notReady (h : s.canonical) : s.notReady.canonical :=
  h.update.setPairState

theorem State.canonical.claim {id epoch : Nat} (h : s.canonical) : (s.claim id epoch).canonical :=
  .ite h.leaveControl.update.notReady.raise h

theorem State.canonical.assumeControl {cause : Nat} (h : s.canonical) : (s.assumeControl cause).canonical :=
  h.update.setFld.setFld.sendCoxAll

theorem State.canonical.takeControl {cause : Nat} (h : s.canonical) : (s.takeControl cause).canonical :=
  h.takeEpoch.assumeControl

theorem State.canonical.formActive (h : s.canonical) : s.formActive.canonical :=
  h.setPairState.takeControl

theorem State.canonical.form {c : PairCell} (h : s.canonical) : (s.form c).canonical :=
  .ite h.setPairState.raise
    (.ite h.lower.setPairState (.ite h.lower.update.notReady (.ite h.lower.notReady (.ite h.lower.formActive h.lower.setPairState))))

theorem State.canonical.formTimeout (h : s.canonical) : (formTimeout s).canonical :=
  .ite h
    (have h₁ : State.canonical _ := h.formActive.setFld
     .ite h₁ h₁.raise)

theorem State.canonical.moveValid (h : s.canonical) : s.moveValid.canonical :=
  h.update.foldl (fun h => .ite h.setFld h)

theorem State.canonical.judgeStale (h : s.canonical) : s.judgeStale.canonical :=
  h.setFld.setFld.level

theorem State.canonical.loseLocal {a : Nat} (h : s.canonical) : (s.loseLocal a).canonical := by
  refine .ite h ?_
  split
  · exact .ite h.update.notReady.judgeStale h
  · exact .ite h.update.bump h
  · exact h

theorem State.canonical.patrolScrub {addr outcome syndrome : Nat} (h : s.canonical) : (patrolScrub s addr outcome syndrome).canonical :=
  .ite h (.ite h.bump.eccCorrected (.ite h.bump.eccPoison.loseLocal h.bump))

theorem State.canonical.requestCrew {k : Nat} (h : s.canonical) : (s.requestCrew k).canonical := by
  unfold State.requestCrew
  split
  · exact h.update.setFld
  · exact h.setFld

theorem State.canonical.recheckCrew (h : s.canonical) : s.recheckCrew.canonical := by
  unfold State.recheckCrew
  split
  · exact h
  · refine .ite h ?_
    split
    · exact h
    · exact h.update.setFld

theorem State.canonical.crewChange {key : Nat} (h : s.canonical) : (crewChange s key).canonical :=
  .ite h.setFld h.requestCrew

theorem State.canonical.crewPeriod (h : s.canonical) : (crewPeriod s).canonical :=
  .ite h h.requestCrew.level

theorem State.canonical.sendFrom {k : Nat} (h : s.canonical) : (s.sendFrom k).canonical :=
  h.foldl (fun h => h.sendView)

theorem State.canonical.crewHandover (h : s.canonical) : (crewHandover s).canonical := by
  unfold Machine.crewHandover
  split
  · exact h
  · exact h
  · refine .ite ?_ (.ite h.takeControl.setPairState.bump.sendFrom h.update)
    split
    · exact .ite h.update.setFld h.leaveControl.update.setPairState.setFld.bump.setFld.lower
    · exact h.update.setFld

theorem State.canonical.takeYield {source : Nat} (h : s.canonical) : (s.takeYield source).canonical :=
  .ite h (.ite h.raise (.bump (.setPairState (.leaveControl (.foldl (.sendCross (.update (.ite h.setFld h))) (fun h => h.sendCell))))))

theorem State.canonical.yieldCommand {key : Nat} (h : s.canonical) : (yieldCommand s key).canonical :=
  .ite h.setFld (.ite h.setFld (.ite h.setFld.takeYield h.setFld.takeYield))

theorem State.canonical.rejoin {key : Nat} (h : s.canonical) : (rejoin s key).canonical :=
  .ite h.setFld (.ite h.setFld h.update.notReady.setFld.setFld)

theorem State.canonical.beginTakeover {cause source : Nat} (h : s.canonical) : (s.beginTakeover cause source).canonical :=
  .ite h h.setFld.setFld.setPairState

theorem State.canonical.yieldCell {path l : Nat} {c : YieldCell} (h : s.canonical) : (yieldCell s path l c).canonical :=
  .ite h.forward (.ite h (.ite h.sawEpoch.bump (.ite h.sawEpoch.beginTakeover h.sawEpoch)))

theorem State.canonical.splitStart {n : Nat} (h : s.canonical) : (splitStart s n).canonical :=
  .ite h h.setFldBit.update.bump.raise

theorem State.canonical.splitEnd {n : Nat} (h : s.canonical) : (splitEnd s n).canonical :=
  .ite h h.setFldBit.level

theorem State.canonical.judgePort {alive : Bool} {n : Nat} (h : s.canonical) : (State.judgePort alive s n).canonical :=
  .ite h.update h.update

theorem State.canonical.pairBoundary (h : s.canonical) : s.pairBoundary.canonical := by
  unfold State.pairBoundary
  refine .ite h ?_
  extract_lets _ s₁ s₂ ports lost all s₃ _ s₄ s₅ _ s₆ s₇
  have h₂ : s₂.canonical := .ite h.update.setFld h.update
  have h₇ : s₇.canonical := .recheckCrew (.judgeStale (.update (.ite (h₂.setFld.update.foldl fun h => h.judgePort) h₂.setFld)))
  clear_value s₇
  split
  · exact h₇
  · exact .ite (.ite h₇.update h₇.update.setPairState) h₇

theorem State.canonical.chainEnd {n : Nat} {cell : EndCell} (h : s.canonical) : (chainEnd s n cell).canonical := by
  refine .ite h (.ite h ?_)
  split
  · exact .ite h h.setFld.update.setSfld
  · exact .ite h
        (have h₁ : State.canonical _ := h.sawEpoch.claim.update
         .ite h₁.update.notReady
           (.ite
              (have h₂ : State.canonical _ := .ite h₁.update h₁
               .ite h₂.update h₂) h₁))

theorem State.canonical.takeAck {c : PairCell} (h : s.canonical) : (s.takeAck c).canonical := by
  unfold State.takeAck
  dsimp only
  split
  · exact h.update
  · exact .ite (.bump (h.update.foldl (fun h => h.sendCross))) h.update

theorem State.canonical.compareDigests {c : PairCell} (h : s.canonical) : (s.compareDigests c).canonical := by
  refine .ite h (h.iterate fun h => ?_)
  split
  · exact .ite h h.bump.raise
  · exact h

theorem State.canonical.noteActive {path : Nat} {c : PairCell} (h : s.canonical) : (s.noteActive path c).canonical :=
  have h₁ : State.canonical _ := h.update.moveValid.judgeStale
  .ite h₁.notReady h₁

theorem State.canonical.pairRx {path : Nat} {c : PairCell} (h : s.canonical) : (pairRx s path c).canonical := by
  unfold Machine.pairRx
  refine .ite h ?_
  extract_lets s₁ _ s₂ _ s₃ s₄ s₅ apart s₆ s₇ s₈ _ s₉ _ s₁₀ s₁₁ _ s₁₂ s₁₃
  have h₂ : s₂.canonical := .ite h.sawEpoch.update.setFld.lower h.sawEpoch
  have h₅ : s₅.canonical := h₂.update.setFld.setFld.setFld
  have h₆ : s₆.canonical := .ite h₅.form h₅
  have h₇ : s₇.canonical := .ite h₆.claim h₆
  have h₈ : s₈.canonical := h₇.takeAck
  have h₉ : s₉.canonical := by
    unfold s₉
    clear_value s₈
    split
    · exact .ite h₈.update h₈
    · exact h₈
  have h₁₀ : s₁₀.canonical := .ite h₉.update h₉
  have h₁₁ : s₁₁.canonical := .ite h₁₀.setFld (.ite h₇.noteActive.compareDigests h₇)
  have h₁₃ : s₁₃.canonical := .ite h₁₁.update.setFld h₁₁.update
  exact h₁₃.recheckCrew

theorem State.canonical.crosslinkLost (h : s.canonical) : (crosslinkLost s).canonical :=
  .ite h h.setFld.raise.recheckCrew

theorem State.canonical.healthRx {n l : Nat} {hdr : HealthCell} (h : s.canonical) : (healthRx s n l hdr).canonical :=
  .ite h.forward
    (.ite h
       (have h₁ : State.canonical _ := h.update.onPort
        have h₂ : State.canonical _ := .ite h₁.update h₁
        .ite (h₂.iterate (fun h => h.checkWindow)) h₂))

/-! ### Bist -/

theorem State.canonical.showTests (h : s.canonical) : s.showTests.canonical :=
  h.update.setFld.setFld

theorem State.canonical.writeRepairs {mask : Nat} {es : List Repair} (h : s.canonical) : (s.writeRepairs mask es).canonical :=
  h.nvWrite

theorem State.canonical.loadRepairs (h : s.canonical) : s.loadRepairs.canonical :=
  h.update

theorem State.canonical.standbyTested (h : s.canonical) : s.standbyTested.canonical :=
  .ite h.update.setPairState h

theorem State.canonical.loseRegion {v : Nat} (h : s.canonical) : (s.loseRegion v).canonical :=
  h.update.onView.setFld

theorem State.canonical.beginTest {g : Nat} (h : s.canonical) : (s.beginTest g).canonical :=
  have h₁ : State.canonical _ := h.update.foldl (fun h => h.dropCommit)
  have h₂ : State.canonical _ := .ite h₁.abandonStrokes h₁
  have h₃ : State.canonical _ := .showTests (.standbyTested (.ite h₂.loseRegion h₂))
  .ite h₃.setFld.idleRows h₃.setFld

theorem State.canonical.loseCodes (h : s.canonical) : s.loseCodes.canonical :=
  h.update

theorem State.canonical.afterTest {g : Nat} (h : s.canonical) : (s.afterTest g).canonical := by
  unfold State.afterTest
  split
  · exact h.update.setFld
  · exact h.update.setFld
  · exact .ite h.update.bump h
  · exact .ite h h.update
  · exact h.update
  · exact h.loseRegion
  · exact h.loseRegion
  · exact h.loseRegion
  · exact h.loseRegion
  · exact h.loseCodes
  · exact .ite h.update h
  · exact h.computeTaps.update
  · exact h.update
  · exact h.update
  · exact h.update
  · exact h

theorem State.canonical.endTest {g r : Nat} (h : s.canonical) : (s.endTest g r).canonical :=
  have h₁ : State.canonical _ := h.update.afterTest.showTests.setFld
  have h₂ : State.canonical _ := .ite h₁.update h₁
  .ite h₂.setFld h₂

theorem State.canonical.abandonTests (h : s.canonical) : s.abandonTests.canonical :=
  h.foldl (fun h => h.endTest)

theorem State.canonical.warnTests (h : s.canonical) : s.warnTests.canonical :=
  h.abandonTests.update.setFld

theorem State.canonical.rerunTests (h : s.canonical) : s.rerunTests.canonical :=
  h.update.foldl (fun h => h.setFld)

theorem State.canonical.takeoverTests (h : s.canonical) : s.takeoverTests.canonical :=
  h.abandonTests.update

theorem State.canonical.refuseTest {reason : Nat} (h : s.canonical) : (s.refuseTest reason).canonical :=
  h.setFld.setFld

theorem State.canonical.acceptTest {r : Nat} (h : s.canonical) : (s.acceptTest r).canonical :=
  h.setFld.setFld

theorem State.canonical.requestTests {named : Bool} {groups : List Nat} {key : Nat} (h : s.canonical) :
    (s.requestTests named groups key).1.canonical :=
  .ite_fst (.pair h.refuseTest) (.pair (h.update.acceptTest.foldl (fun h => h.setFld)))

theorem State.canonical.abortTests {key : Nat} (h : s.canonical) : (abortTests s key).canonical :=
  .ite h.refuseTest (.acceptTest (.abandonTests (h.update.foldl (fun h => h.setFld))))

theorem State.canonical.clearSoft {key : Nat} (h : s.canonical) : (clearSoft s key).canonical :=
  .ite h.refuseTest (.ite h.refuseTest h.writeRepairs.acceptTest)

theorem State.canonical.burnFuses {key : Nat} (h : s.canonical) : (burnFuses s key).canonical :=
  .ite h.refuseTest (.ite h.refuseTest (.acceptTest (.ite h.update h.update.writeRepairs)))

theorem State.canonical.bistCommand {op key : Nat} (h : s.canonical) : (bistCommand s op key).1.canonical := by
  unfold Machine.bistCommand
  split
  · exact h.requestTests
  · exact h.requestTests
  · exact .pair h.abortTests
  · exact .pair h.clearSoft
  · exact .pair h.burnFuses
  · exact .pair h

theorem State.canonical.groupStart (h : s.canonical) : (groupStart s).canonical := by
  unfold Machine.groupStart
  split
  · exact h
  · exact .ite h (.ite h (.ite (.ite h.update h.update.bump.setFld) h.update.beginTest))

theorem State.canonical.groupFails {g : Nat} (h : s.canonical) : (s.groupFails g).canonical :=
  have h₁ : State.canonical _ := h.update.raise
  .ite h₁ h₁.writeRepairs

theorem State.canonical.groupPasses {g : Nat} (h : s.canonical) : (s.groupPasses g).canonical :=
  have h₁ : State.canonical _ := .ite h.update h.update
  .ite h₁.writeRepairs h₁

theorem State.canonical.applyRepairs {es : List Repair} (h : s.canonical) : (s.applyRepairs es).canonical :=
  .ite h.update.writeRepairs h.update

theorem State.canonical.judgeTest {g : Nat} {faults : List BistFault} {retestOk : Bool} (h : s.canonical) :
    (s.judgeTest g faults retestOk).1.canonical := by
  refine .ite_fst (.pair h.bump.groupPasses) ?_
  split
  · exact .pair h.bump.groupFails
  · exact
      have h₁ : State.canonical _ := h.bump.applyRepairs
      .ite_fst (.pair h₁.groupPasses) (.pair h₁.groupFails)

theorem State.canonical.groupDone {g : Nat} {faults : List BistFault} {retestOk : Bool} (h : s.canonical) :
    (groupDone s g faults retestOk).canonical :=
  .ite h h.judgeTest.endTest

/-! ### Update -/

theorem State.canonical.setUpdState {n : Nat} (h : s.canonical) : (s.setUpdState n).canonical :=
  h.setFld.setFld

theorem State.canonical.showUpd (h : s.canonical) : s.showUpd.canonical :=
  h.setFld.setFld.setFld.setFld.setFld.setFld.setFld

theorem State.canonical.writeUpd {f : UpdRec → UpdRec} (h : s.canonical) : (s.writeUpd f).canonical :=
  h.update.nvWrite.showUpd

theorem State.canonical.restState (h : s.canonical) : s.restState.canonical :=
  h.setUpdState

theorem State.canonical.recordState {n : Nat} (h : s.canonical) : (s.recordState n).canonical :=
  h.writeUpd.setUpdState

theorem State.canonical.updResult {result err : Nat} (h : s.canonical) : (s.updResult result err).canonical :=
  h.setFld.setFld

theorem State.canonical.updRefuse {err : Nat} (h : s.canonical) : (s.updRefuse err).canonical :=
  h.updResult

theorem State.canonical.updFail {err : Nat} (h : s.canonical) : (s.updFail err).canonical :=
  h.updResult.raise

theorem State.canonical.showXfer (h : s.canonical) : s.showXfer.canonical := by
  unfold State.showXfer
  split
  · exact h.setFld.setFld
  · exact h.setFld.setFld

theorem State.canonical.refuseBundle {err : Nat} (h : s.canonical) : (s.refuseBundle err).canonical :=
  h.update.restState.updFail

theorem State.canonical.checkBundle (h : s.canonical) : s.checkBundle.canonical := by
  unfold State.checkBundle
  split
  · exact h
  · refine .ite h (.ite h.refuseBundle (.ite h ?_))
    split
    · exact h.refuseBundle
    · exact .ite h (.ite h.refuseBundle (.ite h.refuseBundle h.update))

theorem State.canonical.emptyStage (h : s.canonical) : s.emptyStage.canonical :=
  h.update

theorem State.canonical.xferOpen {data : Word} (h : s.canonical) : (xferOpen s data).canonical :=
  .ite h.setFld.setFld.setFld.update.showXfer
    (.ite h.setFld.setFld.setFld
       (.ite h.updRefuse
          (have h₁ : State.canonical _ := h.setFld.setFld.setFld.update
           .showXfer (.ite (.setUpdState (.ite h₁.emptyStage.writeUpd h₁.emptyStage)) h₁))))

theorem State.canonical.updChunk {c : ImageCell} (h : s.canonical) : (updChunk s c).canonical := by
  unfold Machine.updChunk
  split
  · exact h.bump
  · exact .ite h.bump h.dramWrite.update.bump.showXfer.checkBundle

theorem State.canonical.updWinWrite {init i : Nat} {data : Word} (h : s.canonical) : (updWinWrite s init i data).canonical :=
  .ite h (.ite h.dramWrite h.dramRange)

theorem State.canonical.updWinRead {init i : Nat} (h : s.canonical) : (updWinRead s init i).1.canonical :=
  .ite_fst (.pair h) (.ite_fst (.pair h) (.pair h.dramRange))

theorem State.canonical.sectorProgrammed {n : Nat} {ok : Bool} (h : s.canonical) : (sectorProgrammed s n ok).canonical := by
  unfold Machine.sectorProgrammed
  extract_lets s₁
  have h₁ : s₁.canonical := h.checkBundle
  clear_value s₁
  split
  · exact .ite h₁ (.ite h₁.emptyStage.restState.updFail h₁.nvWrite.update.setUpdState)
  · exact h₁

theorem State.canonical.updVerify (h : s.canonical) : (updVerify s).canonical :=
  .ite h.updRefuse (.ite h.updRefuse h.writeUpd.setUpdState.updResult)

theorem State.canonical.beginCopy {jop : Nat} (h : s.canonical) : (s.beginCopy jop).canonical := by
  unfold State.beginCopy
  exact h.nvWrite.writeUpd

theorem State.canonical.stageVerified (h : s.canonical) : s.stageVerified.canonical :=
  h.writeUpd.setUpdState.updResult

theorem State.canonical.stageVerifyDone (h : s.canonical) : (stageVerifyDone s).canonical :=
  .ite h (.ite h.emptyStage.writeUpd.restState.updFail (.ite h.stageVerified h.beginCopy.setUpdState))

theorem State.canonical.copySector (h : s.canonical) : s.copySector.canonical := by
  unfold State.copySector
  exact h.nvWrite.nvWrite.writeUpd

theorem State.canonical.endCopy (h : s.canonical) : s.endCopy.canonical :=
  .ite h.beginCopy.updFail (.ite h.writeUpd.stageVerified h.writeUpd.emptyStage.setUpdState.setFld.updResult)

theorem State.canonical.sectorCopy {ok : Bool} (h : s.canonical) : (sectorCopy s ok).canonical :=
  .ite h
    (.ite h.updFail
       (have h₁ : State.canonical _ := .ite h.copySector h
        .ite h₁.endCopy h₁))

theorem State.canonical.updArm {key : Nat} (h : s.canonical) : (updArm s key).canonical :=
  .ite h.updRefuse (.ite h.updRefuse (.ite h.updRefuse h.update.updResult))

theorem State.canonical.updDisarm (h : s.canonical) : (updDisarm s).canonical :=
  .ite h.update.recordState.updResult (.ite h.update.updResult h.updRefuse)

theorem State.canonical.confirm (h : s.canonical) : s.confirm.canonical :=
  h.writeUpd.beginCopy.setUpdState.updResult.update.foldl (fun h => h.requestCal)

theorem State.canonical.updConfirm {key : Nat} (h : s.canonical) : (updConfirm s key).canonical :=
  .ite h.updRefuse (.ite h.updRefuse h.confirm)

theorem State.canonical.updDiscard {key : Nat} (h : s.canonical) : (updDiscard s key).canonical :=
  .ite h.updRefuse (.ite h.updRefuse (.ite h.updResult h.emptyStage.writeUpd.setUpdState.updResult))

theorem State.canonical.storeSettings {prior : Bool} {body : List Byte} {fmt fwver : Option Nat} (h : s.canonical) :
    (s.storeSettings prior body fmt fwver).canonical :=
  h.nvWrite

theorem State.canonical.updStore {key : Nat} (h : s.canonical) : (updStore s key).1.canonical := by
  refine .ite_fst (.pair h.updRefuse) (.ite_fst (.pair h.updRefuse) ?_)
  split
  · exact .pair h.updRefuse
  · refine .ite_fst (.pair h.updRefuse) (.ite_fst (.pair h.updRefuse) ?_)
    split
    · exact .pair h.updRefuse
    · exact .pair h.storeSettings.updResult

theorem State.canonical.priorCopyDone (h : s.canonical) : (priorCopyDone s).canonical := by
  refine .ite h (.updResult (.recordState (.update ?_)))
  split
  · exact h.storeSettings
  · exact h

theorem State.canonical.mcRequest {n pos : Nat} {ops : List AccessOp} (h : s.canonical) : (s.mcRequest n pos ops).canonical :=
  h.tunnelTo

theorem State.canonical.closePorts {d : Machine.Dist} (h : s.canonical) : (State.closePorts d s).canonical :=
  h.iterate (fun h => .ite h.setFld h)

theorem State.canonical.driveDist {d : Machine.Dist} (h : s.canonical) : (s.driveDist d).canonical := by
  unfold State.driveDist
  split
  · exact h.closePorts.update.mcRequest
  · exact .mcRequest (.update (.ite (h.closePorts.foldl (fun h => h.foldl (fun h => h.sendCell))) h.closePorts))
  · exact h.closePorts.update.updResult

theorem State.canonical.tileOver {d : Machine.Dist} {t : DistTile} {ok : Bool} (h : s.canonical) : (s.tileOver d t ok).canonical :=
  h.setFld.driveDist

theorem State.canonical.updDistribute {key : Nat} (h : s.canonical) : (updDistribute s key).canonical := by
  unfold Machine.updDistribute
  refine .ite h.updRefuse (.ite h.updRefuse (.ite h.updRefuse ?_))
  extract_lets data
  clear_value data
  split
  · exact h.updRefuse
  · exact .driveDist (.updResult (h.foldl (fun h => h.setReg.setFld)))

theorem State.canonical.distReply {rs : List OpResult} (h : s.canonical) : (distReply s rs).canonical := by
  unfold Machine.distReply
  split
  · exact h
  · split
    · exact .ite h.driveDist h.setFld.driveDist
    · refine .ite h.tileOver ?_
      split
      · exact .ite (.ite h.driveDist h.tileOver) (.ite h.tileOver (.driveDist (.setFld (h.foldl (fun h => .ite h.sendCell h)))))
      · exact h.driveDist
      · exact .ite h.tileOver (.ite (.ite h.driveDist h.tileOver) h.driveDist)
    · exact h

theorem State.canonical.imageCell {n l : Nat} {c : ImageCell} (h : s.canonical) : (imageCell s n l c).canonical :=
  .ite h.route (.ite h.route.grainChunk (.ite h.route.updChunk h.route.bump))

/-! ### Life -/

theorem State.canonical.showLife (h : s.canonical) : s.showLife.canonical :=
  h.setFld.setFld.setFld.setFld.setFld.setFld.setFld.setFld

theorem State.canonical.runTransition (h : s.canonical) : s.runTransition.canonical := by
  unfold State.runTransition
  split
  · exact h
  · exact .ite h State.canonical.fullReset

theorem State.canonical.lcsTransition {init target key : Nat} (h : s.canonical) : (lcsTransition s init target key).canonical := by
  unfold Machine.lcsTransition
  split
  · exact h.update.drawChallenge.showLife.setFld.runTransition
  · exact .raise (.drawChallenge (.setFld (.setFld (.ite h.update h))))

theorem State.canonical.eraseItem {item : Nat} (h : s.canonical) : (s.eraseItem item).canonical := by
  unfold State.eraseItem
  split
  · exact h.update
  · exact h.update
  · exact h.update

theorem State.canonical.settleLife (h : s.canonical) : s.settleLife.canonical := by
  suffices h₂ : State.canonical _ from
    .showLife (.ite (.update (h₂.foldl (fun h => .ite h.eraseItem.update h))) h₂)
  split
  · exact
      have h₁ : State.canonical _ := .ite h.update h
      .ite h₁.update h₁.update
  · exact h

theorem State.canonical.keyEnrol {key : Nat} (h : s.canonical) : (keyEnrol s key).canonical := by
  unfold Machine.keyEnrol
  split
  · exact h.update.showLife.setFld
  · exact h.setFld.raise

/-! ### Restart -/

theorem State.canonical.profData {data : Word} (h : s.canonical) : (profData s data).canonical :=
  h.nvWrite.setFld

theorem State.canonical.profCommit {n : Nat} (h : s.canonical) : (profCommit s n).canonical := by
  unfold Machine.profCommit
  dsimp only
  split
  · exact h.setFld
  · exact h.nvWrite.setFld

theorem State.canonical.profInvalidate {n : Nat} (h : s.canonical) : (profInvalidate s n).canonical :=
  h.nvWrite.nvWrite.setFld

theorem State.canonical.profSwitch {n : Nat} (h : s.canonical) : (profSwitch s n).canonical := by
  unfold Machine.profSwitch
  split
  · exact .ite h.setFld (.ite h.setFld (.ite h.setFld h.update.setFld))
  · exact h.setFld

theorem State.canonical.profCommand {op n key : Nat} (h : s.canonical) : (profCommand s op n key).canonical := by
  refine .ite h ?_
  split
  · exact h.profSwitch
  · exact h.profCommit
  · exact h.profInvalidate
  · exact h

theorem State.canonical.dropSwitch (h : s.canonical) : s.dropSwitch.canonical :=
  .ite h h.update.setFld

theorem State.canonical.warmRegs {keep : Nat → Bool} (h : s.canonical) : (s.warmRegs keep).canonical :=
  .foldl h.filter (fun h => h.setFld)

theorem State.canonical.warmPair {hold : Bool} (h : s.canonical) : (s.warmPair hold).canonical :=
  .ite h (.ite h.notReady h.leaveControl.update.setPairState)

theorem State.canonical.doWarm {cause : Cause} {hold : Bool} (h : s.canonical) : (s.doWarm cause hold).canonical :=
  have h₁ : State.canonical _ := .update
      (.raise
         (.advance
            (.setFld (.setFld (.foldl (.warmRegs (.warmPair (.stepBurnish (.ite h.abandonTests.abandonCal h.abandonTests)))) (fun h => h.setFld))))))
  .ite h₁.selfRefresh h₁.selfRefresh.idleRows

theorem State.canonical.warmRestart {w : WarmCause} (h : s.canonical) : (s.warmRestart w).canonical :=
  .ite h (.ite h.update (.ite State.canonical.fullReset h.update.doWarm))

theorem State.canonical.resetControl {kind : Nat} {profSrc : Bool} {prof key : Nat} (h : s.canonical) :
    (resetControl s kind profSrc prof key).canonical := by
  refine .ite h ?_
  split
  · exact h.warmRestart
  · exact State.canonical.fullReset
  · exact h

theorem State.canonical.updReject {key : Nat} (h : s.canonical) : (updReject s key).canonical :=
  .ite h.updRefuse (.ite h.updRefuse h.writeUpd.warmRestart)

theorem State.canonical.regatta (h : s.canonical) : (regatta s).canonical :=
  .ite h (.ite (.ite h h.update.bump) h.bump.writeUpd.update.warmRestart)

theorem State.canonical.unpowered (h : s.canonical) : s.unpowered.canonical :=
  h.update

theorem State.canonical.chuckHold {fail : Nat} (h : s.canonical) : (s.chuckHold fail).canonical :=
  h.unpowered.filter.setFld.setFld.setFld.setFld.setFld.setFld.idleRows

theorem State.canonical.imageOrder (h : s.canonical) : s.imageOrder.1.canonical := by
  unfold State.imageOrder
  exact .ite_fst (.pair h) (.ite_fst (.ite_fst (.pair h.writeUpd) (.pair h.writeUpd.raise)) (.ite_fst (.pair h) (.pair h)))

theorem State.canonical.loadImage (h : s.canonical) : s.loadImage.canonical := by
  unfold State.loadImage
  have h₁ := h.imageOrder
  split
  next s₁ l heq =>
    rw [heq] at h₁
    split
    · exact .chuckHold h₁
    · exact .setFld (.setFld (.setFld (.setFld (.setFld (.update (.ite h₁ (.raise h₁)))))))

theorem State.canonical.readStore {flash : Bool} (h : s.canonical) : (s.readStore flash).canonical := by
  suffices h₁ : State.canonical _ from
    .ite h₁.showUpd.copySector h₁.showUpd
  refine .update ?_
  split
  · exact .logEvent (.update (.ite h.settleLife.loadRepairs.endShutdown h.settleLife.loadRepairs))
  · exact .ite h.settleLife.loadRepairs.endShutdown h.settleLife.loadRepairs

theorem State.canonical.chuckBoot {flash refclk : Bool} (h : s.canonical) : (chuckBoot s flash refclk).canonical :=
  .ite h
    (.ite h.update.settleLife.chuckHold
       (.ite h.update.showLife.setFld
          (have h₁ : State.canonical _ := h.update.readStore
           .ite h₁.chuckHold h₁.loadImage)))

theorem State.canonical.recoveryStart {key : Nat} (h : s.canonical) : (recoveryStart s key).canonical :=
  .ite h (.ite h.setFld.setFld h.update.setFld.setFld.setFld)

theorem State.canonical.recovData {data : Word} (h : s.canonical) : (recovData s data).canonical := by
  unfold Machine.recovData
  split
  · exact h
  · exact .ite h
        (have h₁ : State.canonical _ := h.update.setFld
         .ite (.ite h₁ h₁.setFld.setFld) h₁)

theorem State.canonical.recoveryGo {key : Nat} (h : s.canonical) : (recoveryGo s key).canonical := by
  refine .ite h ?_
  split
  · exact h.setFld.setFld
  · exact .ite h.setFld.setFld (.ite h.setFld.setFld h.update.setFld.setFld.setFld.setFld.setFld)

/-! ### Fault -/

theorem State.canonical.afterBlockReset {b : Nat} (h : s.canonical) : (s.afterBlockReset b).canonical := by
  unfold State.afterBlockReset
  split
  · exact h.update
  · exact h.update
  · exact h.resetCompose
  · exact h.iterate (fun h => .ite h.restartHop h)
  · exact h.update.iterate (fun h => .ite h.restartHop h)
  · exact h.update
  · exact h.stepBurnish.showCurves
  · exact h.checkMap
  · exact h.checkMap.showFlags
  · exact h.afterThrcfg
  · exact h

theorem State.canonical.unitDefaults {pages : Nat → Bool} (h : s.canonical) : (s.unitDefaults pages).canonical :=
  have h₁ : State.canonical _ := .ite (.iterate (h.foldl (fun h => .ite h.setFld.setFld h)) (fun h => h.bringUpPort))
      (h.foldl (fun h => .ite h.setFld.setFld h))
  .foldl (.ite h₁.setFld.setFld h₁) (fun h => .ite (.setFld (.ite h.setFld h)) h)

theorem State.canonical.resetRegisters {pages : List Nat} (h : s.canonical) : (s.resetRegisters pages).canonical :=
  .unitDefaults (.resetPages (h.dropSwitch.update.foldl (fun h => h.dropCommit)))

theorem State.canonical.resetBlock {b : Nat} (h : s.canonical) : (s.resetBlock b).canonical :=
  have h₁ : State.canonical _ := .ite h.takeRate h
  have h₂ : State.canonical _ := .afterBlockReset (.resetRegisters (.ite (.update (h₁.iterate (fun h => .ite h.flowStop h))) h₁))
  .ite h₂.setFld.setFld h₂

theorem State.canonical.blockReset {page : Nat} (h : s.canonical) : (blockReset s page).canonical := by
  unfold Machine.blockReset
  split
  · exact h
  · exact .ite h.resetRegisters h.resetBlock.openWindow

theorem State.canonical.resetLoop {b : Nat} (h : s.canonical) : (s.resetLoop b).canonical :=
  .raise (h.foldl (fun h => .ite h.setReact h))

theorem State.canonical.reactReset {page b : Nat} (h : s.canonical) : (s.reactReset page b).canonical :=
  .ite h.resetRegisters.bump (.ite h (.ite h.resetLoop h.update.resetBlock.openWindow.bump))

theorem State.canonical.reactTo {idx : Nat} (h : s.canonical) : (s.reactTo idx).canonical := by
  unfold State.reactTo
  split
  · exact h.reactReset
  · exact .ite h.update h
  · exact h.takeYield
  · exact h

theorem State.canonical.acknowledge {idx : Nat} (h : s.canonical) : (s.acknowledge idx).canonical :=
  .ite h.update h.lower

theorem State.canonical.recognise {idx : Nat} {proof : Bool} (h : s.canonical) : (s.recognise idx proof).canonical :=
  .ite h.setSecondary.bump.logFault.acknowledge h.setSticky.logFault.acknowledge.reactTo

theorem State.canonical.proofPasses {idx : Nat} {real : Bool} (h : s.canonical) : (s.proofPasses idx real).canonical :=
  have h₁ : State.canonical _ := h.update.setFld.setFld.setFld.setFld.bump
  .ite h₁ h₁.logFault

theorem State.canonical.faultRecognised {idx : Nat} (h : s.canonical) : (faultRecognised s idx).canonical :=
  .ite h
    (.ite h
       (have h₁ : State.canonical _ := h.raise.recognise
        have h₂ : State.canonical _ := .ite h₁.proofPasses h₁
        .ite h₂ h₂.lower))

theorem State.canonical.brokenWire {idx : Nat} (h : s.canonical) : (brokenWire s idx).canonical :=
  .ite h h.lower.update.setFld.raise.setSticky.logFault.reactTo

theorem State.canonical.fltRelease {key : Nat} (h : s.canonical) : (fltRelease s key).canonical :=
  .ite h.setFld (.ite h.setFld (.setFld (.ite h.update h)))

theorem State.canonical.injectAt {idx : Nat} (h : s.canonical) : (s.injectAt idx).canonical :=
  h.setFld.setFld.setFld.update

theorem State.canonical.fltProof (h : s.canonical) : (fltProof s).canonical :=
  .ite h.setFld h.injectAt

theorem State.canonical.fltSweep (h : s.canonical) : (fltSweep s).canonical := by
  unfold Machine.fltSweep
  split
  · exact h
  · exact h.injectAt.update

theorem State.canonical.fltAbort (h : s.canonical) : (fltAbort s).canonical :=
  h.update

theorem State.canonical.proofMiss (h : s.canonical) : (proofMiss s).canonical := by
  unfold Machine.proofMiss
  split
  · exact h
  · exact h.update.setFld.raise

theorem State.canonical.fltLogClear (h : s.canonical) : (fltLogClear s).canonical := by
  have hregs : sparseWf regReset (sparseDrop (fun a => decide (0x11100 ≤ a) && decide (a < 0x11200)) s.regs) :=
    sparseWf_drop _ _ _ h.1
  unfold Machine.fltLogClear
  extract_lets s₁
  have h₁ : s₁.canonical := ⟨hregs, h.2⟩
  exact h₁.setFld.setFld

theorem State.canonical.samplePairs (h : s.canonical) : s.samplePairs.canonical :=
  h.update

theorem State.canonical.sampleProof (h : s.canonical) : s.sampleProof.1.canonical := by
  unfold State.sampleProof
  split
  · exact .pair h
  · exact .ite_fst (.pair h) (.pair h.update)

theorem State.canonical.moveSweep (h : s.canonical) : s.moveSweep.canonical := by
  unfold State.moveSweep
  split
  · exact h
  · exact .ite h.update h
  · exact .ite h.injectAt.update h.update

theorem State.canonical.tick (h : s.canonical) : s.tick.canonical := by
  refine .ite h.update.cellBoundary (.foldl ?_ (fun h => h.brokenWire))
  split
  · exact .proofPasses (h.update.cellBoundary.samplePairs.moveSweep.sampleProof.foldl (fun h => h.recognise))
  · exact h.update.cellBoundary.samplePairs.moveSweep.sampleProof.foldl (fun h => h.recognise)

/-! ### Access -/

theorem State.canonical.passFence {init : Nat} (h : s.canonical) : (s.passFence init).canonical :=
  h.update

theorem State.canonical.vendorHeader {page off : Nat} (h : s.canonical) : (s.vendorHeader page off).1.canonical :=
  .ite_fst (.pair h) (.pair h.draw)

theorem State.canonical.readWord {init addr : Nat} (h : s.canonical) : (s.readWord init addr).1.canonical := by
  unfold State.readWord
  extract_lets page off
  split
  · exact .ite_fst h.vendorHeader (.pair h.draw)
  · exact .ite_fst (.pair h) (.ite_fst (.pair h) (.ite_fst (.pair h) (.ite_fst h.winRead (.ite_fst h.grainWinRead (.ite_fst h.updWinRead
      (.ite_fst (.pair h.draw) (.ite_fst (.pair h.draw) (.ite_fst (.pair h.draw) (.ite_fst (.pair h.draw) (.ite_fst (.pair h.draw)
        (.ite_fst (.pair h.draw) (.pair h))))))))))))

theorem State.canonical.store {addr : Nat} {data : Word} (h : s.canonical) : (s.store addr data).canonical := by
  unfold State.store
  split
  · exact h
  · refine .ite ?_ ?_
    · split
      · exact .ite h.setReg h
      · exact h
    · split
      · exact h.setReg
      · exact h

theorem State.canonical.snapWrite {page : Nat} {req auto : Bool} (h : s.canonical) : (snapWrite s page req auto).canonical := by
  unfold Machine.snapWrite
  split
  · exact h
  · exact .ite h (.ite h.setFld.update.setFld h.setFld)

theorem State.canonical.commitWrite {page : Nat} {data : Word} (h : s.canonical) : (commitWrite s page data).canonical := by
  unfold Machine.commitWrite
  split
  · exact h
  · exact .ite h
        (have h₁ : State.canonical _ := .ite h.commitCancel h
         .ite h₁.commitGo h₁)

theorem State.canonical.headerWrite {page off : Nat} {data : Word} (h : s.canonical) : (headerWrite s page off data).canonical := by
  unfold Machine.headerWrite
  split
  · exact .ite h.store.blockReset h.store
  · exact h.commitWrite
  · exact .ite h h.setReg
  · exact h.clearSticky
  · exact h.setReg
  · exact h.snapWrite
  · exact h

theorem State.canonical.writeDev {init off : Nat} {data : Word} (h : s.canonical) : (writeDev s init off data).canonical := by
  unfold Machine.writeDev
  split
  · exact h.passFence
  · exact .ite h.store.setFld h.store
  · exact h.resetControl
  · exact h.profCommand
  · exact h.profData
  · exact
      have h₁ : State.canonical _ := .ite h.recoveryStart h
      .ite h₁.recoveryGo h₁
  · exact h.recovData
  · exact h.store

theorem State.canonical.writeTim {off : Nat} {data : Word} (h : s.canonical) : (writeTim s off data).canonical :=
  .ite h.writeRate
    (.ite (.ite h.stepGo h) (.ite (.judgePtpJoin (h.store.afterPtpcfg.iterate (fun h => h.judgeLpi))) (.ite (.ite h.popTxq h) h.store)))

theorem State.canonical.writeCue {off : Nat} {data : Word} (h : s.canonical) : (writeCue s off data).1.canonical := by
  unfold Machine.writeCue
  exact .ite_fst (.ite_fst h.pushCue (.pair h)) (.ite_fst (.pair (.ite h.cancelCues h)) (.pair h.store))

theorem State.canonical.ringWrite {on : Bool} {a : Nat} {data : Word} (h : s.canonical) : (ringWrite s on a data).canonical :=
  .ite h h.store

theorem State.canonical.writeNp {q off : Nat} {data : Word} (h : s.canonical) : (writeNp s q off data).canonical :=
  .ite h.store.judgeLpi h.store

theorem State.canonical.writeMp {off : Nat} {data : Word} (h : s.canonical) : (writeMp s off data).canonical :=
  .ite h.ringWrite (.ite h.ringWrite (.ite h.txDoor (.ite h.store (.ite h.mpPut.mpPauseCheck h.writeNp))))

theorem State.canonical.writeIng {off : Nat} {data : Word} (h : s.canonical) : (writeIng s off data).canonical :=
  .ite h.store.setFld h.store

theorem State.canonical.writeFlw {n off : Nat} {data : Word} (h : s.canonical) : (writeFlw s n off data).canonical :=
  .ite (.ite h.store.setFld.flowStart h.flowStop.store) (.ite h h.store)

theorem State.canonical.writeMon {off : Nat} {data : Word} (h : s.canonical) : (writeMon s off data).canonical :=
  .ite (.ite (.ite h h.store.setFld.monStart) h.store.monStop) (.ite h h.store)

theorem State.canonical.writeCmp {init off : Nat} {data : Word} (h : s.canonical) : (writeCmp s init off data).canonical :=
  .ite h.winWrite (.ite h.store h.store)

theorem State.canonical.writeUnd {v off : Nat} {data : Word} (h : s.canonical) : (writeUnd s v off data).canonical :=
  .ite
    (have h₁ : State.canonical _ := .ite h.abortBuild h
     .ite h₁.buildGo h₁) h.store

theorem State.canonical.writeKls {off : Nat} {data : Word} (h : s.canonical) : (writeKls s off data).canonical :=
  .ite (h.iterate (fun h => .ite h.startEnum h)) h.store

theorem State.canonical.enablePort {n : Nat} {on : Bool} (h : s.canonical) : (enablePort s n on).canonical :=
  .ite h (.ite h.setFld.restartHop h.setFld.onPort.lower.setFld.hopDown)

theorem State.canonical.writeChp {n off : Nat} {data : Word} (h : s.canonical) : (writeChp s n off data).canonical :=
  .ite
    (have h₁ : State.canonical _ := .ite h h.enablePort
     .ite h₁.retrainHop h₁) h.store

theorem State.canonical.writeSnk {off : Nat} {data : Word} (h : s.canonical) : (writeSnk s off data).canonical :=
  .ite h.store.clearFlags h.store

theorem State.canonical.writeGrn {init off : Nat} {data : Word} (h : s.canonical) : (writeGrn s init off data).canonical :=
  .ite h.tabCommand (.ite h.openTransfer (.ite h.store (.ite h.grainWinWrite h.store)))

theorem State.canonical.writeCal {off : Nat} {data : Word} {env : Option CalEnv} (h : s.canonical) : (writeCal s off data env).1.canonical := by
  unfold Machine.writeCal
  exact .ite_fst
      (have h₁ : State.canonical _ := .ite h.calAbort h
       .ite_fst (.pair h₁) (.ite_fst (.pair h₁.calGo) (.pair h₁.calGo))) (.pair h.store)

theorem State.canonical.writeDrc {off : Nat} {data : Word} (h : s.canonical) : (writeDrc s off data).canonical :=
  .ite (.ite h.store.setFld h.store) (.ite (.ite h.opRequest h) (.ite (.ite h.dramLogClear h) h.store))

theorem State.canonical.writeDc {n off : Nat} {data : Word} (h : s.canonical) : (writeDc s n off data).canonical :=
  .ite h.store.setRefresh h.store

theorem State.canonical.writePair {off : Nat} {data : Word} (h : s.canonical) : (writePair s off data).canonical := by
  refine .ite ?_ h.store
  split
  · exact h.crewChange
  · exact h.yieldCommand
  · exact h.rejoin
  · exact h

theorem State.canonical.writeFlt {off : Nat} {data : Word} (h : s.canonical) : (writeFlt s off data).canonical := by
  unfold Machine.writeFlt
  split
  · exact .ite h.setReact h
  · exact
      have h₁ : State.canonical _ := .ite h.fltAbort h
      have h₂ : State.canonical _ := .ite h₁.fltRelease h₁
      .ite h₂ (.ite h₂.fltSweep h₂.fltProof)
  · exact h.update
  · exact .ite h.fltLogClear h
  · exact h.store

theorem State.canonical.writeThs {off : Nat} {data : Word} (h : s.canonical) : (writeThs s off data).canonical :=
  .ite h.store.afterThrcfg h.store

theorem State.canonical.writeBst {off : Nat} {data : Word} (h : s.canonical) : (writeBst s off data).1.canonical := by
  unfold Machine.writeBst
  exact .ite_fst h.bistCommand (.pair h.store)

theorem State.canonical.writeLcs {init off : Nat} {data : Word} (h : s.canonical) : (writeLcs s init off data).canonical :=
  .ite (.ite h.lcsTransition h) (.ite h.update (.ite h.update h))

theorem State.canonical.writeKey {off : Nat} {data : Word} (h : s.canonical) : (writeKey s off data).canonical :=
  .ite (.ite h.keyEnrol h) (.ite h.update h)

theorem State.canonical.writeUpdate {init off : Nat} {data : Word} (h : s.canonical) : (writeUpdate s init off data).canonical := by
  refine .ite ?_ (.ite h.xferOpen (.ite h.store (.ite h.updWinWrite h.store)))
  split
  · exact h.updVerify
  · exact h.updArm
  · exact h.updDisarm
  · exact h.updConfirm
  · exact h.updReject
  · exact h.updDistribute
  · exact h.updDiscard
  · exact h.updStore
  · exact h.updStore
  · exact h

theorem State.canonical.writeFuse {n off : Nat} {data : Word} (h : s.canonical) : (writeFuse s n off data).canonical :=
  .ite h.update h

theorem State.canonical.vendorWrite {page off : Nat} {data : Word} (h : s.canonical) : (vendorWrite s page off data).canonical := by
  unfold Machine.vendorWrite
  split
  · exact h.setReg
  · exact h.setReg
  · exact h.setReg
  · exact h

theorem State.canonical.writeBase {init addr : Nat} {data : Word} {env : Option CalEnv} (h : s.canonical) :
    (s.writeBase init addr data env).1.canonical := by
  unfold State.writeBase
  dsimp only
  split
  · exact .pair h.vendorWrite
  · refine .ite_fst (.pair h) (.ite_fst (.pair h.headerWrite) (.ite_fst (.pair h.store) ?_))
    split
    · exact .pair h.writeDev
    · exact .pair h.writeTim
    · exact h.writeCue
    · exact .pair h.writeMp
    · exact .pair h.writeIng
    · exact .pair h.writeFlw
    · exact .pair h.writeMon
    · exact .pair h.writeCmp
    · exact .pair h.writeUnd
    · exact .pair h.writeKls
    · exact .pair h.writeChp
    · exact .pair h.writeSnk
    · exact .pair h.writeGrn
    · exact h.writeCal
    · exact .pair h.writeDrc
    · exact .pair h.writeDc
    · exact .pair h.writePair
    · exact .pair h.writeFlt
    · exact .pair h.writeThs
    · exact h.writeBst
    · exact .pair h.writeLcs
    · exact .pair h.writeKey
    · exact .pair h.writeUpdate
    · exact .pair h.writeFuse
    · exact .pair h.writeNp
    · exact .pair h.store
    · exact .pair h.store
    · exact .pair h.store
    · exact .pair h.store
    · exact .pair h.store
    · exact .pair h.store
    · exact .pair h.store

/-! ### Start -/

theorem State.canonical.writeInit {a : Nat} {w : Word} (h : s.canonical) : (s.writeInit a w).canonical := by
  refine .ite h ?_
  split
  · exact h.writeBase
  · split
    · exact h.writeBase
    · exact .ite h.writeBase.setReg.setReg h.writeBase

theorem State.canonical.writeRecords {skip : Nat → Bool} {l : List (Nat × List Word)} (h : s.canonical) : (s.writeRecords skip l).canonical :=
  h.foldl (fun h => .ite h (h.foldl (fun h => h.writeInit)))

theorem State.canonical.startTests {atStart : Bool} {tests : List GroupTest} (h : s.canonical) : (s.startTests atStart tests).canonical :=
  h.foldl (fun h => h.judgeTest.setFld)

theorem State.canonical.blocksReady {ltb : Bool} (h : s.canonical) : (s.blocksReady ltb).canonical :=
  h.update

theorem State.canonical.startSequences {auto : Nat} (h : s.canonical) : (s.startSequences auto).canonical :=
  h.update

theorem State.canonical.forceCal (h : s.canonical) : s.forceCal.canonical :=
  .ite (.update (h.computeCal.iterate (fun h => h.commitCancel.iterate (fun h => h.setFld.setFld)))) h

theorem State.canonical.startPorts {hold : Bool} (h : s.canonical) : (s.startPorts hold).canonical :=
  .ite h (.ite h.restartHop.restartHop (.ite h.restartHop h))

theorem State.canonical.startGrain {cold : Bool} (h : s.canonical) : (s.startGrain cold).canonical :=
  .ite h
    (.ite h.bringUpGrain.restoreAccs
       (have h₁ : State.canonical _ := h.showCopies.showCurves.showSaturated
        .setFld (.ite h₁ h₁.setFld.setFld)))

theorem State.canonical.startPair {hold : Bool} (h : s.canonical) : (s.startPair hold).canonical :=
  .ite h (.ite h.setPairState (.ite h h.takeEpoch.update.sendCoxAll))

theorem State.canonical.startUpdate (h : s.canonical) : s.startUpdate.canonical :=
  .ite h.showUpd.setUpdState (.ite h.showUpd.setUpdState (.ite h.showUpd.recordState (.ite h.showUpd.setUpdState h.showUpd.setUpdState)))

theorem State.canonical.startSettings {skip : Nat → Bool} (h : s.canonical) : (s.startSettings skip).canonical := by
  unfold State.startSettings
  dsimp only
  split
  · refine .ite h.setFld.writeRecords.setFld.setFld ?_
    split
    · exact h.setFld.storeSettings.writeRecords.setFld.setFld
    · exact .ite h.setFld.storeSettings.writeRecords.setFld.setFld h.setFld.storeSettings.setFld.raise.setFld.setFld
  · exact .ite h.setFld.storeSettings.writeRecords.setFld.setFld h.setFld.storeSettings.setFld.raise.setFld.setFld
  · exact h.setFld.storeSettings.setFld.raise.setFld.setFld

theorem State.canonical.afterRecords (h : s.canonical) : s.afterRecords.canonical :=
  have h₁ : State.canonical _ := .ite h.checkMap.showSlots h
  .ite (h₁.iterate (fun h => h.judgeChain)) h₁

theorem State.canonical.startBlocks {cold hold : Bool} {kept : Nat → Bool} {env : StartEnv} (h : s.canonical) :
    (s.startBlocks cold hold kept env).canonical := by
  unfold State.startBlocks
  split
  · exact h
  · exact
      have h₁ : State.canonical _ := .ite h.unitDefaults.writeRecords h.unitDefaults
      have h₂ : State.canonical _ := .writeRecords (.ite h₁.startTests h₁)
      have h₃ : State.canonical _ := .ite_fst h₂.setFld.bringUpDram (.pair (h₂.setFld.selfRefresh.foldl (fun h => h.setRefresh)))
      .ite h₃.chuckHold
        (have h₄ : State.canonical _ := h₃.blocksReady.setFld.update.iterate (fun h => h.judgeLink)
         have h₅ : State.canonical _ := .writeRecords (.ite h₄.loadSeedsFrom h₄)
         have h₆ : State.canonical _ := .ite h₅.setFld.setFld.showFlags h₅.setFld
         have h₇ : State.canonical _ := .ite h₆.afterRecords.packSchedule h₆.afterRecords
         have h₈ : State.canonical _ := .ite h₇.loadCal h₇.showSets
         have h₉ : State.canonical _ := .ite h₈ h₈.forceCal
         have h₁₀ : State.canonical _ := .ite h₉.startSequences h₉
         have h₁₁ : State.canonical _ := .startPair (.startPorts (.startGrain (.ite h₁₀.setFld.raise h₁₀)))
         .afterRecords (.startSettings (.startUpdate (.ite h₁₁.setFld h₁₁))))

theorem State.canonical.startFirmware {env : StartEnv} (h : s.canonical) : (s.startFirmware env).canonical := by
  refine .ite h ?_
  split
  · exact h.chuckHold
  · exact
      have h₁ : State.canonical _ := h.update.setFld.setFld.setFld.setFld.setFld
      .startBlocks (.ite h₁.raise h₁)

theorem State.canonical.enterService {ms : Nat} (h : s.canonical) : (enterService s ms).canonical :=
  .ite h
    (have h₁ : State.canonical _ := h.setFld.setFld
     .ite h₁.update h₁.update.nvWrite)

theorem State.canonical.restartTiming (h : s.canonical) : s.restartTiming.canonical :=
  .ite h.update.abandonStrokes.update h.stepBurnish.update.idleRows.packSchedule

theorem State.canonical.rejoinFlows (h : s.canonical) : s.rejoinFlows.canonical :=
  .iterate (.ite h.monStop h) (fun h => .ite h.flowStop.flowStart h)

theorem State.canonical.dropLinks {q p : Profile} (h : s.canonical) : (s.dropLinks q p).canonical :=
  h.iterate (fun h => .ite h (.judgeLpi (.bringUpPort (.judgeLink (.setFld (h.iterate (fun h => h.linkChange)))))))

theorem State.canonical.applyTrims (h : s.canonical) : s.applyTrims.canonical :=
  h.computeCal.iterate (fun h => h.iterate (fun h => h.setFld.setFld))

theorem State.canonical.switchTo {q p : Profile} {n : Nat} (h : s.canonical) : (s.switchTo q p n).canonical :=
  have h₁ : State.canonical _ := h.update.setFld
  have h₂ : State.canonical _ := .ite h₁.restartTiming h₁
  have h₃ : State.canonical _ := .ite (.rejoinFlows (.dropLinks (h₂.foldl (fun h => .ite (.ite h.setFld.restartHop h.setFld) h))))
      (h₂.foldl (fun h => .ite (.ite h.setFld.restartHop h.setFld) h))
  have h₄ : State.canonical _ := .ite h₃.update h₃
  have h₅ : State.canonical _ := .ite h₄.setFld.applyTrims h₄
  have h₆ : State.canonical _ := .ite h₅.setFld.setFld h₅
  have h₇ : State.canonical _ := .ite h₆.setFld h₆
  .afterRecords (.ite h₇ h₇.writeRecords)

theorem State.canonical.profileSwitch (h : s.canonical) : (profileSwitch s).canonical := by
  unfold Machine.profileSwitch
  split
  · refine .ite h ?_
    dsimp only
    split
    · exact h.update.setFld
    · exact .ite h.update.setFld (.ite h.update.switchTo.setFld h.update.setFld)
  · exact h

theorem State.canonical.enterWake (h : s.canonical) : s.enterWake.canonical :=
  have h₁ : State.canonical _ := .update (.unpowered (.setFld (.foldl h.selfRefresh.filter (fun h => h.setFld))))
  .idleRows (.setFld (.setFld (.ite h₁.setPairState h₁)))

theorem State.canonical.leaveWake (h : s.canonical) : s.leaveWake.canonical :=
  h.setFld.setFld.startBlocks.setFld

theorem State.canonical.wakeUp {hits : Nat} (h : s.canonical) : (s.wakeUp hits).canonical :=
  h.setReg.leaveWake

theorem State.canonical.wakeEntry (h : s.canonical) : s.wakeEntry.canonical :=
  .ite h (.ite h.enterWake h.enterWake.update.wakeUp)

theorem State.canonical.lpmode {init mode key : Nat} (h : s.canonical) : (lpmode s init mode key).canonical := by
  refine .ite (.ite h.leaveWake h) ?_
  split
  · exact h.update.setFld.setFld.judgeLpi
  · exact h.update.setFld.setFld
  · exact .ite h.setFld
        (.ite h.setFld
           (.ite h.setFld
              (have h₁ : State.canonical _ := h.setFld.setFld.judgeLpi
               .ite h₁ h₁.wakeEntry)))
  · exact h

theorem State.canonical.wakeFrame {frame : List Byte} {fcsOk : Bool} (h : s.canonical) : (wakeFrame s frame fcsOk).canonical :=
  .ite h (.ite h.frameIn (.ite h.frameIn.update h.count.count.wakeUp))

/-! ### Port -/

theorem State.canonical.applyRecords {l : List (Nat × List Word)} (h : s.canonical) : (s.applyRecords l).canonical :=
  h.foldl (fun h => h.foldl (fun h => .ite h h.writeBase))

theorem State.canonical.updApply {key : Nat} (h : s.canonical) : (updApply s key).canonical := by
  unfold Machine.updApply
  dsimp only
  split
  · exact h.updStore.applyRecords
  · exact h.updStore

theorem State.canonical.restoreDram (h : s.canonical) : s.restoreDram.canonical :=
  h.selfRefresh.loadSeedsFrom

theorem State.canonical.srcmd {mode key : Nat} (h : s.canonical) : (srcmd s mode key).canonical :=
  .ite h (.ite h.setFld (.ite (.ite h.setFld (.ite h.retain.setFld h.setFld)) (.setFld (.ite h.restoreDram h))))

theorem State.canonical.afterCold {before : State} (h : s.canonical) : (before.afterCold s).canonical :=
  .ite h (.ite (.ite h h.retain) (.ite h.restoreDram h))

theorem State.canonical.writeUnit {init addr : Nat} {data : Word} {env : Option CalEnv} (h : s.canonical) :
    (s.writeUnit init addr data env).1.canonical :=
  .ite_fst (.pair h.srcmd) (.ite_fst (.pair (.afterCold h.writeBase)) (.ite_fst (.pair h.lpmode) (.ite_fst (.pair h.updApply) h.writeBase)))

theorem State.canonical.winPut {target addr : Nat} {data : Word} (h : s.canonical) : (s.winPut target addr data).canonical :=
  h.setFld.setFld.setFld.winWrite.setReg.setReg

theorem State.canonical.recordedWrite {b : JournalRec} (h : s.canonical) : (s.recordedWrite b).canonical :=
  .ite h (.ite h.writeInit.afterSenderTake h.writeUnit)

theorem State.canonical.applyCommit {page target : Nat} {dropLate : Bool} (h : s.canonical) : (s.applyCommit page target dropLate).canonical :=
  have h₁ : State.canonical _ := .ite h h.setFld
  .ite h₁.commitGo.update h₁.commitGo.bump.raise

theorem State.canonical.cueSent {seq mask : Nat} (h : s.canonical) : (s.cueSent seq mask).canonical := by
  unfold State.cueSent
  split
  · exact h.update
  · exact h.update.iterate (fun h => .ite h.sendCell h)

theorem State.canonical.applyJournal {r : JRec} (h : s.canonical) : (s.applyJournal r).canonical := by
  unfold State.applyJournal
  dsimp only
  split
  · exact h.recordedWrite
  · exact h.applyCommit
  · exact h.update
  · exact h.cancelCues
  · exact h.cueSent
  · exact h.winPut
  · exact .ite h.dramWrite h
  · exact h

theorem State.canonical.takeRecord {r : JRec} (h : s.canonical) : (s.takeRecord r).canonical :=
  have h₁ : State.canonical _ := .ite h h.update.setFld
  .ite h₁ (.ite (.ite h₁.update h₁.update.setFld) h₁.update.setFld.applyJournal)

theorem State.canonical.journalCell {first stroke : Nat} {records : List JournalRec} (h : s.canonical) :
    (journalCell s first stroke records).canonical := by
  refine .ite h (.judgeStale (.moveValid (h.iterate fun h => ?_)))
  split
  · exact h.takeRecord
  · exact h

theorem State.canonical.journalFlush (h : s.canonical) : (journalFlush s).canonical :=
  .ite h.update h

theorem State.canonical.applyCollected (h : s.canonical) : s.applyCollected.canonical :=
  h.update.foldl (fun h => h.applyJournal)

theorem State.canonical.leaveRetention (h : s.canonical) : s.leaveRetention.canonical :=
  h.restoreDram.applyCollected.moveValid.judgeStale

theorem State.canonical.collectedAfter {before : State} (h : s.canonical) : (before.collectedAfter s).canonical :=
  .ite h.applyCollected.moveValid.judgeStale h

theorem State.canonical.writeAll {init addr : Nat} {data : Word} {env : Option CalEnv} (h : s.canonical) :
    (s.writeAll init addr data env).1.canonical :=
  .pair (.collectedAfter h.writeUnit)

theorem State.canonical.journalCommit {before : State} {init addr : Nat} {data : Word} (h : s.canonical) :
    (s.journalCommit before init addr data).canonical :=
  .ite h.journal h

theorem State.canonical.write {init addr : Nat} {data : Word} {env : Option CalEnv} (h : s.canonical) : (s.write init addr data env).1.canonical := by
  unfold State.write
  split
  · refine .ite_fst h.writeAll (.ite_fst h.writeAll ?_)
    split
    · exact h.journal.writeAll
    · exact .pair h.writeAll.journalCommit
  · exact .pair h

theorem State.canonical.writeAs {init addr : Nat} {data : Word} {env : Option CalEnv} (h : s.canonical) : (s.writeAs init addr data env).canonical :=
  .ite h h.write.answer

theorem State.canonical.readAt {init addr : Nat} (h : s.canonical) : (s.readAt init addr).1.canonical := by
  unfold State.readAt
  split
  · exact .pair (.readWord (.ite h.passFence h))
  · exact .pair h

theorem State.canonical.fenceRead {init : Nat} (h : s.canonical) : (fenceRead s init).canonical := by
  refine .ite h ?_
  split
  · exact .ite h h.update
  · exact h.answer

theorem State.canonical.fenceDone {init : Nat} (h : s.canonical) : (fenceDone s init).canonical :=
  .ite h h.update.readAt.answer

theorem State.canonical.spiWords {keep : Bool} {page : Nat} {ws : List Word} {addr room n : Nat} (h : s.canonical) :
    (spiWords keep page ws s addr room n).1.canonical := by
  induction ws generalizing s addr room n with
  | nil => exact h
  | cons w ws ih => exact .ite_fst h (.ite_fst h (.ite_fst h.write (ih h.write)))

theorem State.canonical.spiWrite {addr : Nat} {words : List Word} {room : Nat} (h : s.canonical) : (spiWrite s addr words room).canonical :=
  .ite h h.spiWords.answer

theorem State.canonical.spiCapture {page n addr : Nat} (h : s.canonical) : (spiCapture page n s addr).1.canonical := by
  induction n generalizing s addr with
  | zero => exact h
  | succ n ih => exact ih (.ite_fst h h.readAt)

theorem State.canonical.spiRead {addr len clocked : Nat} (h : s.canonical) : (spiRead s addr len clocked).canonical :=
  .ite h (.ite h.answer h.spiCapture.answer)

theorem State.canonical.operate {init : Nat} {o : AccessOp} (h : s.canonical) : (s.operate init o).1.canonical := by
  unfold State.operate
  split
  · exact .pair h.readAt
  · exact .pair h.write
  · exact .pair h.passFence
  · exact .pair h

theorem State.canonical.operateAll {init : Nat} {os : List AccessOp} (h : s.canonical) : (State.operateAll init os s).1.canonical := by
  induction os generalizing s with
  | nil => exact h
  | cons o os ih => exact ih h.operate

theorem State.canonical.dapTakes {hdr : DapHeader} {type n : Nat} {f : State → State} (h : s.canonical) (hf : ∀ {t : State}, t.canonical → (f t).canonical) :
    (s.dapTakes hdr type n f).canonical :=
  .ite h (h.takeFrame (fun h => .ite h.count (.ite h.sendDap (hf h))))

theorem State.canonical.dapOpen {hdr : DapHeader} (h : s.canonical) : (dapOpen s hdr).canonical := by
  refine h.dapTakes fun h => ?_
  split
  · exact h.sendDap
  · exact h.update.sendDap

theorem State.canonical.endSession {i : Nat} (h : s.canonical) : (s.endSession i).canonical :=
  h.update

theorem State.canonical.remember {i seq : Nat} {r : Option DapReply} (h : s.canonical) : (s.remember i seq r).canonical :=
  h.update

theorem State.canonical.dapBusy {hdr : DapHeader} (h : s.canonical) : (s.dapBusy hdr).canonical :=
  h.advance.sendDap

theorem State.canonical.dapTunnel {hdr : DapHeader} {ops : List AccessOp} (h : s.canonical) : (dapTunnel s hdr ops).canonical :=
  .ite h.sendDap (.ite h.sendDap (.ite h.sendDap (.ite h.dapBusy h.remember.update.tunnelTo)))

theorem State.canonical.dapLocal {hdr : DapHeader} {queued : Nat} {ops : List AccessOp} (h : s.canonical) : (dapLocal s hdr queued ops).canonical :=
  .ite h.update.dapBusy
    (have h₁ : State.canonical _ := h.update.operateAll
     .ite h₁.remember.sendDap h₁.remember)

theorem State.canonical.dapRepeat {x : DapSession} {hdr : DapHeader} (h : s.canonical) : (dapRepeat s x hdr).canonical := by
  unfold Machine.dapRepeat
  split
  · exact h.sendDap
  · exact h.update

theorem State.canonical.dapRequest {hdr : DapHeader} {ops : List AccessOp} {queued : Nat} (h : s.canonical) :
    (dapRequest s hdr ops queued).canonical := by
  refine h.dapTakes fun h => ?_
  split
  · exact h.sendDap
  · exact .ite h.sendDap (.ite h.dapRepeat (.ite h.sendDap (.ite h.dapLocal h.dapTunnel)))

theorem State.canonical.passTunnel {c : TunreqCell} (h : s.canonical) : (s.passTunnel c).canonical :=
  .ite h.sendCell h

theorem State.canonical.tunreqCell {n l : Nat} {c : TunreqCell} (h : s.canonical) : (tunreqCell s n l c).canonical :=
  .ite h
    (.ite h.passTunnel
       (.ite h.bump.sendCell
          (.ite
             (have h₁ : State.canonical _ := h.route.operateAll
              .ite h₁.sendCell h₁) h.route)))

theorem State.canonical.afterTunnel {r : State × Option (List OpResult)} (h : r.1.canonical) : (State.afterTunnel r).canonical := by
  unfold State.afterTunnel
  split
  · exact h.distReply
  · exact h

/-! ### Catch -/

theorem State.canonical.capture {e : Nat × Word} (h : s.canonical) : (s.capture e).canonical :=
  .setReg (.ite_snd h.draw h)

theorem State.canonical.snapshot {ended page : Nat} (h : s.canonical) : (State.snapshot ended s page).canonical :=
  .setFld (.setFld (h.foldl (fun h => h.capture)))

theorem State.canonical.snapshots {ended : Nat} (h : s.canonical) : (s.snapshots ended).canonical :=
  h.update.foldl (fun h => h.snapshot)

theorem State.canonical.cueWord {e : CueEntry} {w : Nat × Word} (h : s.canonical) : (State.cueWord e s w).1.canonical := by
  refine .ite_fst ?_ h.write
  split
  · exact h.readWord.write
  · exact .pair h

theorem State.canonical.cuePage {e : CueEntry} {i : Nat} (h : s.canonical) : (State.cuePage e s i).1.canonical := by
  unfold State.cuePage
  refine .ite_fst h.write (.ite_fst (.pair h) ?_)
  split
  next s₁ heq =>
    exact State.canonical.write (heq ▸ h.write : State.canonical (s₁, 0).1)
  · exact h.write

theorem State.canonical.cueItems {α : Type} {c : Cue} {f : State → α → State × Nat} {l : List α} (h : s.canonical) (hf : ∀ {t : State} {a : α}, t.canonical → (f t a).1.canonical) :
    (s.cueItems c f l).1.canonical :=
  .foldl_fst (.pair h) (fun h => .ite_fst (.pair (hf h)) h)

theorem State.canonical.cuePart {c : Cue} {prep rest : Bool} (h : s.canonical) : (s.cuePart c prep rest).1.canonical :=
  have h₁ : State.canonical _ := .ite h.passFence h
  .ite_fst (.ite_fst (h₁.cueItems (fun h => h.cuePage)) (.pair h₁)) (h₁.cueItems (fun h => h.cueWord))

theorem State.canonical.endCue {c : Cue} {status : Nat} (h : s.canonical) : (s.endCue c status).canonical :=
  .ite h
    (have h₁ : State.canonical _ := h.update.bump
     .ite h₁ h₁.cueError)

theorem State.canonical.prepareCue {c : Cue} (h : s.canonical) : (s.prepareCue c).canonical :=
  .ite h.cuePart.update h.cuePart.endCue

theorem State.canonical.cuePreparing (h : s.canonical) : (cuePreparing s).canonical :=
  .ite h (h.foldl (fun h => .ite h.prepareCue h))

theorem State.canonical.finishCue {c : Cue} (h : s.canonical) : (s.finishCue c).canonical :=
  .ite h.update.bump.raise h.cuePart.endCue

theorem State.canonical.cueBoundary (h : s.canonical) : (cueBoundary s).canonical :=
  .ite h (h.foldl (fun h => .ite h.finishCue h))

theorem State.canonical.rejudgeCues (h : s.canonical) : s.rejudgeCues.canonical :=
  .update (.foldl_fst (.pair h) (fun h => .ite_fst (.pair h.lateCue) (.ite_fst (.pair h) (.pair h))))

theorem State.canonical.tileLatch (h : s.canonical) : (tileLatch s).canonical :=
  .ite h
    (have h₁ : State.canonical _ := h.closeWindows.update
     .latchCommits (.ite h₁ h₁.takePanel.takeSetTarget))

theorem State.canonical.dropHealth {n : Nat} (h : s.canonical) : (s.dropHealth n).canonical :=
  .ite h.onPort h.onPort.bump.raise

theorem State.canonical.sendHealth {check : HealthCheck} (h : s.canonical) : (s.sendHealth check).canonical :=
  h.freshAllowances.update.foldl (fun h => h.dropHealth.sendCell)

theorem State.canonical.placeCatch {take : Bool} (h : s.canonical) : (s.placeCatch take).1.canonical := by
  unfold State.placeCatch
  split
  · exact .pair h.followCatch
  · exact .pair (.followCatch (.update (.ite h.takeSchedule h)))

theorem State.canonical.showFeather {before : Int} (h : s.canonical) : (s.showFeather before).canonical :=
  .ite h.setFld h

theorem State.canonical.frozenCatch (h : s.canonical) : s.frozenCatch.canonical := by
  unfold State.frozenCatch
  exact
    have h₁ : State.canonical _ := h.takeCheck.fold.countWitness.placeCatch.bump
    .sendHealth (.pulseOut (.openWindows (.ite h₁.update h₁.update.rejudgeCues)))

theorem State.canonical.endStroke (h : s.canonical) : s.endStroke.1.canonical :=
  have h₁ : State.canonical _ := h.takeCheck.fold.update.judgeRows
  .pair (.update (.bump (.judgeHold (.snapshots (.ite h₁.countWitness h₁)))))

theorem State.canonical.takeValues (h : s.canonical) : s.takeValues.canonical :=
  h.moveBurnish.takeCaptured.applyThrottle.moveTherm.moveSets.showBurn.calCatch

theorem State.canonical.driveCatch {wasDark : Bool} (h : s.canonical) : (s.driveCatch wasDark).canonical :=
  h.update.servoCatch.update

theorem State.canonical.beginStroke (h : s.canonical) : s.beginStroke.canonical :=
  .countWindows (.takeCheckpoint (.clearAccs (.judgeExposure (.openWindows (.ite h.holdLimit h)))))

theorem State.canonical.executedCatch (h : s.canonical) : s.executedCatch.canonical := by
  unfold State.executedCatch
  exact
    have h₁ : State.canonical _ := h.endStroke.placeCatch.showFeather.takeValues.update.flips.driveCatch.beginStroke
    .sendHealth (.pulseOut (.ite h₁ h₁.rejudgeCues))

theorem State.canonical.tileCatch (h : s.canonical) : (tileCatch s).canonical :=
  .ite h (.ite (.ite h.update h) (.ite h (.ite h.frozenCatch h.executedCatch)))

theorem State.canonical.senderCatchAll (h : s.canonical) : (senderCatchAll s).canonical :=
  .ite h
    (have h₁ : State.canonical _ := h.senderCatch.update.freshAllowances
     have h₂ : State.canonical _ := .ite h₁ h₁.pairBoundary
     .ite h₂ h₂.update.rejudgeCues)

theorem State.canonical.checkSchedule (h : s.canonical) : s.checkSchedule.canonical := by
  unfold State.checkSchedule
  split
  · exact h
  · exact .showSchedule (.ite h.update.raise h.update)

theorem State.canonical.senderBoundary {k : Nat} (h : s.canonical) : (s.senderBoundary k).canonical :=
  h.snapshots.setLiveFld.startSlack.countWindows.calCatch

theorem State.canonical.leadPoint {k : Nat} {env : ComposeEnv} (h : s.canonical) : (leadPoint s k env).canonical :=
  .ite h
    (.ite h.senderBoundary.wakeEntry
       (.ite h.senderBoundary.latchCommits.update
          (have h₁ : State.canonical _ := h.senderBoundary.update.latchCommits.checkSchedule
           .ite h₁.update h₁.composeErrors.beginCompose.update)))

theorem State.canonical.launchOn {m : StrokeCell} {c : CoxCell} {n : Nat} (h : s.canonical) : (State.launchOn m c s n).canonical :=
  h.sendCell.sendCell

theorem State.canonical.markerLaunch (h : s.canonical) : (markerLaunch s).canonical := by
  refine .ite h ?_
  suffices h₁ : State.canonical _ from
    .ite h₁ h₁.sendPair
  refine .ite (h.foldl (fun h => h.launchOn)) ?_
  split
  · exact h.foldl (fun h => h.launchOn)
  · exact h

/-! ### Commands -/

theorem State.canonical.writeNth {count i init addr : Nat} {data : Word} (h : s.canonical) : (s.writeNth count i init addr data).canonical :=
  .ite h.writeAs h

theorem State.canonical.windowAccess {init offset : Nat} {write : Bool} {data : Word} (h : s.canonical) :
    (windowAccess s init offset write data).canonical :=
  .ite h.writeAs (.ite h h.readAt.answer)

theorem State.canonical.sendImage (h : s.canonical) : s.sendImage.canonical :=
  .ite (.sendCross (h.update.foldl (fun h => h.journal))) h

theorem State.canonical.finishTakeover (h : s.canonical) : s.finishTakeover.canonical :=
  .raise
    (.judgeStale (.setFld (.lower (.setFld (.bump (.setPairState (.foldl (.update (h.foldl (fun h => h.sendView))) (fun h => h.distributeOne))))))))

theorem State.canonical.takeover (h : s.canonical) : (takeover s).canonical :=
  .ite h
    (have h₁ : State.canonical _ := h.takeoverTests.takeEpoch.applyCollected
     have h₂ : State.canonical _ := .ite h₁.setFld.raise h₁.setFld
     .ite h₂.assumeControl h₂.assumeControl.finishTakeover)

theorem State.canonical.coldReady (h : s.canonical) : (coldReady s).canonical :=
  .ite h (.finishTakeover (.rejoinFlows (.ite h.leaveRetention h)))

theorem State.canonical.beginFreeze (h : s.canonical) : s.beginFreeze.canonical :=
  have h₁ : State.canonical _ := .warnTests (.ite h.abandonStrokes h)
  .ite h₁.setFld h₁

theorem State.canonical.endFreeze (h : s.canonical) : s.endFreeze.canonical := by
  refine .ite h.rerunTests.runTransition ?_
  split
  · exact h.rerunTests.update.warmRestart
  · exact h.rerunTests

/-! ### The commands -/

/-- A command completes in a canonical state. -/
def LeavesCanonical (r : Result) : Prop := ∃ t, r = .next t ∧ t.canonical

/-- A command's effect keeps the form where its function does. -/
theorem State.canonical.run {f : State → State} (h : s.canonical) (hf : ∀ {t : State}, t.canonical → (f t).canonical) :
    LeavesCanonical (run s f) :=
  ⟨_, rfl, (hf h.update).update⟩

theorem State.canonical.exec {c : Instr} (h : s.canonical) : LeavesCanonical (exec c s) := by
  cases c with
  | ptpTxTimestamp queue => exact (h.run fun h => h.takeTxStamp : LeavesCanonical (execPtpTxTimestamp queue s))
  | ptpHoldover => exact (h.run fun h => h.ptpHoldover : LeavesCanonical (execPtpHoldover s))
  | framerefOutPulseEnd => exact (h.run fun h => h.update : LeavesCanonical (execFramerefOutPulseEnd s))
  | framerefInEdge source rising instant => exact (h.run fun h => h.framerefEdge : LeavesCanonical (execFramerefInEdge source rising instant s))
  | reflost => exact (h.run fun h => h.refLost : LeavesCanonical (execReflost s))
  | shutEdge input rising instant => exact (h.run fun h => h.shutEdge : LeavesCanonical (execShutEdge input rising instant s))
  | shutlost input => exact (h.run fun h => h.shutLost : LeavesCanonical (execShutlost input s))
  | markerMissing => exact (h.run fun h => h.markerMissing : LeavesCanonical (execMarkerMissing s))
  | mpPauseRepeat => exact (h.run fun h => h.mpPauseRepeat : LeavesCanonical (execMpPauseRepeat s))
  | lldpTx port sublink partner => exact (h.run fun h => h.lldpTx : LeavesCanonical (execLldpTx port sublink partner s))
  | mpRxFrame kind frame fcsOk tagged => exact (h.run fun h => h.mpRxFrame : LeavesCanonical (execMpRxFrame kind frame fcsOk tagged s))
  | mpTxComplete => exact (h.run fun h => h.txComplete : LeavesCanonical (execMpTxComplete s))
  | pauseFrameRx port sublink opcode quanta => exact (h.run fun h => h.pauseFrame : LeavesCanonical (execPauseFrameRx port sublink opcode quanta s))
  | pauseExpire port sublink => exact (h.run fun h => h.resumeLink : LeavesCanonical (execPauseExpire port sublink s))
  | lpiEnter port sublink => exact (h.run fun h => h.lpiEnter : LeavesCanonical (execLpiEnter port sublink s))
  | ptpMessageRx port octets dest msg => exact (h.run fun h => h.ptpMessage : LeavesCanonical (execPtpMessageRx port octets dest msg s))
  | arpIcmpRx port sublink target srcMac srcIp octets dest => exact
      (h.run fun h => h.arpIcmp : LeavesCanonical (execArpIcmpRx port sublink target srcMac srcIp octets dest s))
  | sublinkLinkChange port sublink up => exact (h.run fun h => h.linkChange : LeavesCanonical (execSublinkLinkChange port sublink up s))
  | videoCellDrop port => exact (h.run fun h => h.videoCellDrop : LeavesCanonical (execVideoCellDrop port s))
  | trainCellRx port lane cell damage localReady askPre askPost => exact
      (h.run fun h => h.arrive (fun h => h.trainCell) : LeavesCanonical (execTrainCellRx port lane cell damage localReady askPre askPost s))
  | trainTimeout port => exact (h.run fun h => .ite h.hopFailed h : LeavesCanonical (execTrainTimeout port s))
  | capCellRx port lane cell damage => exact (h.run fun h => h.arrive (fun h => h.capCell) : LeavesCanonical (execCapCellRx port lane cell damage s))
  | rateVerifyDone port clean => exact (h.run fun h => h.rateVerified : LeavesCanonical (execRateVerifyDone port clean s))
  | rateChange port =>
    refine (h.run fun h => ?_ : LeavesCanonical (execRateChange port s))
    split
    · exact h
    · exact h.onPort.startHop
  | hopRetry port => exact (h.run fun h => .ite h.restartHop h : LeavesCanonical (execHopRetry port s))
  | laneDown port lane => exact (h.run fun h => h.laneDown : LeavesCanonical (execLaneDown port lane s))
  | laneRetrainTimer port lane => exact
      (h.run fun h => .ite h.setFld.setFld.setFld.onPort.sendLink h : LeavesCanonical (execLaneRetrainTimer port lane s))
  | laneAligned port lane => exact (h.run fun h => h.laneAligned : LeavesCanonical (execLaneAligned port lane s))
  | eidleEnter port lane => exact (h.run fun h => .ite h.onPort.setFldBit.bump h : LeavesCanonical (execEidleEnter port lane s))
  | wakeBurstRx port lane => exact (h.run fun h => .ite h.wakeLane h : LeavesCanonical (execWakeBurstRx port lane s))
  | markerWakeLead => exact
      (h.run fun h => .ite (h.foldl (fun h => h.iterate (fun h => .ite h.wakeLane h))) h : LeavesCanonical (execMarkerWakeLead s))
  | dlyExchange port lane departure => exact (h.run fun h => .ite h h.onPort.sendLink : LeavesCanonical (execDlyExchange port lane departure s))
  | dlyreqRx port lane arrival departure damage => exact
      (h.run fun h => h.arrive (fun h => h.dlyreq) : LeavesCanonical (execDlyreqRx port lane arrival departure damage s))
  | dlyrspRx port lane turn arrival damage => exact
      (h.run fun h => h.arrive (fun h => h.dlyrsp) : LeavesCanonical (execDlyrspRx port lane turn arrival damage s))
  | enumStart port => exact (h.run fun h => h.startEnum : LeavesCanonical (execEnumStart port s))
  | enumCellRx port lane index nexp damage => exact
      (h.run fun h => h.arrive (fun h => h.enumCell) : LeavesCanonical (execEnumCellRx port lane index nexp damage s))
  | enumrCellRx port lane index cell damage => exact
      (h.run fun h => h.arrive (fun h => h.enumrCell) : LeavesCanonical (execEnumrCellRx port lane index cell damage s))
  | coxCellRx port lane cell damage => exact (h.run fun h => h.arrive (fun h => h.coxCell) : LeavesCanonical (execCoxCellRx port lane cell damage s))
  | strokeCellRx port lane cell arrival departure damage => exact
      (h.run fun h => h.arrive (fun h => h.strokeCell) : LeavesCanonical (execStrokeCellRx port lane cell arrival departure damage s))
  | cueDistribute tilesLatched => exact
      (h.run fun h => .ite (h.foldl (fun h => h.distributeOne)) h : LeavesCanonical (execCueDistribute tilesLatched s))
  | cueCellRx port lane pos bcast entries damage => exact
      (h.run fun h => h.arrive (fun h => h.cueCell) : LeavesCanonical (execCueCellRx port lane pos bcast entries damage s))
  | thermalShutdown => exact (h.run fun h => h.thermalShutdown : LeavesCanonical (execThermalShutdown s))
  | supplyReset rail lowest => exact (h.run fun h => .ite .supplyReset h : LeavesCanonical (execSupplyReset rail lowest s))
  | powerOn => exact (h.run fun _ => .powerOn : LeavesCanonical (execPowerOn s))
  | resetNPin => exact (h.run fun h => h.resetN : LeavesCanonical (execResetNPin s))
  | resetRelease pins vddioFr => exact (h.run fun h => h.resetRelease : LeavesCanonical (execResetRelease pins vddioFr s))
  | vcoreAdaptStep underrun slackNum slackDen answered vnow => exact
      (h.run fun h => h.vcoreAdapt : LeavesCanonical (execVcoreAdaptStep underrun slackNum slackDen answered vnow s))
  | mr4Poll channel rate => exact (h.run fun h => h.mr4Poll : LeavesCanonical (execMr4Poll channel rate s))
  | oscillatorSample channel ended drift => exact (h.run fun h => h.oscillatorSample : LeavesCanonical (execOscillatorSample channel ended drift s))
  | retrainStep channel ended => exact (h.run fun h => h.retrainStep : LeavesCanonical (execRetrainStep channel ended s))
  | dramOpSwitch => exact (h.run fun h => h.opSwitch : LeavesCanonical (execDramOpSwitch s))
  | dramTrainingDone channel ident ok => exact (h.run fun h => h.trainingDone : LeavesCanonical (execDramTrainingDone channel ident ok s))
  | gatherBoundExceeded channel => exact (h.run fun h => h.gatherBound : LeavesCanonical (execGatherBoundExceeded channel s))
  | igmpReportRepeat flow => exact (h.run fun h => h.igmpRepeat : LeavesCanonical (execIgmpReportRepeat flow s))
  | igmpQueryRx port sublink version group octets aged => exact
      (h.run fun h => h.igmpQuery : LeavesCanonical (execIgmpQueryRx port sublink version group octets aged s))
  | videoPacketRx packet held => exact (h.run fun h => h.videoPacket : LeavesCanonical (execVideoPacketRx packet held s))
  | legDown flow leg => exact (h.run fun h => h.legDown : LeavesCanonical (execLegDown flow leg s))
  | shedEscalate held => exact (h.run fun h => .ite h.beginShed h : LeavesCanonical (execShedEscalate held s))
  | shedEnd => exact (h.run fun h => h.shedEnd : LeavesCanonical (execShedEnd s))
  | monFrameStart stroke => exact (h.run fun h => h.monFrameStart : LeavesCanonical (execMonFrameStart stroke s))
  | monFrameCut => exact (h.run fun h => h.monFrameCut : LeavesCanonical (execMonFrameCut s))
  | viewComposed stroke view slackNs => exact (h.run fun h => h.viewComposed : LeavesCanonical (execViewComposed stroke view slackNs s))
  | composeDeadline stroke progress => exact (h.run fun h => h.composeDeadline : LeavesCanonical (execComposeDeadline stroke progress s))
  | underlayBuildDone view => exact (h.run fun h => h.buildDone : LeavesCanonical (execUnderlayBuildDone view s))
  | lineSlotStart view slot slack fail samples => exact
      (h.run fun h => h.lineSlot : LeavesCanonical (execLineSlotStart view slot slack fail samples s))
  | probe samples => exact (h.run fun h => h.probe : LeavesCanonical (execProbe samples s))
  | ltbLockLost => exact (h.run fun h => .ite h h.update.setFld.raise : LeavesCanonical (execLtbLockLost s))
  | ltbRelock => exact (h.run fun h => .ite h h.update.setFld.lower : LeavesCanonical (execLtbRelock s))
  | referenceSourceLock portA portB => exact
      (h.run fun h => .ite h h.update.setFld.restartHop.restartHop : LeavesCanonical (execReferenceSourceLock portA portB s))
  | checkpointTimer => exact (h.run fun h => .ite h.update h : LeavesCanonical (execCheckpointTimer s))
  | checkpointSaved ok => exact (h.run fun h => h.checkpointSaved : LeavesCanonical (execCheckpointSaved ok s))
  | grnInstallDone ok => exact (h.run fun h => h.installDone : LeavesCanonical (execGrnInstallDone ok s))
  | tileVideoCellRx port lane cell damage => exact
      (h.run fun h => h.arrive (fun h => h.videoCell) : LeavesCanonical (execTileVideoCellRx port lane cell damage s))
  | rowConverted view row => exact (h.run fun h => h.rowConverted : LeavesCanonical (execRowConverted view row s))
  | refreshDone view => exact (h.run fun h => h.refreshDone : LeavesCanonical (execRefreshDone view s))
  | holdLimitExpiry => exact (h.run fun h => h.holdLimit : LeavesCanonical (execHoldLimitExpiry s))
  | viewSlotEnd view upset => exact (h.run fun h => h.viewSlotEnd : LeavesCanonical (execViewSlotEnd view upset s))
  | calAutoRequest kind env => exact
      (h.run fun h => .ite h (.ite h.requestCal h.requestCal.startNext) : LeavesCanonical (execCalAutoRequest kind env s))
  | dlyRetry env => exact (h.run fun h => .ite h (.ite h.update h.update.startNext) : LeavesCanonical (execDlyRetry env s))
  | calStep before after values => exact (h.run fun h => h.calStep : LeavesCanonical (execCalStep before after values s))
  | calSequenceApply env => exact (h.run fun h => h.calApply : LeavesCanonical (execCalSequenceApply env s))
  | thsSample sensors vNum vDen => exact
      (h.run fun h => .ite h.thsSample.computeCal h.thsSample : LeavesCanonical (execThsSample sensors vNum vDen s))
  | pairFormTimeout => exact (h.run fun h => h.formTimeout : LeavesCanonical (execPairFormTimeout s))
  | patrolScrub addr outcome syndrome => exact (h.run fun h => h.patrolScrub : LeavesCanonical (execPatrolScrub addr outcome syndrome s))
  | crewPeriod => exact (h.run fun h => h.crewPeriod : LeavesCanonical (execCrewPeriod s))
  | crewHandover => exact (h.run fun h => h.crewHandover : LeavesCanonical (execCrewHandover s))
  | yieldInAsserted => exact (h.run fun h => .ite h.bump (.ite h.beginTakeover h) : LeavesCanonical (execYieldInAsserted s))
  | yieldCellRx path lane cell damage => exact
      (h.run fun h => h.arrive (fun h => h.yieldCell) : LeavesCanonical (execYieldCellRx path lane cell damage s))
  | witnessLost => exact (h.run fun h => .ite h.beginTakeover h : LeavesCanonical (execWitnessLost s))
  | splitDriveStart port => exact (h.run fun h => h.splitStart : LeavesCanonical (execSplitDriveStart port s))
  | splitDriveEnd port => exact (h.run fun h => h.splitEnd : LeavesCanonical (execSplitDriveEnd port s))
  | chainEndCoxRx port lane cell damage => exact
      (h.run fun h => h.arrive (fun h => h.chainEnd) : LeavesCanonical (execChainEndCoxRx port lane cell damage s))
  | crosslinkLost => exact (h.run fun h => h.crosslinkLost : LeavesCanonical (execCrosslinkLost s))
  | resyncComplete => exact
      (h.run fun h =>
          .ite h
            (have h₁ : State.canonical _ := h.update.judgeStale
             .ite h₁ h₁.setPairState.setFld.bump) : LeavesCanonical (execResyncComplete s))
  | healthCellRx port lane cell damage => exact
      (h.run fun h => h.arrive (fun h => h.healthRx) : LeavesCanonical (execHealthCellRx port lane cell damage s))
  | bistGroupStart => exact (h.run fun h => h.groupStart : LeavesCanonical (execBistGroupStart s))
  | bistGroupDone group faults retestOk => exact (h.run fun h => h.groupDone : LeavesCanonical (execBistGroupDone group faults retestOk s))
  | stageSectorProgrammed sector ok => exact (h.run fun h => h.sectorProgrammed : LeavesCanonical (execStageSectorProgrammed sector ok s))
  | stageVerifyDone => exact (h.run fun h => h.stageVerifyDone : LeavesCanonical (execStageVerifyDone s))
  | sectorCopy ok => exact (h.run fun h => h.sectorCopy : LeavesCanonical (execSectorCopy ok s))
  | autoconfExpiry => exact (h.run fun h => .ite h.confirm h : LeavesCanonical (execAutoconfExpiry s))
  | priorCopyDone => exact (h.run fun h => h.priorCopyDone : LeavesCanonical (execPriorCopyDone s))
  | imageCellRx port lane cell damage => exact
      (h.run fun h => h.arrive (fun h => h.imageCell) : LeavesCanonical (execImageCellRx port lane cell damage s))
  | warmRestart cause => exact (h.run fun h => h.warmRestart : LeavesCanonical (execWarmRestart cause s))
  | mcWatchdog => exact (h.run fun h => .ite h.warmRestart h : LeavesCanonical (execMcWatchdog s))
  | holdThroughExpiry => exact (h.run fun h => .ite State.canonical.fullReset h : LeavesCanonical (execHoldThroughExpiry s))
  | tapReset => exact (h.run fun h => h.update.dropSwitch : LeavesCanonical (execTapReset s))
  | regattaActivate => exact (h.run fun h => h.regatta : LeavesCanonical (execRegattaActivate s))
  | chuckBoot flash refclk => exact (h.run fun h => h.chuckBoot : LeavesCanonical (execChuckBoot flash refclk s))
  | flashNoAnswer => exact (h.run fun h => .ite h h.chuckHold : LeavesCanonical (execFlashNoAnswer s))
  | shutpendRecheck sensors => exact (h.run fun h => .ite h.endShutdown h : LeavesCanonical (execShutpendRecheck sensors s))
  | faultRecognised index => exact (h.run fun h => h.faultRecognised : LeavesCanonical (execFaultRecognised index s))
  | brokenWire index => exact (h.run fun h => h.brokenWire : LeavesCanonical (execBrokenWire index s))
  | brokenWireClear index => exact (h.run fun h => h.update : LeavesCanonical (execBrokenWireClear index s))
  | proofMiss => exact (h.run fun h => h.proofMiss : LeavesCanonical (execProofMiss s))
  | maskingWindowClose block => exact (h.run fun h => .ite h.update h : LeavesCanonical (execMaskingWindowClose block s))
  | firmwareStart env => exact (h.run fun h => h.startFirmware : LeavesCanonical (execFirmwareStart env s))
  | enterService ms => exact (h.run fun h => h.enterService : LeavesCanonical (execEnterService ms s))
  | profileSwitch => exact (h.run fun h => h.profileSwitch : LeavesCanonical (execProfileSwitch s))
  | wakeFrameRx frame fcsOk => exact (h.run fun h => h.wakeFrame : LeavesCanonical (execWakeFrameRx frame fcsOk s))
  | journalCellRx path lane first stroke records damage => exact
      (h.run fun h => h.arrive (fun h => .ite h.journalCell (.ite h.forward h))
       : LeavesCanonical (execJournalCellRx path lane first stroke records damage s))
  | journalBufferFlush => exact (h.run fun h => h.journalFlush : LeavesCanonical (execJournalBufferFlush s))
  | registerWrite init addr data => exact (h.run fun h => h.writeAs : LeavesCanonical (execRegisterWrite init addr data s))
  | fenceWrite init data => exact (h.run fun h => h.writeAs : LeavesCanonical (execFenceWrite init data s))
  | fenceRead init => exact (h.run fun h => h.fenceRead : LeavesCanonical (execFenceRead init s))
  | fenceReadComplete init => exact (h.run fun h => h.fenceDone : LeavesCanonical (execFenceReadComplete init s))
  | spiWrite addr words room => exact (h.run fun h => h.spiWrite : LeavesCanonical (execSpiWrite addr words room s))
  | spiQuadWrite addr words room => exact (h.run fun h => h.spiWrite : LeavesCanonical (execSpiQuadWrite addr words room s))
  | spiRead addr len clocked => exact (h.run fun h => h.spiRead : LeavesCanonical (execSpiRead addr len clocked s))
  | spiQuadRead addr len clocked => exact (h.run fun h => h.spiRead : LeavesCanonical (execSpiQuadRead addr len clocked s))
  | dapOpen header => exact (h.run fun h => h.dapOpen : LeavesCanonical (execDapOpen header s))
  | dapClose header => exact (h.run fun h => h.dapTakes (fun h => h.endSession) : LeavesCanonical (execDapClose header s))
  | dapSessionTimeout session => exact (h.run fun h => h.endSession : LeavesCanonical (execDapSessionTimeout session s))
  | dapRequest header ops queued => exact (h.run fun h => h.dapRequest : LeavesCanonical (execDapRequest header ops queued s))
  | tunreqCellRx port lane cell damage => exact
      (h.run fun h => h.arrive (fun h => h.tunreqCell) : LeavesCanonical (execTunreqCellRx port lane cell damage s))
  | tunrspCellRx port lane cell damage => exact
      (h.run fun h => h.arrive (fun h => h.tunrspCell.afterTunnel) : LeavesCanonical (execTunrspCellRx port lane cell damage s))
  | tunnelTimeout tag => exact (h.run fun h => h.tunnelTimeout.afterTunnel : LeavesCanonical (execTunnelTimeout tag s))
  | cueExecutePreparing => exact (h.run fun h => h.cuePreparing : LeavesCanonical (execCueExecutePreparing s))
  | cueExecuteBoundary => exact (h.run fun h => h.cueBoundary : LeavesCanonical (execCueExecuteBoundary s))
  | latchInstant stroke => exact (h.run fun h => .ite h.latchCommits h : LeavesCanonical (execLatchInstant stroke s))
  | tileLatch => exact (h.run fun h => h.tileLatch : LeavesCanonical (execTileLatch s))
  | tileCatch => exact (h.run fun h => .ite h.tileCatch.wakeEntry h : LeavesCanonical (execTileCatch s))
  | senderCatch => exact (h.run fun h => h.senderCatchAll : LeavesCanonical (execSenderCatch s))
  | composeLeadPoint stroke env => exact (h.run fun h => h.leadPoint : LeavesCanonical (execComposeLeadPoint stroke env s))
  | strokeMarkerLaunch => exact (h.run fun h => h.markerLaunch : LeavesCanonical (execStrokeMarkerLaunch s))
  | commitGo init page atStroke dropLate => exact (h.run fun h => h.writeAs : LeavesCanonical (execCommitGo init page atStroke dropLate s))
  | commitCancel init page => exact (h.run fun h => h.writeAs : LeavesCanonical (execCommitCancel init page s))
  | blkreset init page => exact (h.run fun h => h.writeAs : LeavesCanonical (execBlkreset init page s))
  | snapReq init page auto => exact (h.run fun h => h.writeAs : LeavesCanonical (execSnapReq init page auto s))
  | profwdataWrite init data => exact (h.run fun h => h.writeAs : LeavesCanonical (execProfwdataWrite init data s))
  | profileCommitSlot init prof key => exact (h.run fun h => h.writeAs : LeavesCanonical (execProfileCommitSlot init prof key s))
  | profileSwitchRequest init prof key => exact (h.run fun h => h.writeAs : LeavesCanonical (execProfileSwitchRequest init prof key s))
  | profileInvalidate init prof key => exact (h.run fun h => h.writeAs : LeavesCanonical (execProfileInvalidate init prof key s))
  | rstctlFull init key profSrc prof => exact (h.run fun h => h.writeAs : LeavesCanonical (execRstctlFull init key profSrc prof s))
  | rstctlWarm init key => exact (h.run fun h => h.writeAs : LeavesCanonical (execRstctlWarm init key s))
  | recoveryStart init key => exact (h.run fun h => h.writeAs : LeavesCanonical (execRecoveryStart init key s))
  | recovdataWrite init data => exact (h.run fun h => h.writeAs : LeavesCanonical (execRecovdataWrite init data s))
  | recoveryGo init key => exact (h.run fun h => h.writeAs : LeavesCanonical (execRecoveryGo init key s))
  | timRateWrite init rate => exact (h.run fun h => h.writeAs : LeavesCanonical (execTimRateWrite init rate s))
  | timStep init force => exact (h.run fun h => h.writeAs : LeavesCanonical (execTimStep init force s))
  | txqPop init queue => exact (h.run fun h => h.writeNth : LeavesCanonical (execTxqPop init queue s))
  | cuePush init => exact (h.run fun h => h.writeAs : LeavesCanonical (execCuePush init s))
  | cueCancel init tag => exact (h.run fun h => h.writeAs : LeavesCanonical (execCueCancel init tag s))
  | lpmodeNone init => exact (h.run fun h => h.writeAs : LeavesCanonical (execLpmodeNone init s))
  | lpmodeLpi init => exact (h.run fun h => h.writeAs : LeavesCanonical (execLpmodeLpi init s))
  | lpmodeWakeonly init key => exact (h.run fun h => h.writeAs : LeavesCanonical (execLpmodeWakeonly init key s))
  | mpTxdoor init => exact (h.run fun h => h.writeAs : LeavesCanonical (execMpTxdoor init s))
  | flowEnable init flow => exact (h.run fun h => h.writeNth : LeavesCanonical (execFlowEnable init flow s))
  | flowDisable init flow => exact (h.run fun h => h.writeNth : LeavesCanonical (execFlowDisable init flow s))
  | monEnable init => exact (h.run fun h => h.writeAs : LeavesCanonical (execMonEnable init s))
  | cmpWindowAccess init offset write data => exact (h.run fun h => h.windowAccess : LeavesCanonical (execCmpWindowAccess init offset write data s))
  | underlayBuildGo init view buf => exact (h.run fun h => h.writeNth : LeavesCanonical (execUnderlayBuildGo init view buf s))
  | underlayBuildAbort init view => exact (h.run fun h => h.writeNth : LeavesCanonical (execUnderlayBuildAbort init view s))
  | chpRetrain init port => exact (h.run fun h => h.writeNth : LeavesCanonical (execChpRetrain init port s))
  | fmapselClr init => exact (h.run fun h => h.writeAs : LeavesCanonical (execFmapselClr init s))
  | grnCheck init => exact (h.run fun h => h.writeAs : LeavesCanonical (execGrnCheck init s))
  | grnInstall init key => exact (h.run fun h => h.writeAs : LeavesCanonical (execGrnInstall init key s))
  | grnInstallVolatile init key => exact (h.run fun h => h.writeAs : LeavesCanonical (execGrnInstallVolatile init key s))
  | grnStopBurnish init => exact (h.run fun h => h.writeAs : LeavesCanonical (execGrnStopBurnish init s))
  | grnSaveCheckpoint init => exact (h.run fun h => h.writeAs : LeavesCanonical (execGrnSaveCheckpoint init s))
  | grnClearAccumulators init key => exact (h.run fun h => h.writeAs : LeavesCanonical (execGrnClearAccumulators init key s))
  | grnXferidWrite init data => exact (h.run fun h => h.writeAs : LeavesCanonical (execGrnXferidWrite init data s))
  | grnAccumWrite init offset data => exact (h.run fun h => h.writeAs : LeavesCanonical (execGrnAccumWrite init offset data s))
  | calGo init kind all env => exact (h.run fun h => h.writeAs : LeavesCanonical (execCalGo init kind all env s))
  | calAbort init => exact (h.run fun h => h.writeAs : LeavesCanonical (execCalAbort init s))
  | dramOpreq init op => exact (h.run fun h => h.writeAs : LeavesCanonical (execDramOpreq init op s))
  | srcmdJournalRetention init key => exact (h.run fun h => h.writeAs : LeavesCanonical (execSrcmdJournalRetention init key s))
  | srcmdReturnService init key => exact (h.run fun h => h.writeAs : LeavesCanonical (execSrcmdReturnService init key s))
  | drcLogClear init => exact (h.run fun h => h.writeAs : LeavesCanonical (execDrcLogClear init s))
  | pairCrewChange init key => exact (h.run fun h => h.writeAs : LeavesCanonical (execPairCrewChange init key s))
  | pairYield init key => exact (h.run fun h => h.writeAs : LeavesCanonical (execPairYield init key s))
  | pairRejoin init key => exact (h.run fun h => h.writeAs : LeavesCanonical (execPairRejoin init key s))
  | fltRelease init key => exact (h.run fun h => h.writeAs : LeavesCanonical (execFltRelease init key s))
  | fltProof init => exact (h.run fun h => h.writeAs : LeavesCanonical (execFltProof init s))
  | fltProofSweep init => exact (h.run fun h => h.writeAs : LeavesCanonical (execFltProofSweep init s))
  | fltProofAbort init => exact (h.run fun h => h.writeAs : LeavesCanonical (execFltProofAbort init s))
  | fltLogClear init => exact (h.run fun h => h.writeAs : LeavesCanonical (execFltLogClear init s))
  | thsThrcfgWrite init data => exact (h.run fun h => h.writeAs : LeavesCanonical (execThsThrcfgWrite init data s))
  | bistRunGroups init key => exact (h.run fun h => h.writeAs : LeavesCanonical (execBistRunGroups init key s))
  | bistRunAll init key => exact (h.run fun h => h.writeAs : LeavesCanonical (execBistRunAll init key s))
  | bistAbort init key => exact (h.run fun h => h.writeAs : LeavesCanonical (execBistAbort init key s))
  | bistClearSoft init key => exact (h.run fun h => h.writeAs : LeavesCanonical (execBistClearSoft init key s))
  | bistBurnFuses init key => exact (h.run fun h => h.writeAs : LeavesCanonical (execBistBurnFuses init key s))
  | lcsTransition init target key => exact (h.run fun h => h.writeAs : LeavesCanonical (execLcsTransition init target key s))
  | keyEnrol init key => exact (h.run fun h => h.writeAs : LeavesCanonical (execKeyEnrol init key s))
  | updXferOpen init data => exact (h.run fun h => h.writeAs : LeavesCanonical (execUpdXferOpen init data s))
  | updVerify init key => exact (h.run fun h => h.writeAs : LeavesCanonical (execUpdVerify init key s))
  | updArm init key => exact (h.run fun h => h.writeAs : LeavesCanonical (execUpdArm init key s))
  | updDisarm init key => exact (h.run fun h => h.writeAs : LeavesCanonical (execUpdDisarm init key s))
  | updConfirm init key => exact (h.run fun h => h.writeAs : LeavesCanonical (execUpdConfirm init key s))
  | updReject init key => exact (h.run fun h => h.writeAs : LeavesCanonical (execUpdReject init key s))
  | updDistribute init key => exact (h.run fun h => h.writeAs : LeavesCanonical (execUpdDistribute init key s))
  | updDiscard init key => exact (h.run fun h => h.writeAs : LeavesCanonical (execUpdDiscard init key s))
  | updStoreSettings init key => exact (h.run fun h => h.writeAs : LeavesCanonical (execUpdStoreSettings init key s))
  | updApplySettings init key => exact (h.run fun h => h.writeAs : LeavesCanonical (execUpdApplySettings init key s))
  | pairCellRx path lane cell damage => exact
      (h.run fun h => h.arrive (fun h => .ite h.forward (.ite h.pairRx.sendImage h)) : LeavesCanonical (execPairCellRx path lane cell damage s))
  | takeover => exact (h.run fun h => h.takeover : LeavesCanonical (execTakeover s))
  | coldTakeoverReady => exact (h.run fun h => h.coldReady : LeavesCanonical (execColdTakeoverReady s))
  | supplyWarning rail lowest => exact
      (h.run fun h => .ite h.supplyWarning.beginFreeze h.supplyWarning : LeavesCanonical (execSupplyWarning rail lowest s))
  | supplyWarningClear duration => exact (h.run fun h => .ite h.supplyClear.endFreeze h : LeavesCanonical (execSupplyWarningClear duration s))

end Sys2Proof.Machine
end

section
namespace Sys2Proof.Machine

/-- Settles O4: a step is a command on the state less its front command, or the idle step, and each keeps the form. That the register file
is a sparse map in this form is the model's choice (log entry 1). -/
theorem registerFileStaysCanonical : Obligations.RegisterFileStaysCanonical := by
  intro s t h hstep
  unfold step at hstep
  split at hstep
  · obtain rfl := Host.Outcome.next.inj hstep
    exact h.tick
  next c rest _ =>
    have hrest : State.canonical { s with pending := rest } := h.update
    obtain ⟨u, hexec, hu⟩ := hrest.exec (c := c)
    obtain rfl := Host.Outcome.next.inj (hexec.symm.trans hstep)
    exact hu

end Sys2Proof.Machine
end

section
/-!
SUPPORT. Commands and their queue, and the writes that a check refuses (R28, R30, R32, R47, R56).
-/

namespace Sys2Proof.Machine

/-- Settles O3: each arm of `exec` is a `run`, which answers a next state and puts the queue back. That no command faults or is refused is
the model's choice (log entry 4). -/
theorem commandsLeaveTheQueueAlone : Obligations.CommandsLeaveTheQueueAlone := by
  intro c s
  cases c <;> exact ⟨_, rfl, rfl⟩

/-- What holds of a command's effect holds when it completes: the queue alone is put back. -/
theorem completes_of_effect {c : Instr} {s u : State} {f : State → State} {p : State → Prop} (hrun : exec c s = run s f)
    (heffect : f { s with sent := [], reply := none } = u) (hp : p { u with pending := s.pending }) : Completes c s p :=
  ⟨_, by rw [hrun, run_next, heffect], hp⟩

/-! ### Writes that a check refuses -/

/-- A write that a check refuses leaves the state as it was and gives the check's status. -/
theorem State.write_of_gate_ne {s : State} {init addr : Nat} (data : Word) (env : Option CalEnv) (hgate : s.gate init addr true ≠ 0) :
    s.write init addr data env = (s, s.gate init addr true) := by
  unfold State.write
  split
  · contradiction
  · rfl

theorem State.writeAs_of_powered {s : State} (init addr : Nat) (data : Word) (env : Option CalEnv) (hpow : s.powered = true) :
    s.writeAs init addr data env =
      (s.write init addr data env).1.answer (s.write init addr data env).2 (bit ((s.write init addr data env).2 == 0)) [] := by
  simp [State.writeAs, hpow]

theorem State.writeAs_of_gate_ne {s : State} {init addr : Nat} (data : Word) (env : Option CalEnv) (hpow : s.powered = true)
    (hgate : s.gate init addr true ≠ 0) : s.writeAs init addr data env = s.answer (s.gate init addr true) 0 [] := by
  simp [State.writeAs_of_powered, hpow, State.write_of_gate_ne, hgate, bit]

/-- Settles O7: the check is made before the effect, and its status is the answer. -/
theorem refusedWriteChangesNothing : Obligations.RefusedWriteChangesNothing := by
  intro s init addr data hpow hgate
  have heffect := State.writeAs_of_gate_ne (s := { s with sent := [], reply := none }) data none hpow hgate
  exact completes_of_effect (exec_registerWrite init addr data s) heffect ⟨rfl, ⟨fun _ _ => rfl, fun _ _ => rfl⟩, sameMemories_of_eq rfl rfl rfl rfl, rfl, rfl, rfl⟩

/-- The check of the alignment comes first (R28). -/
theorem State.gate_of_misaligned (s : State) (init : Nat) {addr : Nat} (write : Bool) (haddr : addr % 4 ≠ 0) :
    s.gate init addr write = 5 := by
  simp [State.gate, haddr]

/-- Settles O6: the status ALIGN is that of a refused write (O7). -/
theorem misalignedWriteIsAnsweredAlign : Obligations.MisalignedWriteIsAnsweredAlign := by
  intro s init addr data hpow haddr
  have hgate := s.gate_of_misaligned init true haddr
  obtain ⟨t, hexec, hreply, hregs, hmem, -⟩ := refusedWriteChangesNothing s init addr data hpow (by simp [hgate])
  exact ⟨t, hexec, hgate ▸ hreply, hregs, hmem⟩

end Sys2Proof.Machine
end

section
/-!
SUPPORT. Fences (R44, R46), and SPI frames of one word (R48, R49).
-/

namespace Sys2Proof.Machine

/-! ### A fence and its initiator (R46) -/

@[simp] theorem State.fences_passFence_self (s : State) (init : Nat) : (s.passFence init).fences init = (s.fences init + 1) % 65536 :=
  sparseGet_put_self _ _ init _

theorem State.fences_passFence_ne (s : State) {init j : Nat} (hj : j ≠ init) : (s.passFence init).fences j = s.fences j :=
  sparseGet_put_ne _ _ _ hj

/-- A write of DEV.FENCE is a fence of its initiator. -/
theorem State.writeAll_fence (s : State) (init : Nat) (data : Word) (env : Option CalEnv) :
    s.writeAll init 0x44 data env = (s.passFence init, 0) := by
  have hunit : s.writeUnit init 0x44 data env = (s.passFence init, 0) := rfl
  have hcol : s.collectedAfter (s.passFence init) = s.passFence init := State.collectedAfter_of_srcmd_eq rfl
  rw [State.writeAll, hunit, hcol]

/-- DEV.FENCE shows the initiator that reads it and that initiator's fences. -/
theorem State.readWord_fence (s : State) (init : Nat) :
    s.readWord init 0x44 = (s, withFields (s.reg 0x44) [(.devFenceCount, s.fences init), (.devFenceInitiator, init)]) := rfl

/-- A read of DEV.FENCE that no check refuses counts as a fence before it is answered (log entry 9). -/
theorem State.readAt_fence {s : State} {init : Nat} (hgate : s.gate init 0x44 false = 0) :
    s.readAt init 0x44 = (s.passFence init, 0, ((s.passFence init).readWord init 0x44).2) := by
  simp [State.readAt, hgate, State.readWord_fence]

/-- The word that DEV.FENCE shows, field by field. -/
theorem fence_word (w : Word) {n init : Nat} (hn : n < 65536) (hinit : init < 16) :
    Fld.get .devFenceCount (withFields w [(.devFenceCount, n), (.devFenceInitiator, init)]) = n ∧
      Fld.get .devFenceInitiator (withFields w [(.devFenceCount, n), (.devFenceInitiator, init)]) = init := by
  simp only [withFields, List.foldl_cons, List.foldl_nil]
  constructor
  · rw [Fld.get_put_disjoint _ _ _ _ (by decide) (by decide), Fld.get_put_self _ _ _ (by decide)]
    exact Nat.mod_eq_of_lt hn
  · rw [Fld.get_put_self _ _ _ (by decide)]
    exact Nat.mod_eq_of_lt hinit

/-- The word that a fence read returns: its own fence counted, and its initiator. -/
theorem State.readWord_passFence (s : State) {init : Nat} (hinit : init < 16) :
    Fld.get .devFenceCount ((s.passFence init).readWord init 0x44).2 = (s.fences init + 1) % 65536 ∧
      Fld.get .devFenceInitiator ((s.passFence init).readWord init 0x44).2 = init := by
  rw [State.readWord_fence, State.fences_passFence_self]
  exact fence_word _ (Nat.mod_lt _ (by decide)) hinit

theorem fenceRead_of_free {s : State} {init : Nat} (hpow : s.powered = true) (hgate : s.gate init 0x44 false = 0)
    (hfree : init ∉ s.access.fenceWait) : fenceRead s init = { s with access.fenceWait := s.access.fenceWait ++ [init] } := by
  simp [fenceRead, hpow, hgate, hfree]

/-- The waiting read returns with its own fence counted. -/
theorem fenceDone_of_waiting {s : State} {init : Nat} (hgate : s.gate init 0x44 false = 0) (hwait : init ∈ s.access.fenceWait) :
    fenceDone s init =
      let u := ({ s with access.fenceWait := s.access.fenceWait.filter (· != init) } : State).passFence init
      u.answer 0 0 [(u.readWord init 0x44).2] := by
  have hread := State.readAt_fence (s := { s with access.fenceWait := s.access.fenceWait.filter (· != init) }) hgate
  simp only [fenceDone, List.contains_eq_mem, hwait, decide_true, Bool.not_true, Bool.false_eq_true, if_false, hread]

/-- Settles O11: a fence counts in `passFence`, which changes nothing else. That FENCE_READ_COMPLETE counts its own fence in the number it
returns is deduced (log entry 9). -/
theorem fencesAreCountedByInitiator : Obligations.FencesAreCountedByInitiator := by
  refine ⟨fun s init data hperf => ?_, fun s init hpow hgate hfree => ?_, fun s init hinit hgate hwait => ?_⟩
  · have hall := State.writeAll_fence { s with sent := [], reply := none } init data none
    exact ⟨_, exec_registerWrite_of_performs hperf hall, rfl, State.fences_passFence_self s init, fun j hj => State.fences_passFence_ne s hj,
      ⟨fun _ _ => rfl, fun _ _ => rfl⟩, sameMemories_of_eq rfl rfl rfl rfl⟩
  · have heffect := fenceRead_of_free (s := { s with sent := [], reply := none }) hpow hgate hfree
    exact completes_of_effect (f := (fenceRead · init)) rfl heffect
      ⟨by simp, rfl, ⟨fun _ _ => rfl, fun _ _ => rfl⟩, sameMemories_of_eq rfl rfl rfl rfl⟩
  · have heffect := fenceDone_of_waiting (s := { s with sent := [], reply := none }) hgate hwait
    exact completes_of_effect (f := (fenceDone · init)) rfl heffect
      ⟨by simp [State.passFence], State.fences_passFence_self s init, ⟨_, rfl, State.readWord_passFence _ hinit⟩, ⟨fun _ _ => rfl, fun _ _ => rfl⟩,
        sameMemories_of_eq rfl rfl rfl rfl⟩

/-! ### SPI frames of one word (R48, R49) -/

/-- A write frame of one word that is answered OK is the access that a register write of initiator 0 makes. -/
theorem spiWrite_word {s : State} {addr room : Nat} {w : Word} (hpow : s.powered = true) (haddr : addr < 2 ^ 24) (hroom : 0 < room)
    (hok : (s.write 0 addr w none).2 = 0) : spiWrite s addr [w] room = s.writeAs 0 addr w none := by
  have hroom' : room ≠ 0 := Nat.ne_of_gt hroom
  have haddr' : addr % 16777216 = addr := Nat.mod_eq_of_lt haddr
  rw [State.writeAs_of_powered 0 addr w none hpow, hok]
  simp [spiWrite, hpow, haddr', spiWords, hroom', hok, bit]

/-- A read frame of one word answers the word that a read of initiator 0 gives. -/
theorem spiRead_word {s : State} {addr : Nat} (hpow : s.powered = true) (haddr : addr < 2 ^ 24) (hok : (s.readAt 0 addr).2.1 = 0) :
    spiRead s addr 1 1 = (s.readAt 0 addr).1.answer 0 0 [(s.readAt 0 addr).2.2] := by
  have haddr' : addr % 16777216 = addr := Nat.mod_eq_of_lt haddr
  simp [spiRead, hpow, haddr', spiCapture, hok]

theorem State.readAt_of_gate {s : State} {init addr : Nat} (hgate : s.gate init addr false = 0) (haddr : addr ≠ 0x44) :
    s.readAt init addr = ((s.readWord init addr).1, 0, (s.readWord init addr).2) := by
  simp [State.readAt, hgate, haddr]

/-- No window of CMP, GRN or UPD lies in pages 0 to 6. -/
theorem pageInfo_low {page : Nat} {p : PageInfo} (hp : pageInfo page = some p) (hpage : page < 7) :
    p.type ≠ .cmp ∧ p.type ≠ .grn ∧ p.type ≠ .upd := by
  have hall : ∀ q < 7, ((pageInfo q).all fun p => p.type != .cmp && p.type != .grn && p.type != .upd) = true := by decide
  simpa [hp, and_assoc] using hall page hpage

/-- A read of a page from 0 to 6 draws a free value or leaves the state as it was. -/
theorem State.readWord_low_state {s : State} {addr : Nat} (init : Nat) (hpage : addr / 4096 < 7)
    (himpl : (pageInfo (addr / 4096)).isSome) : (s.readWord init addr).1 = s ∨ (s.readWord init addr).1 = s.draw.2 := by
  obtain ⟨p, hp⟩ := Option.isSome_iff_exists.mp himpl
  obtain ⟨hcmp, hgrn, hupd⟩ := pageInfo_low hp hpage
  simp only [State.readWord, hp, hcmp, hgrn, hupd, false_and, if_false]
  split_ifs <;> simp

theorem State.readWord_low_word {addr : Nat} (s : State) (init : Nat) (hpage : addr / 4096 < 7) (himpl : (pageInfo (addr / 4096)).isSome) :
    (({ s with sent := [], reply := none } : State).readWord init addr).2 = (s.readWord init addr).2 := by
  obtain ⟨p, hp⟩ := Option.isSome_iff_exists.mp himpl
  obtain ⟨hcmp, hgrn, hupd⟩ := pageInfo_low hp hpage
  simp only [State.readWord, hp, hcmp, hgrn, hupd, false_and, if_false, apply_ite Prod.snd]
  rfl

theorem pageInfo_low_isSome {page : Nat} (hpage : page < 7) : (pageInfo page).isSome := by
  have hall : ∀ q < 7, (pageInfo q).isSome = true := by decide
  exact hall page hpage

/-- What a read frame of one word of a page from 0 to 6 shows and leaves as it was. -/
theorem spiRead_low {c : Instr} {s : State} {addr : Nat} (hrun : exec c s = run s (spiRead · addr 1 1)) (haddr : addr < 2 ^ 24)
    (hpow : s.powered = true) (hgate : s.gate 0 addr false = 0) (hfence : addr ≠ 0x44) (hpage : addr / 4096 < 7) :
    Completes c s fun t => t.reply = some ⟨0, 0, [(s.readWord 0 addr).2]⟩ ∧ SameRegisters [] [] s t ∧ SameMemories s t := by
  have hread := State.readAt_of_gate (s := { s with sent := [], reply := none }) hgate hfence
  have heffect := spiRead_word (s := { s with sent := [], reply := none }) hpow haddr (by rw [hread])
  rw [hread, s.readWord_low_word 0 hpage (pageInfo_low_isSome hpage)] at heffect
  refine completes_of_effect hrun heffect ⟨rfl, ?_⟩
  obtain hst | hst := State.readWord_low_state (s := { s with sent := [], reply := none }) 0 hpage (pageInfo_low_isSome hpage)
  all_goals
    rw [hst]
    exact ⟨⟨fun _ _ => rfl, fun _ _ => rfl⟩, sameMemories_of_eq rfl rfl rfl rfl⟩

/-- Settles O10: a frame of one word makes the write of REGISTER_WRITE, and the read of initiator 0, which in these pages at most draws
a free value. -/
theorem spiFramesActAsRegisterAccesses : Obligations.SpiFramesActAsRegisterAccesses := by
  refine ⟨fun s addr room w haddr hroom hperf hok => ?_, fun s addr haddr hpow hgate hfence hpage =>
    ⟨spiRead_low rfl haddr hpow hgate hfence hpage, spiRead_low rfl haddr hpow hgate hfence hpage⟩⟩
  obtain ⟨hpow, -⟩ := (s.performs_iff 0 addr).mp hperf
  have heffect := spiWrite_word (s := { s with sent := [], reply := none }) hpow haddr hroom hok
  have hanswer := State.writeAs_of_powered (s := { s with sent := [], reply := none }) 0 addr w none hpow
  rw [hok] at hanswer
  have hreg : exec (.registerWrite 0 addr w) s = _ := (exec_registerWrite 0 addr w s).trans (run_next s _)
  refine ⟨completes_of_effect (f := (spiWrite · addr [w] room)) rfl heffect ⟨hreg, ?_⟩,
    completes_of_effect (f := (spiWrite · addr [w] room)) rfl heffect ⟨hreg, ?_⟩⟩
  all_goals
    rw [hanswer]
    rfl

end Sys2Proof.Machine
end

section
/-!
SUPPORT. Commits (R34 to R39): the checks of a commit read nothing of a page's header, and the effect of a write of COMMIT.
-/

namespace Sys2Proof.Machine

/-! ### The checks of a commit read no header (R37) -/

/-- `t` is `s` but for registers of page headers and what no check of a commit reads. -/
structure SameChecked (s t : State) : Prop where
  reg : ∀ a, 0x40 ≤ a % 4096 → t.reg a = s.reg a
  boot : t.boot = s.boot
  time : t.time = s.time
  cmp : t.cmp = s.cmp
  chain : t.chain = s.chain
  grain : t.grain = s.grain

variable {s t : State}

theorem SameChecked.fld (h : SameChecked s t) {f : Fld} (hf : 0x40 ≤ f.addr % 4096) : t.fld f = s.fld f := by
  rw [State.fld, State.fld, h.reg _ hf]

theorem SameChecked.flag (h : SameChecked s t) {f : Fld} (hf : 0x40 ≤ f.addr % 4096) : t.flag f = s.flag f := by
  rw [State.flag, State.flag, h.fld hf]

theorem SameChecked.prof (h : SameChecked s t) (f : Profile → Nat) : t.prof f = s.prof f := by
  rw [State.prof, State.prof, h.boot]

theorem SameChecked.isSender (h : SameChecked s t) : t.isSender = s.isSender := by
  rw [State.isSender, State.isSender, h.fld (by decide)]

theorem SameChecked.isTile (h : SameChecked s t) : t.isTile = s.isTile := by
  rw [State.isTile, State.isTile, h.fld (by decide)]

theorem SameChecked.starts (h : SameChecked s t) (p : Profile) (rd : Reader) : t.starts p rd = s.starts p rd := by
  have hus : t.strokeUs = s.strokeUs := by
    simp only [State.strokeUs, State.nominal, State.catchOf, State.sfld, h.prof, h.time, h.fld (f := .stkPhase) (by decide)]
  have hnext : t.nextStart p rd = s.nextStart p rd := by
    funext x v
    simp only [State.nextStart, State.wantedStart, h.time, hus]
  rw [State.starts, State.starts, hnext]

theorem SameChecked.backOk (h : SameChecked s t) (rd : Reader) (v : Nat) : t.backOk rd v = s.backOk rd v := by
  have hbytes : t.userBytes = s.userBytes := by rw [State.userBytes, State.userBytes, h.fld (by decide)]
  have hsurface : t.surface = s.surface := by
    funext i
    rw [State.surface, State.surface, h.cmp]
  have hok : t.surfaceOk = s.surfaceOk := by
    funext d
    simp only [State.surfaceOk, State.inUser, hbytes]
  simp only [State.backOk, State.rgbSurface, hsurface, hok]

theorem SameChecked.tabselOk (h : SameChecked s t) (rd : Reader) : t.tabselOk rd = s.tabselOk rd := by
  simp only [State.tabselOk, State.copy, h.grain, h.fld (f := .grnCtrlTabsel) (by decide)]

theorem SameChecked.vbase (h : SameChecked s t) {r : Nat} (hr : r < 128) : Reader.vbase t.reg r = Reader.vbase s.reg r := by
  have h0 : t.reg (Fld.addr (.ltbVbaseRow0 (r / 4))) = s.reg (Fld.addr (.ltbVbaseRow0 (r / 4))) := h.reg _ (by simp; omega)
  unfold Reader.vbase
  split <;> exact congrArg _ h0

theorem SameChecked.sameMap (h : SameChecked s t) (rd : Reader) (page : Nat) : sameMap t.reg rd page = sameMap s.reg rd page := by
  have hsink : ∀ g i, i < 64 → t.reg (Fld.addr (.skgSinkEn g i)) = s.reg (Fld.addr (.skgSinkEn g i)) := fun g i hi =>
    h.reg _ (by simp; omega)
  unfold Machine.sameMap Reader.fld
  rw [Bool.eq_iff_iff]
  split <;> simp only [List.all_eq_true, List.mem_range]
  · exact forall₂_congr fun r hr => by rw [h.vbase hr]
  · exact forall₂_congr fun i hi => by rw [hsink _ i hi]

theorem SameChecked.commitRange (h : SameChecked s t) (rd : Reader) (page : Nat) : t.commitRange rd page = s.commitRange rd page := by
  simp only [State.commitRange, h.prof, h.isSender, h.boot, h.starts, h.backOk, h.flag (f := .snkCtrlDrven) (by decide), h.sameMap, h.tabselOk]

theorem SameChecked.chainG (h : SameChecked s t) : t.chainG = s.chainG := by
  funext n
  have hlanes : t.lanesUp n = s.lanesUp n := by rw [State.lanesUp, State.lanesUp, State.port, State.port, h.chain]
  rw [State.chainG, State.chainG, hlanes, h.fld (f := .chpStatChainrate n) (by simp)]

theorem SameChecked.enabled (h : SameChecked s t) (n : Nat) : t.flag (.chpCtrlEnable n) = s.flag (.chpCtrlEnable n) :=
  h.flag (by simp)

theorem SameChecked.portG (h : SameChecked s t) (n : Nat) : t.portG n = s.portG n := by
  have hcap : t.ownCap n = s.ownCap n := by rw [State.ownCap, State.ownCap, h.prof]
  rw [State.portG, State.portG, h.chainG, h.enabled, hcap, h.fld (f := .chpStatState n) (by simp)]

theorem SameChecked.commitBudget (h : SameChecked s t) (rd : Reader) (page : Nat) : t.commitBudget rd page = s.commitBudget rd page := by
  have hecc : t.eccOn = s.eccOn := by rw [State.eccOn, State.eccOn, h.isTile, h.flag (by decide)]
  simp only [State.commitBudget, h.boot, h.chainG, h.isSender, h.portG, h.enabled, hecc, h.fld (f := .drcMapNch) (by decide),
    h.fld (f := .drcOpstatCur) (by decide)]

end Sys2Proof.Machine
end

section
/-!
SUPPORT. Writes of the header registers (R31), and GO and CANCEL of COMMIT (R34 to R37, R39).
-/

namespace Sys2Proof.Machine

/-! ### A write of a header register (R31) -/

theorem pageAddr_of_lt {page : Nat} (off : Nat) (hpage : page < 4096) : pageAddr page off = 4096 * page + off := by
  rw [pageAddr, Nat.mod_eq_of_lt hpage]

/-- Collected records wait as long as journal retention lasts (R313). -/
theorem State.collectedAfter_of_retained {s t : State} (h : s.retained = true → t.retained = true) : s.collectedAfter t = t := by
  cases hs : s.retained with
  | false => simp [State.collectedAfter, hs]
  | true => simp [State.collectedAfter, h hs]

/-- A write below offset 0x40 of a page in role has the effect of the header register alone. -/
theorem State.writeAll_header {s : State} {page off : Nat} {p : PageInfo} (init : Nat) (data : Word) (env : Option CalEnv)
    (hp : pageInfo page = some p) (hrole : s.answers page = true) (hoff : off < 0x40)
    (hret : s.retained = true → (headerWrite s page off data).retained = true) :
    s.writeAll init (4096 * page + off) data env = (headerWrite s page off data, 0) := by
  have hdiv : (4096 * page + off) / 4096 = page := by omega
  have hmod : (4096 * page + off) % 4096 = off := by omega
  have hbase : s.writeBase init (4096 * page + off) data env = (headerWrite s page off data, 0) := by
    simp [State.writeBase, hdiv, hmod, hp, hrole, hoff]
  have hsrcmd : (4096 * page + off == 0x9054) = false := by simp; omega
  have hcfg : (4096 * page + off == 0x12040) = false := by simp; omega
  have hlp : (4096 * page + off == 0x4088) = false := by simp; omega
  have hupd : (4096 * page + off == 0x14048) = false := by simp; omega
  have hcol : s.collectedAfter (headerWrite s page off data) = headerWrite s page off data := State.collectedAfter_of_retained hret
  simp [State.writeAll, State.writeUnit, hsrcmd, hcfg, hlp, hupd, hbase, hcol]

theorem answers_of_performs {s : State} {init page off : Nat} (hpage : page < 4096) (hoff : off < 0x40)
    (hperf : s.performs init (pageAddr page off)) : s.answers page = true := by
  obtain ⟨-, -, hrole, -⟩ := (s.performs_iff init _).mp hperf
  rwa [pageAddr_of_lt off hpage, show (4096 * page + off) / 4096 = page by omega] at hrole

/-- A command that writes a header register of a page in role completes with that register's effect, answered OK. -/
theorem completes_headerWrite {c : Instr} {s u : State} {init page off : Nat} {data : Word} {p : PageInfo} {P : State → Prop}
    (hexec : exec c s =
      .next { ({ s with sent := [], reply := none } : State).writeAs init (pageAddr page off) data none with pending := s.pending })
    (hpage : page < 4096) (hperf : s.performs init (pageAddr page off)) (hp : pageInfo page = some p) (hoff : off < 0x40)
    (heffect : headerWrite { s with sent := [], reply := none } page off data = u) (hret : s.retained = true → u.retained = true)
    (hpost : P { u with reply := some ⟨0, 1, []⟩, pending := s.pending }) : Completes c s P := by
  obtain ⟨hpow, hgate, -, hj⟩ := (s.performs_iff init _).mp hperf
  have hrole := answers_of_performs hpage hoff hperf
  rw [pageAddr_of_lt off hpage] at hexec hgate
  have hall := State.writeAll_header (s := { s with sent := [], reply := none }) init data none hp hrole hoff (heffect ▸ hret)
  have hwrite := State.write_of_not_journals (s := { s with sent := [], reply := none }) data none hgate hj
  have hwriteAs : ({ s with sent := [], reply := none } : State).writeAs init (4096 * page + off) data none = u.answer 0 1 [] := by
    rw [State.writeAs_of_powered (s := { s with sent := [], reply := none }) _ _ _ _ hpow, hwrite, hall, heffect]
    rfl
  rw [hwriteAs] at hexec
  exact ⟨_, hexec, hpost⟩

/-! ### GO and CANCEL (R34 to R37, R39) -/

theorem State.fld_lt (s : State) (f : Fld) : s.fld f < 2 ^ f.width := by
  unfold State.fld Fld.get
  exact Nat.mod_lt _ (by positivity)

/-- No check of a commit reads a header register. -/
theorem sameChecked_setFld_header (s : State) {f : Fld} (v : Nat) (hf : f.addr % 4096 < 0x40) : SameChecked s (s.setFld f v) := by
  refine ⟨fun a ha => State.reg_setFld_ne s f v ?_, rfl, rfl, rfl, rfl, rfl⟩
  rintro rfl
  omega

theorem SameChecked.trans {s t u : State} (h : SameChecked s t) (h' : SameChecked t u) : SameChecked s u :=
  ⟨fun a ha => (h'.reg a ha).trans (h.reg a ha), h'.boot.trans h.boot, h'.time.trans h.time, h'.cmp.trans h.cmp, h'.chain.trans h.chain,
    h'.grain.trans h.grain⟩

/-- COMMIT as a GO leaves it before the checks: LATE and REASON 0. -/
def State.clearCommit (s : State) (page : Nat) : State := (s.setFld (.hdrCommitLate page) 0).setFld (.hdrCommitReason page) 0

/-- A commit of a page waits for stroke `k`, as ATSTROKE names it (R35). -/
def State.awaitStroke (s : State) (page k : Nat) (dropLate : Bool) : State :=
  let s := ((s.setFld (.hdrCommitState page) 1).setFld (.hdrCommitLate page) 0).setFld (.hdrCommitStroke page) k
  { s with access.commits := s.access.commits ++ [⟨page, k, true, dropLate, none⟩] }

theorem sameChecked_clearCommit (s : State) (page : Nat) : SameChecked s (s.clearCommit page) :=
  (sameChecked_setFld_header s 0 (by simp)).trans (sameChecked_setFld_header _ 0 (by simp))

section
variable {s : State} {page : Nat} {p : PageInfo} {dropLate : Bool}

/-- A GO with ATSTROKE whose stroke lies ahead and whose checks hold waits for it (R35, R37). -/
theorem commitGo_accepted (hp : pageInfo page = some p) (hsh : p.shadow = true) (hrole : s.answers page = true)
    (hidle : s.fld (.hdrCommitState page) ≠ 1) (hlate : s.lateFor (s.fld (.hdrCommitStroke page)) = false)
    (hrange : s.commitRange (s.withShadows (s.together page (s.fld (.hdrCommitStroke page)))) page = true)
    (hbudget : s.commitBudget (s.withShadows (s.together page (s.fld (.hdrCommitStroke page)))) page = true) :
    commitGo s page true dropLate = (s.clearCommit page).awaitStroke page (s.fld (.hdrCommitStroke page)) dropLate := by
  have hrange' := ((sameChecked_clearCommit s page).commitRange _ page).trans hrange
  have hbudget' := ((sameChecked_clearCommit s page).commitBudget _ page).trans hbudget
  unfold State.clearCommit at hrange' hbudget'
  simp only [commitGo, hp, hsh, hrole, beq_eq_false_iff_ne.mpr hidle, hlate, hrange', hbudget', State.clearCommit, State.awaitStroke, Bool.not_true,
    Bool.or_self, Bool.and_false, Bool.false_and, Bool.false_eq_true, if_false, if_true, bit, Bool.not_false, Bool.and_true]

/-- A GO whose range check fails is refused with REASON 2 (R37). -/
theorem commitGo_refused (hp : pageInfo page = some p) (hsh : p.shadow = true) (hrole : s.answers page = true)
    (hidle : s.fld (.hdrCommitState page) ≠ 1) (hlate : s.lateFor (s.fld (.hdrCommitStroke page)) = false)
    (hrange : s.commitRange (s.withShadows (s.together page (s.fld (.hdrCommitStroke page)))) page = false) :
    commitGo s page true dropLate = (s.clearCommit page).refuseCommit page 2 := by
  have hrange' := ((sameChecked_clearCommit s page).commitRange _ page).trans hrange
  unfold State.clearCommit at hrange'
  simp only [commitGo, hp, hsh, hrole, beq_eq_false_iff_ne.mpr hidle, hlate, hrange', State.clearCommit, Bool.not_true, Bool.or_self,
    Bool.and_false, Bool.false_eq_true, if_false, if_true, Bool.not_false]

/-- What COMMIT and COMMIT_STROKE show of a commit that waits. -/
theorem fld_awaitStroke {k : Nat} (hk : k < 2 ^ 32) : (s.awaitStroke page k dropLate).fld (.hdrCommitState page) = 1 ∧
    (s.awaitStroke page k dropLate).fld (.hdrCommitLate page) = 0 ∧ (s.awaitStroke page k dropLate).fld (.hdrCommitStroke page) = k := by
  have hregs : (s.awaitStroke page k dropLate).regs =
      (((s.setFld (.hdrCommitState page) 1).setFld (.hdrCommitLate page) 0).setFld (.hdrCommitStroke page) k).regs := by rw [State.awaitStroke]
  rw [State.fld_congr hregs, State.fld_congr hregs, State.fld_congr hregs]
  refine ⟨?_, ?_, ?_⟩
  · rw [State.fld_setFld_ne _ _ _ _ (by simp), State.fld_setFld_disjoint _ _ _ _ (by simp) (by simp), State.fld_setFld_self _ _ _ (by simp)]
    rfl
  · rw [State.fld_setFld_ne _ _ _ _ (by simp), State.fld_setFld_self _ _ _ (by simp)]
    rfl
  · rw [State.fld_setFld_self _ _ _ (by simp)]
    exact Nat.mod_eq_of_lt hk

/-- A refused commit shows STATE 2 and its REASON (R37). -/
theorem fld_refuseCommit {r : Nat} (hr : r < 16) :
    (s.refuseCommit page r).fld (.hdrCommitState page) = 2 ∧ (s.refuseCommit page r).fld (.hdrCommitReason page) = r := by
  unfold State.refuseCommit
  constructor
  · rw [State.fld_setFld_disjoint _ _ _ _ (by simp) (by simp), State.fld_setFld_self _ _ _ (by simp)]
    rfl
  · rw [State.fld_setFld_self _ _ _ (by simp)]
    exact Nat.mod_eq_of_lt hr

theorem reg_refuseCommit {r a : Nat} (ha : a ≠ 4096 * page + 0x10) : (s.refuseCommit page r).reg a = s.reg a := by
  unfold State.refuseCommit
  rw [State.reg_setFld_ne _ _ _ ha, State.reg_setFld_ne _ _ _ ha]
  rfl

theorem reg_clearCommit {a : Nat} (ha : a ≠ 4096 * page + 0x10) : (s.clearCommit page).reg a = s.reg a := by
  rw [State.clearCommit, State.reg_setFld_ne _ _ _ ha, State.reg_setFld_ne _ _ _ ha]

/-- The word of COMMIT_GO with ATSTROKE is a GO. -/
theorem headerWrite_go (hp : pageInfo page = some p) (hsh : p.shadow = true) :
    headerWrite s page 0x10 (Word.ofNat (1 + 2 * bit true + 4 * bit dropLate)) = commitGo s page true dropLate := by
  cases dropLate <;> simp [headerWrite, commitWrite, hp, hsh, bit, Word.ofNat]

/-- The word of COMMIT_CANCEL is a CANCEL alone. -/
theorem headerWrite_cancel (hp : pageInfo page = some p) (hsh : p.shadow = true) : headerWrite s page 0x10 8 = commitCancel s page := by
  simp [headerWrite, commitWrite, hp, hsh]

theorem reg_awaitStroke {k a : Nat} (ha : a ≠ 4096 * page + 0x10) (ha' : a ≠ 4096 * page + 0x14) :
    (s.awaitStroke page k dropLate).reg a = s.reg a := by
  have hregs : (s.awaitStroke page k dropLate).regs =
      (((s.setFld (.hdrCommitState page) 1).setFld (.hdrCommitLate page) 0).setFld (.hdrCommitStroke page) k).regs := by rw [State.awaitStroke]
  rw [State.reg_congr hregs, State.reg_setFld_ne _ _ _ ha', State.reg_setFld_ne _ _ _ ha, State.reg_setFld_ne _ _ _ ha]

theorem access_awaitStroke (s : State) (page k : Nat) (dropLate : Bool) :
    (s.awaitStroke page k dropLate).access.commits = s.access.commits ++ [⟨page, k, true, dropLate, none⟩] := by
  have hqueue : ∀ (u : State) (c : Commit), ({ u with access.commits := u.access.commits ++ [c] } : State).access.commits = u.access.commits ++ [c] :=
    fun _ _ => rfl
  rw [State.awaitStroke, hqueue, State.setFld_access, State.setFld_access, State.setFld_access]

/-- A discarded commit leaves COMMIT idle (R39). -/
def State.discardCommit (s : State) (page : Nat) : State :=
  ({ s with access.commits := s.access.commits.filter (fun c => c.page != page) } : State).setFld (.hdrCommitState page) 0

theorem reg_discardCommit {a : Nat} (ha : a ≠ 4096 * page + 0x10) : (s.discardCommit page).reg a = s.reg a :=
  State.reg_setFld_ne _ _ _ ha

theorem fld_discardCommit : (s.discardCommit page).fld (.hdrCommitState page) = 0 := by
  rw [State.discardCommit, State.fld_setFld_self _ _ _ (by simp), Nat.zero_mod]

theorem commitCancel_pending (hstate : s.fld (.hdrCommitState page) = 1) : commitCancel s page = s.discardCommit page := by
  simp only [commitCancel, hstate, bne_self_eq_false, Bool.false_eq_true, if_false, State.discardCommit]

/-- The state after an accepted GO: COMMIT, COMMIT_STROKE and the commit that waits. -/
theorem commitGo_waits (hp : pageInfo page = some p) (hsh : p.shadow = true) (hrole : s.answers page = true)
    (hidle : s.fld (.hdrCommitState page) ≠ 1) (hlate : s.lateFor (s.fld (.hdrCommitStroke page)) = false)
    (hrange : s.commitRange (s.withShadows (s.together page (s.fld (.hdrCommitStroke page)))) page = true)
    (hbudget : s.commitBudget (s.withShadows (s.together page (s.fld (.hdrCommitStroke page)))) page = true) :
    ∃ u, commitGo s page true dropLate = u ∧ u.fld (.hdrCommitState page) = 1 ∧ u.fld (.hdrCommitLate page) = 0 ∧
      u.fld (.hdrCommitStroke page) = s.fld (.hdrCommitStroke page) ∧
      u.access.commits = s.access.commits ++ [⟨page, s.fld (.hdrCommitStroke page), true, dropLate, none⟩] ∧
      ∀ a, a ≠ 4096 * page + 0x10 → a ≠ 4096 * page + 0x14 → u.reg a = s.reg a := by
  obtain ⟨hstate, hlate0, hstroke⟩ := fld_awaitStroke (s := s.clearCommit page) (dropLate := dropLate) (s.fld_lt (.hdrCommitStroke page))
  refine ⟨_, commitGo_accepted hp hsh hrole hidle hlate hrange hbudget, hstate, hlate0, hstroke, ?_, fun a ha ha' => ?_⟩
  · rw [access_awaitStroke, State.clearCommit, State.setFld_access, State.setFld_access]
  · rw [reg_awaitStroke ha ha', reg_clearCommit ha]

/-- The state after a GO that its range check refuses. -/
theorem commitGo_refuses (hp : pageInfo page = some p) (hsh : p.shadow = true) (hrole : s.answers page = true)
    (hidle : s.fld (.hdrCommitState page) ≠ 1) (hlate : s.lateFor (s.fld (.hdrCommitStroke page)) = false)
    (hrange : s.commitRange (s.withShadows (s.together page (s.fld (.hdrCommitStroke page)))) page = false) :
    ∃ u, commitGo s page true dropLate = u ∧ u.fld (.hdrCommitState page) = 2 ∧ u.fld (.hdrCommitReason page) = 2 ∧
      u.counters = s.counters ∧ ∀ a, a ≠ 4096 * page + 0x10 → u.reg a = s.reg a := by
  obtain ⟨hstate, hreason⟩ := fld_refuseCommit (s := s.clearCommit page) (page := page) (r := 2) (by decide)
  refine ⟨_, commitGo_refused hp hsh hrole hidle hlate hrange, hstate, hreason, ?_, fun a ha => ?_⟩
  · rw [State.refuseCommit, State.setFld_counters, State.setFld_counters, State.clearCommit, State.setFld_counters, State.setFld_counters]
  · rw [reg_refuseCommit ha, reg_clearCommit ha]

end

/-- No header register is DRC.SRCMD. -/
theorem retained_of_header {s t : State} {page off : Nat} (hoff : off < 0x40)
    (hreg : ∀ a, a ≠ 4096 * page + off → a ≠ 4096 * page + 0x14 → t.reg a = s.reg a) (h : s.retained = true) : t.retained = true := by
  unfold State.retained State.fld at h ⊢
  rwa [hreg _ (by simp; omega) (by simp; omega)]

/-- A unit that differs from `s` in COMMIT of a page alone. -/
theorem sameRegisters_commit {s t : State} {page : Nat} (hpage : page < 4096) (hreg : ∀ a, a ≠ 4096 * page + 0x10 → t.reg a = s.reg a)
    (hcnt : t.counters = s.counters) : SameRegisters [pageAddr page 0x10] [] s t := by
  refine ⟨fun a ha => hreg a ?_, fun a _ => State.live_congr hcnt a⟩
  rw [pageAddr_of_lt _ hpage] at ha
  exact List.ne_of_not_mem_cons ha

/-- Settles O14. Lateness is judged against the stroke that the last latch prepared (log entry 33), and the checks with the shadows of the
commits that share the target (log entry 34): both are the model's choices. -/
theorem commitAcceptedRefusedCancelled : Obligations.CommitAcceptedRefusedCancelled := by
  refine ⟨fun s init page dropLate p hpage hperf hp hsh hidle hlate hrange hbudget => ?_,
    fun s init page dropLate p hpage hperf hp hsh hidle hlate hrange => ?_, fun s init page p hpage hperf hp hsh hstate => ?_⟩
  · have hrole := answers_of_performs hpage (by decide) hperf
    obtain ⟨u, hgo, hstate, hlate0, hstroke, hcommits, hreg⟩ :=
      commitGo_waits (s := { s with sent := [], reply := none }) (dropLate := dropLate) hp hsh hrole hidle hlate hrange hbudget
    exact completes_headerWrite rfl hpage hperf hp (by decide) ((headerWrite_go hp hsh).trans hgo) (retained_of_header (by decide) hreg)
      ⟨rfl, hstate, hlate0, hstroke, hcommits⟩
  · have hrole := answers_of_performs hpage (by decide) hperf
    obtain ⟨u, hgo, hstate, hreason, hcnt, hreg⟩ :=
      commitGo_refuses (s := { s with sent := [], reply := none }) (dropLate := dropLate) hp hsh hrole hidle hlate hrange
    exact completes_headerWrite rfl hpage hperf hp (by decide) ((headerWrite_go hp hsh).trans hgo) (retained_of_header (by decide) fun a ha _ => hreg a ha)
      ⟨rfl, hstate, hreason, sameRegisters_commit hpage hreg hcnt⟩
  · have hcancel := commitCancel_pending (s := { s with sent := [], reply := none }) hstate
    have hreg : ∀ a, a ≠ 4096 * page + 0x10 → (({ s with sent := [], reply := none } : State).discardCommit page).reg a = s.reg a :=
      fun a ha => reg_discardCommit ha
    exact completes_headerWrite rfl hpage hperf hp (by decide) ((headerWrite_cancel hp hsh).trans hcancel)
      (retained_of_header (by decide) fun a ha _ => hreg a ha)
      ⟨rfl, fld_discardCommit, rfl, sameRegisters_commit hpage hreg rfl, sameMemories_of_eq rfl rfl rfl rfl⟩

end Sys2Proof.Machine
end

section
/-!
SUPPORT. The latch of one commit in a tile (R33, R37), and snapshot requests (R41).
-/

namespace Sys2Proof.Machine

/-! ### The latch of a lone commit (R33, R37) -/

theorem latchReason_congr {s t : State} (h : SameChecked s t) (hregs : t.regs = s.regs) (pages : List Nat) (page : Nat) :
    t.latchReason pages page = s.latchReason pages page := by
  have hrd : t.withShadows pages = s.withShadows pages := by
    funext a
    simp only [State.withShadows, State.reg_congr hregs]
  simp only [State.latchReason, hrd, h.commitRange, h.commitBudget]

/-- The state in which the latch that prepares stroke `m` judges the commits. -/
def State.prepare (s : State) (m : Nat) : State := { s with access.prepared := wrap32 m }

theorem latchOne_of_valid {s : State} {m : Nat} {c : Commit} (hreason : s.latchReason [c.page] c.page = 0) :
    State.latchOne m s c = State.takeCommit m s c.page := by
  simp [State.latchOne, hreason]

/-- The only commit, due alone at this latch and valid, is taken. -/
theorem latchCommits_of_due {s : State} {m : Nat} {c : Commit} (hwarn : s.boot.warning = false) (hcommits : s.access.commits = [c])
    (htarget : c.target = wrap32 m) (hgroup : c.grouped = false) (hrec : c.recorded = none) (hreason : s.latchReason [c.page] c.page = 0) :
    latchCommits s m = State.takeCommit (wrap32 m) (s.prepare m) c.page := by
  have hreason' : (s.prepare m).latchReason [c.page] c.page = 0 :=
    (latchReason_congr ⟨fun _ _ => rfl, rfl, rfl, rfl, rfl, rfl⟩ rfl _ _).trans hreason
  have hwarn' : (s.prepare m).boot.warning = false := hwarn
  have hcommits' : (s.prepare m).access.commits = [c] := hcommits
  unfold latchCommits
  rw [← State.prepare]
  generalize s.prepare m = u at *
  have hmove : [c].foldl (State.moveLate (wrap32 m)) u = u := by simp [State.moveLate, htarget]
  have hdue : [c].filter (fun x => x.target == wrap32 m) = [c] := by simp [htarget]
  have hnone : [c].filter (·.grouped) = [] := by simp [hgroup]
  have halone : [c].filter (fun x => !x.grouped) = [c] := by simp [hgroup]
  have hlatch : [c].foldl (State.latchOne (wrap32 m)) u = State.takeCommit (wrap32 m) u c.page := by
    rw [List.foldl_cons, List.foldl_nil, latchOne_of_valid hreason']
  have hjudge : ∀ v : State, [c].foldl State.judgeRecorded v = v := fun v => by simp [State.judgeRecorded, hrec]
  have hempty : State.latchGroup (wrap32 m) u [] = u := rfl
  simp only [hwarn', hcommits', hmove, hdue, hnone, halone, hempty, hlatch, hjudge, Bool.false_eq_true, if_false]

/-- The shadow words that a taken commit of a page captures. -/
def State.shadowWords (s : State) (page : Nat) : List (Nat × Word) := (shadowedAddrs page).map fun a => (a, s.reg (a + 0x800))

/-- COMMIT as a commit that is taken for stroke `m` leaves it. -/
def State.endCommit (s : State) (page m : Nat) : State :=
  ((({ s with access.commits := s.access.commits.filter (fun c => c.page != page) } : State).setFld (.hdrCommitState page) 0).setFld
    (.hdrCommitTaken page) m).setFld (.hdrCommitStroke page) m

/-- The words captured for a page are replaced. -/
def State.recapture (s : State) (page : Nat) (words : List (Nat × Word)) : State :=
  { s with access.captured := s.access.captured.filter (fun e => e.1 / 4096 != page) ++ words }

section
variable {s : State} {page m : Nat}

theorem reg_endCommit {a : Nat} (ha : a ≠ 4096 * page + 0x10) (ha' : a ≠ 4096 * page + 0x14) : (s.endCommit page m).reg a = s.reg a := by
  rw [State.endCommit, State.reg_setFld_ne _ _ _ ha', State.reg_setFld_ne _ _ _ ha, State.reg_setFld_ne _ _ _ ha]
  rfl

/-- In a tile a taken commit is captured, and nothing goes live before the catch. -/
theorem takeCommit_tile (htile : s.isTile = true) :
    State.takeCommit m s page = (s.endCommit page m).recapture page (s.shadowWords page) := by
  have hdropped : SameChecked s { s with access.commits := s.access.commits.filter (fun c => c.page != page) } :=
    ⟨fun _ _ => rfl, rfl, rfl, rfl, rfl, rfl⟩
  have hchecked : SameChecked s (s.endCommit page m) := ((hdropped.trans (sameChecked_setFld_header _ 0 (by simp))).trans
    (sameChecked_setFld_header _ m (by simp))).trans (sameChecked_setFld_header _ m (by simp))
  have hsender : (s.endCommit page m).isSender = false := by
    rw [hchecked.isSender]
    simp only [State.isTile, State.isSender, beq_iff_eq] at htile ⊢
    simp [htile]
  unfold State.endCommit at hsender
  simp only [State.takeCommit, hsender, Bool.false_eq_true, if_false, State.endCommit, State.recapture, State.shadowWords]

end

section
variable {s : State} {page m : Nat}

theorem endCommit_access : (s.endCommit page m).access = { s.access with commits := s.access.commits.filter (fun c => c.page != page) } := by
  rw [State.endCommit, State.setFld_access, State.setFld_access, State.setFld_access]

theorem fld_endCommit (hm : m < 2 ^ 32) : (s.endCommit page m).fld (.hdrCommitState page) = 0 ∧ (s.endCommit page m).fld (.hdrCommitStroke page) = m := by
  unfold State.endCommit
  constructor
  · rw [State.fld_setFld_ne _ _ _ _ (by simp), State.fld_setFld_disjoint _ _ _ _ (by simp) (by simp), State.fld_setFld_self _ _ _ (by simp),
      Nat.zero_mod]
  · rw [State.fld_setFld_self _ _ _ (by simp)]
    exact Nat.mod_eq_of_lt hm

theorem endCommit_counters : (s.endCommit page m).counters = s.counters := by
  rw [State.endCommit, State.setFld_counters, State.setFld_counters, State.setFld_counters]

theorem sameMemories_endCommit : SameMemories s (s.endCommit page m) := by
  unfold State.endCommit
  apply sameMemories_of_eq
  · rw [State.setFld_boot, State.setFld_boot, State.setFld_boot]
  · rw [State.setFld_dram, State.setFld_dram, State.setFld_dram]
  · rw [State.setFld_net, State.setFld_net, State.setFld_net]
  · rw [State.setFld_cmp, State.setFld_cmp, State.setFld_cmp]

theorem recapture_regs (words : List (Nat × Word)) : (s.recapture page words).regs = s.regs := rfl

theorem recapture_counters (words : List (Nat × Word)) : (s.recapture page words).counters = s.counters := rfl

theorem sameMemories_recapture {t : State} (words : List (Nat × Word)) (h : SameMemories t s) : SameMemories t (s.recapture page words) := by
  unfold State.recapture
  exact h

/-- What a commit that a tile takes leaves: COMMIT and COMMIT_STROKE, no commit of the page, and the shadow words captured. -/
theorem takeCommit_tile_facts (htile : s.isTile = true) (hm : m < 2 ^ 32) :
    ∃ u, State.takeCommit m s page = u ∧ u.fld (.hdrCommitState page) = 0 ∧ u.fld (.hdrCommitStroke page) = m ∧
      u.access.commits = s.access.commits.filter (fun c => c.page != page) ∧ u.access.prepared = s.access.prepared ∧
      (∀ a ∈ shadowedAddrs page, (a, s.reg (a + 0x800)) ∈ u.access.captured) ∧ u.counters = s.counters ∧
      (∀ a, a ≠ 4096 * page + 0x10 → a ≠ 4096 * page + 0x14 → u.reg a = s.reg a) ∧ SameMemories s u := by
  obtain ⟨hstate, hstroke⟩ := fld_endCommit (s := s) (page := page) hm
  have haccess := endCommit_access (s := s) (page := page) (m := m)
  have hcnt := endCommit_counters (s := s) (page := page) (m := m)
  have hreg := fun a => reg_endCommit (s := s) (page := page) (m := m) (a := a)
  have hmem := sameMemories_endCommit (s := s) (page := page) (m := m)
  refine ⟨_, takeCommit_tile htile, ?_⟩
  have hword : ∀ a ∈ shadowedAddrs page, (a, s.reg (a + 0x800)) ∈ s.shadowWords page := fun a ha =>
    List.mem_map_of_mem (f := fun a => (a, s.reg (a + 0x800))) ha
  generalize s.endCommit page m = v at *
  generalize s.shadowWords page = words at *
  have hregs := recapture_regs (s := v) (page := page) words
  exact ⟨(State.fld_congr hregs _).trans hstate, (State.fld_congr hregs _).trans hstroke, congrArg (·.commits) haccess,
    congrArg (·.prepared) haccess, fun a ha => List.mem_append_right _ (hword a ha), (recapture_counters words).trans hcnt,
    fun a ha ha' => (State.reg_congr hregs a).trans (hreg a ha ha'), sameMemories_recapture words hmem⟩

end

/-- LATCH_INSTANT of a tile outside a supply warning, with one commit that is due and valid. -/
theorem latchInstant_takes {s : State} {c : Commit} (stroke : Nat) (htile : s.isTile = true) (hruns : s.strokesRun = true)
    (hwarn : s.boot.warning = false) (hcommits : s.access.commits = [c]) (hpage : c.page < 4096) (htarget : c.target = wrap32 (s.stroke + 1))
    (hgroup : c.grouped = false) (hrec : c.recorded = none) (hreason : s.latchReason [c.page] c.page = 0) :
    Completes (.latchInstant stroke) s fun t =>
      t.fld (.hdrCommitState c.page) = 0 ∧ t.fld (.hdrCommitStroke c.page) = wrap32 (s.stroke + 1) ∧ t.access.commits = [] ∧
        t.access.prepared = wrap32 (s.stroke + 1) ∧
        (∀ a ∈ shadowedAddrs c.page, (a, s.reg (a + 0x800)) ∈ t.access.captured) ∧
        SameRegisters [pageAddr c.page 0x10, pageAddr c.page 0x14] [] s t ∧ SameMemories s t := by
  have hreason' : State.latchReason { s with sent := [], reply := none } [c.page] c.page = 0 :=
    (latchReason_congr ⟨fun _ _ => rfl, rfl, rfl, rfl, rfl, rfl⟩ rfl _ _).trans hreason
  have hlatch := latchCommits_of_due (s := { s with sent := [], reply := none }) (m := s.stroke + 1) hwarn hcommits htarget hgroup hrec hreason'
  have htile' : (State.prepare { s with sent := [], reply := none } (s.stroke + 1)).isTile = true := htile
  obtain ⟨u, htake, hstate, hstroke, hpend, hprep, hcapt, hcnt, hreg, hmem⟩ :=
    takeCommit_tile_facts (page := c.page) htile' (m := wrap32 (s.stroke + 1)) (Nat.mod_lt _ (by decide))
  have heffect : (fun s : State => if s.strokesRun then latchCommits s (if s.isTile then s.stroke + 1 else stroke) else s)
      { s with sent := [], reply := none } = u := by
    have hruns' : ({ s with sent := [], reply := none } : State).strokesRun = true := hruns
    have htile'' : ({ s with sent := [], reply := none } : State).isTile = true := htile
    simp only [hruns', htile'', if_true]
    exact hlatch.trans htake
  refine completes_of_effect rfl heffect ⟨hstate, hstroke, ?_, hprep, hcapt, ⟨fun a ha => ?_, fun a _ => State.live_congr hcnt a⟩, hmem⟩
  · refine hpend.trans ?_
    have hall : s.access.commits.filter (fun x => x.page != c.page) = [] := by simp [hcommits]
    exact hall
  · rw [pageAddr_of_lt _ hpage, pageAddr_of_lt _ hpage] at ha
    simp only [List.mem_cons, List.not_mem_nil, or_false, not_or] at ha
    exact hreg a ha.1 ha.2

/-! ### Snapshot requests (R41) -/

/-- A page waits for the boundary at which its snapshot is taken. -/
def State.requestSnap (s : State) (page : Nat) : State :=
  { s with access.snapReqs := s.access.snapReqs.filter (· != page) ++ [page] }

section
variable {s : State} {page : Nat} {p : PageInfo} {auto : Bool}

/-- The word of SNAP_REQ is a request with AUTO as given. -/
theorem headerWrite_snapReq (hp : pageInfo page = some p) (hsnap : p.snapable = true) :
    headerWrite s page 0x20 (Word.ofNat (1 + 2 * bit auto)) =
      ((s.setFld (.hdrSnapAuto page) (bit auto)).requestSnap page).setFld (.hdrSnapDone page) 0 := by
  cases auto <;> simp [headerWrite, snapWrite, hp, hsnap, bit, Word.ofNat, State.requestSnap]

theorem requestSnap_regs : (s.requestSnap page).regs = s.regs := rfl

theorem requestSnap_access : page ∈ (s.requestSnap page).access.snapReqs :=
  List.mem_append_right _ (List.mem_singleton_self page)

/-- The state after a snapshot request: SNAP, and the page that waits. -/
theorem snapReq_facts (hp : pageInfo page = some p) (hsnap : p.snapable = true) :
    ∃ u, headerWrite s page 0x20 (Word.ofNat (1 + 2 * bit auto)) = u ∧ u.fld (.hdrSnapDone page) = 0 ∧ u.fld (.hdrSnapAuto page) = bit auto ∧
      page ∈ u.access.snapReqs ∧ u.counters = s.counters ∧ (∀ a, a ≠ 4096 * page + 0x20 → u.reg a = s.reg a) ∧ SameMemories s u := by
  refine ⟨_, headerWrite_snapReq hp hsnap, ?_, ?_, ?_, ?_, fun a ha => ?_, ?_⟩
  · rw [State.fld_setFld_self _ _ _ (by simp), Nat.zero_mod]
  · rw [State.fld_setFld_disjoint _ _ _ _ (by simp) (by simp), State.fld_congr requestSnap_regs, State.fld_setFld_self _ _ _ (by simp)]
    cases auto <;> rfl
  · rw [State.setFld_access]
    exact requestSnap_access
  · rw [State.setFld_counters]
    rfl
  · rw [State.reg_setFld_ne _ _ _ ha, State.reg_congr requestSnap_regs, State.reg_setFld_ne _ _ _ ha]
  · exact sameMemories_of_eq rfl rfl rfl rfl

end

theorem snapReq_waits {s : State} {init page : Nat} (auto : Bool) {p : PageInfo} (hpage : page < 4096) (hperf : s.performs init (pageAddr page 0x20))
    (hp : pageInfo page = some p) (hsnap : p.snapable = true) :
    Completes (.snapReq init page auto) s fun t =>
      t.answeredOk ∧ t.fld (.hdrSnapDone page) = 0 ∧ t.fld (.hdrSnapAuto page) = bit auto ∧ page ∈ t.access.snapReqs ∧
        SameRegisters [pageAddr page 0x20] [] s t ∧ SameMemories s t := by
  obtain ⟨u, heffect, hdone, hauto, hmem, hcnt, hreg, hmems⟩ := snapReq_facts (s := { s with sent := [], reply := none }) (auto := auto) hp hsnap
  have hret := retained_of_header (s := { s with sent := [], reply := none }) (by decide : 0x20 < 0x40) fun a ha _ => hreg a ha
  refine completes_headerWrite rfl hpage hperf hp (by decide) heffect hret
    ⟨rfl, hdone, hauto, hmem, ⟨fun a ha => hreg a ?_, fun a _ => State.live_congr hcnt a⟩, hmems⟩
  rw [pageAddr_of_lt _ hpage] at ha
  exact List.ne_of_not_mem_cons ha

end Sys2Proof.Machine
end

section
/-!
SUPPORT. The reset of a block leaves journal retention as it stands: DRC.SRCMD.STATE is a live field (R39, R312, R313).
-/

namespace Sys2Proof.Machine

section
variable {s : State}

/-- DRAM is in journal retention (R312). -/
def State.inRetention (s : State) : Prop := s.retained = true

/-- No other component of the state has a part in it. -/
theorem State.inRetention.update (h : s.inRetention) {counters frc access boot time cue net ing cmp chain scan lamp grain cal dram pairing flt ths bist life
    upd sent reply free pending} :
    State.inRetention ⟨s.regs, counters, frc, access, boot, time, cue, net, ing, cmp, chain, scan, lamp, grain, cal, dram, pairing, flt, ths,
      bist, life, upd, sent, reply, free, pending⟩ := h

theorem State.inRetention.setReg {a : Nat} {v : Word} (h : s.inRetention) (ha : a ≠ 0x9054 := by simp <;> omega) : (s.setReg a v).inRetention := by
  have hreg : (s.setReg a v).reg 0x9054 = s.reg 0x9054 := s.reg_setReg_ne v ha.symm
  unfold State.inRetention State.retained State.fld at h ⊢
  rwa [hreg]

theorem State.inRetention.setLive {a : Nat} {v : Word} (h : s.inRetention) : (s.setLive a v).inRetention :=
  h.update

theorem State.inRetention.pair {α : Type} {x : α} (h : s.inRetention) : (s, x).1.inRetention := h

theorem State.inRetention.ite {a b : State} {c : Prop} {_ : Decidable c} (ha : a.inRetention) (hb : b.inRetention) :
    (if c then a else b).inRetention := by
  split
  · exact ha
  · exact hb

theorem State.inRetention.ite_fst {α : Type} {a b : State × α} {c : Prop} {_ : Decidable c} (ha : a.1.inRetention) (hb : b.1.inRetention) :
    (if c then a else b).1.inRetention := by
  split
  · exact ha
  · exact hb

theorem State.inRetention.foldl {α : Type} {f : State → α → State} {l : List α} (h : s.inRetention)
    (hf : ∀ {t : State} {a : α}, t.inRetention → (f t a).inRetention) : (l.foldl f s).inRetention := by
  induction l generalizing s with
  | nil => exact h
  | cons a l ih => exact ih (hf h)

theorem State.inRetention.foldl_fst {α β : Type} {f : State × β → α → State × β} {l : List α} {x : State × β} (h : x.1.inRetention)
    (hf : ∀ {y : State × β} {a : α}, y.1.inRetention → (f y a).1.inRetention) : (l.foldl f x).1.inRetention := by
  induction l generalizing x with
  | nil => exact h
  | cons a l ih => exact ih (hf h)

theorem State.inRetention.setFld {f : Fld} {v : Nat} (h : s.inRetention) (ha : f.addr ≠ 0x9054 := by simp <;> omega) : (s.setFld f v).inRetention :=
  State.inRetention.setReg h ha

theorem State.inRetention.setSfld {f : Fld} {v : Int} (h : s.inRetention) (ha : f.addr ≠ 0x9054 := by simp <;> omega) : (s.setSfld f v).inRetention :=
  State.inRetention.setFld h ha

theorem State.inRetention.setFldBit {f : Fld} {i : Nat} {b : Bool} (h : s.inRetention) (ha : f.addr ≠ 0x9054 := by simp <;> omega) : (s.setFldBit f i b).inRetention :=
  State.inRetention.setFld h ha

theorem State.inRetention.advance {f : Fld} (h : s.inRetention) (ha : f.addr ≠ 0x9054 := by simp <;> omega) : (s.advance f).inRetention :=
  State.inRetention.setFld h ha

theorem State.inRetention.bump {f : Fld} {n : Nat} (h : s.inRetention) : (s.bump f n).inRetention :=
  h.setLive

theorem State.inRetention.send {x : Sent} (h : s.inRetention) : (s.send x).inRetention :=
  h.update

theorem State.inRetention.raise {idx : Nat} (h : s.inRetention) : (s.raise idx).inRetention :=
  .ite h h.update

theorem State.inRetention.lower {idx : Nat} (h : s.inRetention) : (s.lower idx).inRetention :=
  h.update

theorem State.inRetention.level {idx : Nat} {b : Bool} (h : s.inRetention) : (s.level idx b).inRetention :=
  .ite h.raise h.lower

theorem State.inRetention.writeEvent {r : EventRec} {shut : Bool} (h : s.inRetention) : (s.writeEvent r shut).inRetention :=
  h.update

theorem State.inRetention.doNvWrite {x1 : NvWrite} (h : s.inRetention) : (s.doNvWrite x1).inRetention := by
  unfold State.doNvWrite
  split
  · exact h.update
  · exact h.writeEvent
  · exact h.update

theorem State.inRetention.nvWrite {w : NvWrite} (h : s.inRetention) : (s.nvWrite w).inRetention :=
  .ite (.ite h.update.setFld h.update.bump) h.doNvWrite

theorem State.inRetention.logEvent {kind index vmin duration : Nat} (h : s.inRetention) : (s.logEvent kind index vmin duration).inRetention :=
  h.nvWrite

theorem State.inRetention.iterate {n : Nat} {f : State → Nat → State} (h : s.inRetention) (hf : ∀ {t : State} {a : Nat}, t.inRetention → (f t a).inRetention) :
    (iterate n f s).inRetention :=
  h.foldl hf

theorem State.inRetention.iterate_lt {n : Nat} {f : State → Nat → State} (h : s.inRetention)
    (hf : ∀ {t : State} {a : Nat}, t.inRetention → a < n → (f t a).inRetention) : (Machine.iterate n f s).inRetention := by
  have hl : ∀ a ∈ List.range n, a < n := fun a => List.mem_range.mp
  unfold Machine.iterate
  generalize List.range n = l at hl
  induction l generalizing s with
  | nil => exact h
  | cons a l ih => exact ih (hf h (hl a List.mem_cons_self)) fun b hb => hl b (List.mem_cons_of_mem a hb)

theorem State.inRetention.onPort {n : Nat} {f : ChainPort → ChainPort} (h : s.inRetention) : (s.onPort n f).inRetention :=
  h.update

theorem State.inRetention.openWindow {b : Nat} (h : s.inRetention) : (s.openWindow b).inRetention :=
  h.update

theorem State.inRetention.judgeChain {n : Nat} (h : s.inRetention) : (s.judgeChain n).inRetention :=
  .ite h h.setFld.setFld.level.level

theorem State.inRetention.takeRate {rate : Int} (h : s.inRetention) : (s.takeRate rate).inRetention :=
  h.update.setSfld

theorem State.inRetention.takeTxStamp {q : Nat} (h : s.inRetention) : (takeTxStamp s q).inRetention :=
  .ite h.update (.ite h.update.advance.raise h.update)

theorem State.inRetention.bringUpPort {q : Nat} (h : s.inRetention) (hq : q < 5) : (s.bringUpPort q).inRetention :=
  h.setReg

theorem State.inRetention.count {q l i n : Nat} (h : s.inRetention) (hl : l < 16) : (s.count q l i n).inRetention :=
  .ite (.raise (h.setLive.setFldBit (by unfold netPage; split <;> simp <;> omega))) h.setLive

theorem State.inRetention.onLink {q l : Nat} {f : Sublink → Sublink} (h : s.inRetention) : (s.onLink q l f).inRetention :=
  h.update

theorem State.inRetention.emit {q l : Nat} {x : Sent} {stamp : Bool} (h : s.inRetention) (hl : l < 16) : (s.emit q l x stamp).inRetention :=
  have h₁ : State.inRetention _ := ((h.count hl).count hl).send
  .ite h₁.takeTxStamp.update h₁

theorem State.inRetention.handOver {q l : Nat} {x : Sent} {stamp : Bool} (h : s.inRetention) (hl : l < 16) : (s.handOver q l x stamp).inRetention :=
  .ite h.onLink (h.setFldBit.emit hl)

theorem State.inRetention.transmit {q l kind octets : Nat} {data : List Nat} (h : s.inRetention) (hl : l < 16) : (s.transmit q l kind octets data).inRetention :=
  h.handOver hl

theorem State.inRetention.igmpSend {q l mode group source : Nat} (h : s.inRetention) (hl : l < 16) : (s.igmpSend q l mode group source).inRetention :=
  .ite h (h.transmit hl)

theorem State.inRetention.wakeLane {n l : Nat} (h : s.inRetention) : (s.wakeLane n l).inRetention :=
  h.onPort.setFldBit.send

theorem State.inRetention.emitOn {n l : Nat} {x : Sent} (h : s.inRetention) : (s.emitOn n l x).inRetention :=
  .send (.bump (.ite h.wakeLane h))

theorem State.inRetention.sendOn {n l : Nat} {c : Cell} (h : s.inRetention) : (s.sendOn n l c).inRetention :=
  h.emitOn

theorem State.inRetention.sendLink {n l : Nat} {c : LinkCell} (h : s.inRetention) : (s.sendLink n l c).inRetention :=
  h.onPort.sendOn

theorem State.inRetention.presetTaps {n code : Nat} (h : s.inRetention) : (s.presetTaps n code).inRetention :=
  h.iterate (fun h => h.setFld.setFld.setFld)

theorem State.inRetention.showChainRate {n : Nat} (h : s.inRetention) : (s.showChainRate n).inRetention :=
  h.setFld

theorem State.inRetention.startHop {n code : Nat} (h : s.inRetention) : (s.startHop n code).inRetention :=
  .judgeChain (.showChainRate (h.presetTaps.onPort.setFld.setFld.setFld.setFld.sendLink.iterate (fun h => h.sendLink)))

theorem State.inRetention.hopDown {n : Nat} (h : s.inRetention) : (s.hopDown n).inRetention :=
  .judgeChain (.setFld (.setFld (.setFld (.onPort (.ite h.update h)))))

theorem State.inRetention.restartHop {n : Nat} (h : s.inRetention) : (s.restartHop n).inRetention :=
  have h₁ : State.inRetention _ := h.hopDown.onPort
  .ite h₁.lower.startHop h₁.lower

/-- The reset of a page keeps DRC.SRCMD.STATE, which reflects its condition (R39). -/
theorem get_srcmd_resetWordOf (w : Word) : Fld.get .drcSrcmdState (resetWordOf 0x9054 w) = Fld.get .drcSrcmdState w := by
  have hmask : liveMask 0x9054 = 28 := by decide
  have hreset : regReset 0x9054 = 0 := by decide
  have hword : resetWordOf 0x9054 w = w &&& 28 := by
    simp [resetWordOf, hmask, hreset]
  rw [hword]
  apply Nat.eq_of_testBit_eq
  intro i
  simp only [Fld.get, BitVec.toNat_and, Nat.testBit_mod_two_pow, Nat.testBit_div_two_pow, Nat.testBit_and]
  by_cases hi : i < 3
  · have hbit : Nat.testBit 28 (i + 2) = true := by interval_cases i <;> rfl
    simp [hbit]
  · simp [hi]

theorem inRetention_iff (s : State) : s.inRetention ↔ Fld.get .drcSrcmdState (sparseGet regReset s.regs 0x9054) = 2 := by
  simp [State.inRetention, State.retained, State.fld, State.reg]

/-- A map of the entries that keeps their addresses and the retention that one at DRC.SRCMD shows keeps the retention that the file shows. -/
theorem get_srcmd_filterMap (g : Nat × Word → Option (Nat × Word)) (hkey : ∀ e e', g e = some e' → e'.1 = e.1)
    (hsrcmd : ∀ w, Fld.get .drcSrcmdState w = 2 → ∃ w', g (0x9054, w) = some (0x9054, w') ∧ Fld.get .drcSrcmdState w' = 2) :
    ∀ m : List (Nat × Word), Fld.get .drcSrcmdState (sparseGet regReset m 0x9054) = 2 →
      Fld.get .drcSrcmdState (sparseGet regReset (m.filterMap g) 0x9054) = 2
  | [], h => h
  | (a, w) :: m, h => by
    by_cases ha : a = 0x9054
    · subst ha
      obtain ⟨w', hg, hw'⟩ := hsrcmd w (by simpa [sparseGet] using h)
      simpa [hg, sparseGet] using hw'
    · have hm := get_srcmd_filterMap g hkey hsrcmd m (by simpa [sparseGet, ha] using h)
      cases hg : g (a, w) with
      | none => simpa [hg] using hm
      | some e =>
        have he : e.1 ≠ 0x9054 := (hkey _ _ hg).trans_ne ha
        simpa [hg, sparseGet, he] using hm

theorem State.inRetention.resetPages {p : Nat → Bool} (h : s.inRetention) : (s.resetPages p).inRetention := by
  refine (inRetention_iff _).mpr (get_srcmd_filterMap _ (fun e e' he => ?_) (fun w hw => ?_) s.regs ((inRetention_iff s).mp h))
  · dsimp only at he
    split_ifs at he <;> cases he <;> rfl
  · dsimp only
    have hreset : Fld.get .drcSrcmdState (resetWordOf 0x9054 w) = 2 := (get_srcmd_resetWordOf w).trans hw
    have hne : resetWordOf 0x9054 w ≠ regReset 0x9054 := fun heq => absurd (heq ▸ hreset) (by decide)
    rw [if_neg hne]
    split
    · exact ⟨_, rfl, hreset⟩
    · exact ⟨_, rfl, hw⟩

theorem State.inRetention.setStep {n : Nat} (h : s.inRetention) : (s.setStep n).inRetention :=
  .ite h
    (have h₁ : State.inRetention _ := h.update.setFld.setFld.logEvent
     .ite h₁.bump h₁.bump)

theorem State.inRetention.afterThrcfg (h : s.inRetention) : (afterThrcfg s).inRetention :=
  .ite h.setStep (.ite h.setStep h)

theorem State.inRetention.setSurface {i : Nat} {d : Surface} (h : s.inRetention) : (s.setSurface i d).inRetention :=
  h.update

theorem State.inRetention.advanceRetire (h : s.inRetention) : s.advanceRetire.inRetention :=
  .ite h.setFld.raise h

theorem State.inRetention.release {p : InUse → Bool} (h : s.inRetention) : (s.release p).inRetention :=
  h.update.advanceRetire

theorem State.inRetention.setUnderlay {v b : Nat} {on : Bool} (h : s.inRetention) : (s.setUnderlay v b on).inRetention :=
  h.setFld (by split <;> simp <;> omega)

theorem State.inRetention.abortBuild {v : Nat} (h : s.inRetention) : (s.abortBuild v).inRetention := by
  unfold State.abortBuild
  split
  · exact h
  · exact h.update.setUnderlay.setFld.setFld.release

theorem State.inRetention.abortBuilds (h : s.inRetention) : s.abortBuilds.inRetention :=
  h.iterate (fun h => h.abortBuild)

theorem State.inRetention.onFlow {n : Nat} {f : FlowState → FlowState} (h : s.inRetention) : (s.onFlow n f).inRetention :=
  h.update

theorem State.inRetention.igmp {n k : Nat} {leave : Bool} (h : s.inRetention) : (s.igmp n k leave).inRetention := by
  have hl : (s.leg n k).sublink < 16 := by
    unfold State.leg
    split
    · exact (s.fld_lt (.flwLegaSublink n)).trans (by simp)
    · exact (s.fld_lt (.flwLegbSublink n)).trans (by simp)
  exact .ite h (h.igmpSend hl)

theorem State.inRetention.igmpAll {n : Nat} {leave : Bool} (h : s.inRetention) : (s.igmpAll n leave).inRetention :=
  h.foldl (fun h => h.igmp)

theorem State.inRetention.freeSurfaces {n : Nat} (h : s.inRetention) : (s.freeSurfaces n).inRetention :=
  h.iterate (fun h => h.setSurface)

theorem State.inRetention.flowStop {n : Nat} (h : s.inRetention) : (flowStop s n).inRetention :=
  .ite h.setFld.setFld h.igmpAll.freeSurfaces.setFld.setFld.setFldBit.setFld.setFld.lower.setFldBit.setFld.update.onFlow

theorem State.inRetention.resetCompose (h : s.inRetention) : s.resetCompose.inRetention :=
  .setFld (.setFld (h.abortBuilds.update.iterate (fun h => h.setUnderlay.setUnderlay)))

theorem State.inRetention.checkMap (h : s.inRetention) : s.checkMap.inRetention := by
  unfold State.checkMap
  split
  · exact h.setFld.setFld.setFld.setFld.lower
  · exact h.setFld.setFld.setFld.setFld.raise

theorem State.inRetention.showFlags (h : s.inRetention) : s.showFlags.inRetention :=
  h.setFld.setFld

theorem State.inRetention.showCurves (h : s.inRetention) : s.showCurves.inRetention := by
  unfold State.showCurves
  split
  · exact h.setFld.setFld.setFld.setFld
  · exact h.setFld.setFld.setFld.setFld

theorem State.inRetention.endBurnish {stepped : Bool} (h : s.inRetention) : (s.endBurnish stepped).inRetention :=
  have h₁ : State.inRetention _ := h.update.setFld.setFld
  .ite h₁.bump.raise h₁

theorem State.inRetention.stepBurnish (h : s.inRetention) : s.stepBurnish.inRetention :=
  .ite h.endBurnish h

theorem State.inRetention.refuseCommit {page reason : Nat} (h : s.inRetention) : (s.refuseCommit page reason).inRetention :=
  h.update.setFld.setFld

theorem State.inRetention.dropCommit {page reason : Nat} (h : s.inRetention) : (s.dropCommit page reason).inRetention :=
  .ite h.update.refuseCommit h

theorem State.inRetention.dropSwitch (h : s.inRetention) : s.dropSwitch.inRetention :=
  .ite h h.update.setFld

theorem State.inRetention.afterBlockReset {b : Nat} (h : s.inRetention) : (s.afterBlockReset b).inRetention := by
  unfold State.afterBlockReset
  split
  · exact h.update
  · exact h.update
  · exact h.resetCompose
  · exact h.iterate (fun h => .ite h.restartHop h)
  · exact h.update.iterate (fun h => .ite h.restartHop h)
  · exact h.update
  · exact h.stepBurnish.showCurves
  · exact h.checkMap
  · exact h.checkMap.showFlags
  · exact h.afterThrcfg
  · exact h

theorem State.inRetention.unitDefaults {pages : Nat → Bool} (h : s.inRetention) : (s.unitDefaults pages).inRetention := by
  unfold State.unitDefaults
  extract_lets mac s₁ s₂ s₃ port
  have h₁ : s₁.inRetention := h.foldl fun h => .ite h.setFld.setFld h
  have h₂ : s₂.inRetention := .ite (h₁.iterate_lt fun h hq => h.bringUpPort hq) h₁
  have h₃ : s₃.inRetention := .ite (h₂.setFld.setFld (by decide)) h₂
  exact h₃.foldl fun h => .ite (.setFld (.ite h.setFld h)) h

theorem State.inRetention.resetRegisters {pages : List Nat} (h : s.inRetention) : (s.resetRegisters pages).inRetention :=
  .unitDefaults (.resetPages (h.dropSwitch.update.foldl (fun h => h.dropCommit)))

theorem State.inRetention.resetBlock {b : Nat} (h : s.inRetention) : (s.resetBlock b).inRetention :=
  have h₁ : State.inRetention _ := .ite h.takeRate h
  have h₂ : State.inRetention _ := .afterBlockReset (.resetRegisters (.ite (.update (h₁.iterate (fun h => .ite h.flowStop h))) h₁))
  .ite (h₂.setFld.setFld (by decide)) h₂

theorem State.inRetention.blockReset {page : Nat} (h : s.inRetention) : (blockReset s page).inRetention := by
  unfold Machine.blockReset
  split
  · exact h
  · exact .ite h.resetRegisters h.resetBlock.openWindow

theorem State.inRetention.store {addr : Nat} {data : Word} (h : s.inRetention) (ha : addr ≠ 0x9054) : (s.store addr data).inRetention := by
  unfold State.store
  split
  · exact h
  · refine .ite ?_ ?_
    · split
      · exact .ite (h.setReg ha) h
      · exact h
    · split
      · exact h.setReg ha
      · exact h

end

/-! ### BLKRESET (R39, R358) -/

/-- A reset of a block outside FLT and MGT leaves a masking window of the block open. -/
theorem blockReset_opens {s : State} {page : Nat} {p : PageInfo} (hp : pageInfo page = some p) (hflt : p.block ≠ 13) (hmgt : p.block ≠ 15) :
    (blockReset s page).flt.windows.any (fun w => w.block == p.block) = true := by
  have hblock : (p.block == 13 || p.block == 15) = false := by simp [hflt, hmgt]
  have hopen : ∀ u : State, (u.openWindow p.block).flt.windows.any (fun w => w.block == p.block) = true := fun u => by simp [State.openWindow]
  simp only [blockReset, hp, hblock, Bool.false_eq_true, if_false, hopen]

/-- The effect of BLKRESET: the window is open, and journal retention stands as it stood. -/
theorem headerWrite_blkreset {s : State} {page : Nat} {p : PageInfo} (w : Word) (hp : pageInfo page = some p) (hflt : p.block ≠ 13)
    (hmgt : p.block ≠ 15) : ∃ u, headerWrite s page 0x0C (w ||| 1) = u ∧ (s.retained = true → u.retained = true) ∧
      u.flt.windows.any (fun x => x.block == p.block) = true := by
  have heffect : headerWrite s page 0x0C (w ||| 1) = blockReset (s.store (4096 * page + 0x0C) (w ||| 1)) page := by simp [headerWrite]
  exact ⟨_, heffect, fun h => (State.inRetention.store h (by omega)).blockReset, blockReset_opens hp hflt hmgt⟩

theorem blkreset_opens {s : State} {init page : Nat} {p : PageInfo} (hpage : page < 4096) (hperf : s.performs init (pageAddr page 0x0C))
    (hp : pageInfo page = some p) (hflt : p.block ≠ 13) (hmgt : p.block ≠ 15) :
    Completes (.blkreset init page) s fun t => t.answeredOk ∧ t.flt.windows.any (fun w => w.block == p.block) = true := by
  obtain ⟨u, heffect, hret, hopen⟩ :=
    headerWrite_blkreset (s := { s with sent := [], reply := none }) (s.reg (pageAddr page 0x0C)) hp hflt hmgt
  exact completes_headerWrite rfl hpage hperf hp (by decide) heffect hret ⟨rfl, hopen⟩

/-- Settles O15. That LATCH_INSTANT of a tile takes the commits of the stroke after STK.NOW whatever its operand is the model's reading (log
entry 37). -/
theorem latchAndSnapshotRequests : Obligations.LatchAndSnapshotRequests :=
  ⟨fun _ stroke _ htile hruns hwarn hcommits hpage htarget hgroup hrec hreason =>
      latchInstant_takes stroke htile hruns hwarn hcommits hpage htarget hgroup hrec hreason,
    fun _ _ _ auto _ hpage hperf hp hsnap => snapReq_waits auto hpage hperf hp hsnap,
    fun _ _ _ _ hpage hperf hp hflt hmgt => blkreset_opens hpage hperf hp hflt hmgt⟩

end Sys2Proof.Machine
end

section
/-!
SUPPORT. The frames that carry DAP packets on MP: what they count (R122, R128), and that the packet is taken and answered (R50, R117).
-/

namespace Sys2Proof.Machine

/-! ### What the traffic of MP leaves unchanged -/

/-- `t` is `s` but for the registers and counters of MP that frames change, what the accesses hold, the faults, and what was sent and
answered. -/
structure MpTraffic (s t : State) : Prop where
  registers : SameRegisters (linkRegs 4 0) (linkCounters 4 0) s t
  boot : t.boot = s.boot
  net : t.net = s.net
  cmp : t.cmp = s.cmp
  dram : t.dram = s.dram
  ths : t.ths = s.ths
  life : t.life = s.life

theorem MpTraffic.refl (s : State) : MpTraffic s s := ⟨⟨fun _ _ => rfl, fun _ _ => rfl⟩, rfl, rfl, rfl, rfl, rfl, rfl⟩

theorem MpTraffic.update (s : State) {access flt sent reply free pending} :
    MpTraffic s { s with access := access, flt := flt, sent := sent, reply := reply, free := free, pending := pending } :=
  ⟨⟨fun _ _ => rfl, fun _ _ => rfl⟩, rfl, rfl, rfl, rfl, rfl, rfl⟩

section
variable {s t u : State}

theorem MpTraffic.trans (h : MpTraffic s t) (h' : MpTraffic t u) : MpTraffic s u :=
  ⟨⟨fun a ha => (h'.registers.1 a ha).trans (h.registers.1 a ha), fun a ha => (h'.registers.2 a ha).trans (h.registers.2 a ha)⟩,
    h'.boot.trans h.boot, h'.net.trans h.net, h'.cmp.trans h.cmp, h'.dram.trans h.dram, h'.ths.trans h.ths, h'.life.trans h.life⟩

theorem MpTraffic.sameMemories (h : MpTraffic s t) : SameMemories s t := sameMemories_of_eq h.boot h.dram h.net h.cmp

theorem MpTraffic.fld (h : MpTraffic s t) {f : Fld} (hf : f.addr ∉ linkRegs 4 0) : t.fld f = s.fld f := by
  unfold State.fld
  rw [h.registers.1 _ hf]

theorem MpTraffic.flag (h : MpTraffic s t) {f : Fld} (hf : f.addr ∉ linkRegs 4 0) : t.flag f = s.flag f := by
  unfold State.flag
  rw [h.fld hf]

theorem MpTraffic.paused (h : MpTraffic s t) : t.paused 4 0 = s.paused 4 0 := by
  unfold State.paused State.link
  rw [h.net]

theorem MpTraffic.txTag (h : MpTraffic s t) : t.txTag 4 = s.txTag 4 := by
  unfold State.txTag
  rw [h.flag (by decide), h.fld (by decide)]

theorem MpTraffic.dapUp (h : MpTraffic s t) : t.dapUp = s.dapUp := by
  unfold State.dapUp State.powered State.lcs State.wakeOnly
  rw [h.boot, h.ths, h.life, h.fld (by decide), h.flag (by decide)]

/-- `t` is `s` but for what the counting of frames on MP changes: what the accesses hold and what was sent stay too. -/
structure MpCounts (s t : State) : Prop extends MpTraffic s t where
  access : t.access = s.access
  sent : t.sent = s.sent

theorem MpCounts.trans (h : MpCounts s t) (h' : MpCounts t u) : MpCounts s u :=
  ⟨h.toMpTraffic.trans h'.toMpTraffic, h'.access.trans h.access, h'.sent.trans h.sent⟩

end

/-! ### Counting, sending and receiving -/

section
variable (s : State)

/-- A register of the link changes. -/
theorem mpCounts_setFld {f : Fld} (v : Nat) (hf : f.addr ∈ linkRegs 4 0) : MpCounts s (s.setFld f v) :=
  ⟨⟨⟨fun _ ha => s.reg_setReg_ne _ (ne_of_mem_of_not_mem hf ha).symm, fun _ _ => rfl⟩, rfl, rfl, rfl, rfl, rfl, rfl⟩, rfl, rfl⟩

/-- A counter of the link changes. -/
theorem mpCounts_setLive {a : Nat} (v : Word) (ha : a ∈ linkCounters 4 0) : MpCounts s (s.setLive a v) :=
  ⟨⟨⟨fun _ _ => rfl, fun _ hb => s.live_setLive_ne v (ne_of_mem_of_not_mem ha hb).symm⟩, rfl, rfl, rfl, rfl, rfl, rfl⟩, rfl, rfl⟩

theorem mpCounts_raise (i : Nat) : MpCounts s (s.raise i) :=
  ⟨⟨⟨fun _ _ => by simp, fun _ _ => by simp⟩, by simp, by simp, by simp, by simp, by simp, by simp⟩, by simp, by simp⟩

theorem counter_mem {i : Nat} (hi : i < 24) : 4096 * netPage 4 + 0x200 + 0x80 * 0 + 4 * i ∈ linkCounters 4 0 :=
  List.mem_map_of_mem (f := fun i => 4096 * netPage 4 + 0x200 + 0x80 * 0 + 4 * i) (List.mem_range.mpr hi)

/-- The counter advances, and where it passes 2^31 its bit of STATHALF and the source follow. -/
theorem mpCounts_count {i : Nat} (n : Nat) (hi : i < 24) : MpCounts s (s.count 4 0 i n) := by
  simp only [State.count]
  split
  · exact (mpCounts_setLive s _ (counter_mem hi)).trans ((mpCounts_setFld _ _ (by decide)).trans (mpCounts_raise _ _))
  · exact mpCounts_setLive s _ (counter_mem hi)

end

/-- A DAP packet of the device's own leaves at once by a transmitter that pause does not stop. -/
theorem sendDap_of_not_paused {s : State} (r : DapReply) (hpause : s.paused 4 0 = false) :
    ∃ t, s.sendDap r = t ∧ MpTraffic s t ∧ t.access = s.access ∧ t.sent = s.sent ++ [.dap (s.txTag 4) r] := by
  have hleave : s.sendDap r = (s.setFldBit (.netStatusTxlpi (netPage 4)) 0 false).emit 4 0 (.dap (s.txTag 4) r) false := by
    simp [State.sendDap, State.handOver, hpause]
  have hcounts : MpCounts s (((s.setFldBit (.netStatusTxlpi (netPage 4)) 0 false).count 4 0 16 1).count 4 0 15 (Sent.dap (s.txTag 4) r).octets) :=
    (mpCounts_setFld s _ (by decide)).trans ((mpCounts_count _ 1 (by decide)).trans (mpCounts_count _ _ (by decide)))
  exact ⟨_, hleave, hcounts.toMpTraffic.trans (MpTraffic.update _), hcounts.access, congrArg (· ++ [_]) hcounts.sent⟩

/-- A sound frame of a length that goes on reaches its consumer, outside wake-pattern-only mode. -/
theorem takeFrame_mp {s : State} {octets : Nat} (f : State → State) (hwake : s.wakeOnly = false) (hmin : 64 ≤ octets) (hmax : octets ≤ 9216) :
    ∃ u, s.takeFrame 4 0 octets .unicast f = f u ∧ MpCounts s u := by
  have hcounts : MpCounts s ((s.count 4 0 1 1).count 4 0 0 octets) :=
    (mpCounts_count s 1 (by decide)).trans (mpCounts_count _ octets (by decide))
  have hgoes : ((s.count 4 0 1 1).count 4 0 0 octets).wakeOnly = false := (hcounts.flag (by decide)).trans hwake
  have hreceives : s.receives 4 0 = true := rfl
  refine ⟨_, ?_, hcounts⟩
  simp [State.takeFrame, hreceives, State.frameIn, Nat.not_lt.mpr hmin, Nat.not_lt.mpr hmax, hgoes]

theorem wakeOnly_of_dapUp {s : State} (hup : s.dapUp = true) : s.wakeOnly = false := by
  unfold State.dapUp at hup
  simp only [Bool.and_eq_true, Bool.not_eq_true'] at hup
  exact hup.2

/-- A packet that the device takes is dealt with, in a state that has counted its frame. -/
theorem dapTakes_of_takesDap {s : State} {h : DapHeader} {type n : Nat} (f : State → State) (ht : s.takesDap h type) (hn : n ≤ 128) :
    ∃ u, s.dapTakes h type n f = f u ∧ MpCounts s u := by
  obtain ⟨hup, henable, hport, hmagic, hversion, htype, -⟩ := ht
  unfold State.dapTakes
  rw [if_neg (by simp [hup, hport])]
  obtain ⟨u, htake, hcounts⟩ := takeFrame_mp (s := s) (octets := max 64 (62 + 8 * n)) _ (wakeOnly_of_dapUp hup) (by omega) (by omega)
  refine ⟨u, htake.trans ?_, hcounts⟩
  have henable' : u.flag .devDapcfgEnable = true := (hcounts.flag (by decide)).trans henable
  simp [henable', hmagic, hversion, htype]

/-! ### DAP sessions (R51 to R53) -/

theorem exec_dapOpen (h : DapHeader) (s : State) : exec (.dapOpen h) s = run s (dapOpen · h) := rfl

theorem exec_dapClose (h : DapHeader) (s : State) : exec (.dapClose h) s = run s (fun s => s.dapTakes h 5 0 (·.endSession h.session)) := rfl

theorem exec_dapSessionTimeout (i : Nat) (s : State) : exec (.dapSessionTimeout i) s = run s (·.endSession i) := rfl

theorem exec_dapRequest (h : DapHeader) (ops : List AccessOp) (queued : Nat) (s : State) :
    exec (.dapRequest h ops queued) s = run s (dapRequest · h ops queued) := rfl

section
variable {s : State} {h : DapHeader}

/-- What a command does with a DAP packet that the device takes, `g`, is done in a state that has counted its frame. -/
theorem dapTakes_at_start {type n : Nat} (g : State → State) (ht : s.takesDap h type) (hn : n ≤ 128) :
    ∃ u, State.dapTakes { s with sent := [], reply := none } h type n g = g u ∧ MpTraffic s u ∧ u.access = s.access ∧ u.sent = [] := by
  obtain ⟨u, heffect, hcounts⟩ := dapTakes_of_takesDap (s := { s with sent := [], reply := none }) g ht hn
  exact ⟨u, heffect, (MpTraffic.update s).trans hcounts.toMpTraffic, hcounts.access, hcounts.sent⟩

theorem State.takesDap.not_paused {type : Nat} (ht : s.takesDap h type) : s.paused 4 0 = false := by
  obtain ⟨-, -, -, -, -, -, hpause⟩ := ht
  exact hpause

theorem State.takesDap.up {type : Nat} (ht : s.takesDap h type) : s.dapUp = true := by
  obtain ⟨hup, -⟩ := ht
  exact hup

theorem State.takesDap.type_eq {type : Nat} (ht : s.takesDap h type) : h.type = type := by
  obtain ⟨-, -, -, -, -, htype, -⟩ := ht
  exact htype

/-- A command whose effect ends with the answer `r`, sent from the state `w`. -/
theorem completes_dapAnswer {c : Instr} {f : State → State} {w : State} {r : DapReply} (hrun : exec c s = run s f)
    (hanswer : f { s with sent := [], reply := none } = w.sendDap r) (hw : MpTraffic s w) (hsent : w.sent = []) (hpause : s.paused 4 0 = false) :
    Completes c s fun t => t.access = w.access ∧ t.sent = [.dap (s.txTag 4) r] ∧
      SameRegisters (linkRegs 4 0) (linkCounters 4 0) s t ∧ SameMemories s t := by
  obtain ⟨t, hsend, ht, haccess, hout⟩ := sendDap_of_not_paused r (hw.paused.trans hpause)
  rw [hsent, hw.txTag, List.nil_append] at hout
  have hall : MpTraffic s { t with pending := s.pending } := (hw.trans ht).trans (MpTraffic.update t)
  exact completes_of_effect hrun (hanswer.trans hsend) ⟨haccess, hout, hall.registers, hall.sameMemories⟩

/-- A session of the device, with no request executed. -/
def State.addSession (s : State) (i : Nat) : State := { s with access.sessions := s.access.sessions ++ [⟨i, none, none⟩] }

/-- An open finds the lowest free session, or none. -/
theorem dapOpen_at_start (ht : s.takesDap h 3) :
    ∃ u, dapOpen { s with sent := [], reply := none } h =
        ((List.range 8).find? (fun i => !s.access.sessions.any (fun x => x.id == i))).elim (u.sendDap (h.reply 1 100 []))
          (fun i => (u.addSession i).sendDap ({ h with session := i }.reply 0 0 [])) ∧
      MpTraffic s u ∧ u.access = s.access ∧ u.sent = [] := by
  obtain ⟨u, heffect, hu, haccess, hsent⟩ := dapTakes_at_start (n := 0) _ ht (by decide)
  refine ⟨u, heffect.trans ?_, hu, haccess, hsent⟩
  rw [haccess]
  cases (List.range 8).find? (fun i => !s.access.sessions.any (fun x => x.id == i)) with
  | none => rfl
  | some i => exact congrArg (State.sendDap · _) (by rw [State.addSession, haccess])

theorem dapOpen_free {i : Nat} (ht : s.takesDap h 3)
    (hfree : (List.range 8).find? (fun i => !s.access.sessions.any (fun x => x.id == i)) = some i) :
    Completes (.dapOpen h) s fun t => t.access.sessions = s.access.sessions ++ [⟨i, none, none⟩] ∧
      t.sent = [.dap (s.txTag 4) ⟨h.srcMac, h.srcIp, 4, i, h.seq % 65536, 0, 0, h.target, []⟩] ∧
        SameRegisters (linkRegs 4 0) (linkCounters 4 0) s t ∧ SameMemories s t := by
  obtain ⟨u, heffect, hu, haccess, hsent⟩ := dapOpen_at_start ht
  rw [hfree, Option.elim_some] at heffect
  have hreply : ({ h with session := i } : DapHeader).reply 0 0 [] = ⟨h.srcMac, h.srcIp, 4, i, h.seq % 65536, 0, 0, h.target, []⟩ := by
    simp [DapHeader.reply, ht.type_eq]
  rw [hreply] at heffect
  obtain ⟨t, hexec, hsessions, hrest⟩ := completes_dapAnswer (w := u.addSession i) (exec_dapOpen h s) heffect
    (hu.trans (MpTraffic.update u)) hsent ht.not_paused
  exact ⟨t, hexec, by rw [hsessions, ← haccess]; rfl, hrest⟩

theorem dapOpen_busy (ht : s.takesDap h 3)
    (hnone : (List.range 8).find? (fun i => !s.access.sessions.any (fun x => x.id == i)) = none) :
    Completes (.dapOpen h) s fun t => t.access = s.access ∧
      (∃ r : DapReply, t.sent = [.dap (s.txTag 4) r] ∧ r.status = 1 ∧ r.type = 4 ∧ r.seq = h.seq % 65536) ∧
        SameRegisters (linkRegs 4 0) (linkCounters 4 0) s t ∧ SameMemories s t := by
  obtain ⟨u, heffect, hu, haccess, hsent⟩ := dapOpen_at_start ht
  rw [hnone, Option.elim_none] at heffect
  obtain ⟨t, hexec, hsame, hout, hrest⟩ := completes_dapAnswer (exec_dapOpen h s) heffect hu hsent ht.not_paused
  exact ⟨t, hexec, hsame.trans haccess, ⟨_, hout, rfl, by simp [DapHeader.reply, ht.type_eq], rfl⟩, hrest⟩

theorem dapClose_ends (ht : s.takesDap h 5) :
    Completes (.dapClose h) s fun t => t.access.sessions = s.access.sessions.filter (fun x => x.id != h.session) ∧
      SameRegisters (linkRegs 4 0) (linkCounters 4 0) s t ∧ SameMemories s t := by
  obtain ⟨u, heffect, hu, haccess, -⟩ := dapTakes_at_start (n := 0) (·.endSession h.session) ht (by decide)
  have hall : MpTraffic s { u.endSession h.session with pending := s.pending } := hu.trans (MpTraffic.update u)
  refine completes_of_effect (exec_dapClose h s) heffect ⟨?_, hall.registers, hall.sameMemories⟩
  rw [← haccess]
  rfl

/-- A request that comes within the limits of R50 finds its session. -/
theorem dapRequest_at_start {ops : List AccessOp} {x : DapSession} (queued : Nat) (ht : s.takesDap h 1)
    (hx : s.access.sessions.find? (fun x => x.id == h.session) = some x) (hcount : h.count = ops.length) (hpos : 0 < h.count)
    (hmax : h.count ≤ 128) (htarget : h.target = 0) :
    ∃ u, dapRequest { s with sent := [], reply := none } h ops queued =
        (if x.lastSeq == some (h.seq % 65536) then dapRepeat u x h
          else if x.lastSeq.any (seqOlder h.seq) then u.sendDap (h.reply 10 0 [])
          else dapLocal u h queued ops) ∧
      MpTraffic s u ∧ u.access = s.access ∧ u.sent = [] := by
  obtain ⟨u, heffect, hu, haccess, hsent⟩ := dapTakes_at_start (n := ops.length) _ ht (hcount ▸ hmax)
  refine ⟨u, heffect.trans ?_, hu, haccess, hsent⟩
  have hsound : (h.count == 0 || decide (128 < h.count) || h.count != ops.length || !targetOk h.target) = false := by
    simp only [htarget, targetOk, Bool.or_eq_false_iff, beq_eq_false_iff_ne, decide_eq_false_iff_not, bne_eq_false_iff_eq]
    exact ⟨⟨⟨hpos.ne', Nat.not_lt.mpr hmax⟩, hcount⟩, rfl⟩
  have hlocal : (h.target == 0) = true := by simp [htarget]
  rw [haccess, hx]
  simp only [hsound, hlocal, Bool.false_eq_true, if_false, if_true]

/-- A fence of a session's initiator, executed by a request that takes one entry of the access queue (R53). -/
def State.fenceOf (s : State) (i queue seq : Nat) (r : DapReply) : State :=
  (({ s with access.queue := queue } : State).passFence (8 + i)).remember i seq (some r)

theorem dapLocal_fence {queued : Nat} (hup : s.dapUp = true) (hroom : min queued s.access.queue ≤ 255) :
    dapLocal s h queued [⟨3, 0x44, 0⟩] =
      (s.fenceOf h.session (min queued s.access.queue + 1) (h.seq % 65536) (h.reply 0 0 [⟨0, 0x44, 0⟩])).sendDap (h.reply 0 0 [⟨0, 0x44, 0⟩]) := by
  have hup' : (s.fenceOf h.session (min queued s.access.queue + 1) (h.seq % 65536) (h.reply 0 0 [⟨0, 0x44, 0⟩])).dapUp = true := hup
  have hfits : ¬ 256 < min queued s.access.queue + 1 := by omega
  exact (if_neg hfits).trans (if_pos hup')

theorem dapRequest_fence {queued : Nat} {x : DapSession} (ht : s.takesDap h 1)
    (hx : s.access.sessions.find? (fun x => x.id == h.session) = some x) (hfirst : x.lastSeq = none) (hcount : h.count = 1)
    (htarget : h.target = 0) (hroom : min queued s.access.queue ≤ 255) :
    Completes (.dapRequest h [⟨3, 0x44, 0⟩] queued) s fun t =>
      let r : DapReply := ⟨h.srcMac, h.srcIp, 2, h.session, h.seq % 65536, 0, 0, 0, [⟨0, 0x44, 0⟩]⟩
      t.sent = [.dap (s.txTag 4) r] ∧ t.fences (8 + h.session) = (s.fences (8 + h.session) + 1) % 65536 ∧
        t.access.sessions = s.access.sessions.map (fun y =>
          if y.id == h.session then { y with lastSeq := some (h.seq % 65536), stored := some r } else y) ∧
        SameRegisters (linkRegs 4 0) (linkCounters 4 0) s t ∧ SameMemories s t := by
  obtain ⟨u, heffect, hu, haccess, hsent⟩ := dapRequest_at_start (ops := [⟨3, 0x44, 0⟩]) queued ht hx hcount (by omega) (by omega) htarget
  rw [if_neg (by simp [hfirst]), if_neg (by simp [hfirst]), dapLocal_fence (hu.dapUp.trans ht.up) (by rwa [haccess])] at heffect
  have hreply : h.reply 0 0 [⟨0, 0x44, 0⟩] = ⟨h.srcMac, h.srcIp, 2, h.session, h.seq % 65536, 0, 0, 0, [⟨0, 0x44, 0⟩]⟩ := by
    simp [DapHeader.reply, ht.type_eq, htarget]
  rw [hreply] at heffect
  obtain ⟨t, hexec, hafter, hout, hrest⟩ := completes_dapAnswer (exec_dapRequest h _ queued s) heffect
    (hu.trans (MpTraffic.update u)) hsent ht.not_paused
  refine ⟨t, hexec, hout, ?_, ?_, hrest⟩
  · unfold State.fences
    rw [hafter, ← haccess]
    exact State.fences_passFence_self u (8 + h.session)
  · rw [hafter, ← haccess]
    rfl

theorem dapRequest_repeated {ops : List AccessOp} {queued : Nat} {x : DapSession} {r : DapReply} (ht : s.takesDap h 1)
    (hx : s.access.sessions.find? (fun x => x.id == h.session) = some x) (hseq : x.lastSeq = some (h.seq % 65536)) (hkept : x.stored = some r)
    (hcount : h.count = ops.length) (hpos : 0 < h.count) (hmax : h.count ≤ 128) (htarget : h.target = 0) :
    Completes (.dapRequest h ops queued) s fun t =>
      t.sent = [.dap (s.txTag 4) { r with mac := h.srcMac, ip := h.srcIp }] ∧ t.access = s.access ∧
        SameRegisters (linkRegs 4 0) (linkCounters 4 0) s t ∧ SameMemories s t := by
  obtain ⟨u, heffect, hu, haccess, hsent⟩ := dapRequest_at_start queued ht hx hcount hpos hmax htarget
  have hrepeat : dapRepeat u x h = u.sendDap { r with mac := h.srcMac, ip := h.srcIp } := by simp [dapRepeat, hkept]
  rw [if_pos (by simp [hseq]), hrepeat] at heffect
  obtain ⟨t, hexec, hsame, hout, hrest⟩ := completes_dapAnswer (exec_dapRequest h ops queued s) heffect hu hsent ht.not_paused
  exact ⟨t, hexec, hout, hsame.trans haccess, hrest⟩

end

/-- Settles O12: an answer leaves from a state that differs by the traffic of MP and the session alone. What an answer echoes, the
addresses that it goes to and what a refused open carries are the model's choice (log entries 25 and 106). -/
theorem dapSessionsOpenAndEnd : Obligations.DapSessionsOpenAndEnd :=
  ⟨fun _ _ _ => dapOpen_free, fun _ _ => dapOpen_busy, fun _ _ => dapClose_ends,
    fun s i => completes_of_effect (exec_dapSessionTimeout i s) rfl ⟨rfl, ⟨fun _ _ => rfl, fun _ _ => rfl⟩, sameMemories_of_eq rfl rfl rfl rfl⟩,
    fun _ _ _ _ => dapRequest_fence, fun _ _ _ _ _ _ => dapRequest_repeated⟩

end Sys2Proof.Machine
end

section
/-!
SUPPORT. The state after reset (R66 to R68), and two refutations: a warm restart that ends journal retention, and a supply warning that comes
while MP memory is under test.
-/

namespace Sys2Proof.Machine

/-! ### The state after reset (R66 to R68) -/

/-- After reset every register but RSTCAUSE reads its reset value. -/
theorem State.reg_reset {a : Nat} (ha : a ≠ 0x74) : State.reset.reg a = regReset a := by
  have hlisted : (0x74 : Nat) ≠ a := ha.symm
  simp [State.reg, State.reset, sparseGet, hlisted]

/-- Settles O5. What the state after reset holds besides its registers is the model's choice (log entries 1 and 20). -/
theorem resetIsCanonical : Obligations.ResetIsCanonical :=
  ⟨State.canonical.reset, rfl, rfl, fun _ => State.reg_reset⟩

/-! ### A warm restart in journal retention (R312, R330) -/

/-- The profile of a sender of a pair, without hold-through. -/
def pairedProfile : Profile :=
  { seq := 1, role := 1, pair := 1, flags := 0, laneRate := 0, netPorts := 0, dramPop := 15, dramOp := 0, mpCfg := 0, rateNum := 60,
    rateDen := 1, views := 1, rows := 1, subfr := 1, pwmBits := 12, feather := 0, holdLim := 0, sinkRange := 0, pmbusAdr := 0, strokeSrc := 0,
    sections := [] }

/-- A standby not ready with its DRAM in journal retention, in stroke 5, to which no record has come. -/
def retainedStandby : State :=
  let s : State := { State.reset with boot.inReset := false, boot.profile := some pairedProfile }
  (((s.setFld .devRolestatRole 1).setFld .pairStatState 4).setFld .drcSrcmdState 2).setFld .stkNow 5

theorem retainedStandby_performs : retainedStandby.performs 0 0x70 :=
  (retainedStandby.performs_iff 0 0x70).mpr (by decide)

/-- The restart takes DRAM out of retention into plain self-refresh, so the write that asked for it judges the journal's age anew. -/
theorem staleage_after_rstctlWarm {t : State} (h : exec (.rstctlWarm 0 0xA5C3) retainedStandby = .next t) :
    t.reg (Fld.addr .pairStaleageAge) = 5 := by
  obtain rfl := Host.Outcome.next.inj h
  decide +kernel

/-- Refutes O48: RSTCTL_WARM in a standby whose DRAM is in journal retention leaves the age of its journal in PAIR.STALEAGE, which is neither
among the registers that a warm restart shows nor at its reset value. -/
theorem not_warmRestartsGoOnOrEscalate : ¬ Obligations.WarmRestartsGoOnOrEscalate := by
  rintro ⟨hkeyed, -⟩
  obtain ⟨t, hexec, -, hwarm⟩ := hkeyed retainedStandby 0 retainedStandby_performs rfl (by decide)
  obtain ⟨-, -, -, -, -, -, -, -, -, -, -, hreset, -⟩ := hwarm
  have hzero : t.reg (Fld.addr .pairStaleageAge) = 0 := hreset (by decide) _ (by decide) (by decide)
  exact absurd (hzero.symm.trans (staleage_after_rstctlWarm hexec)) (by decide)

/-! ### A supply warning during the test of MP memory (R386, R393) -/

/-- A unit with a byte in MP memory whose group 22 is under test. -/
def testedMpMemory : State :=
  { State.reset with boot.inReset := false, bist.running := [22], net.mpMem := [(0, 1)] }

/-- The group is abandoned, and after the test its memory reads 0. -/
theorem mpMem_after_supplyWarning {t : State} (h : exec (.supplyWarning 0 0) testedMpMemory = .next t) : t.net.mpMem = [] := by
  obtain rfl := Host.Outcome.next.inj h
  decide

/-- Refutes O49: SUPPLY_WARNING abandons the test of MP memory, whose bytes are then lost, while the statement keeps every memory. -/
theorem not_supplyEventsFreezeAndResume : ¬ Obligations.SupplyEventsFreezeAndResume := by
  rintro ⟨hwarning, -⟩
  obtain ⟨t, hexec, -, -, -, -, -, hmem, -⟩ := hwarning testedMpMemory 0 0 rfl rfl (by decide) rfl
  obtain ⟨-, -, -, hmp, -⟩ := hmem
  have hbyte : memByte t.net.mpMem 0 = 1 := hmp 0
  rw [mpMem_after_supplyWarning hexec] at hbyte
  exact absurd hbyte (by decide)

end Sys2Proof.Machine
end

section
/-!
SUPPORT. Byte memories as they are read back, non-volatile writes (R78, R377), and the writes of DEV that act at once (R60, R64, R67, R425).
-/

namespace Sys2Proof.Machine

/-! ### Byte memories read back -/

theorem memRead_congr {m m' : List Host.Cell} {a n : Nat} (h : ∀ c, a ≤ c → c < a + n → memByte m c = memByte m' c) :
    memRead m a n = memRead m' a n := by
  induction n generalizing a with
  | zero => rfl
  | succ n ih => rw [memRead, memRead, h a (by omega) (by omega), ih fun c hc hc' => h c (by omega) (by omega)]

/-- Bytes written are read back. -/
theorem memRead_write_self (bs : List Byte) (m : List Host.Cell) (a : Nat) : memRead (memWrite m a bs) a bs.length = bs := by
  induction bs generalizing m a with
  | nil => rfl
  | cons b bs ih =>
    have hfirst : memByte (memWrite m a (b :: bs)) a = b := memByte_write_in (b :: bs) m a 0 (by simp)
    rw [List.length_cons, memRead, hfirst, memWrite, ih]

/-- A write leaves what is read outside it alone. -/
theorem memRead_write_out (bs : List Byte) (m : List Host.Cell) {a c n : Nat} (h : c + n ≤ a ∨ a + bs.length ≤ c) :
    memRead (memWrite m a bs) c n = memRead m c n :=
  memRead_congr fun x hx hx' => memByte_write_out bs m a x (by omega)

theorem leNat_leBytes (n x : Nat) : leNat (leBytes n x) = x % 256 ^ n := by
  induction n generalizing x with
  | zero => simp [leBytes, leNat, Nat.mod_one]
  | succ n ih => rw [leBytes, leNat, ih, Nat.pow_succ', Nat.mod_mul, BitVec.toNat_ofNat]

/-- A number written is read back, modulo its width. -/
theorem memNat_write_self (m : List Host.Cell) (a n x : Nat) : memNat (memWrite m a (leBytes n x)) a n = x % 256 ^ n := by
  have hread := memRead_write_self (leBytes n x) m a
  rw [leBytes_length] at hread
  rw [memNat, hread, leNat_leBytes]

theorem memNat_write_out (bs : List Byte) (m : List Host.Cell) {a c n : Nat} (h : c + n ≤ a ∨ a + bs.length ≤ c) :
    memNat (memWrite m a bs) c n = memNat m c n := by
  rw [memNat, memNat, memRead_write_out bs m h]

/-! ### Non-volatile writes (R78, R377) -/

section
variable {s : State}

/-- The event store with bytes written. -/
def State.storeBytes (s : State) (a : Nat) (bs : List Byte) : State := { s with boot.store := memWrite s.boot.store a bs }

theorem State.nvWrite_bytes (hwarn : s.boot.warning = false) (a : Nat) (bs : List Byte) : s.nvWrite (.bytes a bs) = s.storeBytes a bs := by
  simp [State.nvWrite, hwarn, State.doNvWrite, State.storeBytes]

theorem State.doNvWrite_regs (s : State) (w : NvWrite) : (s.doNvWrite w).regs = s.regs := by
  cases w <;> rfl

theorem State.doNvWrite_counters (s : State) (w : NvWrite) : (s.doNvWrite w).counters = s.counters := by
  cases w <;> rfl

/-- Of the registers a non-volatile write changes at most the count of those that wait. -/
theorem State.reg_nvWrite (s : State) (w : NvWrite) {a : Nat} (ha : a ≠ Fld.addr .thsNvqQueued) : (s.nvWrite w).reg a = s.reg a := by
  unfold State.nvWrite
  split_ifs
  · exact State.reg_setFld_ne _ _ _ ha
  · rfl
  · exact State.reg_congr (s.doNvWrite_regs w) a

/-- Of the counters it changes at most that of those lost. -/
theorem State.live_nvWrite (s : State) (w : NvWrite) {a : Nat} (ha : a ≠ Fld.addr .thsNvlost) : (s.nvWrite w).live a = s.live a := by
  unfold State.nvWrite
  split_ifs
  · rfl
  · exact State.live_bump_ne _ _ _ ha
  · exact State.live_congr (s.doNvWrite_counters w) a

end

/-! ### A write of DEV that acts at once -/

/-- A write from offset 0x40 on of DEV has the effect of its register alone. -/
theorem State.writeUnit_dev (s : State) (init : Nat) {off : Nat} (data : Word) (env : Option CalEnv) (hlo : 0x40 ≤ off) (hhi : off < 0x800) :
    s.writeUnit init off data env = (writeDev s init off data, 0) := by
  have hsrcmd : (off == 0x9054) = false := by simp; omega
  have hcfg : (off == 0x12040) = false := by simp; omega
  have hlp : (off == 0x4088) = false := by simp; omega
  have hupd : (off == 0x14048) = false := by simp; omega
  have hpage : off / 4096 = 0 := by omega
  have hoff : off % 4096 = off := by omega
  have hinfo : pageInfo 0 = some ⟨.dev, 0x0, 1, 0x1, .both, false, false, 6, 15⟩ := by decide
  have hrole : s.answers 0 = true := by simp [State.answers, hinfo]
  have hbase : s.writeBase init off data env = (writeDev s init off data, 0) := by
    simp [State.writeBase, hpage, hoff, hinfo, hrole, Nat.not_lt.mpr hlo, Nat.not_le.mpr hhi]
  simp [State.writeUnit, hsrcmd, hcfg, hlp, hupd, hbase]

/-- A command that writes a register of DEV completes with that register's effect, answered OK. -/
theorem completes_devWrite {c : Instr} {s u : State} {init off : Nat} {data : Word} {P : State → Prop}
    (hrun : exec c s = run s (State.writeAs · init off data none)) (hperf : s.performs init off) (hlo : 0x40 ≤ off) (hhi : off < 0x800)
    (heffect : ({ s with sent := [], reply := none } : State).collectedAfter
      (writeDev { s with sent := [], reply := none } init off data) = u)
    (hpost : P { u with reply := some ⟨0, 1, []⟩, pending := s.pending }) : Completes c s P := by
  obtain ⟨hpow, hgate, -, hj⟩ := (s.performs_iff init off).mp hperf
  have hwrite := State.write_of_not_journals (s := { s with sent := [], reply := none }) data none hgate hj
  have hunit := State.writeUnit_dev { s with sent := [], reply := none } init data none hlo hhi
  have hwriteAs : ({ s with sent := [], reply := none } : State).writeAs init off data none = u.answer 0 1 [] := by
    rw [State.writeAs_of_powered (s := { s with sent := [], reply := none }) _ _ _ _ hpow, hwrite, State.writeAll, hunit, heffect]
    rfl
  exact completes_of_effect hrun hwriteAs hpost

/-- The same of a write that leaves DRC.SRCMD alone. -/
theorem completes_devWrite_of_srcmd {c : Instr} {s u : State} {init off : Nat} {data : Word} {P : State → Prop}
    (hrun : exec c s = run s (State.writeAs · init off data none)) (hperf : s.performs init off) (hlo : 0x40 ≤ off) (hhi : off < 0x800)
    (heffect : writeDev { s with sent := [], reply := none } init off data = u) (hsrcmd : u.fld .drcSrcmdState = s.fld .drcSrcmdState)
    (hpost : P { u with reply := some ⟨0, 1, []⟩, pending := s.pending }) : Completes c s P :=
  completes_devWrite hrun hperf hlo hhi (heffect.symm ▸ State.collectedAfter_of_srcmd_eq hsrcmd) hpost

end Sys2Proof.Machine
end

section
/-!
SUPPORT. Profiles in the event store: PROFWDATA and the commands of PROFCMD (R57, R60, R64).
-/

namespace Sys2Proof.Machine

section
variable {s : State}

/-! ### What is stored is read from the event store alone -/

theorem State.checkSlot_congr {t : State} (h : t.boot.store = s.boot.store) (i : Nat) : t.checkSlot i = s.checkSlot i := by
  unfold State.checkSlot State.profFile
  rw [h]

theorem State.profSeq_congr {t : State} (h : t.boot.store = s.boot.store) : t.profSeq = s.profSeq := by
  funext i
  unfold State.profSeq
  simp only [State.checkSlot_congr h]

theorem State.profIn_congr {t : State} (h : t.boot.store = s.boot.store) (n : Nat) : t.profIn n = s.profIn n := by
  unfold State.profIn
  simp only [State.profSeq_congr h]

theorem State.profOlder_congr {t : State} (h : t.boot.store = s.boot.store) (n : Nat) : t.profOlder n = s.profOlder n := by
  unfold State.profOlder
  simp only [State.profIn_congr h]

theorem State.stored_congr {t : State} (h : t.boot.store = s.boot.store) (n : Nat) : t.stored n = s.stored n := by
  unfold State.stored
  simp only [State.profIn_congr h, State.checkSlot_congr h]

/-! ### PROFWDATA (R60) -/

theorem writeDev_profwdata (s : State) (init : Nat) (data : Word) : writeDev s init 0x88 data = profData s data := rfl

/-- A word of PROFWDATA outside a supply warning is stored at an address `a` and read back there. -/
theorem profData_facts {a : Nat} (data : Word) (hwarn : s.boot.warning = false)
    (ha : profSlot (s.profOlder (s.fld .devProfwaddrProf)) + 4 * s.fld .devProfwaddrWord = a) :
    ∃ u, profData s data = u ∧ memRead u.boot.store a 4 = leBytes 4 data.toNat ∧
      u.fld .devProfwaddrWord = (s.fld .devProfwaddrWord + 1) % 2048 ∧ SameRegisters [Fld.addr .devProfwaddrWord] [] s u ∧
      u.fld .drcSrcmdState = s.fld .drcSrcmdState ∧ u.boot.flash = s.boot.flash := by
  refine ⟨(s.storeBytes a (leBytes 4 data.toNat)).setFld .devProfwaddrWord (s.fld .devProfwaddrWord + 1), ?_, ?_,
    State.fld_setFld_self _ _ _ (by decide), sameRegisters_of_setReg rfl rfl, State.fld_setFld_ne _ _ _ _ (by decide), rfl⟩
  · rw [← ha, ← State.nvWrite_bytes hwarn]
    rfl
  · have hread := memRead_write_self (leBytes 4 data.toNat) s.boot.store a
    rwa [leBytes_length] at hread

/-- PROFWDATA_WRITE outside a supply warning. -/
theorem profwdataWrite_stores {init : Nat} (data : Word) (hperf : s.performs init 0x88) (hwarn : s.boot.warning = false) :
    Completes (.profwdataWrite init data) s fun t =>
      t.answeredOk ∧
      memRead t.boot.store (profSlot (s.profOlder (s.fld .devProfwaddrProf)) + 4 * s.fld .devProfwaddrWord) 4 = leBytes 4 data.toNat ∧
      t.fld .devProfwaddrWord = (s.fld .devProfwaddrWord + 1) % 2048 ∧ SameRegisters [Fld.addr .devProfwaddrWord] [] s t ∧
      ∀ a, memByte t.boot.flash a = memByte s.boot.flash a := by
  have holder := State.profOlder_congr (s := s) (t := { s with sent := [], reply := none }) rfl (s.fld .devProfwaddrProf)
  obtain ⟨u, heffect, hread, hword, hregs, hsrcmd, hflash⟩ :=
    profData_facts (s := { s with sent := [], reply := none }) data hwarn (congrArg (fun i => profSlot i + 4 * s.fld .devProfwaddrWord) holder)
  exact completes_devWrite_of_srcmd rfl hperf (by decide) (by decide) ((writeDev_profwdata _ init data).trans heffect) hsrcmd
    ⟨rfl, hread, hword, hregs, fun a => congrArg (memByte · a) hflash⟩

/-! ### PROFCMD (R60, R64) -/

/-- The word of a keyed PROFCMD gives its OP, its profile and the key. -/
theorem profcmd_word : ∀ n < 4, ∀ op < 4, bits (keyed (n % 4 + 4 * op) 0xA5C3) 2 2 = op ∧ bits (keyed (n % 4 + 4 * op) 0xA5C3) 0 2 = n ∧
    bits (keyed (n % 4 + 4 * op) 0xA5C3) 16 16 = 0xA5C3 := by decide

theorem writeDev_profcmd_fields (s : State) (init : Nat) (data : Word) :
    writeDev s init 0x78 data = profCommand s (bits data 2 2) (bits data 0 2) (bits data 16 16) := rfl

/-- PROFCMD acts with the key on the profile that its word names. -/
theorem writeDev_profcmd (s : State) (init op : Nat) {n : Nat} (hn : n < 4) (hop : op < 4) :
    writeDev s init 0x78 (keyed (n % 4 + 4 * op) 0xA5C3) = profCommand s op n 0xA5C3 := by
  obtain ⟨hopWord, hprof, hkey⟩ := profcmd_word n hn op hop
  rw [writeDev_profcmd_fields, hopWord, hprof, hkey]

/-- The SEQ that a commit of profile `n` gives the written slot (R60). -/
def State.nextProfSeq (s : State) (n : Nat) : Nat :=
  match (s.profIn n).bind s.profSeq with
  | some x => if wrap32 (x + 1) = 0 then 1 else wrap32 (x + 1)
  | none => 1

theorem State.nextProfSeq_congr {t : State} (h : t.boot.store = s.boot.store) (n : Nat) : t.nextProfSeq n = s.nextProfSeq n := by
  unfold State.nextProfSeq
  simp only [State.profIn_congr h, State.profSeq_congr h]

theorem State.nextProfSeq_lt (s : State) (n : Nat) : s.nextProfSeq n < 2 ^ 32 := by
  unfold State.nextProfSeq
  split
  · split
    · decide
    · exact Nat.mod_lt _ (by decide)
  · decide

/-- A commit of a slot that fails its checks shows why. -/
theorem profCommit_failed {n i r : Nat} (hslot : s.profOlder n = i) (hcheck : s.checkSlot i = .inl r) :
    ∃ u, profCommit s n = u ∧ u.fld .devProfstatResult = r % 8 ∧ SameMemories s u ∧ u.fld .drcSrcmdState = s.fld .drcSrcmdState := by
  refine ⟨s.setFld .devProfstatResult r, ?_, State.fld_setFld_self _ _ _ (by decide), sameMemories_of_eq rfl rfl rfl rfl,
    State.fld_setFld_ne _ _ _ _ (by decide)⟩
  unfold profCommit
  simp only [hslot, hcheck]

/-- A commit of a slot that passes them stores the new SEQ in it. -/
theorem profCommit_passed {n i : Nat} {p : Profile} (hslot : s.profOlder n = i) (hcheck : s.checkSlot i = .inr p) :
    ∃ u, profCommit s n = u ∧ u.fld .devProfstatResult = 2 ∧ u.fld .drcSrcmdState = s.fld .drcSrcmdState ∧
      (s.boot.warning = false → memNat u.boot.store (profSlot i + 8) 4 = s.nextProfSeq n) := by
  have hsrcmd : Fld.addr .drcSrcmdState ≠ Fld.addr .thsNvqQueued := by decide
  refine ⟨(s.nvWrite (.bytes (profSlot i + 8) (leBytes 4 (s.nextProfSeq n)))).setFld .devProfstatResult 2, ?_,
    State.fld_setFld_self _ _ _ (by decide), ?_, fun hwarn => ?_⟩
  · unfold profCommit
    simp only [hslot, hcheck]
    rfl
  · rw [State.fld_setFld_ne _ _ _ _ (by decide), State.fld, State.reg_nvWrite _ _ hsrcmd, State.fld]
  · rw [State.nvWrite_bytes hwarn]
    exact (memNat_write_self _ _ 4 _).trans (Nat.mod_eq_of_lt (s.nextProfSeq_lt n))

/-- PROFILE_COMMIT_SLOT of a slot that fails its checks. -/
theorem profileCommitSlot_failed {init n r : Nat} (hn : n < 4) (hperf : s.performs init 0x78)
    (hcheck : s.checkSlot (s.profOlder n) = .inl r) :
    Completes (.profileCommitSlot init n 0xA5C3) s fun t => t.answeredOk ∧ t.fld .devProfstatResult = r % 8 ∧ SameMemories s t := by
  have hslot := State.profOlder_congr (s := s) (t := { s with sent := [], reply := none }) rfl n
  have hsame := State.checkSlot_congr (s := s) (t := { s with sent := [], reply := none }) rfl (s.profOlder n)
  obtain ⟨u, heffect, hresult, hmem, hsrcmd⟩ := profCommit_failed hslot (hsame.trans hcheck)
  exact completes_devWrite_of_srcmd rfl hperf (by decide) (by decide) ((writeDev_profcmd _ init 2 hn (by decide)).trans heffect) hsrcmd
    ⟨rfl, hresult, hmem⟩

/-- PROFILE_COMMIT_SLOT of a slot that passes them. -/
theorem profileCommitSlot_passed {init n : Nat} {p : Profile} (hn : n < 4) (hperf : s.performs init 0x78)
    (hcheck : s.checkSlot (s.profOlder n) = .inr p) :
    Completes (.profileCommitSlot init n 0xA5C3) s fun t => t.answeredOk ∧ t.fld .devProfstatResult = 2 ∧
      (s.boot.warning = false → memNat t.boot.store (profSlot (s.profOlder n) + 8) 4 = s.nextProfSeq n) := by
  have hslot := State.profOlder_congr (s := s) (t := { s with sent := [], reply := none }) rfl n
  have hsame := State.checkSlot_congr (s := s) (t := { s with sent := [], reply := none }) rfl (s.profOlder n)
  have hnext := State.nextProfSeq_congr (s := s) (t := { s with sent := [], reply := none }) rfl n
  obtain ⟨u, heffect, hresult, hsrcmd, hseq⟩ := profCommit_passed hslot (hsame.trans hcheck)
  exact completes_devWrite_of_srcmd rfl hperf (by decide) (by decide) ((writeDev_profcmd _ init 2 hn (by decide)).trans heffect) hsrcmd
    ⟨rfl, hresult, fun hwarn => (hseq hwarn).trans hnext⟩

/-- A slot whose MAGIC is 0 fails its first check. -/
theorem State.checkSlot_of_magic_zero {i : Nat} (h : memNat s.boot.store (profSlot i) 4 = 0) : s.checkSlot i = .inl 3 := by
  have hmagic : (s.profFile i).num 0 4 = 0 := h
  have hhead : profHeadOk (s.profFile i) = false := by simp [profHeadOk, hmagic]
  simp [State.checkSlot, hhead]

/-- A profile none of whose slots has its MAGIC is not stored. -/
theorem State.stored_of_magic_zero {n : Nat} (hfirst : memNat s.boot.store (profSlot (2 * n)) 4 = 0)
    (hsecond : memNat s.boot.store (profSlot (2 * n + 1)) 4 = 0) : s.stored n = none := by
  have hin : s.profIn n = none := by
    simp [State.profIn, State.profSeq, State.checkSlot_of_magic_zero hfirst, State.checkSlot_of_magic_zero hsecond, newerSlot]
  simp [State.stored, hin]

/-- The event store with the MAGIC of both slots of profile `n` cleared (R57). -/
def clearSlots (m : List Host.Cell) (n : Nat) : List Host.Cell :=
  memWrite (memWrite m (profSlot (2 * n)) (leBytes 4 0)) (profSlot (2 * n + 1)) (leBytes 4 0)

theorem stored_of_clearSlots {m : List Host.Cell} {n : Nat} (h : s.boot.store = clearSlots m n) : s.stored n = none := by
  refine State.stored_of_magic_zero ?_ ?_
  · rw [h, clearSlots, memNat_write_out _ _ (by simp [profSlot]; omega), memNat_write_self]
    rfl
  · rw [h, clearSlots, memNat_write_self]
    rfl

/-- An invalidation outside a supply warning clears both slots. -/
theorem profInvalidate_facts (n : Nat) (hwarn : s.boot.warning = false) :
    ∃ u, profInvalidate s n = u ∧ u.stored n = none ∧ u.fld .devProfstatResult = 2 ∧ SameRegisters [Fld.addr .devProfstatResult] [] s u ∧
      u.fld .drcSrcmdState = s.fld .drcSrcmdState := by
  have hwarn' : (s.storeBytes (profSlot (2 * n)) (leBytes 4 0)).boot.warning = false := hwarn
  refine ⟨((s.storeBytes (profSlot (2 * n)) (leBytes 4 0)).storeBytes (profSlot (2 * n + 1)) (leBytes 4 0)).setFld .devProfstatResult 2, ?_,
    stored_of_clearSlots (m := s.boot.store) rfl, State.fld_setFld_self _ _ _ (by decide), sameRegisters_of_setReg rfl rfl,
    State.fld_setFld_ne _ _ _ _ (by decide)⟩
  rw [← State.nvWrite_bytes hwarn', ← State.nvWrite_bytes hwarn]
  rfl

/-- PROFILE_INVALIDATE outside a supply warning. -/
theorem profileInvalidate_clears {init n : Nat} (hn : n < 4) (hperf : s.performs init 0x78) (hwarn : s.boot.warning = false) :
    Completes (.profileInvalidate init n 0xA5C3) s fun t =>
      t.answeredOk ∧ t.stored n = none ∧ t.fld .devProfstatResult = 2 ∧ SameRegisters [Fld.addr .devProfstatResult] [] s t := by
  obtain ⟨u, heffect, hstored, hresult, hregs, hsrcmd⟩ := profInvalidate_facts (s := { s with sent := [], reply := none }) n hwarn
  exact completes_devWrite_of_srcmd rfl hperf (by decide) (by decide) ((writeDev_profcmd _ init 3 hn (by decide)).trans heffect) hsrcmd
    ⟨rfl, (State.stored_congr rfl n).trans hstored, hresult, hregs⟩

/-- A switch to a stored profile is armed when its boundary lies ahead, no full reset is needed, and the unit is not an active sender (R64). -/
theorem profSwitch_facts {n : Nat} {p q : Profile} (hp : s.stored n = some p) (hq : s.boot.profile = some q)
    (hahead : s.boundaryAhead (s.fld .devProfstroke) = true) (hj : s.journals = false) (hreset : p.needsReset q = false) :
    ∃ u, profSwitch s n = u ∧ u.boot.switch = some (n, s.fld .devProfstroke) ∧ u.fld .devProfstatResult = 1 ∧
      SameRegisters [Fld.addr .devProfstatResult] [] s u ∧ SameMemories s u ∧ u.fld .drcSrcmdState = s.fld .drcSrcmdState := by
  unfold State.journals at hj
  refine ⟨({ s with boot.switch := some (n, s.fld .devProfstroke) } : State).setFld .devProfstatResult 1, ?_, rfl,
    State.fld_setFld_self _ _ _ (by decide), sameRegisters_of_setReg rfl rfl, ⟨fun _ => rfl, fun _ => rfl, fun _ => rfl, fun _ => rfl,
      fun _ => rfl, fun _ => rfl, fun _ => rfl⟩, State.fld_setFld_ne _ _ _ _ (by decide)⟩
  unfold profSwitch
  rw [hp, hq]
  simp only [hahead, hj, hreset, Bool.not_true, Bool.false_eq_true, if_false]

/-- PROFILE_SWITCH_REQUEST that is accepted. -/
theorem profileSwitchRequest_arms {init n : Nat} {p q : Profile} (hn : n < 4) (hperf : s.performs init 0x78) (hp : s.stored n = some p)
    (hq : s.boot.profile = some q) (hahead : s.boundaryAhead (s.fld .devProfstroke) = true) (hreset : p.needsReset q = false) :
    Completes (.profileSwitchRequest init n 0xA5C3) s fun t =>
      t.answeredOk ∧ t.boot.switch = some (n, s.fld .devProfstroke) ∧ t.fld .devProfstatResult = 1 ∧
        SameRegisters [Fld.addr .devProfstatResult] [] s t ∧ SameMemories s t := by
  obtain ⟨-, -, -, hj⟩ := (s.performs_iff init 0x78).mp hperf
  have hsame := State.stored_congr (s := s) (t := { s with sent := [], reply := none }) rfl n
  obtain ⟨u, heffect, hswitch, hresult, hregs, hmem, hsrcmd⟩ := profSwitch_facts (hsame.trans hp) hq hahead hj hreset
  exact completes_devWrite_of_srcmd rfl hperf (by decide) (by decide) ((writeDev_profcmd _ init 1 hn (by decide)).trans heffect) hsrcmd
    ⟨rfl, hswitch, hresult, hregs, hmem⟩

end

end Sys2Proof.Machine
end

section
/-!
SUPPORT. What no block's work changes: the profile in force, the switch that is armed, and ROLESTAT, which shows the role and the profile's number
(R62 to R65). Each lemma `State.holds.f` follows the text of `f`.
-/

namespace Sys2Proof.Machine

/-- What the unit holds of its profile: the one in force, the switch that is armed, and the word of ROLESTAT. -/
structure ProfileHeld where
  profile : Option Profile
  switch : Option (Nat × Nat)
  rolestat : Word

/-- The unit holds these. -/
structure State.holds (s : State) (held : ProfileHeld) : Prop where
  profile : s.boot.profile = held.profile
  switch : s.boot.switch = held.switch
  rolestat : s.reg 0x60 = held.rolestat

variable {s : State} {held : ProfileHeld}

/-! ### The state's own operations -/

/-- The register of ROLESTAT is not the one at another offset of a page. -/
theorem page_ne {p k : Nat} (hk : (k % 4096 == 0x60) = false) : (4096 * p + k == 0x60) = false := by
  simp only [beq_eq_false_iff_ne] at *
  omega

/-- No component of the state but BOOT and the registers has a part in it. -/
theorem State.holds.update (h : s.holds held) {counters frc access time cue net ing cmp chain scan lamp grain cal dram pairing flt ths bist life
    upd sent reply free pending} :
    State.holds ⟨s.regs, counters, frc, access, s.boot, time, cue, net, ing, cmp, chain, scan, lamp, grain, cal, dram, pairing, flt, ths,
      bist, life, upd, sent, reply, free, pending⟩ held :=
  ⟨h.profile, h.switch, h.rolestat⟩

/-- Of BOOT only the profile and the switch have. -/
theorem State.holds.congr {t : State} (h : s.holds held) (hp : t.boot.profile = s.boot.profile) (hs : t.boot.switch = s.boot.switch)
    (hr : t.regs = s.regs) : t.holds held :=
  ⟨hp.trans h.profile, hs.trans h.switch, (State.reg_congr hr 0x60).trans h.rolestat⟩

theorem State.holds.setReg {a : Nat} {v : Word} (h : s.holds held) (ha : (a == 0x60) = false) : (s.setReg a v).holds held :=
  ⟨h.profile, h.switch, (s.reg_setReg_ne v (beq_eq_false_iff_ne.mp ha).symm).trans h.rolestat⟩

theorem State.holds.setLive {a : Nat} {v : Word} (h : s.holds held) : (s.setLive a v).holds held :=
  h.update

theorem State.holds.pair {α : Type} {x : α} (h : s.holds held) : (s, x).1.holds held := h

theorem State.holds.ite {a b : State} {c : Prop} {_ : Decidable c} (ha : a.holds held) (hb : b.holds held) :
    (if c then a else b).holds held := by
  split
  · exact ha
  · exact hb

theorem State.holds.ite_fst {α : Type} {a b : State × α} {c : Prop} {_ : Decidable c} (ha : a.1.holds held) (hb : b.1.holds held) :
    (if c then a else b).1.holds held := by
  split
  · exact ha
  · exact hb

theorem State.holds.foldl {α : Type} {f : State → α → State} {l : List α} (h : s.holds held)
    (hf : ∀ {t : State} {a : α}, t.holds held → (f t a).holds held) : (l.foldl f s).holds held := by
  induction l generalizing s with
  | nil => exact h
  | cons a l ih => exact ih (hf h)

theorem State.holds.setFld {f : Fld} {v : Nat} (h : s.holds held) (ha : (f.addr == 0x60) = false) : (s.setFld f v).holds held :=
  h.setReg ha

theorem State.holds.setSfld {f : Fld} {v : Int} (h : s.holds held) (ha : (f.addr == 0x60) = false) : (s.setSfld f v).holds held :=
  h.setFld ha

theorem State.holds.setFldBit {f : Fld} {i : Nat} {b : Bool} (h : s.holds held) (ha : (f.addr == 0x60) = false) : (s.setFldBit f i b).holds held :=
  h.setFld ha

theorem State.holds.advance {f : Fld} (h : s.holds held) (ha : (f.addr == 0x60) = false) : (s.advance f).holds held :=
  h.setFld ha

theorem State.holds.bump {f : Fld} {n : Nat} (h : s.holds held) : (s.bump f n).holds held :=
  h.setLive

theorem State.holds.send {x : Sent} (h : s.holds held) : (s.send x).holds held :=
  h.update

theorem State.holds.raise {idx : Nat} (h : s.holds held) : (s.raise idx).holds held :=
  .ite h h.update

theorem State.holds.lower {idx : Nat} (h : s.holds held) : (s.lower idx).holds held :=
  h.update

theorem State.holds.level {idx : Nat} {b : Bool} (h : s.holds held) : (s.level idx b).holds held :=
  .ite h.raise h.lower

theorem State.holds.writeEvent {r : EventRec} {shut : Bool} (h : s.holds held) : (s.writeEvent r shut).holds held :=
  h.congr rfl rfl rfl

theorem State.holds.doNvWrite {x1 : NvWrite} (h : s.holds held) : (s.doNvWrite x1).holds held := by
  unfold State.doNvWrite
  split
  · exact h.congr rfl rfl rfl
  · exact h.writeEvent
  · exact h.congr rfl rfl rfl

theorem State.holds.nvWrite {w : NvWrite} (h : s.holds held) : (s.nvWrite w).holds held :=
  .ite (.ite (.setFld (.congr h rfl rfl rfl) rfl) (.bump (.congr h rfl rfl rfl))) h.doNvWrite

theorem State.holds.iterate {n : Nat} {f : State → Nat → State} (h : s.holds held)
    (hf : ∀ {t : State} {a : Nat}, t.holds held → (f t a).holds held) :
    (iterate n f s).holds held :=
  h.foldl hf

theorem State.holds.onPort {n : Nat} {f : ChainPort → ChainPort} (h : s.holds held) : (s.onPort n f).holds held :=
  h.update

theorem State.holds.judgeChain {n : Nat} (h : s.holds held) : (s.judgeChain n).holds held :=
  .ite h (h.setFld (page_ne rfl) |>.setFld (page_ne rfl) |>.level.level)

theorem State.holds.takeTxStamp {q : Nat} (h : s.holds held) : (takeTxStamp s q).holds held :=
  .ite h.update (.ite (h.update.advance (by simp; omega) |>.raise) h.update)

theorem State.holds.showSchedule {l : List ViewSched} (h : s.holds held) : (s.showSchedule l).holds held :=
  h.iterate (fun h => h.setFld (by simp; omega) |>.setFld (by simp; omega))

theorem State.holds.bringUpPort {q : Nat} (h : s.holds held) : (s.bringUpPort q).holds held :=
  h.setReg (by simp; omega)

theorem State.holds.count {q l i n : Nat} (h : s.holds held) : (s.count q l i n).holds held :=
  .ite (h.setLive.setFldBit (by simp; omega) |>.raise) h.setLive

theorem State.holds.onLink {q l : Nat} {f : Sublink → Sublink} (h : s.holds held) : (s.onLink q l f).holds held :=
  h.update

theorem State.holds.emit {q l : Nat} {x : Sent} {stamp : Bool} (h : s.holds held) : (s.emit q l x stamp).holds held :=
  have h₁ : State.holds _ held := h.count.count.send
  .ite h₁.takeTxStamp.update h₁

theorem State.holds.handOver {q l : Nat} {x : Sent} {stamp : Bool} (h : s.holds held) : (s.handOver q l x stamp).holds held :=
  .ite h.onLink (h.setFldBit (page_ne rfl) |>.emit)

theorem State.holds.transmit {q l kind octets : Nat} {data : List Nat} (h : s.holds held) : (s.transmit q l kind octets data).holds held :=
  h.handOver

theorem State.holds.judgeLpi {q : Nat} (h : s.holds held) : (s.judgeLpi q).holds held :=
  .ite h (h.setFld (page_ne rfl))

theorem State.holds.igmpSend {q l mode group source : Nat} (h : s.holds held) : (s.igmpSend q l mode group source).holds held :=
  .ite h h.transmit

theorem State.holds.judgePtpJoin (h : s.holds held) : s.judgePtpJoin.holds held := by
  unfold State.judgePtpJoin
  extract_lets want s₁ _ s₂
  have h₁ : s₁.holds held := by
    unfold s₁
    split
    · exact .ite h.igmpSend h
    · exact h
  have h₂ : s₂.holds held := h₁.update
  refine .ite h ?_
  clear_value want s₂
  split
  · exact h₂.igmpSend
  · exact h₂

theorem State.holds.judgeLink {q : Nat} (h : s.holds held) : (s.judgeLink q).holds held :=
  h.level

theorem State.holds.linkChange {q l : Nat} {up : Bool} (h : s.holds held) : (linkChange s q l up).holds held :=
  .ite h
    (have h₁ : State.holds _ held := .ite (h.setFldBit (page_ne rfl) |>.setFld (page_ne rfl)) (h.setFldBit (page_ne rfl))
     .judgePtpJoin (.judgeLink (.ite h₁ (h₁.onLink.setFldBit (page_ne rfl) |>.setFldBit (page_ne rfl) |>.setFldBit (page_ne rfl)))))

theorem State.holds.wakeLane {n l : Nat} (h : s.holds held) : (s.wakeLane n l).holds held :=
  h.onPort.setFldBit (page_ne rfl) |>.send

theorem State.holds.emitOn {n l : Nat} {x : Sent} (h : s.holds held) : (s.emitOn n l x).holds held :=
  .send (.bump (.ite h.wakeLane h))

theorem State.holds.sendOn {n l : Nat} {c : Cell} (h : s.holds held) : (s.sendOn n l c).holds held :=
  h.emitOn

theorem State.holds.sendLink {n l : Nat} {c : LinkCell} (h : s.holds held) : (s.sendLink n l c).holds held :=
  h.onPort.sendOn

theorem State.holds.presetTaps {n code : Nat} (h : s.holds held) : (s.presetTaps n code).holds held :=
  h.iterate (fun h => h.setFld (by simp; omega) |>.setFld (by simp; omega) |>.setFld (by simp; omega))

theorem State.holds.showChainRate {n : Nat} (h : s.holds held) : (s.showChainRate n).holds held :=
  h.setFld (page_ne rfl)

theorem State.holds.startHop {n code : Nat} (h : s.holds held) : (s.startHop n code).holds held :=
  .judgeChain (.showChainRate (h.presetTaps.onPort.setFld (page_ne rfl) |>.setFld (page_ne rfl)
    |>.setFld (page_ne rfl) |>.setFld (page_ne rfl) |>.sendLink.iterate (fun h => h.sendLink)))

theorem State.holds.hopDown {n : Nat} (h : s.holds held) : (s.hopDown n).holds held :=
  .judgeChain (.setFld (.setFld (.setFld (.onPort (.ite h.update h)) (page_ne rfl)) (page_ne rfl)) (page_ne rfl))

theorem State.holds.restartHop {n : Nat} (h : s.holds held) : (s.restartHop n).holds held :=
  have h₁ : State.holds _ held := h.hopDown.onPort
  .ite h₁.lower.startHop h₁.lower

theorem State.holds.setSurface {i : Nat} {d : Surface} (h : s.holds held) : (s.setSurface i d).holds held :=
  h.update

theorem State.holds.advanceRetire (h : s.holds held) : s.advanceRetire.holds held :=
  .ite (h.setFld rfl |>.raise) h

theorem State.holds.release {p : InUse → Bool} (h : s.holds held) : (s.release p).holds held :=
  h.update.advanceRetire

theorem State.holds.abandonStrokes (h : s.holds held) : s.abandonStrokes.holds held :=
  h.update.setFld rfl |>.release

theorem State.holds.onFlow {n : Nat} {f : FlowState → FlowState} (h : s.holds held) : (s.onFlow n f).holds held :=
  h.update

theorem State.holds.igmp {n k : Nat} {leave : Bool} (h : s.holds held) : (s.igmp n k leave).holds held :=
  .ite h h.igmpSend

theorem State.holds.igmpAll {n : Nat} {leave : Bool} (h : s.holds held) : (s.igmpAll n leave).holds held :=
  h.foldl (fun h => h.igmp)

theorem State.holds.ownSurfaces {n : Nat} (h : s.holds held) : (s.ownSurfaces n).holds held :=
  h.iterate (fun h => h.setSurface)

theorem State.holds.freeSurfaces {n : Nat} (h : s.holds held) : (s.freeSurfaces n).holds held :=
  h.iterate (fun h => h.setSurface)

theorem State.holds.dropBuf {n b : Nat} (h : s.holds held) : (s.dropBuf n b).holds held := by
  unfold State.dropBuf
  split
  · exact .ite h.bump h
  · exact h

theorem State.holds.flowStart {n : Nat} (h : s.holds held) : (flowStart s n).holds held :=
  .ite h (.ite (h.setFld rfl |>.setFld rfl) 
    (.igmpAll (.ownSurfaces (.onFlow (h.setFld (page_ne rfl) |>.setFld rfl |>.setFld rfl |>.iterate (fun h => h.dropBuf))))))

theorem State.holds.flowStop {n : Nat} (h : s.holds held) : (flowStop s n).holds held :=
  .ite (h.setFld rfl |>.setFld rfl)
    (h.igmpAll.freeSurfaces.setFld (page_ne rfl) |>.setFld rfl |>.setFldBit rfl |>.setFld rfl |>.setFld rfl
      |>.lower.setFldBit rfl |>.setFld rfl |>.update.onFlow)

theorem State.holds.monDone (h : s.holds held) : s.monDone.holds held := by
  unfold State.monDone
  split
  · exact h
  · exact h.update.bump.release

theorem State.holds.monStop (h : s.holds held) : (monStop s).holds held :=
  h.monDone.setFld rfl |>.setFld rfl

theorem State.holds.checkMap (h : s.holds held) : s.checkMap.holds held := by
  unfold State.checkMap
  split
  · exact h.setFld rfl |>.setFld rfl |>.setFld rfl |>.setFld rfl |>.lower
  · exact h.setFld rfl |>.setFld rfl |>.setFld rfl |>.setFld rfl |>.raise

theorem State.holds.idleRows (h : s.holds held) : s.idleRows.holds held :=
  h.update

theorem State.holds.endBurnish {stepped : Bool} (h : s.holds held) : (s.endBurnish stepped).holds held :=
  have h₁ : State.holds _ held := h.update.setFld rfl |>.setFld rfl
  .ite h₁.bump.raise h₁

theorem State.holds.stepBurnish (h : s.holds held) : s.stepBurnish.holds held :=
  .ite h.endBurnish h

theorem State.holds.showSlots (h : s.holds held) : s.showSlots.holds held := by
  unfold State.showSlots
  split
  · exact h
  · exact h.setFld rfl |>.setFld rfl |>.setFld rfl |>.setFld rfl |>.setSfld rfl

theorem State.holds.packSchedule (h : s.holds held) : s.packSchedule.holds held := by
  unfold State.packSchedule
  split
  · exact h
  · exact .ite (h.update.setFld rfl |>.showSchedule) (h.update.setFld rfl |>.raise)

theorem State.holds.refuseCommit {page reason : Nat} (h : s.holds held) : (s.refuseCommit page reason).holds held :=
  h.update.setFld (page_ne rfl) |>.setFld (page_ne rfl)

theorem State.holds.commitGo {page : Nat} {atStroke dropLate : Bool} (h : s.holds held) : (commitGo s page atStroke dropLate).holds held := by
  unfold Machine.commitGo
  split
  · exact h
  · exact .ite h
        (have h₁ : State.holds _ held := h.setFld (page_ne rfl) |>.setFld (page_ne rfl)
         .ite h₁.refuseCommit (.ite h₁.refuseCommit (.ite h₁.refuseCommit (h₁.setFld (page_ne rfl) |>.setFld (page_ne rfl)
           |>.setFld (page_ne rfl) |>.update))))

theorem State.holds.computeTaps (h : s.holds held) : s.computeTaps.holds held :=
  .ite h h.update

theorem State.holds.computeCal (h : s.holds held) : s.computeCal.holds held :=
  .ite h (.iterate (h.update.computeTaps.iterate (fun h => h.setFld rfl |>.setSfld rfl)) (fun h => h.commitGo))

theorem State.holds.writeRepairs {mask : Nat} {es : List Repair} (h : s.holds held) : (s.writeRepairs mask es).holds held :=
  h.nvWrite

theorem State.holds.groupFails {g : Nat} (h : s.holds held) : (s.groupFails g).holds held :=
  .ite (.raise (h.congr rfl rfl rfl)) (.writeRepairs (.raise (h.congr rfl rfl rfl)))

theorem State.holds.groupPasses {g : Nat} (h : s.holds held) : (s.groupPasses g).holds held :=
  .ite (.writeRepairs (.ite (h.congr rfl rfl rfl) h.update)) (.ite (h.congr rfl rfl rfl) h.update)

theorem State.holds.applyRepairs {es : List Repair} (h : s.holds held) : (s.applyRepairs es).holds held :=
  .ite h.update.writeRepairs h.update

theorem State.holds.judgeTest {g : Nat} {faults : List BistFault} {retestOk : Bool} (h : s.holds held) :
    (s.judgeTest g faults retestOk).1.holds held := by
  refine .ite_fst (.pair h.bump.groupPasses) ?_
  split
  · exact .pair h.bump.groupFails
  · exact
      have h₁ : State.holds _ held := h.bump.applyRepairs
      .ite_fst (.pair h₁.groupPasses) (.pair h₁.groupFails)

theorem State.holds.unitDefaults {pages : Nat → Bool} (h : s.holds held) : (s.unitDefaults pages).holds held :=
  have h₁ : State.holds _ held := .ite (.iterate (h.foldl (fun h => .ite (h.setFld (page_ne rfl) |>.setFld (page_ne rfl)) h))
        (fun h => h.bringUpPort))
      (h.foldl (fun h => .ite (h.setFld (page_ne rfl) |>.setFld (page_ne rfl)) h))
  .foldl (.ite (h₁.setFld rfl |>.setFld rfl) h₁) (fun h => .ite (.setFld (.ite (h.setFld (page_ne rfl)) h) (page_ne rfl)) h)

theorem State.holds.startTests {atStart : Bool} {tests : List GroupTest} (h : s.holds held) : (s.startTests atStart tests).holds held :=
  h.foldl (fun h => h.judgeTest.setFld (by simp; omega))

theorem State.holds.afterRecords (h : s.holds held) : s.afterRecords.holds held :=
  have h₁ : State.holds _ held := .ite h.checkMap.showSlots h
  .ite (h₁.iterate (fun h => h.judgeChain)) h₁

theorem State.holds.restartTiming (h : s.holds held) : s.restartTiming.holds held :=
  .ite h.update.abandonStrokes.update h.stepBurnish.update.idleRows.packSchedule

theorem State.holds.rejoinFlows (h : s.holds held) : s.rejoinFlows.holds held :=
  .iterate (.ite h.monStop h) (fun h => .ite h.flowStop.flowStart h)

theorem State.holds.dropLinks {q p : Profile} (h : s.holds held) : (s.dropLinks q p).holds held :=
  h.iterate (fun h => .ite h (.judgeLpi (.bringUpPort (.judgeLink (.setFld (h.iterate (fun h => h.linkChange)) (page_ne rfl))))))

theorem State.holds.applyTrims (h : s.holds held) : s.applyTrims.holds held :=
  h.computeCal.iterate (fun h => h.iterate (fun h => h.setFld (by simp; omega) |>.setFld (by simp; omega)))

end Sys2Proof.Machine
end

section
/-!
SUPPORT. The profile switch at its boundary (R65).
-/

namespace Sys2Proof.Machine

section
variable {s : State} {p q : Profile}

theorem State.holds.ite_pos {held : ProfileHeld} {a b : State} {c : Prop} {_ : Decidable c} (hc : c) (h : a.holds held) :
    (if c then a else b).holds held := by
  rwa [if_pos hc]

/-- A switch to a profile with the same SECTIONS restarts blocks under the new profile, and no block's work takes it out of force (R65). -/
theorem State.switchTo_holds (s : State) (n : Nat) (hsec : p.sections = q.sections) :
    (s.switchTo q p n).holds ⟨some p, s.boot.switch, (s.setFld .devRolestatProfile n).reg 0x60⟩ :=
  have hset : State.holds (State.setFld { s with boot.profile := some p } .devRolestatProfile n)
      ⟨some p, s.boot.switch, (s.setFld .devRolestatProfile n).reg 0x60⟩ := ⟨rfl, rfl, rfl⟩
  have htiming : State.holds _ _ := .ite hset.restartTiming hset
  have hports : State.holds _ _ := htiming.foldl (fun h => .ite (.ite (h.setFld (page_ne rfl)).restartHop (h.setFld (page_ne rfl))) h)
  have hlinks : State.holds _ _ := .ite hports.dropLinks.rejoinFlows hports
  have hsource : State.holds _ _ := .ite hlinks.update hlinks
  have hrange : State.holds _ _ := .ite (hsource.setFld rfl).applyTrims hsource
  have hlimit : State.holds _ _ := .ite (hrange.setFld rfl |>.setFld rfl) hrange
  have hadapt : State.holds _ _ := .ite (hlimit.setFld rfl) hlimit
  .afterRecords (.ite_pos (beq_iff_eq.mpr hsec) hadapt)

/-- No switch is armed any more. -/
def State.disarm (s : State) : State := { s with boot.switch := none }

/-- What an armed switch does at a boundary outside a supply warning (R64, R65). -/
theorem profileSwitch_of_armed {n k : Nat} (hswitch : s.boot.switch = some (n, k)) (hq : s.boot.profile = some q)
    (hdue : s.boundaryAhead k = false) (hwarn : s.boot.warning = false) :
    profileSwitch s = (s.disarm.stored n).elim (s.disarm.setFld .devProfstatResult 3) (fun p =>
      if p.needsReset q then s.disarm.setFld .devProfstatResult 6
      else if s.disarm.switchFits q p then (s.disarm.switchTo q p n).setFld .devProfstatResult 2
      else s.disarm.setFld .devProfstatResult 7) := by
  have hcome : ¬ (s.boundaryAhead k || s.boot.warning) = true := by simp [hdue, hwarn]
  unfold profileSwitch
  rw [hswitch, hq]
  refine (if_neg hcome).trans ?_
  rw [← State.disarm]
  dsimp only
  cases s.disarm.stored n <;> rfl

/-- The switch that is due, with its target still valid and within the budgets, comes into force (R65). -/
theorem profileSwitch_facts {n k : Nat} (hn : n < 4) (hswitch : s.boot.switch = some (n, k)) (hq : s.boot.profile = some q)
    (hdue : s.boundaryAhead k = false) (hwarn : s.boot.warning = false) (hp : s.stored n = some p) (hreset : p.needsReset q = false)
    (hfits : s.switchFits q p = true) (hsec : p.sections = q.sections) :
    ∃ u, profileSwitch s = u ∧ u.boot.switch = none ∧ u.boot.profile = some p ∧ u.fld .devRolestatProfile = n ∧
      u.fld .devProfstatResult = 2 := by
  have hp' : s.disarm.stored n = some p := (State.stored_congr rfl n).trans hp
  have hfits' : s.disarm.switchFits q p = true := hfits
  obtain ⟨hprofile, hnone, hrole⟩ := State.switchTo_holds s.disarm n hsec
  refine ⟨(s.disarm.switchTo q p n).setFld .devProfstatResult 2, ?_, hnone, hprofile, ?_, State.fld_setFld_self _ _ _ (by decide)⟩
  · rw [profileSwitch_of_armed hswitch hq hdue hwarn, hp', Option.elim_some, hreset, hfits']
    rfl
  · rw [State.fld_setFld_ne _ _ _ _ (by decide), State.fld, hrole]
    exact (State.fld_setFld_self s.disarm .devRolestatProfile n (by decide)).trans (Nat.mod_eq_of_lt hn)

/-- PROFILE_SWITCH at the boundary, to a profile with the same SECTIONS. -/
theorem profileSwitch_completes {n k : Nat} (hn : n < 4) (hswitch : s.boot.switch = some (n, k)) (hq : s.boot.profile = some q)
    (hdue : s.boundaryAhead k = false) (hwarn : s.boot.warning = false) (hp : s.stored n = some p) (hreset : p.needsReset q = false)
    (hfits : s.switchFits q p = true) (hsec : p.sections = q.sections) :
    Completes .profileSwitch s fun t =>
      t.boot.switch = none ∧ t.boot.profile = some p ∧ t.fld .devRolestatProfile = n ∧ t.fld .devProfstatResult = 2 := by
  have hp' : State.stored { s with sent := [], reply := none } n = some p := (State.stored_congr rfl n).trans hp
  obtain ⟨u, heffect, hfacts⟩ := profileSwitch_facts (s := { s with sent := [], reply := none }) hn hswitch hq hdue hwarn hp' hreset hfits hsec
  exact completes_of_effect rfl heffect hfacts

end

/-- Settles O45. SEQ 1 of a first commit, and after the largest, is the model's choice (log entry 113); that a failed check shows RESULT 3, or 7
for a budget, is deduced (log entry 80). -/
theorem profilesAreStoredAndSwitched : Obligations.ProfilesAreStoredAndSwitched := by
  refine ⟨fun s init data => profwdataWrite_stores data, fun s init n hn hperf => ?_, fun s init n => profileInvalidate_clears,
    fun s init n p q => profileSwitchRequest_arms, fun s n k p q => profileSwitch_completes⟩
  cases hcheck : s.checkSlot (s.profOlder n) with
  | inl r =>
    obtain ⟨t, hexec, hok, hresult, hmem⟩ := profileCommitSlot_failed hn hperf hcheck
    refine ⟨t, hexec, hok, fun r' hr => ?_, fun p hp => nomatch hp⟩
    obtain rfl := Sum.inl.inj hr
    exact ⟨hresult, hmem⟩
  | inr p =>
    obtain ⟨t, hexec, hok, hresult, hseq⟩ := profileCommitSlot_passed hn hperf hcheck
    exact ⟨t, hexec, hok, fun r hr => (nomatch hr), fun _ _ => ⟨hresult, hseq⟩⟩

end Sys2Proof.Machine
end

section
/-!
SUPPORT. A full reset (R66 to R68).
-/

namespace Sys2Proof.Machine

section
variable {s t u : State} {cause : Cause}

/-- UND.STAT of a view with its build ended by a full reset (R164). -/
def State.endBuild (t : State) (v : Nat) : State := (t.setFld (.undStatState v) 3).setFld (.undStatReason v) 5

/-- The builds that a full reset ends. -/
def State.endBuilds (t : State) (builds : List Build) : State := builds.foldl (fun t b => t.endBuild b.view) t

theorem State.reg_endBuild (t : State) (v : Nat) {a : Nat} (ha : a ≠ Fld.addr (.undStatState v)) : (t.endBuild v).reg a = t.reg a := by
  have hreason : a ≠ Fld.addr (.undStatReason v) := ha
  rw [State.endBuild, State.reg_setFld_ne _ _ _ hreason, State.reg_setFld_ne _ _ _ ha]

/-- Ending builds writes registers only. -/
theorem State.endBuilds_eq (t : State) (builds : List Build) : ∃ regs, t.endBuilds builds = { t with regs := regs } := by
  induction builds generalizing t with
  | nil => exact ⟨t.regs, rfl⟩
  | cons b builds ih => exact (ih (t.endBuild b.view)).imp fun _ h => h

theorem State.reg_endBuilds (t : State) (builds : List Build) {a : Nat} (ha : ∀ b ∈ builds, a ≠ Fld.addr (.undStatState b.view)) :
    (t.endBuilds builds).reg a = t.reg a := by
  induction builds generalizing t with
  | nil => rfl
  | cons b builds ih =>
    have hb : a ≠ Fld.addr (.undStatState b.view) := ha b (by simp)
    exact (ih _ fun c hc => ha c (by simp [hc])).trans (t.reg_endBuild _ hb)

/-- UND.STAT shows a build ended by a full reset. -/
def State.buildEnded (t : State) (v : Nat) : Prop := t.fld (.undStatState v) = 3 ∧ t.fld (.undStatReason v) = 5

theorem State.buildEnded_of_reg {n : Nat} (h : t.buildEnded n) (hreg : u.reg (Fld.addr (.undStatState n)) = t.reg (Fld.addr (.undStatState n))) :
    u.buildEnded n := by
  unfold State.buildEnded State.fld at *
  rwa [hreg]

theorem State.buildEnded_endBuild (t : State) (v : Nat) : (t.endBuild v).buildEnded v :=
  ⟨(State.fld_setFld_disjoint _ _ _ _ (by simp) (by simp)).trans (State.fld_setFld_self _ _ _ (by simp)), State.fld_setFld_self _ _ _ (by simp)⟩

/-- Ending further builds keeps a build ended. -/
theorem State.buildEnded_endBuilds {n : Nat} (builds : List Build) (h : t.buildEnded n) : (t.endBuilds builds).buildEnded n := by
  induction builds generalizing t with
  | nil => exact h
  | cons b builds ih =>
    refine ih ?_
    by_cases hb : b.view = n
    · exact hb ▸ State.buildEnded_endBuild t b.view
    · have hne : Fld.addr (.undStatState n) ≠ Fld.addr (.undStatState b.view) := by simp; omega
      exact State.buildEnded_of_reg h (t.reg_endBuild _ hne)

theorem State.endBuilds_ended (t : State) {builds : List Build} {b : Build} (hb : b ∈ builds) : (t.endBuilds builds).buildEnded b.view := by
  induction builds generalizing t with
  | nil => cases hb
  | cons c builds ih =>
    rcases List.mem_cons.mp hb with rfl | hb
    · exact State.buildEnded_endBuilds builds (State.buildEnded_endBuild t b.view)
    · exact ih _ hb

/-- The state that a full reset starts from: registers, counters and memories at their reset, and what the reset keeps. -/
structure ResetBase (s : State) (select : Option Nat) (held : Bool) (t : State) : Prop where
  regs : t.regs = State.reset.regs
  counters : t.counters = []
  frc : t.frc = 0
  dram : t.dram = DramState.reset
  pairing : t.pairing = PairState.reset
  ths : t.ths.shutdown = false
  store : t.boot.store = s.boot.store
  flash : t.boot.flash = s.boot.flash
  select : t.boot.select = select
  inReset : t.boot.inReset = held
  pending : t.pending = s.pending

/-- A full reset ends the builds, and shows its cause and the sampled pins. -/
theorem fullReset_eq (s : State) (cause : Cause) (select : Option Nat) (held : Bool) :
    ∃ t pins, ResetBase s select held t ∧
      fullReset s cause select held = (((t.endBuilds s.cmp.builds).setFld .devRstcauseCause
        (setBit (2 ^ cause.bit) 3 (testBit (s.fld .devRstcauseCause) 3 || cause == .thermal))).setFld .devProfstatPins pins).drawChallenge := by
  unfold fullReset State.endBuilds State.endBuild
  refine ⟨_, _, ?_, rfl⟩
  constructor <;> rfl


/-- The word of causes fits DEV.RSTCAUSE. -/
theorem rstcause_lt (cause : Cause) (b : Bool) : setBit (2 ^ cause.bit) 3 b < 2 ^ 10 := by
  cases cause <;> cases b <;> decide

/-- What a full reset leaves of the state besides its registers and memories. -/
structure ResetRest (select : Option Nat) (held : Bool) (t : State) : Prop where
  pairing : t.pairing = PairState.reset
  ths : t.ths.shutdown = false
  select : t.boot.select = select
  inReset : t.boot.inReset = held

theorem fullReset_facts (s : State) (select : Option Nat) (held : Bool) (hcause : cause ≠ .thermal) :
    FullyReset cause s (fullReset s cause select held) ∧ ResetRest select held (fullReset s cause select held) := by
  obtain ⟨t, pins, hbase, heq⟩ := fullReset_eq s cause select held
  obtain ⟨regs, hends⟩ := t.endBuilds_eq s.cmp.builds
  have hund : ∀ b : Build, Fld.addr (.undStatState b.view) ≠ 0x74 ∧ Fld.addr (.undStatState b.view) ≠ 0x80 := fun b => by simp; omega
  have hregs : ∀ a, a ≠ 0x74 → a ≠ 0x80 → (fullReset s cause select held).reg a = (t.endBuilds s.cmp.builds).reg a := fun a ha ha' => by
    rw [heq]
    exact (State.reg_setFld_ne _ _ _ ha').trans (State.reg_setFld_ne _ _ _ ha)
  have hbeq : (cause == Cause.thermal) = false := by simpa using hcause
  refine ⟨⟨fun a ha ha' hb => ?_, fun b hb => ?_, fun a => ?_, ?_, ?_, fun a => ?_, fun a => ?_, ?_⟩, ?_⟩
  · rw [hregs a ha ha', State.reg_endBuilds t _ hb, State.reg_congr hbase.regs, State.reg_reset ha]
  · exact State.buildEnded_of_reg (t.endBuilds_ended hb) (hregs _ (hund b).1 (hund b).2)
  · rw [heq, hends]
    exact State.live_congr (s := State.reset) hbase.counters a
  · rw [heq, hends]
    exact hbase.frc
  · rw [heq, hends]
    exact congrArg DramState.mem hbase.dram
  · rw [heq, hends]
    exact congrArg (memByte · a) hbase.store
  · rw [heq, hends]
    exact congrArg (memByte · a) hbase.flash
  · rw [heq, hbeq, Bool.or_false]
    refine (State.fld_setFld_ne _ _ _ _ (by decide)).trans ((State.fld_setFld_self _ _ _ (by decide)).trans ?_)
    exact Nat.mod_eq_of_lt (rstcause_lt cause _)
  · rw [heq, hends]
    exact ⟨hbase.pairing, hbase.ths, hbase.select, hbase.inReset⟩

end

end Sys2Proof.Machine
end

section
/-!
SUPPORT. The causes of a full reset (R66 to R68, R70, R76, R375), and a pending profile switch at a reset (R65).
-/

namespace Sys2Proof.Machine

section
variable {s t u : State} {cause : Cause}

theorem FullyReset.congr (h : FullyReset cause s t) (hregs : ∀ a, u.reg a = t.reg a) (hcount : u.counters = t.counters) (hfrc : u.frc = t.frc)
    (hdram : u.dram = t.dram) (hboot : u.boot = t.boot) : FullyReset cause s u := by
  obtain ⟨hreset, hbuilds, hlive, hfrc₀, hmem, hstore, hflash, hcause⟩ := h
  have hfld : ∀ f, u.fld f = t.fld f := fun f => congrArg f.get (hregs f.addr)
  refine ⟨fun a ha ha' hb => (hregs a).trans (hreset a ha ha' hb), fun b hb => ?_, fun a => (State.live_congr hcount a).trans (hlive a),
    hfrc.trans hfrc₀, hdram ▸ hmem, hboot ▸ hstore, hboot ▸ hflash, (hfld _).trans hcause⟩
  rw [hfld, hfld]
  exact hbuilds b hb

/-- Setting a field to what its register holds changes no register. -/
theorem State.reg_setFld_of_put_eq {f : Fld} {v : Nat} (h : f.put (t.reg f.addr) v = t.reg f.addr) (a : Nat) : (t.setFld f v).reg a = t.reg a := by
  by_cases ha : a = f.addr
  · rw [ha, State.setFld, State.reg_setReg_self, h]
  · exact State.reg_setFld_ne _ _ _ ha

/-- The registers that tell the age of the journal hold their reset values. -/
structure JournalReset (t : State) : Prop where
  staleage : t.reg (Fld.addr .pairStaleageAge) = regReset (Fld.addr .pairStaleageAge)
  stat : t.reg (Fld.addr .pairStatStale) = regReset (Fld.addr .pairStatStale)
  stroke : t.stroke = 0
  pairing : t.pairing = PairState.reset

theorem FullyReset.journalReset (h : FullyReset cause s t) (hpair : t.pairing = PairState.reset) : JournalReset t := by
  obtain ⟨hreset, -⟩ := h
  have hund : ∀ a, a < 0x20000 → a ≠ 0x74 → a ≠ 0x80 → t.reg a = regReset a := fun a hlt ha ha' =>
    hreset a ha ha' fun b _ => by simp; omega
  refine ⟨hund _ (by decide) (by decide) (by decide), hund _ (by decide) (by decide) (by decide), ?_, hpair⟩
  rw [State.stroke, State.fld, hund _ (by decide) (by decide) (by decide)]
  decide

/-- A unit that is no standby, and hears no partner in stroke 0, has no stale journal. -/
theorem JournalReset.not_stale (h : JournalReset t) : t.standsBy = false ∧ t.staleAge = 0 := by
  have hstate : t.pairState = 0 := by
    rw [State.pairState, State.fld, show Fld.addr .pairStatState = Fld.addr .pairStatStale from rfl, h.stat]
    decide
  have hstands : t.standsBy = false := by simp [State.standsBy, hstate]
  refine ⟨hstands, ?_⟩
  simp [State.staleAge, hstands, h.stroke, h.pairing, PairState.reset, strokeAfter]

/-- Its age is judged as what its registers show already. -/
theorem JournalReset.judgeStale_reg (h : JournalReset t) (a : Nat) : t.judgeStale.reg a = t.reg a := by
  obtain ⟨hstands, hage⟩ := h.not_stale
  have hfirst : Fld.put .pairStaleageAge (t.reg (Fld.addr .pairStaleageAge)) 0 = t.reg (Fld.addr .pairStaleageAge) := by
    rw [h.staleage]
    decide
  have hsecond : Fld.put .pairStatStale ((t.setFld .pairStaleageAge 0).reg (Fld.addr .pairStatStale)) 0 =
      (t.setFld .pairStaleageAge 0).reg (Fld.addr .pairStatStale) := by
    rw [State.reg_setFld_of_put_eq hfirst, h.stat]
    decide
  simp only [State.judgeStale, hstands, hage, Bool.false_and, State.reg_level]
  exact (State.reg_setFld_of_put_eq hsecond a).trans (State.reg_setFld_of_put_eq hfirst a)

/-- Nothing has been collected, so nothing takes effect. -/
theorem applyCollected_of_reset (h : t.pairing = PairState.reset) : t.applyCollected.moveValid = t := by
  cases t
  subst h
  rfl

/-- To judge the journal's age sets two fields and a level source. -/
theorem State.judgeStale_eq (t : State) :
    ∃ age b, t.judgeStale = ((t.setFld .pairStaleageAge age).setFld .pairStatStale (bit b)).level srcPairJstale b := ⟨_, _, rfl⟩

/-- A write that ends journal retention by a full reset leaves what the reset leaves. -/
theorem collectedAfter_fullReset {select : Option Nat} {held : Bool} (hreset : FullyReset cause s t) (hrest : ResetRest select held t) :
    FullyReset cause s (s.collectedAfter t) ∧ (s.collectedAfter t).boot = t.boot := by
  obtain ⟨hpair, -⟩ := hrest
  obtain ⟨age, b, heq⟩ := t.judgeStale_eq
  have hreg := (FullyReset.journalReset hreset hpair).judgeStale_reg
  have hjudged : FullyReset cause s t.judgeStale :=
    FullyReset.congr hreset hreg (by simp [heq]) (by simp [heq]) (by simp [heq]) (by simp [heq])
  unfold State.collectedAfter
  rw [applyCollected_of_reset hpair]
  split
  · exact ⟨hjudged, by simp [heq]⟩
  · exact ⟨hreset, rfl⟩

/-! ### The causes -/

/-- POWER_ON. -/
theorem powerOn_resets (s : State) : Completes .powerOn s fun t => FullyReset .por s t ∧ t.boot.inReset = true ∧ t.ths.shutdown = false := by
  obtain ⟨hreset, hrest⟩ := fullReset_facts (cause := .por) { s with sent := [], reply := none } none true (by decide)
  exact completes_of_effect rfl rfl ⟨hreset, hrest.inReset, rfl⟩

/-- RESET_N_PIN outside a thermal shutdown. -/
theorem resetNPin_resets (hshut : s.ths.shutdown = false) :
    Completes .resetNPin s fun t => FullyReset .pin s t ∧ t.boot.inReset = true := by
  obtain ⟨hreset, hrest⟩ := fullReset_facts (cause := .pin) { s with sent := [], reply := none } none true (by decide)
  exact completes_of_effect rfl (if_neg (by simp [hshut])) ⟨hreset, hrest.inReset⟩

/-- RESET_N_PIN in a thermal shutdown, before the eighth cool sample. -/
theorem resetNPin_ignored (hshut : s.ths.shutdown = true) (hcool : s.ths.coolRun < 8) :
    Completes .resetNPin s fun t =>
      t.ths.ignored = min 254 (s.ths.ignored + 1) ∧ t.ths.shutdown = true ∧ SameRegisters [] [] s t ∧ SameMemories s t :=
  completes_of_effect rfl ((if_pos hshut).trans (if_pos hcool))
    ⟨rfl, hshut, ⟨fun _ _ => rfl, fun _ _ => rfl⟩, sameMemories_of_eq rfl rfl rfl rfl⟩

/-- SUPPLY_RESET of a rail other than VDD_AON. -/
theorem supplyReset_resets {rail lowest : Nat} (hrail : rail ≠ 0) (hbelow : s.belowReset rail lowest = true) :
    Completes (.supplyReset rail lowest) s fun t =>
      FullyReset .supply s t ∧ t.boot.inReset = true ∧ t.boot.supplyLatch = some (rail, lowest) := by
  obtain ⟨hreset, hrest⟩ := fullReset_facts (cause := .supply) { s with sent := [], reply := none } none true (by decide)
  have hne : (rail == 0) = false := by simpa using hrail
  refine completes_of_effect (u := { fullReset { s with sent := [], reply := none } .supply none true with
    ths.shutdown := s.ths.shutdown && true, ths.keeper := s.ths.keeper, boot.supplyLatch := some (rail, lowest) }) rfl ((if_pos hbelow).trans ?_)
    ⟨hreset, hrest.inReset, rfl⟩
  simp [supplyReset, hne, hrail]

/-- HOLD_THROUGH_EXPIRY of a warm restart short of STAGE 7. -/
theorem holdThroughExpiry_resets (hexpiry : s.boot.expiry = true) (hstage : s.fld .devBootstatStage ≠ 7) :
    Completes .holdThroughExpiry s fun t => FullyReset .htExpire s t ∧ t.boot.inReset = false := by
  obtain ⟨hreset, hrest⟩ := fullReset_facts (cause := .htExpire) { s with sent := [], reply := none } none false (by decide)
  have hdue : (s.boot.expiry && s.fld .devBootstatStage != 7) = true := by simp [hexpiry, hstage]
  exact completes_of_effect rfl (if_pos hdue) ⟨hreset, hrest.inReset⟩

/-! ### RSTCTL (R67) -/

theorem writeDev_rstctl_fields (s : State) (init : Nat) (data : Word) :
    writeDev s init 0x70 data = resetControl s (bits data 0 2) (data.getLsbD 2) (bits data 3 2) (bits data 16 16) := rfl

/-- The word of a keyed RSTCTL with KIND 2. -/
theorem rstctl_word : ∀ prof < 4, ∀ named : Bool, let w := keyed (2 + 4 * bit named + 8 * (prof % 4)) 0xA5C3
    bits w 0 2 = 2 ∧ w.getLsbD 2 = named ∧ bits w 3 2 = prof ∧ bits w 16 16 = 0xA5C3 := by decide

theorem writeDev_rstctl_full (s : State) (init : Nat) {prof : Nat} (named : Bool) (hprof : prof < 4) :
    writeDev s init 0x70 (keyed (2 + 4 * bit named + 8 * (prof % 4)) 0xA5C3) = fullReset s .swFull (if named then some prof else none) false := by
  obtain ⟨hkind, hnamed, hnum, hkey⟩ := rstctl_word prof hprof named
  rw [writeDev_rstctl_fields, hkind, hnamed, hnum, hkey]
  exact congrArg (fun n => fullReset s .swFull (if named then some n else none) false) (Nat.mod_eq_of_lt hprof)

/-- RSTCTL_FULL with its key. -/
theorem rstctlFull_resets {init prof : Nat} (named : Bool) (hperf : s.performs init 0x70) (hprof : prof < 4) :
    Completes (.rstctlFull init 0xA5C3 named prof) s fun t =>
      t.answeredOk ∧ FullyReset .swFull s t ∧ t.boot.inReset = false ∧ t.boot.select = (if named then some prof else none) := by
  obtain ⟨hreset, hrest⟩ := fullReset_facts (cause := .swFull) { s with sent := [], reply := none } (if named then some prof else none) false
    (by decide)
  obtain ⟨hafter, hboot⟩ := collectedAfter_fullReset hreset hrest
  refine completes_devWrite rfl hperf (by decide) (by decide)
    (congrArg (State.collectedAfter _) (writeDev_rstctl_full _ init named hprof)) ⟨rfl, hafter, ?_, ?_⟩
  · exact (congrArg BootState.inReset hboot).trans hrest.inReset
  · exact (congrArg BootState.select hboot).trans hrest.select

/-! ### TAP_RESET (R65, R67) -/

theorem State.dropSwitch_of_none (h : s.boot.switch = none) : s.dropSwitch = s := if_pos (by simp [h])

theorem State.dropSwitch_of_armed (h : s.boot.switch ≠ none) : s.dropSwitch = s.disarm.setFld .devProfstatResult 0 := if_neg (by simpa using h)

/-- The TAP controller has been reset. -/
def State.tapped (s : State) : State := { s with boot.tapReset := true }

/-- TAP_RESET with no switch pending. -/
theorem tapReset_keeps (hswitch : s.boot.switch = none) :
    Completes .tapReset s fun t => t.boot.tapReset = true ∧ SameRegisters [] [] s t ∧ SameMemories s t := by
  have heffect := State.dropSwitch_of_none (s := State.tapped { s with sent := [], reply := none }) hswitch
  refine completes_of_effect (f := fun s => s.tapped.dropSwitch) (u := State.tapped { s with sent := [], reply := none }) rfl heffect
    ⟨rfl, ⟨fun _ _ => rfl, fun _ _ => rfl⟩, ?_⟩
  exact ⟨fun _ => rfl, fun _ => rfl, fun _ => rfl, fun _ => rfl, fun _ => rfl, fun _ => rfl, fun _ => rfl⟩

/-- TAP_RESET with a switch pending. -/
theorem tapReset_discards (hswitch : s.boot.switch ≠ none) :
    Completes .tapReset s fun t =>
      t.boot.tapReset = true ∧ t.boot.switch = none ∧ t.fld .devProfstatResult = 0 ∧
        SameRegisters [Fld.addr .devProfstatResult] [] s t ∧ SameMemories s t := by
  have heffect := State.dropSwitch_of_armed (s := State.tapped { s with sent := [], reply := none }) hswitch
  refine completes_of_effect (f := fun s => s.tapped.dropSwitch) rfl heffect
    ⟨rfl, rfl, State.fld_setFld_self (State.disarm (State.tapped _)) _ _ (by decide), sameRegisters_of_setReg rfl rfl, ?_⟩
  exact ⟨fun _ => rfl, fun _ => rfl, fun _ => rfl, fun _ => rfl, fun _ => rfl, fun _ => rfl, fun _ => rfl⟩

end

/-- Settles O46. That TAP_RESET discards a pending switch is log entry 89; the pins that a full reset samples where none are given are free values
(log entry 112); that RESET_N is ignored until the eighth cool sample is log entry 133. -/
theorem fullResetsRestoreResetValues : Obligations.FullResetsRestoreResetValues :=
  ⟨powerOn_resets, fun _ => resetNPin_resets, fun _ => resetNPin_ignored, fun _ _ _ => supplyReset_resets,
    fun _ _ _ named hperf hprof => rstctlFull_resets named hperf hprof, fun _ => holdThroughExpiry_resets, fun _ => tapReset_keeps,
    fun _ => tapReset_discards⟩

end Sys2Proof.Machine
end

section
/-!
SUPPORT. Chuck holding (R73), and what chuck shows of the fuses and the event store (R72, R399, R420).
-/

namespace Sys2Proof.Machine

section
variable {s t : State}

/-! ### Chuck holds -/

/-- What a sparse map keeps of a filtered list. -/
theorem sparseGet_filter {β : Type} (d : Nat → β) (m : List (Nat × β)) (p : Nat → Bool) (a : Nat) :
    sparseGet d (m.filter (fun e => p e.1)) a = if p a then sparseGet d m a else d a := by
  induction m with
  | nil => simp [sparseGet]
  | cons e m ih =>
    by_cases he : e.1 = a
    · by_cases hp : p a
      · simp [sparseGet, he, hp]
      · simpa [List.filter_cons, sparseGet, he, hp] using ih
    · by_cases hp : p e.1
      · simpa [List.filter_cons, sparseGet, he, hp] using ih
      · simpa [List.filter_cons, sparseGet, he, hp] using ih

/-- The registers that chuck holding keeps, before it shows its own. -/
def State.chuckClear (s : State) : State :=
  { s.unpowered with regs := s.regs.filter (fun e => chuckKeeps e.1), counters := s.counters.filter (fun e => chuckKeeps e.1),
                     boot.warm := false, boot.holdThrough := false, boot.ready := 0, boot.profile := none }

/-- The fields of a list set in order. -/
def State.setFlds (s : State) (l : List (Fld × Nat)) : State := l.foldl (fun s e => s.setFld e.1 e.2) s

/-- Setting fields writes registers alone. -/
theorem State.setFlds_eq (s : State) (l : List (Fld × Nat)) : ∃ regs, s.setFlds l = { s with regs := regs } := by
  induction l generalizing s with
  | nil => exact ⟨s.regs, rfl⟩
  | cons e l ih => exact (ih (s.setFld e.1 e.2)).imp fun _ h => h

theorem State.reg_setFlds (s : State) (l : List (Fld × Nat)) {a : Nat} (ha : ∀ e ∈ l, a ≠ e.1.addr) : (s.setFlds l).reg a = s.reg a := by
  induction l generalizing s with
  | nil => rfl
  | cons e l ih => exact (ih _ fun c hc => ha c (by simp [hc])).trans (State.reg_setFld_ne _ _ _ (ha e (by simp)))

/-- What ROLESTAT and BOOTSTAT show in a unit in which chuck holds. -/
def holdFlds (fail : Nat) : List (Fld × Nat) :=
  [(.devRolestatRole, 0), (.devRolestatPairpos, 0), (.devRolestatBlockpwr, 0), (.devBootstatStage, 8), (.devBootstatFail, fail),
    (.devBootstatImage, 0)]

theorem State.chuckHold_eq (s : State) (fail : Nat) : s.chuckHold fail = (s.chuckClear.setFlds (holdFlds fail)).idleRows := rfl

theorem State.reg_chuckClear (s : State) (a : Nat) : s.chuckClear.reg a = if chuckKeeps a then s.reg a else regReset a := by
  unfold State.reg
  exact sparseGet_filter regReset s.regs chuckKeeps a

theorem State.live_chuckClear (s : State) (a : Nat) : s.chuckClear.live a = if chuckKeeps a then s.live a else 0 := by
  unfold State.live
  exact sparseGet_filter (fun _ => 0) s.counters chuckKeeps a

theorem State.reg_idleRows (s : State) (a : Nat) : s.idleRows.reg a = s.reg a := rfl

theorem State.fld_idleRows (s : State) (f : Fld) : s.idleRows.fld f = s.fld f := rfl

/-- No profile, no block ready, and the counter runs on. -/
theorem State.chuckHold_rest (s : State) (fail : Nat) :
    (s.chuckHold fail).boot = { s.unpowered.boot with warm := false, holdThrough := false, ready := 0, profile := none } ∧
      (s.chuckHold fail).frc = s.frc ∧ (s.chuckHold fail).counters = s.chuckClear.counters := by
  obtain ⟨regs, heq⟩ := s.chuckClear.setFlds_eq (holdFlds fail)
  rw [State.chuckHold_eq, heq]
  exact ⟨rfl, rfl, rfl⟩

/-- Of the registers those that outlive the blocks stay. -/
theorem State.reg_chuckHold (s : State) (fail : Nat) {a : Nat} (hboot : a ≠ 0x8C) (hrole : a ≠ 0x60) :
    (s.chuckHold fail).reg a = if chuckKeeps a then s.reg a else regReset a := by
  have hset : ∀ e ∈ holdFlds fail, a ≠ e.1.addr := by simp [holdFlds, hboot, hrole]
  rw [State.chuckHold_eq, State.reg_idleRows, s.chuckClear.reg_setFlds _ hset, s.reg_chuckClear]

theorem State.live_chuckHold (s : State) (fail a : Nat) : (s.chuckHold fail).live a = if chuckKeeps a then s.live a else 0 := by
  obtain ⟨-, -, hcounters⟩ := s.chuckHold_rest fail
  rw [State.live_congr hcounters, s.live_chuckClear]

/-- What chuck holding shows. -/
theorem State.setFlds_hold (s : State) {fail : Nat} (hfail : fail < 256) :
    let t := s.setFlds (holdFlds fail)
    t.fld .devBootstatStage = 8 ∧ t.fld .devBootstatFail = fail ∧ t.fld .devBootstatImage = 0 ∧ t.fld .devRolestatRole = 0 ∧
      t.fld .devRolestatBlockpwr = 0 := by
  unfold State.setFlds holdFlds
  simp only [List.foldl_cons, List.foldl_nil]
  refine ⟨?_, ?_, State.fld_setFld_self _ _ _ (by decide), ?_, ?_⟩
  · rw [State.fld_setFld_disjoint _ _ _ _ (by decide) (by decide), State.fld_setFld_disjoint _ _ _ _ (by decide) (by decide)]
    exact State.fld_setFld_self _ _ _ (by decide)
  · rw [State.fld_setFld_disjoint _ _ _ _ (by decide) (by decide)]
    exact (State.fld_setFld_self _ _ _ (by decide)).trans (Nat.mod_eq_of_lt hfail)
  · rw [State.fld_setFld_ne _ _ _ _ (by decide), State.fld_setFld_ne _ _ _ _ (by decide), State.fld_setFld_ne _ _ _ _ (by decide),
      State.fld_setFld_disjoint _ _ _ _ (by decide) (by decide), State.fld_setFld_disjoint _ _ _ _ (by decide) (by decide)]
    exact State.fld_setFld_self _ _ _ (by decide)
  · rw [State.fld_setFld_ne _ _ _ _ (by decide), State.fld_setFld_ne _ _ _ _ (by decide), State.fld_setFld_ne _ _ _ _ (by decide)]
    exact State.fld_setFld_self _ _ _ (by decide)

/-- `t` has the registers and counters of `s` but for those listed, and its FRC. -/
structure KeepsBut (but counters : List Nat) (s t : State) : Prop where
  reg : ∀ a, a ∉ but → t.reg a = s.reg a
  live : ∀ a, a ∉ counters → t.live a = s.live a
  frc : t.frc = s.frc

/-- Chuck holds after steps that changed registers and counters of the lists alone. -/
theorem KeepsBut.chuckHolds {but counters : List Nat} {fail : Nat} (h : KeepsBut but counters s t) (hfail : fail < 256) :
    ChuckHolds fail but counters s (t.chuckHold fail) := by
  obtain ⟨hstage, hcode, himage, hrole, hpower⟩ := t.chuckClear.setFlds_hold hfail
  obtain ⟨hrest, hfrc, -⟩ := t.chuckHold_rest fail
  have hfld : ∀ f, (t.chuckHold fail).fld f = (t.chuckClear.setFlds (holdFlds fail)).fld f := fun f => by
    rw [State.chuckHold_eq, State.fld_idleRows]
  refine ⟨(hfld _).trans hstage, (hfld _).trans hcode, (hfld _).trans himage, (hfld _).trans hrole, (hfld _).trans hpower, ?_, ?_,
    hfrc.trans h.frc, fun a ha => ?_, fun a ha => ?_⟩
  · rw [hrest]
  · rw [hrest]
  · simp only [List.mem_cons, not_or] at ha
    obtain ⟨hboot, hrole, hbut⟩ := ha
    rw [t.reg_chuckHold fail hboot hrole, h.reg a hbut]
  · rw [t.live_chuckHold, h.live a ha]

theorem State.chuckHold_memories (s : State) (fail : Nat) :
    (s.chuckHold fail).boot.store = s.boot.store ∧ (s.chuckHold fail).boot.flash = s.boot.flash := by
  obtain ⟨hrest, -⟩ := s.chuckHold_rest fail
  rw [hrest]
  exact ⟨rfl, rfl⟩

end

/-! ### What chuck shows -/

section
variable {b s t : State} {but counters : List Nat}

/-- Chuck has changed registers of `bootShown` and the count of lost writes alone. -/
abbrev BootShown (b s : State) : Prop := KeepsBut bootShown [Fld.addr .thsNvlost] b s

/-- No component of the state but the registers, the counters and FRC has a part in it. -/
theorem KeepsBut.update (h : KeepsBut but counters b s) {access boot time cue net ing cmp chain scan lamp grain cal dram pairing flt ths
    bist life upd sent reply free pending} :
    KeepsBut but counters b ⟨s.regs, s.counters, s.frc, access, boot, time, cue, net, ing, cmp, chain, scan, lamp, grain, cal, dram, pairing, flt,
      ths, bist, life, upd, sent, reply, free, pending⟩ :=
  ⟨h.reg, h.live, h.frc⟩

theorem KeepsBut.setFld {f : Fld} {v : Nat} (h : KeepsBut but counters b s) (hf : f.addr ∈ but) :
    KeepsBut but counters b (s.setFld f v) :=
  ⟨fun a ha => (State.reg_setFld_ne _ _ _ fun e : a = f.addr => ha (e ▸ hf)).trans (h.reg a ha), h.live, h.frc⟩

theorem KeepsBut.ite {c : Prop} {_ : Decidable c} (hs : KeepsBut but counters b s) (ht : KeepsBut but counters b t) :
    KeepsBut but counters b (if c then s else t) := by
  split
  · exact hs
  · exact ht

theorem KeepsBut.ite_fst {α : Type} {x y : State × α} {c : Prop} {_ : Decidable c} (hx : KeepsBut but counters b x.1)
    (hy : KeepsBut but counters b y.1) :
    KeepsBut but counters b (if c then x else y).1 := by
  split
  · exact hx
  · exact hy

theorem KeepsBut.pair {α : Type} {x : α} (h : KeepsBut but counters b s) : KeepsBut but counters b (s, x).1 := h

theorem KeepsBut.raise {i : Nat} (h : KeepsBut but counters b s) : KeepsBut but counters b (s.raise i) := .ite h h.update

theorem State.doNvWrite_frc (s : State) (w : NvWrite) : (s.doNvWrite w).frc = s.frc := by
  cases w <;> rfl

theorem KeepsBut.nvWrite {w : NvWrite} (h : BootShown b s) : BootShown b (s.nvWrite w) := by
  refine ⟨fun a ha => ?_, fun a ha => ?_, ?_⟩
  · exact (s.reg_nvWrite w fun e : a = _ => ha (e ▸ by decide)).trans (h.reg a ha)
  · exact (s.live_nvWrite w (List.mem_singleton.not.mp ha)).trans (h.live a ha)
  · unfold State.nvWrite
    split_ifs
    · exact h.frc
    · exact h.frc
    · exact (s.doNvWrite_frc w).trans h.frc

theorem KeepsBut.logEvent {kind index vmin duration : Nat} (h : BootShown b s) : BootShown b (s.logEvent kind index vmin duration) := h.nvWrite

theorem KeepsBut.endShutdown (h : BootShown b s) : BootShown b s.endShutdown :=
  have hcause : BootShown b (s.setFldBit .devRstcauseCause 3 true) := h.setFld (by decide)
  hcause.update

theorem KeepsBut.showLife (h : KeepsBut bootShown counters b s) : KeepsBut bootShown counters b s.showLife :=
  h.setFld (by decide) |>.setFld (by decide) |>.setFld (by decide) |>.setFld (by decide) |>.setFld (by decide) |>.setFld (by decide)
    |>.setFld (by decide) |>.setFld (by decide)

theorem KeepsBut.eraseItem {i : Nat} (h : KeepsBut but counters b s) : KeepsBut but counters b (s.eraseItem i) := by
  unfold State.eraseItem
  split
  · exact h.update
  · exact h.update
  · exact h.update

theorem KeepsBut.foldl {α : Type} {f : State → α → State} {l : List α} (h : KeepsBut but counters b s)
    (hf : ∀ {t : State} {a : α}, KeepsBut but counters b t → KeepsBut but counters b (f t a)) : KeepsBut but counters b (l.foldl f s) := by
  induction l generalizing s with
  | nil => exact h
  | cons a l ih => exact ih (hf h)

/-- Chuck compares the life-cycle record with the fuses (R399). -/
theorem KeepsBut.settleLife (h : BootShown b s) : BootShown b s.settleLife := by
  suffices hsettled : BootShown b _ from
    .showLife (.ite (.update (hsettled.foldl (fun h => .ite h.eraseItem.update h))) hsettled)
  split
  · exact
      have hblown : BootShown b _ := .ite h.update h
      .ite hblown.update hblown.update
  · exact h

theorem KeepsBut.loadRepairs (h : BootShown b s) : BootShown b s.loadRepairs := h.update

theorem KeepsBut.showUpd (h : BootShown b s) : BootShown b s.showUpd :=
  h.setFld (by decide) |>.setFld (by decide) |>.setFld (by decide) |>.setFld (by decide) |>.setFld (by decide) |>.setFld (by decide)
    |>.setFld (by decide)

theorem KeepsBut.writeUpd {f : UpdRec → UpdRec} (h : BootShown b s) : BootShown b (s.writeUpd f) := h.update.nvWrite.showUpd

theorem KeepsBut.copySector (h : BootShown b s) : BootShown b s.copySector := by
  unfold State.copySector
  exact h.nvWrite.nvWrite.writeUpd

/-- Chuck reads the event store (R375, R378, R389, R399, R419). -/
theorem KeepsBut.readStore {flash : Bool} (h : BootShown b s) : BootShown b (s.readStore flash) := by
  suffices hread : BootShown b _ from .ite hread.showUpd.copySector hread.showUpd
  refine .update ?_
  split
  · exact .logEvent (.update (.ite h.settleLife.loadRepairs.endShutdown h.settleLife.loadRepairs))
  · exact .ite h.settleLife.loadRepairs.endShutdown h.settleLife.loadRepairs

/-- Chuck chooses the images to try (R417). -/
theorem KeepsBut.imageOrder (h : BootShown b s) : BootShown b s.imageOrder.1 := by
  unfold State.imageOrder
  exact .ite_fst (.pair h) (.ite_fst (.ite_fst (.pair h.writeUpd) (.pair h.writeUpd.raise)) (.ite_fst (.pair h) (.pair h)))

end

end Sys2Proof.Machine
end

section
/-!
SUPPORT. The stages of the start: release, chuck and the image (R62, R72, R73, R76, R417, R434).
-/

namespace Sys2Proof.Machine

section
variable {s t : State}

/-! ### Release (R62, R76, R434) -/

/-- The hold has ended, with the pins and the level of VDDIO_FR sampled. -/
def State.released (s : State) (pins vddioFr : Nat) : State :=
  { s with boot.inReset := false, boot.pins := pins % 4, boot.frHigh := decide (2500 < vddioFr) }

theorem resetRelease_of_held {pins vddioFr : Nat} (hheld : s.boot.inReset = true) (hshut : s.ths.shutdown = false) :
    resetRelease s pins vddioFr = ((s.released pins vddioFr).setFld .devProfstatPins pins).setFld .devBootstatStage 1 := by
  have hcond : ¬ (!s.boot.inReset || s.ths.shutdown) = true := by simp [hheld, hshut]
  exact if_neg hcond

/-- RESET_RELEASE of a unit held in reset. -/
theorem resetRelease_samples {pins vddioFr : Nat} (hheld : s.boot.inReset = true) (hshut : s.ths.shutdown = false) :
    Completes (.resetRelease pins vddioFr) s fun t =>
      t.boot.inReset = false ∧ t.boot.pins = pins % 4 ∧ t.boot.frHigh = decide (2500 < vddioFr) ∧ t.fld .devProfstatPins = pins % 4 ∧
        t.fld .devBootstatStage = 1 ∧ SameRegisters [Fld.addr .devProfstatPins, Fld.addr .devBootstatStage] [] s t ∧ SameMemories s t := by
  have heffect := resetRelease_of_held (s := { s with sent := [], reply := none }) (pins := pins) (vddioFr := vddioFr) hheld hshut
  have hpins : (((State.released { s with sent := [], reply := none } pins vddioFr).setFld .devProfstatPins pins).setFld
      .devBootstatStage 1).fld .devProfstatPins = pins % 4 :=
    (State.fld_setFld_ne _ _ _ _ (by decide)).trans (State.fld_setFld_self _ _ _ (by decide))
  refine completes_of_effect (f := (resetRelease · pins vddioFr)) rfl heffect ⟨rfl, rfl, rfl, hpins, State.fld_setFld_self _ _ _ (by decide),
    ⟨fun a ha => ?_, fun _ _ => rfl⟩, fun _ => rfl, fun _ => rfl, fun _ => rfl, fun _ => rfl, fun _ => rfl, fun _ => rfl, fun _ => rfl⟩
  simp only [List.mem_cons, List.not_mem_nil, or_false, not_or] at ha
  obtain ⟨hpins, hstage⟩ := ha
  exact (State.reg_setFld_ne _ _ _ hstage).trans (State.reg_setFld_ne (State.released _ pins vddioFr) .devProfstatPins _ hpins)

/-! ### Chuck (R72, R73) -/

/-- Chuck has not handed over to the firmware yet (R72). -/
theorem chuck_runs (hheld : s.boot.inReset = false) (hshut : s.ths.shutdown = false)
    (hstage : s.fld .devBootstatStage ≤ 3 ∨ s.fld .devBootstatStage = 9) :
    ¬ (s.boot.inReset || s.ths.shutdown || !(decide (s.fld .devBootstatStage ≤ 3) || s.fld .devBootstatStage == 9)) = true := by
  rcases hstage with h | h <;> simp [hheld, hshut, h]

/-- Chuck at the end of its wait for the flash. -/
def State.flashUnanswered (s : State) : State :=
  if s.boot.inReset || s.ths.shutdown || !(s.fld .devBootstatStage ≤ 3 || s.fld .devBootstatStage == 9) then s else s.chuckHold 4

theorem exec_flashNoAnswer (s : State) : exec .flashNoAnswer s = run s State.flashUnanswered := rfl

/-- FLASH_NO_ANSWER. -/
theorem flashNoAnswer_holds (hheld : s.boot.inReset = false) (hshut : s.ths.shutdown = false)
    (hstage : s.fld .devBootstatStage ≤ 3 ∨ s.fld .devBootstatStage = 9) :
    Completes .flashNoAnswer s fun t => ChuckHolds 4 [] [] s t ∧ t.boot.store = s.boot.store ∧ t.boot.flash = s.boot.flash := by
  have hkeeps : KeepsBut [] [] s { s with sent := [], reply := none } := ⟨fun _ _ => rfl, fun _ _ => rfl, rfl⟩
  obtain ⟨u, heffect, hholds, hmem⟩ : ∃ u, State.chuckHold { s with sent := [], reply := none } 4 = u ∧ ChuckHolds 4 [] [] s u ∧
      u.boot.store = s.boot.store ∧ u.boot.flash = s.boot.flash := ⟨_, rfl, hkeeps.chuckHolds (by decide), State.chuckHold_memories _ 4⟩
  have heffect' : State.flashUnanswered { s with sent := [], reply := none } = u := (if_neg (chuck_runs hheld hshut hstage)).trans heffect
  exact completes_of_effect (exec_flashNoAnswer s) heffect' ⟨hholds, hmem⟩

/-- The state with REFCLK100 found running or not. -/
def State.foundRefclk (s : State) (b : Bool) : State := { s with boot.refclk := b }

/-- What chuck does once REFCLK100 has been looked for (R72, R399). -/
def State.chuckStart (s : State) (flash : Bool) : State :=
  if s.lcs == 0 || s.lcs == 5 then s.settleLife.chuckHold 1
  else if s.shutPend && testBit (s.fld .devRstcauseCause) 0 then (s.showLife).setFld .devBootstatStage 2
  else if !flash then (s.readStore flash).chuckHold 4 else (s.readStore flash).loadImage

theorem chuckBoot_of_running (flash refclk : Bool) (hheld : s.boot.inReset = false) (hshut : s.ths.shutdown = false)
    (hstage : s.fld .devBootstatStage ≤ 3 ∨ s.fld .devBootstatStage = 9) :
    chuckBoot s flash refclk = (s.foundRefclk refclk).chuckStart flash := by
  unfold chuckBoot
  exact if_neg (chuck_runs hheld hshut hstage)

/-- With no transition pending and nothing to erase, chuck shows what the fuses hold. -/
theorem State.settleLife_of_settled (htarget : s.life.target = none) (herase : s.life.erasePend = false) : s.settleLife = s.showLife := by
  unfold State.settleLife
  simp [htarget, herase]

theorem State.showLife_boot (s : State) : s.showLife.boot = s.boot := by
  unfold State.showLife
  iterate 8 rw [State.setFld_boot]

/-- In BLANK or SCRAPPED chuck holds. -/
theorem State.chuckStart_of_dead (flash : Bool) (hlcs : s.lcs = 0 ∨ s.lcs = 5) (htarget : s.life.target = none)
    (herase : s.life.erasePend = false) : s.chuckStart flash = s.showLife.chuckHold 1 := by
  have hdead : (s.lcs == 0 || s.lcs == 5) = true := by rcases hlcs with h | h <;> simp [h]
  rw [State.chuckStart, if_pos hdead, State.settleLife_of_settled htarget herase]

/-- Otherwise, with the flash answering and no sensors to wait for, it loads an image. -/
theorem State.chuckStart_of_live (hblank : s.lcs ≠ 0) (hscrapped : s.lcs ≠ 5)
    (hpend : s.shutPend = true → testBit (s.fld .devRstcauseCause) 0 = false) : s.chuckStart true = (s.readStore true).loadImage := by
  have hlive : ¬ (s.lcs == 0 || s.lcs == 5) = true := by simp [hblank, hscrapped]
  have hcool : ¬ (s.shutPend && testBit (s.fld .devRstcauseCause) 0) = true := by simpa using hpend
  rw [State.chuckStart, if_neg hlive, if_neg hcool, if_neg (by decide)]

/-- CHUCK_BOOT of a unit in BLANK or SCRAPPED. -/
theorem chuckBoot_dead_holds {flash refclk : Bool} (hheld : s.boot.inReset = false) (hshut : s.ths.shutdown = false)
    (hstage : s.fld .devBootstatStage ≤ 3 ∨ s.fld .devBootstatStage = 9) (hlcs : s.lcs = 0 ∨ s.lcs = 5) (htarget : s.life.target = none)
    (herase : s.life.erasePend = false) :
    Completes (.chuckBoot flash refclk) s fun t =>
      ChuckHolds 1 bootShown [] s t ∧ t.boot.store = s.boot.store ∧ t.boot.flash = s.boot.flash := by
  have hruns := chuckBoot_of_running (s := { s with sent := [], reply := none }) flash refclk hheld hshut hstage
  have hkeeps : KeepsBut bootShown [] s (State.foundRefclk { s with sent := [], reply := none } refclk) := ⟨fun _ _ => rfl, fun _ _ => rfl, rfl⟩
  have hstart := State.chuckStart_of_dead (s := State.foundRefclk { s with sent := [], reply := none } refclk) flash hlcs htarget herase
  have hstore : (State.foundRefclk { s with sent := [], reply := none } refclk).boot.store = s.boot.store := rfl
  have hflash : (State.foundRefclk { s with sent := [], reply := none } refclk).boot.flash = s.boot.flash := rfl
  generalize State.foundRefclk { s with sent := [], reply := none } refclk = u at hruns hkeeps hstart hstore hflash
  obtain ⟨v, heffect, hholds, hmem⟩ : ∃ v, u.showLife.chuckHold 1 = v ∧ ChuckHolds 1 bootShown [] s v ∧
      v.boot.store = u.showLife.boot.store ∧ v.boot.flash = u.showLife.boot.flash :=
    ⟨_, rfl, hkeeps.showLife.chuckHolds (by decide), State.chuckHold_memories _ 1⟩
  rw [u.showLife_boot, hstore, hflash] at hmem
  exact completes_of_effect (f := (chuckBoot · flash refclk)) rfl (hruns.trans (hstart.trans heffect)) ⟨hholds, hmem⟩

/-! ### The image (R72, R417) -/

/-- What an image that runs shows, with its own version `v`. -/
def imageFlds (i v : Nat) : List (Fld × Nat) :=
  [(.devBootstatStage, 4), (.devBootstatImage, i), (.updStatFallback, bit (i == 3)), (.updVer, v), (.devBootstatFail, 0)]

/-- Image `i` of the boot flash runs. -/
def State.runsImage (s : State) (i : Nat) : State := { s with upd.running := memRead s.boot.flash (imageBase i) 256 }

theorem State.loadImage_of_none (h : s.imageOrder.2.find? s.imageOrder.1.imagePasses = none) : s.loadImage = s.imageOrder.1.chuckHold 2 := by
  unfold State.loadImage
  simp only [h]

theorem State.loadImage_of_some {i : Nat} (h : s.imageOrder.2.find? s.imageOrder.1.imagePasses = some i) :
    ∃ r v, (r = s.imageOrder.1 ∨ r = s.imageOrder.1.raise srcDevUpdfail) ∧ s.loadImage = (r.runsImage i).setFlds (imageFlds i v) := by
  unfold State.loadImage
  simp only [h]
  refine ⟨_, _, ?_, rfl⟩
  split
  · exact .inl rfl
  · exact .inr rfl

/-- The images that chuck tries are numbered 1 to 3. -/
theorem State.imageOrder_lt {i : Nat} (h : i ∈ s.imageOrder.2) : i < 4 := by
  have hall : ∀ i ∈ s.imageOrder.2, i < 4 := by
    unfold State.imageOrder
    dsimp only
    split_ifs <;> simp
  exact hall i h

/-- What the loaded image shows. -/
theorem State.setFlds_image (s : State) {i : Nat} (hi : i < 4) (v : Nat) :
    let t := s.setFlds (imageFlds i v)
    t.fld .devBootstatStage = 4 ∧ t.fld .devBootstatImage = i ∧ t.fld .devBootstatFail = 0 := by
  unfold State.setFlds imageFlds
  simp only [List.foldl_cons, List.foldl_nil]
  refine ⟨?_, ?_, State.fld_setFld_self _ _ _ (by decide)⟩
  · rw [State.fld_setFld_disjoint _ _ _ _ (by decide) (by decide), State.fld_setFld_ne _ _ _ _ (by decide),
      State.fld_setFld_ne _ _ _ _ (by decide), State.fld_setFld_disjoint _ _ _ _ (by decide) (by decide)]
    exact State.fld_setFld_self _ _ _ (by decide)
  · rw [State.fld_setFld_disjoint _ _ _ _ (by decide) (by decide), State.fld_setFld_ne _ _ _ _ (by decide),
      State.fld_setFld_ne _ _ _ _ (by decide)]
    exact (State.fld_setFld_self _ _ _ (by decide)).trans (Nat.mod_eq_of_lt hi)

theorem State.reg_imageFlds (s : State) (i v : Nat) {a : Nat} (ha : a ∉ Fld.addr .devBootstatStage :: Fld.addr .updVer :: bootShown) :
    (s.setFlds (imageFlds i v)).reg a = s.reg a := by
  simp only [List.mem_cons, not_or] at ha
  obtain ⟨hboot, hver, hshown⟩ := ha
  have hstat : a ≠ Fld.addr .updStatFallback := fun e => hshown (e ▸ by decide)
  refine s.reg_setFlds _ fun e he => ?_
  simp only [imageFlds, List.mem_cons, List.not_mem_nil, or_false] at he
  rcases he with rfl | rfl | rfl | rfl | rfl
  · exact hboot
  · exact hboot
  · exact hstat
  · exact hver
  · exact hboot

/-- Chuck has loaded an image after steps that changed `bootShown` and the count of lost writes alone. -/
theorem State.loadImage_facts {b : State} {i : Nat} (hkeeps : BootShown b s)
    (h : s.imageOrder.2.find? s.imageOrder.1.imagePasses = some i) :
    ∃ t, s.loadImage = t ∧ t.fld .devBootstatStage = 4 ∧ t.fld .devBootstatImage = i ∧ t.fld .devBootstatFail = 0 ∧
      t.upd.running = memRead s.imageOrder.1.boot.flash (imageBase i) 256 ∧
      SameRegisters (Fld.addr .devBootstatStage :: Fld.addr .updVer :: bootShown) [Fld.addr .thsNvlost] b t ∧ SameMemories s.imageOrder.1 t := by
  obtain ⟨r, v, hr, heq⟩ := State.loadImage_of_some h
  have hsame : r.regs = s.imageOrder.1.regs ∧ r.counters = s.imageOrder.1.counters ∧ r.boot = s.imageOrder.1.boot ∧
      r.dram = s.imageOrder.1.dram ∧ r.net = s.imageOrder.1.net ∧ r.cmp = s.imageOrder.1.cmp := by
    rcases hr with rfl | rfl <;> simp
  obtain ⟨hregs, hcounters, hboot, hdram, hnet, hcmp⟩ := hsame
  obtain ⟨hstage, himage, hfail⟩ := (r.runsImage i).setFlds_image (State.imageOrder_lt (List.mem_of_find?_eq_some h)) v
  obtain ⟨regs, hset⟩ := (r.runsImage i).setFlds_eq (imageFlds i v)
  refine ⟨_, heq, hstage, himage, hfail, ?_, ⟨fun a ha => ?_, fun a ha => ?_⟩, ?_⟩
  · rw [hset, ← hboot]
    rfl
  · have hshown : a ∉ bootShown := fun hin => ha (by simp [hin])
    rw [(r.runsImage i).reg_imageFlds i v ha, ← hkeeps.imageOrder.reg a hshown]
    exact State.reg_congr hregs a
  · rw [hset, ← hkeeps.imageOrder.live a ha]
    exact State.live_congr hcounters a
  · rw [hset]
    exact sameMemories_of_eq hboot hdram hnet hcmp

/-- Chuck holds where no image passes. -/
theorem State.loadImage_holds {b : State} (hkeeps : BootShown b s) (h : s.imageOrder.2.find? s.imageOrder.1.imagePasses = none) :
    ∃ t, s.loadImage = t ∧ ChuckHolds 2 bootShown [Fld.addr .thsNvlost] b t ∧ t.boot.store = s.imageOrder.1.boot.store ∧
      t.boot.flash = s.imageOrder.1.boot.flash :=
  ⟨_, State.loadImage_of_none h, hkeeps.imageOrder.chuckHolds (by decide), State.chuckHold_memories _ 2⟩

section
variable {refclk : Bool}

/-- CHUCK_BOOT in a life-cycle state with images is what `loadImage` makes of the store that chuck has read. -/
theorem chuckBoot_loads {u v : State} (hu : { s with sent := [], reply := none, boot.refclk := refclk } = u) (hv : u.readStore true = v)
    (hheld : s.boot.inReset = false) (hshut : s.ths.shutdown = false)
    (hstage : s.fld .devBootstatStage ≤ 3 ∨ s.fld .devBootstatStage = 9) (hblank : s.lcs ≠ 0) (hscrapped : s.lcs ≠ 5)
    (hpend : s.shutPend = true → testBit (s.fld .devRstcauseCause) 0 = false) :
    chuckBoot { s with sent := [], reply := none } true refclk = v.loadImage ∧ BootShown s v := by
  have hfound : State.foundRefclk { s with sent := [], reply := none } refclk = u := hu
  have hruns := chuckBoot_of_running (s := { s with sent := [], reply := none }) true refclk hheld hshut hstage
  have hlive := State.chuckStart_of_live (s := State.foundRefclk { s with sent := [], reply := none } refclk) hblank hscrapped hpend
  have hkeeps : BootShown s (State.foundRefclk { s with sent := [], reply := none } refclk) := ⟨fun _ _ => rfl, fun _ _ => rfl, rfl⟩
  rw [hfound] at hruns hlive hkeeps
  rw [← hv]
  exact ⟨hruns.trans hlive, hkeeps.readStore⟩

end

end

end Sys2Proof.Machine
end

section
/-!
SUPPORT. The firmware's start and the way into service (R62, R63, R72, R75).
-/

namespace Sys2Proof.Machine

section
variable {s t : State} {p : Profile} {n : Nat} {fb : Bool} {env : StartEnv}

/-! ### The profile that a start takes (R62, R63) -/

theorem State.takeable_congr (hboot : t.boot = s.boot) (hregs : t.regs = s.regs) : t.takeable = s.takeable := by
  unfold State.takeable State.flag State.lastGood
  simp only [hboot, State.fld_congr hregs, State.stored_congr (congrArg BootState.store hboot)]

/-- The firmware has taken a profile: the role, the number, and whether LASTGOOD named it. -/
def State.takes (s : State) (p : Profile) (n : Nat) (fb : Bool) : State :=
  let s0 := { s with boot.profile := some p, boot.watchdog := true }
  let s1 := ((s0.setFld .devRolestatRole p.role).setFld .devRolestatProfile n).setFld .devProfstatFallback (bit fb)
  let s2 := (s1.setFld .devBootstatStage 5).setFld .devVcorectlAdapt (bit p.adapt)
  if fb = true ∧ s.boot.warm = false then s2.raise srcDevProffallback else s2

theorem startFirmware_runs (hheld : s.boot.inReset = false) (hshut : s.ths.shutdown = false) (hstage : s.fld .devBootstatStage = 4) :
    ¬ (s.boot.inReset || s.ths.shutdown || s.fld .devBootstatStage != 4) = true := by
  simp [hheld, hshut, hstage]

theorem State.startFirmware_of_none (hheld : s.boot.inReset = false) (hshut : s.ths.shutdown = false) (hstage : s.fld .devBootstatStage = 4)
    (htake : s.takeable = none) : s.startFirmware env = s.chuckHold 3 := by
  unfold State.startFirmware
  rw [if_neg (startFirmware_runs hheld hshut hstage), htake]

theorem State.startFirmware_of_some (hheld : s.boot.inReset = false) (hshut : s.ths.shutdown = false) (hstage : s.fld .devBootstatStage = 4)
    (htake : s.takeable = some (p, n, fb)) :
    s.startFirmware env = (s.takes p n fb).startBlocks (!s.boot.warm) s.boot.holdThrough (fun _ => false) env := by
  unfold State.startFirmware
  rw [if_neg (startFirmware_runs hheld hshut hstage), htake]
  cases fb <;> cases hwarm : s.boot.warm <;> simp [State.takes, hwarm]

/-- FIRMWARE_START with no profile to take. -/
theorem firmwareStart_holds (hheld : s.boot.inReset = false) (hshut : s.ths.shutdown = false) (hstage : s.fld .devBootstatStage = 4)
    (htake : s.takeable = none) :
    Completes (.firmwareStart env) s fun t => ChuckHolds 3 [] [] s t ∧ t.boot.store = s.boot.store ∧ t.boot.flash = s.boot.flash := by
  have hsame := State.takeable_congr (s := s) (t := { s with sent := [], reply := none }) rfl rfl
  have hstart := State.startFirmware_of_none (s := { s with sent := [], reply := none }) (env := env) hheld hshut hstage (hsame.trans htake)
  have hkeeps : KeepsBut [] [] s { s with sent := [], reply := none } := ⟨fun _ _ => rfl, fun _ _ => rfl, rfl⟩
  obtain ⟨u, heffect, hholds, hmem⟩ : ∃ u, State.chuckHold { s with sent := [], reply := none } 3 = u ∧ ChuckHolds 3 [] [] s u ∧
      u.boot.store = s.boot.store ∧ u.boot.flash = s.boot.flash := ⟨_, rfl, hkeeps.chuckHolds (by decide), State.chuckHold_memories _ 3⟩
  exact completes_of_effect (f := (State.startFirmware · env)) rfl (hstart.trans heffect) ⟨hholds, hmem⟩

/-- FIRMWARE_START with a profile to take. -/
theorem firmwareStart_takes {P : State → Prop} (hheld : s.boot.inReset = false) (hshut : s.ths.shutdown = false)
    (hstage : s.fld .devBootstatStage = 4) (htake : s.takeable = some (p, n, fb))
    (hpost : ∀ u, (State.takes { s with sent := [], reply := none } p n fb).startBlocks (!s.boot.warm) s.boot.holdThrough (fun _ => false) env =
      u → P { u with pending := s.pending }) : Completes (.firmwareStart env) s P := by
  have hsame := State.takeable_congr (s := s) (t := { s with sent := [], reply := none }) rfl rfl
  have hstart := State.startFirmware_of_some (s := { s with sent := [], reply := none }) (env := env) hheld hshut hstage (hsame.trans htake)
  exact completes_of_effect (f := (State.startFirmware · env)) rfl hstart (hpost _ rfl)

/-! ### DRAM that does not answer (R300, R301) -/

/-- With the profile naming DC0 and no channel answering, DRAM does not come up. -/
theorem State.bringUpDram_of_silent (hprofile : s.boot.profile = some p) (hfirst : 0 ∈ p.channels) : (s.bringUpDram []).2 = false := by
  unfold State.bringUpDram
  have hbad : (p.channels.filter (s.channelBad (s.prof (·.dramOp)) [])).any (· < 4) = true := by
    simp only [List.any_filter, List.any_eq_true]
    exact ⟨0, hfirst, rfl⟩
  simp only [hprofile]
  split_ifs with hsome <;> simp_all

theorem State.holds.writeRecords_nil {held : ProfileHeld} {skip : Nat → Bool} (h : s.holds held) : (s.writeRecords skip []).holds held := h

/-- A start after a full reset with no DRAM ends in chuck holding. -/
theorem State.startBlocks_of_silent {hold : Bool} {kept : Nat → Bool} {tests : List GroupTest} (hprofile : s.boot.profile = some p)
    (hsections : p.sections = []) (hfirst : 0 ∈ p.channels) : ∃ u : State, s.startBlocks true hold kept ⟨[], tests⟩ = u.chuckHold 5 := by
  have hheld : s.holds ⟨some p, s.boot.switch, s.reg 0x60⟩ := ⟨hprofile, rfl, rfl⟩
  unfold State.startBlocks
  split
  next hnone => exact absurd (hprofile.symm.trans hnone) (by simp)
  next q hq =>
    obtain rfl : p = q := Option.some.inj (hprofile.symm.trans hq)
    rw [hsections]
    refine ⟨_, if_pos ?_⟩
    rw [if_pos rfl]
    refine congrArg not (State.bringUpDram_of_silent (State.holds.profile (held := ⟨some p, s.boot.switch, s.reg 0x60⟩) ?_) hfirst)
    exact .setFld (.writeRecords_nil (.ite_pos rfl (.startTests (.ite_pos rfl (.writeRecords_nil hheld.unitDefaults))))) rfl

theorem State.takes_profile (s : State) (p : Profile) (n : Nat) (fb : Bool) : (s.takes p n fb).boot.profile = some p := by
  unfold State.takes
  split
  · rw [State.raise_boot]
    rfl
  · rfl

/-- FIRMWARE_START after a full reset in which no DRAM channel answers. -/
theorem firmwareStart_silent {tests : List GroupTest} (hheld : s.boot.inReset = false) (hshut : s.ths.shutdown = false)
    (hstage : s.fld .devBootstatStage = 4) (htake : s.takeable = some (p, n, fb)) (hcold : s.boot.warm = false) (hsections : p.sections = [])
    (hfirst : 0 ∈ p.channels) :
    Completes (.firmwareStart ⟨[], tests⟩) s fun t =>
      t.fld .devBootstatStage = 8 ∧ t.fld .devBootstatFail = 5 ∧ t.fld .devRolestatRole = 0 ∧ t.boot.profile = none ∧ t.boot.ready = 0 ∧
        ∀ a, chuckKeeps a = false → t.reg a = regReset a := by
  refine firmwareStart_takes hheld hshut hstage htake fun u hu => ?_
  rw [hcold, Bool.not_false] at hu
  have hprofile := State.takes_profile { s with sent := [], reply := none } p n fb
  obtain ⟨w, hw⟩ := State.startBlocks_of_silent (hold := s.boot.holdThrough) (kept := fun _ => false) (tests := tests) hprofile hsections hfirst
  have hkeeps : KeepsBut [] [] w w := ⟨fun _ _ => rfl, fun _ _ => rfl, rfl⟩
  have hholds := hkeeps.chuckHolds (fail := 5) (by decide)
  rw [hw.symm.trans hu] at hholds
  obtain ⟨hstage, hfail, -, hrole, -, hprofile, hready, -, hregs, -⟩ := hholds
  refine ⟨hstage, hfail, hrole, hprofile, hready, fun a ha => ?_⟩
  have hshown : a ∉ [Fld.addr .devBootstatStage, Fld.addr .devRolestatRole] := by
    simp only [List.mem_cons, List.not_mem_nil, or_false]
    rintro (rfl | rfl)
    · exact absurd ha (by decide)
    · exact absurd ha (by decide)
  exact (hregs a hshown).trans (if_neg (by simp [ha]))

/-! ### Service (R62, R75) -/

/-- No restart is in progress any more. -/
def State.served (s : State) : State := { s with boot.warm := false, boot.expiry := false, boot.holdThrough := false }

/-- STAGE 7, with the time. -/
def State.inService (s : State) (ms : Nat) : State := (s.setFlds [(.devBootstatStage, 7), (.devBootstatTime, min ms 65535)]).served

theorem enterService_of_may {ms : Nat} (hmay : s.mayServe = true) :
    enterService s ms = if (s.inService ms).lastGood == some (s.fld .devRolestatProfile) then s.inService ms
      else (s.inService ms).nvWrite (.bytes lastGoodBase (leBytes 4 0x444F4F47 ++ leBytes 1 (s.fld .devRolestatProfile))) := by
  unfold enterService
  rw [if_neg (by simp [hmay])]
  rfl

theorem memWrite_append (xs ys : List Byte) (m : List Host.Cell) (a : Nat) :
    memWrite m a (xs ++ ys) = memWrite (memWrite m a xs) (a + xs.length) ys := by
  induction xs generalizing m a with
  | nil => rfl
  | cons x xs ih =>
    rw [List.cons_append, memWrite, memWrite, ih, List.length_cons, Nat.add_right_comm, Nat.add_assoc a]

/-- LASTGOOD names the profile that was written. -/
theorem State.lastGood_of_written {n : Nat} (hn : n < 4) (m : List Host.Cell)
    (h : s.boot.store = memWrite m lastGoodBase (leBytes 4 0x444F4F47 ++ leBytes 1 n)) : s.lastGood = some n := by
  have hmagic : memNat s.boot.store lastGoodBase 4 = 0x444F4F47 := by
    rw [h, memWrite_append, leBytes_length, memNat_write_out _ _ (by simp), memNat_write_self]
    decide
  have hnumber : memNat s.boot.store (lastGoodBase + 4) 1 = n := by
    rw [h, memWrite_append, leBytes_length, memNat_write_self]
    omega
  unfold State.lastGood
  rw [hmagic, hnumber, Nat.mod_eq_of_lt hn]
  rfl

theorem State.inService_eq (s : State) (ms : Nat) : ∃ regs, s.inService ms = ({ s with regs := regs } : State).served := by
  obtain ⟨regs, heq⟩ := s.setFlds_eq [(.devBootstatStage, 7), (.devBootstatTime, min ms 65535)]
  exact ⟨regs, congrArg State.served heq⟩

theorem State.fld_served (s : State) (f : Fld) : s.served.fld f = s.fld f := rfl

theorem State.reg_served (s : State) (a : Nat) : s.served.reg a = s.reg a := rfl

/-- STAGE 7 and the time stand in BOOTSTAT. -/
theorem State.inService_fld (s : State) (ms : Nat) :
    (s.inService ms).fld .devBootstatStage = 7 ∧ (s.inService ms).fld .devBootstatTime = min ms 65535 := by
  rw [State.inService, State.fld_served, State.fld_served]
  simp only [State.setFlds, List.foldl_cons, List.foldl_nil]
  exact ⟨(State.fld_setFld_disjoint _ _ _ _ (by decide) (by decide)).trans (State.fld_setFld_self _ _ _ (by decide)),
    (State.fld_setFld_self _ _ _ (by decide)).trans (Nat.mod_eq_of_lt (by simp))⟩

theorem State.reg_inService (s : State) (ms : Nat) {a : Nat} (ha : a ≠ 0x8C) : (s.inService ms).reg a = s.reg a :=
  (State.reg_served _ a).trans (s.reg_setFlds _ (by simp [ha]))

/-- The rest of the state is left but for the marks of a restart. -/
theorem State.inService_rest (s : State) (ms : Nat) :
    (s.inService ms).boot = { s.boot with warm := false, expiry := false, holdThrough := false } ∧ ∀ a, (s.inService ms).live a = s.live a := by
  obtain ⟨regs, heq⟩ := s.inService_eq ms
  rw [heq]
  exact ⟨rfl, fun _ => rfl⟩

theorem State.nvWrite_warm (s : State) (w : NvWrite) : (s.nvWrite w).boot.warm = s.boot.warm := by
  unfold State.nvWrite
  split_ifs
  · rfl
  · rfl
  · cases w <;> rfl

/-- A unit that may enter service does. -/
theorem enterService_facts {ms : Nat} (hmay : s.mayServe = true) :
    ∃ t, enterService s ms = t ∧ t.fld .devBootstatStage = 7 ∧ t.fld .devBootstatTime = min ms 65535 ∧ t.boot.warm = false ∧
      (s.boot.warning = false → t.lastGood = some (s.fld .devRolestatProfile)) ∧
      SameRegisters [Fld.addr .devBootstatStage, Fld.addr .thsNvqQueued] [Fld.addr .thsNvlost] s t := by
  obtain ⟨hstage, htime⟩ := s.inService_fld ms
  obtain ⟨hboot, hlive⟩ := s.inService_rest ms
  refine ⟨_, enterService_of_may hmay, ?_⟩
  generalize hwrite : NvWrite.bytes lastGoodBase (leBytes 4 0x444F4F47 ++ leBytes 1 (s.fld .devRolestatProfile)) = w
  have hreg : ∀ a ∉ [Fld.addr .devBootstatStage, Fld.addr .thsNvqQueued], (s.inService ms).reg a = s.reg a := fun a ha =>
    s.reg_inService ms fun h => ha (by simp [h])
  have hnumber : s.fld .devRolestatProfile < 4 := Nat.mod_lt _ (by decide)
  generalize s.inService ms = u at *
  have hwarm : u.boot.warm = false := by rw [hboot]
  split
  next hgood => exact ⟨hstage, htime, hwarm, fun _ => beq_iff_eq.mp hgood, hreg, fun a _ => hlive a⟩
  next hgood =>
    have hkept : ∀ {a}, a ≠ Fld.addr .thsNvqQueued → (u.nvWrite w).reg a = u.reg a := u.reg_nvWrite w
    refine ⟨?_, ?_, (u.nvWrite_warm w).trans hwarm, fun hquiet => ?_, fun a ha => ?_, fun a ha => ?_⟩
    · rw [State.fld, hkept (by decide)]
      exact hstage
    · rw [State.fld, hkept (by decide)]
      exact htime
    · have hquiet' : u.boot.warning = false := by rw [hboot, hquiet]
      rw [← hwrite, State.nvWrite_bytes hquiet']
      exact State.lastGood_of_written hnumber u.boot.store rfl
    · exact (hkept fun h => ha (by simp [h])).trans (hreg a ha)
    · exact (u.live_nvWrite w (List.mem_singleton.not.mp ha)).trans (hlive a)

/-- ENTER_SERVICE. -/
theorem enterService_serves {ms : Nat} (hmay : s.mayServe = true) :
    Completes (.enterService ms) s fun t =>
      t.fld .devBootstatStage = 7 ∧ t.fld .devBootstatTime = min ms 65535 ∧ t.boot.warm = false ∧
        (s.boot.warning = false → t.lastGood = some (s.fld .devRolestatProfile)) ∧
        SameRegisters [Fld.addr .devBootstatStage, Fld.addr .thsNvqQueued] [Fld.addr .thsNvlost] s t := by
  have hmay' : State.mayServe { s with sent := [], reply := none } = true := hmay
  obtain ⟨u, heffect, hfacts⟩ := enterService_facts (ms := ms) hmay'
  exact completes_of_effect (f := (enterService · ms)) rfl heffect hfacts

end

/-- Settles O47. That chuck runs at STAGE 9 with hold-through, and what stages 4 to 8 stand for, is log entry 81; the order of the start's steps is
log entry 29; that BLOCKPWR stores 0 where a read shows MGT is log entry 31. -/
theorem startRunsThroughItsStages : Obligations.StartRunsThroughItsStages := by
  refine ⟨fun s pins vddioFr => resetRelease_samples, fun s flash refclk => chuckBoot_dead_holds, fun s refclk => ?_,
    fun s => flashNoAnswer_holds, fun s env => firmwareStart_holds, fun s env p n fb hheld hshut hstage htake => ?_,
    fun s tests p n fb => firmwareStart_silent, fun s ms => enterService_serves⟩
  · intro s2 hheld hshut hstage hblank hscrapped hpend
    obtain ⟨hloads, hshown⟩ := chuckBoot_loads (v := s2) rfl rfl hheld hshut hstage hblank hscrapped hpend
    clear_value s2
    cases hfind : s2.imageOrder.2.find? s2.imageOrder.1.imagePasses with
    | none =>
      obtain ⟨u, hload, hfacts⟩ := State.loadImage_holds hshown hfind
      exact completes_of_effect (f := (chuckBoot · true refclk)) rfl (hloads.trans hload) hfacts
    | some i =>
      obtain ⟨u, hload, hfacts⟩ := State.loadImage_facts hshown hfind
      exact completes_of_effect (f := (chuckBoot · true refclk)) rfl (hloads.trans hload) hfacts
  · exact firmwareStart_takes hheld hshut hstage htake fun u hu => hu ▸ rfl

end Sys2Proof.Machine
end

section
/-!
SUPPORT. What a command leaves as it was: the registers and running counters outside two lists, and every byte of memory.
-/

namespace Sys2Proof.Machine

/-- `t` differs from `s` in the registers and the running counters listed, and in no byte of a memory. -/
structure ChangesOnly (but counters : List Nat) (s t : State) : Prop where
  registers : SameRegisters but counters s t
  memories : SameMemories s t

section
variable {but counters : List Nat} {s t u : State}

theorem ChangesOnly.refl (s : State) : ChangesOnly but counters s s :=
  ⟨⟨fun _ _ => rfl, fun _ _ => rfl⟩, sameMemories_of_eq rfl rfl rfl rfl⟩

theorem ChangesOnly.trans (h : ChangesOnly but counters s t) (h' : ChangesOnly but counters t u) : ChangesOnly but counters s u := by
  obtain ⟨⟨hreg, hlive⟩, hstore, hflash, hdram, hmp, htable, hconv, hluts⟩ := h
  obtain ⟨⟨hreg', hlive'⟩, hstore', hflash', hdram', hmp', htable', hconv', hluts'⟩ := h'
  exact ⟨⟨fun a ha => (hreg' a ha).trans (hreg a ha), fun a ha => (hlive' a ha).trans (hlive a ha)⟩,
    fun a => (hstore' a).trans (hstore a), fun a => (hflash' a).trans (hflash a), fun a => (hdram' a).trans (hdram a),
    fun a => (hmp' a).trans (hmp a), fun a => (htable' a).trans (htable a), fun a => (hconv' a).trans (hconv a),
    fun a => (hluts' a).trans (hluts a)⟩

/-- Components that hold neither registers nor counters nor memories have no part in it. -/
theorem ChangesOnly.update (h : ChangesOnly but counters s t)
    {frc access time cue ing chain scan lamp grain cal pairing flt ths bist life upd sent reply free pending} :
    ChangesOnly but counters s ⟨t.regs, t.counters, frc, access, t.boot, time, cue, t.net, ing, t.cmp, chain, scan, lamp, grain, cal, t.dram,
      pairing, flt, ths, bist, life, upd, sent, reply, free, pending⟩ :=
  ⟨h.registers, h.memories⟩

theorem ChangesOnly.setReg {a : Nat} {v : Word} (h : ChangesOnly but counters s t) (ha : a ∈ but := by simp) :
    ChangesOnly but counters s (t.setReg a v) :=
  h.trans ⟨⟨fun _ hc => t.reg_setReg_ne v (ne_of_mem_of_not_mem ha hc).symm, fun _ _ => rfl⟩, sameMemories_of_eq rfl rfl rfl rfl⟩

theorem ChangesOnly.setFld {f : Fld} {v : Nat} (h : ChangesOnly but counters s t) (hf : f.addr ∈ but := by simp) :
    ChangesOnly but counters s (t.setFld f v) :=
  h.setReg hf

theorem ChangesOnly.setSfld {f : Fld} {v : Int} (h : ChangesOnly but counters s t) (hf : f.addr ∈ but := by simp) :
    ChangesOnly but counters s (t.setSfld f v) :=
  h.setFld hf

theorem ChangesOnly.setLive {a : Nat} {v : Word} (h : ChangesOnly but counters s t) (ha : a ∈ counters := by simp) :
    ChangesOnly but counters s (t.setLive a v) :=
  h.trans ⟨⟨fun _ _ => rfl, fun _ hc => t.live_setLive_ne v (ne_of_mem_of_not_mem ha hc).symm⟩, sameMemories_of_eq rfl rfl rfl rfl⟩

theorem ChangesOnly.ite {c : Prop} {_ : Decidable c} (ht : ChangesOnly but counters s t) (hu : ChangesOnly but counters s u) :
    ChangesOnly but counters s (if c then t else u) := by
  split
  · exact ht
  · exact hu

theorem ChangesOnly.raise {i : Nat} (h : ChangesOnly but counters s t) : ChangesOnly but counters s (t.raise i) :=
  .ite h h.update

theorem ChangesOnly.lower {i : Nat} (h : ChangesOnly but counters s t) : ChangesOnly but counters s (t.lower i) :=
  h.update

theorem ChangesOnly.level {i : Nat} {b : Bool} (h : ChangesOnly but counters s t) : ChangesOnly but counters s (t.level i b) :=
  .ite h.raise h.lower

theorem ChangesOnly.foldl {α : Type} {f : State → α → State} {l : List α} (h : ChangesOnly but counters s t)
    (hf : ∀ x ∈ l, ∀ {v : State}, ChangesOnly but counters s v → ChangesOnly but counters s (f v x)) :
    ChangesOnly but counters s (l.foldl f t) := by
  induction l generalizing t with
  | nil => exact h
  | cons x l ih => exact ih (hf x (by simp) h) fun y hy => hf y (by simp [hy])

theorem ChangesOnly.iterate {n : Nat} {f : State → Nat → State} (h : ChangesOnly but counters s t)
    (hf : ∀ x < n, ∀ {v : State}, ChangesOnly but counters s v → ChangesOnly but counters s (f v x)) :
    ChangesOnly but counters s (iterate n f t) :=
  h.foldl fun x hx => hf x (List.mem_range.mp hx)

end

/-- A command that writes a register by its own name completes with the unit's effect of that write, answered OK. -/
theorem completes_unitWrite {c : Instr} {s u : State} {init addr : Nat} {data : Word} {P : State → Prop}
    (hrun : exec c s = run s (State.writeAs · init addr data none)) (hperf : s.performs init addr)
    (heffect : State.writeUnit { s with sent := [], reply := none } init addr data none = (u, 0))
    (hsrcmd : u.reg 0x9054 = s.reg 0x9054) (hpost : P { u with reply := some ⟨0, 1, []⟩, pending := s.pending }) : Completes c s P := by
  obtain ⟨hpow, hgate, -, hj⟩ := (s.performs_iff init addr).mp hperf
  have hwrite := State.write_of_not_journals (s := { s with sent := [], reply := none }) data none hgate hj
  have hcol : State.collectedAfter { s with sent := [], reply := none } u = u := State.collectedAfter_of_srcmd_eq (congrArg (Fld.get _) hsrcmd)
  have hwriteAs : ({ s with sent := [], reply := none } : State).writeAs init addr data none = u.answer 0 1 [] := by
    rw [State.writeAs_of_powered (s := { s with sent := [], reply := none }) _ _ _ _ hpow, hwrite, State.writeAll, heffect, hcol]
    rfl
  exact completes_of_effect hrun hwriteAs hpost

/-- A write from offset 0x40 on of a page in role acts on the unit by its page's own rule, but for the four registers of other rules. -/
theorem State.writeUnit_eq_writeBase (s : State) (init : Nat) {addr : Nat} (data : Word) (env : Option CalEnv) (haddr : addr < 0x4000) :
    s.writeUnit init addr data env = s.writeBase init addr data env := by
  have hsrcmd : (addr == 0x9054) = false := by simp; omega
  have hcfg : (addr == 0x12040) = false := by simp; omega
  have hlp : (addr == 0x4088) = false := by simp; omega
  have hupd : (addr == 0x14048) = false := by simp; omega
  simp [State.writeUnit, hsrcmd, hcfg, hlp, hupd]

/-- A write of a register of TIM has the effect of its register alone. -/
theorem State.writeUnit_tim (s : State) (init : Nat) {off : Nat} (data : Word) (env : Option CalEnv)
    (hlo : 0x40 ≤ off) (hhi : off < 0x800) : s.writeUnit init (0x1000 + off) data env = (writeTim s off data, 0) := by
  have hpage : (0x1000 + off) / 4096 = 1 := by omega
  have hoff : (0x1000 + off) % 4096 = off := by omega
  have hinfo : pageInfo 1 = some ⟨.tim, 0x1, 1, 0x2, .both, false, false, 4, 2⟩ := by decide
  have hrole : s.answers 1 = true := by simp [State.answers, hinfo]
  rw [s.writeUnit_eq_writeBase init data env (by omega)]
  simp [State.writeBase, hpage, hoff, hinfo, hrole, Nat.not_lt.mpr hlo, Nat.not_le.mpr hhi]

/-- A write of a register of CUE has the effect of its register alone, which gives the status. -/
theorem State.writeUnit_cue (s : State) (init : Nat) {off : Nat} (data : Word) (env : Option CalEnv)
    (hlo : 0x40 ≤ off) (hhi : off < 0x800) : s.writeUnit init (0x3000 + off) data env = writeCue s off data := by
  have hpage : (0x3000 + off) / 4096 = 3 := by omega
  have hoff : (0x3000 + off) % 4096 = off := by omega
  have hinfo : pageInfo 3 = some ⟨.cue, 0x3, 1, 0x4, .both, false, true, 3, 3⟩ := by decide
  have hrole : s.answers 3 = true := by simp [State.answers, hinfo]
  rw [s.writeUnit_eq_writeBase init data env (by omega)]
  simp [State.writeBase, hpage, hoff, hinfo, hrole, Nat.not_lt.mpr hlo, Nat.not_le.mpr hhi]

end Sys2Proof.Machine
end

section
/-!
SUPPORT. The time counter (R81 to R85): rates and steps; transmit timestamps (R88).
-/

namespace Sys2Proof.Machine

section
variable {s : State}

/-! ### The rate (R82) -/

/-- The correction is 0 at the instant at which the base is the counter. -/
theorem State.corr_of_base_eq (h : s.time.base = s.frc) : s.corr = 0 := by
  have hsince : s.since s.frc = 0 := by unfold State.since; omega
  simp [State.corr, h, hsince]

/-- A rate is taken without a jump of t (R82). -/
theorem State.now_takeRate (s : State) (rate : Int) : (s.takeRate rate).now = s.now := by
  have hcorr : (s.takeRate rate).corr = 0 := State.corr_of_base_eq rfl
  simp only [State.now, hcorr]
  simp [State.takeRate, add_assoc]

/-- A signed number within 32 bits is read back. -/
theorem signed_unsigned {x : Int} (hlo : -2 ^ 31 ≤ x) (hhi : x < 2 ^ 31) : signed 32 (unsigned 32 x) = x := by
  have hx : ((unsigned 32 x : Nat) : Int) = x % 2 ^ 32 := Int.toNat_of_nonneg (by omega)
  unfold signed
  generalize unsigned 32 x = n at hx
  simp only []
  split_ifs <;> omega

theorem clampInt_mem {lo hi : Int} (h : lo ≤ hi) (x : Int) : lo ≤ clampInt lo hi x ∧ clampInt lo hi x ≤ hi := by
  unfold clampInt
  split_ifs <;> omega

/-- A field of a whole register shows a signed number of 32 bits that was set. -/
theorem State.sfld_setSfld_word (s : State) {f : Fld} {x : Int} (hf : f.lo = 0 ∧ f.width = 32) (hlo : -2 ^ 31 ≤ x) (hhi : x < 2 ^ 31) :
    (s.setSfld f x).sfld f = x := by
  obtain ⟨hlow, hwidth⟩ := hf
  have hlt : unsigned 32 x < 2 ^ 32 := by unfold unsigned; omega
  rw [State.sfld, State.setSfld, State.fld_setFld_self _ _ _ (by omega), hwidth, Nat.mod_eq_of_lt hlt, signed_unsigned hlo hhi]

theorem State.sfld_takeRate (s : State) (rate : Int) : (s.takeRate rate).sfld .timRate = clampInt (-rateLimit) rateLimit rate := by
  obtain ⟨hlo, hhi⟩ := clampInt_mem (show -rateLimit ≤ rateLimit by decide) rate
  unfold rateLimit at hlo hhi
  exact State.sfld_setSfld_word _ ⟨rfl, rfl⟩ (le_trans (by decide) hlo) (lt_of_le_of_lt hhi (by decide))

theorem changesOnly_takeRate (s : State) (rate : Int) : ChangesOnly [0x1044] [] s (s.takeRate rate) :=
  .setSfld (.update (.refl s))

theorem State.now_raise (s : State) (i : Nat) : (s.raise i).now = s.now := by
  simp [State.now, State.corr, State.since, State.sfld]

/-- What a write of TIM.RATE does in a unit that is not a tile. -/
theorem writeRate_facts (data : Word) (htile : s.isTile = false) :
    (writeRate s data).now = s.now ∧ (writeRate s data).time = { s.time with offset := s.time.offset + s.corr, base := s.frc } ∧
      (writeRate s data).sfld .timRate = clampInt (-549755813) 549755813 (signed 32 data.toNat) ∧
      ((signed 32 data.toNat < -549755813 ∨ 549755813 < signed 32 data.toNat) → (writeRate s data).raised srcTimRateclamp) ∧
      ChangesOnly [0x1044] [] s (writeRate s data) := by
  have hwrite : writeRate s data = if signed 32 data.toNat < -rateLimit ∨ rateLimit < signed 32 data.toNat
      then (s.takeRate (signed 32 data.toNat)).raise srcTimRateclamp else s.takeRate (signed 32 data.toNat) := by
    simp [writeRate, htile]
  rw [← show rateLimit = 549755813 from rfl, hwrite]
  split
  · refine ⟨(State.now_raise _ _).trans (s.now_takeRate _), State.raise_time _ _, ?_, fun _ => State.raise_any _ _,
      (changesOnly_takeRate s _).raise⟩
    rw [State.sfld, State.fld_raise, ← State.sfld, State.sfld_takeRate]
  · next hin => exact ⟨s.now_takeRate _, rfl, s.sfld_takeRate _, fun hout => absurd hout hin, changesOnly_takeRate s _⟩

end

theorem writeTim_rate (s : State) (data : Word) : writeTim s 0x44 data = writeRate s data := by
  simp [writeTim]

/-- Settles O16. That TIM.RATE of a tile shows the rate that its follower takes is the model's choice (log entry 108). -/
theorem rateWriteKeepsTimeContinuous : Obligations.RateWriteKeepsTimeContinuous := by
  intro s init rate hperf
  have hunit := State.writeUnit_tim { s with sent := [], reply := none } init (off := 0x44) rate none (by decide) (by decide)
  rw [writeTim_rate] at hunit
  cases htile : s.isTile with
  | true =>
    have heffect : writeRate { s with sent := [], reply := none } rate = { s with sent := [], reply := none } := if_pos htile
    rw [heffect] at hunit
    exact completes_unitWrite rfl hperf hunit rfl
      ⟨rfl, rfl, fun h => absurd h (by simp), fun _ => ⟨rfl, rfl⟩, ⟨fun _ _ => rfl, fun _ _ => rfl⟩, sameMemories_of_eq rfl rfl rfl rfl⟩
  | false =>
    obtain ⟨hnow, htime, hrate, hclamp, hkeep⟩ := writeRate_facts (s := { s with sent := [], reply := none }) rate htile
    refine completes_unitWrite rfl hperf hunit (hkeep.registers.1 _ (by decide))
      ⟨rfl, hnow, fun _ => ⟨congrArg (·.offset) htime, congrArg (·.base) htime, hrate, hclamp⟩, fun h => absurd h (by simp), hkeep.registers, hkeep.memories⟩

/-! ### Steps (R83, R85) -/

section
variable {but counters : List Nat} {s t : State}

theorem ChangesOnly.stepTime {d : Int} (h : ChangesOnly but counters s t) : ChangesOnly but counters s (t.stepTime d) :=
  h.update

theorem ChangesOnly.advance {f : Fld} (h : ChangesOnly but counters s t) (hf : f.addr ∈ but := by simp) :
    ChangesOnly but counters s (t.advance f) :=
  h.setFld hf

theorem ChangesOnly.applyStep {d : Int} (h : ChangesOnly but counters s t) (hstat : 0x1054 ∈ but := by simp) :
    ChangesOnly but counters s (t.applyStep d) :=
  h.stepTime.advance hstat |>.setFld hstat

theorem ChangesOnly.refuseStep (h : ChangesOnly but counters s t) (hstat : 0x1054 ∈ but := by simp) :
    ChangesOnly but counters s t.refuseStep :=
  .raise (h.setFld hstat |>.advance hstat)

theorem State.applyStep_offset (s : State) (d : Int) : (s.applyStep d).time.offset = s.time.offset + d := rfl

theorem State.applyStep_result (s : State) (d : Int) : (s.applyStep d).fld .timStepstatResult = 1 :=
  State.fld_setFld_self _ _ _ (by decide)

theorem State.applyStep_seq (s : State) (d : Int) :
    (s.applyStep d).fld .timStepstatSeq = (s.fld .timStepstatSeq + 1) % 2 ^ (Fld.width .timStepstatSeq) :=
  (State.fld_setFld_disjoint _ _ _ _ (by decide) (by decide)).trans (State.fld_setFld_self _ _ _ (by decide))

theorem State.refuseStep_result (s : State) : s.refuseStep.fld .timStepstatResult = 2 :=
  (State.fld_raise _ _ _).trans
    ((State.fld_setFld_disjoint _ _ _ _ (by decide) (by decide)).trans (State.fld_setFld_self _ _ _ (by decide)))

theorem State.refuseStep_refused (s : State) :
    s.refuseStep.fld .timStepstatRefused = (s.fld .timStepstatRefused + 1) % 2 ^ (Fld.width .timStepstatRefused) := by
  have hkept : (s.setFld .timStepstatResult 2).fld .timStepstatRefused = s.fld .timStepstatRefused :=
    State.fld_setFld_disjoint _ _ _ _ (by decide) (by decide)
  rw [State.refuseStep, State.fld_raise, State.advance, State.fld_setFld_self _ _ _ (by decide), hkept]

theorem State.refuseStep_time (s : State) : s.refuseStep.time = s.time := by
  rw [State.refuseStep, State.raise_time, State.advance, State.setFld_time, State.setFld_time]

theorem writeTim_step (s : State) (force : Bool) : writeTim s 0x50 (Word.ofNat (1 + 2 * bit force)) = stepGo s force := by
  cases force <;> simp [writeTim, Word.ofNat, bit]

theorem stepGo_of_tile (force : Bool) (htile : s.isTile = true) : stepGo s force = s.setFld .timStepstatResult 3 := by
  simp [stepGo, htile]

theorem stepGo_accepted {force : Bool} (htile : s.isTile = false) (hjump : s.stepDelta.natAbs ≤ s.fld .timJumplim ∨ force = true) :
    stepGo s force = (if force then { s with time.timeSet := true } else s).applyStep s.stepDelta := by
  have hrole : ¬ s.isTile = true := by simp [htile]
  rw [stepGo, if_neg hrole, if_pos hjump]
  cases force <;> rfl

theorem stepGo_refused {force : Bool} (htile : s.isTile = false) (hjump : ¬ (s.stepDelta.natAbs ≤ s.fld .timJumplim ∨ force = true)) :
    stepGo s force = s.refuseStep := by
  simp [stepGo, htile, hjump]

/-- What a write of STEPCMD.GO does, in the cases of R83 and R85. -/
theorem stepGo_facts (s : State) (force : Bool) : ∃ u, stepGo s force = u ∧
    (s.isTile = false → (s.stepDelta.natAbs ≤ s.fld .timJumplim ∨ force = true) →
      u.time.offset = s.time.offset + s.stepDelta ∧ u.fld .timStepstatResult = 1 ∧
        u.fld .timStepstatSeq = (s.fld .timStepstatSeq + 1) % 2 ^ (Fld.width .timStepstatSeq)) ∧
    (s.isTile = false → s.fld .timJumplim < s.stepDelta.natAbs → force = false →
      u.time.offset = s.time.offset ∧ u.fld .timStepstatResult = 2 ∧
        u.fld .timStepstatRefused = (s.fld .timStepstatRefused + 1) % 2 ^ (Fld.width .timStepstatRefused) ∧ u.raised srcTimJumpref) ∧
    (s.isTile = true → u.time.offset = s.time.offset ∧ u.fld .timStepstatResult = 3) ∧ ChangesOnly [Fld.addr .timStepstatResult] [] s u := by
  cases htile : s.isTile with
  | true =>
    exact ⟨_, stepGo_of_tile force htile, fun h => absurd h (by simp), fun h => absurd h (by simp),
      fun _ => ⟨rfl, State.fld_setFld_self _ _ _ (by decide)⟩, .setFld (.refl s)⟩
  | false =>
    by_cases hjump : s.stepDelta.natAbs ≤ s.fld .timJumplim ∨ force = true
    · refine ⟨_, stepGo_accepted htile hjump, fun _ _ => ⟨?_, State.applyStep_result _ _, ?_⟩, fun _ hbig hforce => ?_, fun h => absurd h (by simp),
        .applyStep (.ite (.update (.refl s)) (.refl s))⟩
      · cases force <;> rfl
      · cases force <;> exact State.applyStep_seq _ _
      · rcases hjump with hjump | hjump
        · omega
        · simp [hforce] at hjump
    · exact ⟨_, stepGo_refused htile hjump, fun _ h => absurd h hjump,
        fun _ _ _ => ⟨congrArg (·.offset) s.refuseStep_time, s.refuseStep_result, s.refuseStep_refused, State.raise_any _ _⟩,
        fun h => absurd h (by simp), .refuseStep (.refl s)⟩

end

/-- Settles O17: the three cases of R83 and R85 are those of `stepGo`. -/
theorem stepAddsItsDeltaOrIsRefused : Obligations.StepAddsItsDeltaOrIsRefused := by
  intro s init force hperf
  have hunit := State.writeUnit_tim { s with sent := [], reply := none } init (off := 0x50) (Word.ofNat (1 + 2 * bit force)) none (by decide) (by decide)
  obtain ⟨u, heffect, haccept, hrefuse, htile, hkeep⟩ := stepGo_facts { s with sent := [], reply := none } force
  rw [writeTim_step, heffect] at hunit
  exact completes_unitWrite rfl hperf hunit (hkeep.registers.1 _ (by decide)) ⟨rfl, haccept, hrefuse, htile, hkeep.registers, hkeep.memories⟩

/-! ### Transmit timestamps (R88) -/

theorem listModify_eq_modify {α : Type} (l : List α) (i : Nat) (f : α → α) : listModify l i f = l.modify i f := by
  induction l generalizing i with
  | nil => simp [listModify]
  | cons x l ih => cases i <;> simp [listModify, ih]

theorem getD_listModify_self {α : Type} {l : List α} {i : Nat} (f : α → α) (d : α) (hi : i < l.length) :
    (listModify l i f).getD i d = f (l.getD i d) := by
  simp [listModify_eq_modify, List.getD_eq_getElem?_getD, hi]

theorem getD_listModify_ne {α : Type} (l : List α) {i j : Nat} (f : α → α) (d : α) (hj : j ≠ i) :
    (listModify l i f).getD j d = l.getD j d := by
  simp [listModify_eq_modify, List.getD_eq_getElem?_getD, hj.symm]

section
variable {s : State}

/-- The identifier of a port's transmit timestamps is consumed (R88). -/
def State.consumeTxId (s : State) (q : Nat) : State :=
  { s with time.txId := listModify s.time.txId q (fun n => (n + 1) % 2 ^ 16) }

/-- The entry that a transmit timestamp queues (R88). -/
def State.txEntry (s : State) (q : Nat) : TxStamp :=
  ⟨s.time.txId.getD q 0, wrap32 (unsigned 64 (s.now + s.fld (.timPortlatTxlat q))), s.fld .timStepstatSeq % 16⟩

theorem takeTxStamp_queued {q : Nat} (htest : testBit s.boot.testing 2 = false) (hroom : (s.time.txq.getD q []).length < 64) :
    takeTxStamp s q = { s.consumeTxId q with time.txq := listModify s.time.txq q (fun l => l ++ [s.txEntry q]) } := by
  have htest' : ¬ testBit (s.consumeTxId q).boot.testing 2 = true := by simpa [State.consumeTxId] using htest
  exact (if_neg htest').trans (if_neg (Nat.not_le.mpr hroom))

theorem writeTim_txqPop (s : State) {q : Nat} (hq : q < 5) : writeTim s (0x10C + 16 * q) 1 = popTxq s q := by
  have hqueue : (0x10C + 16 * q - 0x100) / 16 = q := by omega
  have hoff : 0x100 ≤ 0x10C + 16 * q ∧ 0x10C + 16 * q < 0x150 ∧ (0x10C + 16 * q) % 16 = 12 := by omega
  have hrate : (0x10C + 16 * q == 0x44) = false := by simp; omega
  have hstep : (0x10C + 16 * q == 0x50) = false := by simp; omega
  have hptp : (0x10C + 16 * q == 0x5C) = false := by simp; omega
  simp [writeTim, hqueue, hoff, hrate, hstep, hptp]

end

/-- Settles O18. -/
theorem transmitTimestampsQueueInOrder : Obligations.TransmitTimestampsQueueInOrder := by
  refine ⟨fun s q hq htest hroom => ?_, fun s init q hq hperf => ?_⟩
  · have heffect := takeTxStamp_queued (s := { s with sent := [], reply := none }) htest hroom
    exact completes_of_effect (f := (takeTxStamp · q)) rfl heffect
      ⟨getD_listModify_self _ _ hq, fun j hj => getD_listModify_ne _ _ _ hj, ⟨fun _ _ => rfl, fun _ _ => rfl⟩, sameMemories_of_eq rfl rfl rfl rfl⟩
  · have hrun : exec (.txqPop init q) s = run s (State.writeAs · init (0x1000 + (0x10C + 16 * q)) 1 none) := by
      have haddr : 0x1000 + (0x10C + 16 * q) = 0x110C + 16 * q := by omega
      have hnth : (fun t : State => t.writeNth 5 q init (0x110C + 16 * q) 1) = (State.writeAs · init (0x110C + 16 * q) 1 none) :=
        funext fun _ => if_pos hq
      rw [haddr, ← hnth]
      rfl
    have hperf' : s.performs init (0x1000 + (0x10C + 16 * q)) := by
      rwa [show 0x1000 + (0x10C + 16 * q) = 0x110C + 16 * q by omega]
    have hunit := State.writeUnit_tim { s with sent := [], reply := none } init (off := 0x10C + 16 * q) 1 none (by omega) (by omega)
    rw [writeTim_txqPop _ hq] at hunit
    refine completes_unitWrite hrun hperf' hunit rfl ⟨rfl, ?_, fun j hj => getD_listModify_ne _ _ _ hj, ⟨fun _ _ => rfl, fun _ _ => rfl⟩,
      sameMemories_of_eq rfl rfl rfl rfl⟩
    by_cases hin : q < s.time.txq.length
    · exact getD_listModify_self _ _ hin
    · have hpop : (popTxq { s with sent := [], reply := none } q).time.txq = listModify s.time.txq q (fun l => l.drop 1) := rfl
      simp [hpop, listModify_eq_modify, List.getD_eq_getElem?_getD, Nat.not_lt.mp hin]

end Sys2Proof.Machine
end

section
/-!
SUPPORT. The cue queue (R106 to R112): entries that enter it and cues that a cancel takes out.
-/

namespace Sys2Proof.Machine

section
variable {s : State}

/-- Nothing is journaled outside the active sender of a pair (R326). -/
theorem State.journal_of_not_journals (r : JournalRec) (hj : s.journals = false) : s.journal r = s := by
  unfold State.journals State.paired State.pairState at hj
  simp [State.journal, hj]

/-- A cue that enters in time, with the next SEQ. -/
def State.freshCue (s : State) (e : CueEntry) : Cue :=
  { entry := e, seq := s.cue.nextSeq, late := false, due := 0, prepared := false, status := 0 }

/-- The queue with a cue that enters in time. -/
def State.queueCue (s : State) (e : CueEntry) : State :=
  { s with cue.nextSeq := wrap32 (s.cue.nextSeq + 1), cue.queue := cueInsert (s.freshCue e) s.cue.queue }

theorem State.enterCue_in_time {e : CueEntry} (htime : (e.toTiles || !s.cueLate e.stroke) = true) : s.enterCue e = s.queueCue e := by
  have hlate : (!e.toTiles && s.cueLate e.stroke) = false := by
    cases htiles : e.toTiles <;> simp_all
  simp [State.enterCue, hlate, State.queueCue, State.freshCue]

/-- PUSH as an accepted entry leaves it (R108). -/
def State.showPush (s : State) (seq : Nat) : State := (s.setFld .cuePushResult 1).setFld .cuePushSeq seq

theorem pushCue_accepted (hj : s.journals = false) (hsound : s.cueIn.malformed s.isTile = false) (hroom : s.cueFree ≠ 0)
    (htime : (s.cueIn.toTiles || !s.cueLate s.cueIn.stroke) = true) : pushCue s = ((s.queueCue s.cueIn).showPush s.cue.nextSeq, 0) := by
  have hlate : (!s.cueIn.toTiles && s.cueLate s.cueIn.stroke) = false := by
    cases htiles : s.cueIn.toTiles <;> simp_all
  have hj' : (s.queueCue s.cueIn).journals = false := hj
  simp [pushCue, hsound, hroom, hlate, State.enterCue_in_time htime, State.journal_of_not_journals _ hj', State.showPush]

/-- The state after a push of a malformed entry. -/
theorem pushCue_malformed (hbad : s.cueIn.malformed s.isTile = true) :
    ∃ u, pushCue s = (u, 0) ∧ u.cue = s.cue ∧ u.fld .cuePushResult = 3 ∧ ChangesOnly [Fld.addr .cuePushResult] [] s u :=
  ⟨s.setFld .cuePushResult 3, by simp [pushCue, hbad], rfl, State.fld_setFld_self _ _ _ (by decide), .setFld (.refl s)⟩

theorem fld_showPush (s : State) (seq : Nat) : (s.showPush seq).fld .cuePushResult = 1 ∧ (s.showPush seq).fld .cuePushSeq = seq % 65536 :=
  ⟨(State.fld_setFld_disjoint _ _ _ _ (by decide) (by decide)).trans (State.fld_setFld_self _ _ _ (by decide)),
    State.fld_setFld_self _ _ _ (by decide)⟩

theorem showPush_cue (s : State) (seq : Nat) : (s.showPush seq).cue = s.cue := by
  rw [State.showPush, State.setFld_cue, State.setFld_cue]

theorem changesOnly_showPush (s : State) (seq : Nat) : ChangesOnly [Fld.addr .cuePushResult] [] s (s.showPush seq) :=
  ChangesOnly.setFld (ChangesOnly.setFld (.refl s))

/-- The state after a push that is accepted. -/
theorem pushCue_enters (hj : s.journals = false) (hsound : s.cueIn.malformed s.isTile = false) (hroom : s.cueFree ≠ 0)
    (htime : (s.cueIn.toTiles || !s.cueLate s.cueIn.stroke) = true) :
    ∃ u, pushCue s = (u, 0) ∧ u.cue = (s.queueCue s.cueIn).cue ∧ u.fld .cuePushResult = 1 ∧ u.fld .cuePushSeq = s.cue.nextSeq % 65536 ∧
      ChangesOnly [Fld.addr .cuePushResult] [] s u := by
  obtain ⟨hresult, hseq⟩ := fld_showPush (s.queueCue s.cueIn) s.cue.nextSeq
  exact ⟨_, pushCue_accepted hj hsound hroom htime, showPush_cue _ _, hresult, hseq, .trans (.update (.refl s)) (changesOnly_showPush _ _)⟩

/-- A cancel takes out the cues with its tag (R112). -/
def State.dropTag (s : State) (tag : Nat) : State := { s with cue.queue := s.cue.queue.filter (fun c => c.entry.tag != tag) }

/-- The state after a cancel. -/
theorem cancelCues_drops (tag : Nat) (hj : s.journals = false) :
    ∃ u, cancelCues s tag = u ∧ u.cue.queue = s.cue.queue.filter (fun c => c.entry.tag != tag) ∧
      u.fld .cueCancelnCount = (s.cue.queue.filter (fun c => c.entry.tag == tag)).length % 2 ^ (Fld.width .cueCancelnCount) ∧
      ChangesOnly [Fld.addr .cueCancelnCount] [] s u := by
  have heffect : cancelCues s tag = (s.dropTag tag).setFld .cueCancelnCount (s.cue.queue.filter (fun c => c.entry.tag == tag)).length := by
    simp [cancelCues, State.journal_of_not_journals _ hj, State.dropTag]
  exact ⟨_, heffect, rfl, State.fld_setFld_self _ _ _ (by decide), .setFld (.update (.refl s))⟩

theorem writeCue_push (s : State) : writeCue s 0x48 1 = pushCue s := by
  simp [writeCue]

theorem writeCue_cancel (s : State) {tag : Nat} (htag : tag < 65536) : writeCue s 0x4C (keyed tag 1) = (cancelCues s tag, 0) := by
  have hword : (keyed tag 1).toNat = tag + 65536 := by
    simp only [keyed, Word.ofNat, BitVec.toNat_ofNat]
    omega
  have hgo : (keyed tag 1).getLsbD 16 = true := by
    simp only [← BitVec.testBit_toNat, hword, Nat.testBit_eq_decide_div_mod_eq]
    simp; omega
  have htag' : bits (keyed tag 1) 0 16 = tag := by
    simp only [bits, hword]
    omega
  simp [writeCue, hgo, htag']

end

/-- Settles O21. -/
theorem cuePushAndCancel : Obligations.CuePushAndCancel := by
  refine ⟨fun s init hperf hsound hroom htime => ?_, fun s init hperf hbad => ?_, fun s init tag htag hperf => ?_⟩
  · obtain ⟨-, -, -, hj⟩ := (s.performs_iff init _).mp hperf
    have hunit := State.writeUnit_cue { s with sent := [], reply := none } init (off := 0x48) 1 none (by decide) (by decide)
    obtain ⟨u, heffect, hcue, hresult, hseq, hkeep⟩ := pushCue_enters (s := { s with sent := [], reply := none }) hj hsound hroom htime
    rw [writeCue_push, heffect] at hunit
    exact completes_unitWrite rfl hperf hunit (hkeep.registers.1 _ (by decide))
      ⟨rfl, congrArg (·.queue) hcue, congrArg (·.nextSeq) hcue, hresult, hseq, hkeep.registers, hkeep.memories⟩
  · have hunit := State.writeUnit_cue { s with sent := [], reply := none } init (off := 0x48) 1 none (by decide) (by decide)
    obtain ⟨u, heffect, hcue, hresult, hkeep⟩ := pushCue_malformed (s := { s with sent := [], reply := none }) hbad
    rw [writeCue_push, heffect] at hunit
    exact completes_unitWrite rfl hperf hunit (hkeep.registers.1 _ (by decide)) ⟨rfl, hcue, hresult, hkeep.registers, hkeep.memories⟩
  · obtain ⟨-, -, -, hj⟩ := (s.performs_iff init _).mp hperf
    have hunit := State.writeUnit_cue { s with sent := [], reply := none } init (off := 0x4C) (keyed tag 1) none (by decide) (by decide)
    obtain ⟨u, heffect, hqueue, hcount, hkeep⟩ := cancelCues_drops (s := { s with sent := [], reply := none }) tag hj
    rw [writeCue_cancel _ htag, heffect] at hunit
    exact completes_unitWrite rfl hperf hunit (hkeep.registers.1 _ (by decide)) ⟨rfl, hqueue, hcount, hkeep.registers, hkeep.memories⟩

end Sys2Proof.Machine
end

section
/-!
SUPPORT. Reference edges (R94), the shutter inputs (R101) and missing markers (R99).
-/

namespace Sys2Proof.Machine

section
variable {s : State}

/-! ### Reference edges (R94) -/

/-- The edge that the source of a sender takes as active (R94). -/
theorem framerefEdge_first {source : Nat} {rising : Bool} (t : Int) (hsender : s.isSender = true) (hsrc : s.prof (·.strokeSrc) = source)
    (hactive : source = 1 ∧ rising = !s.flag .stkRefioInedge ∨ source = 2 ∧ rising = true) (hfirst : s.time.lastEdge = none) :
    framerefEdge s source rising t = { s with time.lastEdge := some t, time.edges := 1 } := by
  rcases hactive with ⟨rfl, rfl⟩ | ⟨rfl, rfl⟩
  · simp [framerefEdge, hsender, hsrc, hfirst]
  · simp [framerefEdge, hsender, hsrc, hfirst]

/-- The edges of a source that is lost are forgotten (R94). -/
def State.forgetEdges (s : State) : State := { s with time.edges := 0, time.lastEdge := none }

theorem refLost_of_edge_source (hsender : s.isSender = true) (hsrc : s.prof (·.strokeSrc) = 1 ∨ s.prof (·.strokeSrc) = 2) :
    refLost s = (s.forgetEdges.setFld .stkStatLock 2).raise srcStkReflost := by
  have hedge : s.isSender && (s.prof (·.strokeSrc) == 1 || s.prof (·.strokeSrc) == 2) := by
    simpa [hsender] using hsrc
  exact if_pos hedge

/-- The state after the loss of the reference. -/
theorem refLost_facts (hsender : s.isSender = true) (hsrc : s.prof (·.strokeSrc) = 1 ∨ s.prof (·.strokeSrc) = 2) :
    ∃ u, refLost s = u ∧ u.fld .stkStatLock = 2 ∧ u.time = s.forgetEdges.time ∧ u.raised srcStkReflost ∧
      ChangesOnly [Fld.addr .stkStatLock] [] s u := by
  refine ⟨_, refLost_of_edge_source hsender hsrc, ?_, ?_, State.raise_any _ _, .raise (.setFld (.update (.refl s)))⟩
  · exact (State.fld_raise _ _ _).trans (State.fld_setFld_self _ _ _ (by decide))
  · rw [State.raise_time, State.setFld_time]

/-! ### The shutter inputs (R101) -/

theorem showShut_time (s : State) (n : Nat) : (s.showShut n).time = s.time := by
  unfold State.showShut Machine.iterate
  refine List.foldlRecOn (motive := fun t : State => t.time = s.time) _ _ rfl fun t ht v _ => ?_
  split
  · rw [State.setFld_time, State.setFld_time, ht]
  · exact ht

theorem changesOnly_showShut (s : State) (n : Nat) :
    ChangesOnly ((List.range 4).map (fun v => Fld.addr (.stkViewmeasPhase v))) [] s (s.showShut n) :=
  .iterate (.refl s) fun v hv _ h => by
    have hphase : Fld.addr (.stkViewmeasPhase v) ∈ (List.range 4).map (fun v => Fld.addr (.stkViewmeasPhase v)) :=
      List.mem_map_of_mem (f := fun v => Fld.addr (.stkViewmeasPhase v)) (List.mem_range.mpr hv)
    exact .ite (h.setFld hphase |>.setFld hphase) h

/-- A rising edge of a shutter input at instant `t` joins its averages (R101). -/
def State.riseShut (s : State) (n : Nat) (t : Int) : State :=
  { s with time.shut := listModify s.time.shut n (fun x => x.rising s.time.frame t (t - s.time.catchAt)) }

/-- The state after a rising edge of a shutter input of a sender. -/
theorem shutEdge_rising {n : Nat} (t : Int) (hsender : s.isSender = true) (hn : n < s.time.shut.length) :
    ∃ u, shutEdge s n true t = u ∧ (u.time.shut.getD n ShutState.reset).rise = some t ∧ (u.time.shut.getD n ShutState.reset).lost = false ∧
      ChangesOnly ((List.range 4).map (fun v => Fld.addr (.stkViewmeasPhase v))) [] s u := by
  have heffect : shutEdge s n true t =
      ((s.riseShut n t).showShut n).level srcStkShutlost (((s.riseShut n t).showShut n).time.shut.any (·.lost)) := by
    simp [shutEdge, hsender, State.riseShut]
  have hshut : (s.riseShut n t).time.shut.getD n ShutState.reset =
      (s.time.shut.getD n ShutState.reset).rising s.time.frame t (t - s.time.catchAt) := getD_listModify_self _ _ hn
  refine ⟨_, heffect, ?_, ?_, .level (.trans (.update (.refl s)) (changesOnly_showShut _ n))⟩
  · rw [State.level_time, showShut_time, hshut]
    rfl
  · rw [State.level_time, showShut_time, hshut]
    rfl

/-- A shutter input is lost (R101). -/
def State.loseShut (s : State) (n : Nat) : State := { s with time.shut := listModify s.time.shut n (fun x => { x with lost := true }) }

theorem shutLost_of_input {n : Nat} (hsender : s.isSender = true) (hn : n < 4) : shutLost s n = (s.loseShut n).raise srcStkShutlost := by
  simp [shutLost, hsender, Nat.not_le.mpr hn, State.loseShut]

/-! ### Missing markers (R99) -/

/-- The marker that stands for a missing one (R99). -/
def State.madeMarker (s : State) : StrokeCell :=
  ⟨wrap32 (s.stroke + 1), 0, 0, s.time.interval, false,
    (List.range (s.prof (·.views))).map (fun v => ⟨s.fld (.stkViewstatStart v), s.fld (.stkViewstatExpstart v), 0⟩)⟩

/-- It is placed one interval after the last catch. -/
def State.placeMade (s : State) : State := { s with time.marker := some (s.madeMarker, s.time.catchAt + s.time.interval) }

theorem markerMissing_of_locked (htile : s.isTile = true) (hlocked : s.time.locked = true) (hnone : s.time.marker = none) :
    markerMissing s = (s.placeMade.advance .stkMarkerMissed).raise srcStkMarkermiss := by
  simp [markerMissing, htile, hlocked, hnone, State.placeMade, State.madeMarker]

theorem markerMissing_facts (htile : s.isTile = true) (hlocked : s.time.locked = true) (hnone : s.time.marker = none) :
    ∃ u, markerMissing s = u ∧ u.time = s.placeMade.time ∧
      u.fld .stkMarkerMissed = (s.fld .stkMarkerMissed + 1) % 2 ^ (Fld.width .stkMarkerMissed) ∧ u.raised srcStkMarkermiss ∧
      ChangesOnly [Fld.addr .stkMarkerMissed] [] s u := by
  refine ⟨_, markerMissing_of_locked htile hlocked hnone, ?_, ?_, State.raise_any _ _, .raise (.advance (.update (.refl s)))⟩
  · rw [State.raise_time, State.advance, State.setFld_time]
  · rw [State.fld_raise, State.advance, State.fld_setFld_self _ _ _ (by decide)]
    rfl

end

/-- Settles O20. That the loss of the reference forgets its last edge, and that the first edge counts as one, is deduced (log entry 45). -/
theorem referenceEdgesAndLosses : Obligations.ReferenceEdgesAndLosses := by
  refine ⟨fun s source rising instant hsender hsrc hactive hfirst => ?_, fun s hsender hsrc => ?_, fun s => ?_, fun s n instant hsender hn => ?_,
    fun s n hsender hn => ?_, fun s htile hlocked hnone => ?_⟩
  · have heffect := framerefEdge_first (s := { s with sent := [], reply := none }) instant hsender hsrc hactive hfirst
    exact completes_of_effect (f := (framerefEdge · source rising instant)) rfl heffect
      ⟨rfl, rfl, ⟨fun _ _ => rfl, fun _ _ => rfl⟩, sameMemories_of_eq rfl rfl rfl rfl⟩
  · obtain ⟨u, heffect, hlock, htime, hraised, hkeep⟩ := refLost_facts (s := { s with sent := [], reply := none }) hsender hsrc
    exact completes_of_effect (f := refLost) rfl heffect
      ⟨hlock, congrArg (·.edges) htime, congrArg (·.lastEdge) htime, hraised, hkeep.registers, hkeep.memories⟩
  · exact completes_of_effect (f := fun s => { s with time.refOut := false }) rfl rfl
      ⟨rfl, ⟨fun _ _ => rfl, fun _ _ => rfl⟩, sameMemories_of_eq rfl rfl rfl rfl⟩
  · obtain ⟨u, heffect, hrise, hlost, hkeep⟩ := shutEdge_rising (s := { s with sent := [], reply := none }) instant hsender hn
    exact completes_of_effect (f := (shutEdge · n true instant)) rfl heffect ⟨hrise, hlost, hkeep.registers, hkeep.memories⟩
  · have heffect := shutLost_of_input (s := { s with sent := [], reply := none }) hsender hn
    have hkeep : ChangesOnly [] [] s (State.raise (State.loseShut { s with sent := [], reply := none } n) srcStkShutlost) :=
      .raise (.update (.refl s))
    exact completes_of_effect (f := (shutLost · n)) rfl heffect ⟨State.raise_any _ _, hkeep.registers, hkeep.memories⟩
  · obtain ⟨u, heffect, htime, hmissed, hraised, hkeep⟩ := markerMissing_facts (s := { s with sent := [], reply := none }) htile hlocked hnone
    exact completes_of_effect (f := markerMissing) rfl heffect
      ⟨⟨s.madeMarker, congrArg (·.marker) htime, rfl⟩, hmissed, hraised, hkeep.registers, hkeep.memories⟩

end Sys2Proof.Machine
end

section
/-!
SUPPORT. Frames on a sub-link (R117, R122, R128), and the PTP servo of the MC (R90, R91).
-/

namespace Sys2Proof.Machine

section
variable {but counters : List Nat} {s t : State} {q l : Nat}

/-! ### What frames count -/

theorem ChangesOnly.mono {but' counters' : List Nat} (h : ChangesOnly but counters s t) (hbut : but ⊆ but') (hcounters : counters ⊆ counters') :
    ChangesOnly but' counters' s t :=
  ⟨⟨fun a ha => h.registers.1 a fun hin => ha (hbut hin), fun a ha => h.registers.2 a fun hin => ha (hcounters hin)⟩, h.memories⟩

theorem ChangesOnly.fld (h : ChangesOnly but counters s t) {f : Fld} (hf : f.addr ∉ but) : t.fld f = s.fld f :=
  congrArg f.get (h.registers.1 _ hf)

theorem ChangesOnly.flag (h : ChangesOnly but counters s t) {f : Fld} (hf : f.addr ∉ but) : t.flag f = s.flag f :=
  congrArg (· != 0) (h.fld hf)

theorem ChangesOnly.send {x : Sent} (h : ChangesOnly but counters s t) : ChangesOnly but counters s (t.send x) :=
  h.update

theorem ChangesOnly.setFldBit {f : Fld} {i : Nat} {b : Bool} (h : ChangesOnly but counters s t) (hf : f.addr ∈ but := by simp) :
    ChangesOnly but counters s (t.setFldBit f i b) :=
  h.setFld hf

theorem linkCounter_mem (q l : Nat) {i : Nat} (hi : i < 24) : 4096 * netPage q + 0x200 + 0x80 * l + 4 * i ∈ linkCounters q l :=
  List.mem_map_of_mem (f := fun i => 4096 * netPage q + 0x200 + 0x80 * l + 4 * i) (List.mem_range.mpr hi)

theorem ChangesOnly.count {i n : Nat} (h : ChangesOnly but counters s t) (hbut : linkRegs q l ⊆ but) (hcounters : linkCounters q l ⊆ counters)
    (hi : i < 24 := by decide) : ChangesOnly but counters s (t.count q l i n) :=
  .ite (.raise (.setFldBit (h.setLive (hcounters (linkCounter_mem q l hi))) (hbut (by simp [linkRegs]))))
    (h.setLive (hcounters (linkCounter_mem q l hi)))

theorem ChangesOnly.onLink {f : Sublink → Sublink} (h : ChangesOnly but counters s t) : ChangesOnly but counters s (t.onLink q l f) :=
  ⟨h.registers, h.memories⟩

theorem ChangesOnly.takeTxStamp (h : ChangesOnly but counters s t) (hlost : Fld.addr (.timTxqstatLost q) ∈ but) :
    ChangesOnly but counters s (takeTxStamp t q) :=
  .ite h.update (.ite (.raise (.advance h.update hlost)) h.update)

theorem ChangesOnly.emit {x : Sent} {stamp : Bool} (h : ChangesOnly but counters s t) (hbut : linkRegs q l ⊆ but)
    (hcounters : linkCounters q l ⊆ counters) (hlost : Fld.addr (.timTxqstatLost q) ∈ but) : ChangesOnly but counters s (t.emit q l x stamp) :=
  have hcount : ChangesOnly but counters s _ := (h.count hbut hcounters).count hbut hcounters |>.send
  .ite (.update (hcount.takeTxStamp hlost)) hcount

theorem ChangesOnly.handOver {x : Sent} {stamp : Bool} (h : ChangesOnly but counters s t) (hbut : linkRegs q l ⊆ but)
    (hcounters : linkCounters q l ⊆ counters) (hlost : Fld.addr (.timTxqstatLost q) ∈ but) :
    ChangesOnly but counters s (t.handOver q l x stamp) :=
  .ite h.onLink (.emit (h.setFldBit (hbut (by simp [linkRegs]))) hbut hcounters hlost)

theorem State.count_time (s : State) (q l i n : Nat) : (s.count q l i n).time = s.time := by
  simp only [State.count]
  split
  · rw [State.raise_time, State.setFldBit_time, State.setLive_time]
  · rw [State.setLive_time]

/-- The clock and the servo stand as they stood: a frame of the device's own changes no more of TIM than its timestamps. -/
structure SameServo (s t : State) : Prop where
  offset : t.time.offset = s.time.offset
  stepped : t.time.servoStepped = s.time.servoStepped

theorem sameServo_of_time (h : t.time = s.time) : SameServo s t := ⟨congrArg (·.offset) h, congrArg (·.servoStepped) h⟩

theorem SameServo.ite {u : State} {c : Prop} {_ : Decidable c} (ht : SameServo s t) (hu : SameServo s u) : SameServo s (if c then t else u) := by
  split
  · exact ht
  · exact hu

theorem SameServo.trans {u : State} (h : SameServo s t) (h' : SameServo t u) : SameServo s u :=
  ⟨h'.offset.trans h.offset, h'.stepped.trans h.stepped⟩

theorem SameServo.setFld {f : Fld} {v : Nat} (h : SameServo s t) : SameServo s (t.setFld f v) :=
  ⟨h.offset, h.stepped⟩

theorem SameServo.advance {f : Fld} (h : SameServo s t) : SameServo s (t.advance f) :=
  h.setFld

theorem SameServo.raise {i : Nat} (h : SameServo s t) : SameServo s (t.raise i) :=
  .ite h ⟨h.offset, h.stepped⟩

theorem sameServo_takeTxStamp (s : State) (q : Nat) : SameServo s (takeTxStamp s q) :=
  have hconsume : SameServo s (s.consumeTxId q) := ⟨rfl, rfl⟩
  .ite hconsume (.ite hconsume.advance.raise ⟨rfl, rfl⟩)

theorem sameServo_emit (s : State) (q l : Nat) (x : Sent) (stamp : Bool) : SameServo s (s.emit q l x stamp) := by
  have hcount : (((s.count q l 16 1).count q l 15 x.octets).send x).time = s.time := by
    rw [State.send_time, State.count_time, State.count_time]
  cases stamp with
  | false => exact sameServo_of_time hcount
  | true =>
    have hstamp := (sameServo_of_time hcount).trans (sameServo_takeTxStamp _ q)
    exact ⟨hstamp.offset, hstamp.stepped⟩

theorem sameServo_handOver (s : State) (q l : Nat) (x : Sent) (stamp : Bool) : SameServo s (s.handOver q l x stamp) := by
  unfold State.handOver
  split
  · exact ⟨rfl, rfl⟩
  · exact (sameServo_of_time (State.setFldBit_time _ _ _ _)).trans (sameServo_emit _ q l x stamp)

theorem four_le_netPage (q : Nat) : 4 ≤ netPage q := by
  unfold netPage
  split <;> omega

/-- A register below the pages of the network ports is none of a sub-link's. -/
theorem not_mem_linkRegs {a : Nat} (q l : Nat) (ha : a < 0x4000) : a ∉ linkRegs q l := by
  have hpage := four_le_netPage q
  simp only [linkRegs, List.mem_cons, List.not_mem_nil, or_false, not_or]
  constructor <;> omega

/-- A sound frame of a length that goes on reaches its consumer, outside wake-pattern-only mode. -/
theorem takeFrame_goes {octets : Nat} (dest : FrameDest) (f : State → State) (hrec : s.receives q l = true) (hwake : s.wakeOnly = false)
    (hmin : 64 ≤ octets) (hmax : octets ≤ 9216) :
    ∃ u, s.takeFrame q l octets dest f = f u ∧ ChangesOnly (linkRegs q l) (linkCounters q l) s u ∧ u.time = s.time := by
  have hcount : ∀ {u : State}, ChangesOnly (linkRegs q l) (linkCounters q l) s u ∧ u.time = s.time →
      ∀ i n, i < 24 → ChangesOnly (linkRegs q l) (linkCounters q l) s (u.count q l i n) ∧ (u.count q l i n).time = s.time :=
    fun h i n hi => ⟨h.1.count (List.Subset.refl _) (List.Subset.refl _) hi, (State.count_time _ _ _ _ _).trans h.2⟩
  have hboth := hcount (hcount ⟨.refl s, rfl⟩ 1 1 (by decide)) 0 octets (by decide)
  have hgoes : ∀ {u : State}, ChangesOnly (linkRegs q l) (linkCounters q l) s u → u.wakeOnly = false := fun h =>
    (h.flag (not_mem_linkRegs q l (by decide))).trans hwake
  cases dest with
  | unicast =>
    exact ⟨_, by simp [State.takeFrame, hrec, State.frameIn, Nat.not_lt.mpr hmin, Nat.not_lt.mpr hmax, hgoes hboth.1], hboth⟩
  | multicast =>
    have hdest := hcount hboth 2 1 (by decide)
    exact ⟨_, by simp [State.takeFrame, hrec, State.frameIn, Nat.not_lt.mpr hmin, Nat.not_lt.mpr hmax, hgoes hdest.1], hdest⟩
  | broadcast =>
    have hdest := hcount hboth 3 1 (by decide)
    exact ⟨_, by simp [State.takeFrame, hrec, State.frameIn, Nat.not_lt.mpr hmin, Nat.not_lt.mpr hmax, hgoes hdest.1], hdest⟩

end

/-! ### The servo (R90, R91) -/

section
variable {but counters : List Nat} {s t : State}

/-- The session's port is a network port, and MP's only where the MC of MP owns the servo (R90). -/
theorem ptpPort_owner (hservo : s.servoRuns = true) : s.ptpPort ≤ 4 ∧ (s.ptpPort = 4 → s.fld .timPtpcfgOwner = 1) := by
  have howner : s.fld .timPtpcfgOwner < 2 := by
    simp only [State.servoRuns, Bool.and_eq_true, decide_eq_true_eq] at hservo
    exact hservo.2
  have hport : s.fld .timPtpcfgPort < 4 := s.fld_lt .timPtpcfgPort
  unfold State.ptpPort
  split
  · exact ⟨by omega, fun h => by omega⟩
  · next hne => exact ⟨by omega, fun _ => by simp at hne; omega⟩

/-- The servo judges by registers that no frame of a sub-link changes. -/
theorem servo_of_linkRegs {q l : Nat} (h : ChangesOnly (linkRegs q l) counters s t) :
    t.servoRuns = s.servoRuns ∧ t.ptpPort = s.ptpPort ∧ t.fld .timPtpstatState = s.fld .timPtpstatState := by
  have hfld : ∀ f : Fld, f.addr < 0x4000 → t.fld f = s.fld f := fun f hf => h.fld (not_mem_linkRegs q l hf)
  have hrole := hfld .devRolestatRole (by decide)
  have howner := hfld .timPtpcfgOwner (by decide)
  have hport := hfld .timPtpcfgPort (by decide)
  exact ⟨by rw [State.servoRuns, State.servoRuns, State.isSender, State.isSender, hrole, howner],
    by rw [State.ptpPort, State.ptpPort, howner, hport], hfld _ (by decide)⟩

theorem syncOffset_of_linkRegs {q l : Nat} (raw : Int) (h : ChangesOnly (linkRegs q l) counters s t) (hport : s.ptpPort ≤ 4) :
    t.syncOffset raw = s.syncOffset raw := by
  obtain ⟨-, hsame, -⟩ := servo_of_linkRegs h
  rw [State.syncOffset, State.syncOffset, hsame, h.fld (not_mem_linkRegs q l (by simp; omega)), h.fld (not_mem_linkRegs q l (by decide))]

/-- The offset of a Sync as PTPOFFSET shows it, and the state that it leads to (R91). -/
def State.showSync (s : State) (offset : Int) : State :=
  (s.setSfld .timPtpoffset (clampInt (-2 ^ 31) (2 ^ 31 - 1) offset)).judgeSync offset

/-- The servo has taken its first step, which sets the time (R91). -/
def State.noteStep (s : State) : State := { s with time.servoStepped := true, time.timeSet := true, time.rejoined := false }

/-- The run lengths of good and bad offsets have no part in the steps. -/
theorem SameServo.countSyncs {good bad : Nat} (h : SameServo s t) : SameServo s { t with time.syncGood := good, time.syncBad := bad } :=
  ⟨h.offset, h.stepped⟩

theorem SameServo.showSync {offset : Int} (h : SameServo s t) : SameServo s (t.showSync offset) :=
  have hset : SameServo s (t.setSfld .timPtpoffset (clampInt (-2 ^ 31) (2 ^ 31 - 1) offset)) := h.setFld
  .setFld hset.countSyncs

/-- The first Sync of the selected master is a forced step (R91). -/
theorem ptpSync_first {ds : List Nat} (raw : Int) (hservo : s.servoRuns = true) (hmaster : s.time.master = some ds)
    (hstate : s.fld .timPtpstatState = 1 ∨ s.fld .timPtpstatState = 2) (hfirst : s.time.servoStepped = false) :
    ptpSync s ds raw = (s.showSync (s.syncOffset raw)).noteStep.applyStep (-s.syncOffset raw) := by
  have htake : ¬ (!s.servoRuns || s.time.master != some ds || !(s.fld .timPtpstatState == 1 || s.fld .timPtpstatState == 2)) = true := by
    rcases hstate with hstate | hstate <;> simp [hservo, hmaster, hstate]
  have hnot : (!(s.showSync (s.syncOffset raw)).time.servoStepped) = true := congrArg (!·) ((SameServo.showSync ⟨rfl, rfl⟩).stepped.trans hfirst)
  exact (if_neg htake).trans (if_pos hnot)

theorem ChangesOnly.showSync {offset : Int} (h : ChangesOnly but counters s t) (hoffset : Fld.addr .timPtpoffset ∈ but)
    (hstate : Fld.addr .timPtpstatState ∈ but) : ChangesOnly but counters s (t.showSync offset) :=
  .setFld (.update (h.setSfld hoffset)) hstate

theorem noteStep_offset (s : State) : s.noteStep.time.offset = s.time.offset := rfl

theorem applyStep_stepped (s : State) (d : Int) : (s.applyStep d).time.servoStepped = s.time.servoStepped := rfl

/-- The offset after the first Sync, and what it shows. -/
theorem firstStep_facts (s : State) (x : Int) :
    ∃ u, (s.showSync x).noteStep.applyStep (-x) = u ∧ u.time.offset = s.time.offset - x ∧ u.time.servoStepped = true ∧
      u.fld .timStepstatResult = 1 ∧ ChangesOnly [0x1054, 0x1064, 0x1060] [] s u := by
  have hshow : SameServo s (s.showSync x) := .showSync ⟨rfl, rfl⟩
  have hkeep : ChangesOnly [0x1054, 0x1064, 0x1060] [] s (s.showSync x) := .showSync (.refl s) (by simp) (by simp)
  refine ⟨_, rfl, ?_, applyStep_stepped _ _, State.applyStep_result _ _, .applyStep hkeep.update⟩
  rw [State.applyStep_offset, noteStep_offset, hshow.offset, sub_eq_add_neg]

theorem ChangesOnly.sendPtp {kind : Nat} (h : ChangesOnly but counters s t) (hbut : linkRegs t.ptpPort 0 ⊆ but)
    (hcounters : linkCounters t.ptpPort 0 ⊆ counters) (hlost : Fld.addr (.timTxqstatLost t.ptpPort) ∈ but) :
    ChangesOnly but counters s (t.sendPtp kind) :=
  .handOver h.update hbut hcounters hlost

theorem ChangesOnly.mayMeasure (h : ChangesOnly but counters s t) (hbut : linkRegs t.ptpPort 0 ⊆ but)
    (hcounters : linkCounters t.ptpPort 0 ⊆ counters) (hlost : Fld.addr (.timTxqstatLost t.ptpPort) ∈ but) :
    ChangesOnly but counters s t.mayMeasure :=
  .ite (.sendPtp h.update hbut hcounters hlost) h.update

theorem sameServo_mayMeasure (s : State) : SameServo s s.mayMeasure :=
  have hdraw : ∀ n, SameServo s { s with free := n } := fun _ => ⟨rfl, rfl⟩
  .ite ((hdraw (s.free + 1 + 1)).trans (sameServo_handOver _ _ _ _ _)) (hdraw _)

/-- A message that comes on the session's port is taken by the MC (R90). -/
theorem ptpMessage_takes {octets : Nat} (dest : FrameDest) (msg : PtpMessage) (hservo : s.servoRuns = true)
    (hrec : s.receives s.ptpPort 0 = true) (hwake : s.wakeOnly = false) (hmin : 64 ≤ octets) (hmax : octets ≤ 9216) :
    ∃ u, ptpMessage s s.ptpPort octets dest msg = ptpTake u msg ∧
      ChangesOnly (linkRegs s.ptpPort 0) (linkCounters s.ptpPort 0) s u ∧ u.time = s.time := by
  obtain ⟨-, howner⟩ := ptpPort_owner hservo
  have hring : ¬ (s.ptpPort == 4 && s.fld .timPtpcfgOwner != 1) = true := by simpa using howner
  obtain ⟨u, htake, hkeep, htime⟩ := takeFrame_goes dest
    (fun u => if u.servoRuns && u.ptpPort == s.ptpPort then ptpTake u msg else u) hrec hwake hmin hmax
  obtain ⟨hruns, hport, -⟩ := servo_of_linkRegs hkeep
  refine ⟨u, ?_, hkeep, htime⟩
  rw [ptpMessage, if_neg hring, htake, hruns, hport, hservo]
  simp

/-- The registers that the first Sync of the master changes, besides those of the frames. -/
def firstSyncRegs (q : Nat) : List Nat :=
  Fld.addr .timStepstatResult :: Fld.addr .timPtpoffset :: Fld.addr .timPtpstatState :: Fld.addr (.timTxqstatLost q) :: linkRegs q 0

theorem linkRegs_subset_firstSync (q : Nat) : Fld.addr (.timTxqstatLost q) :: linkRegs q 0 ⊆ firstSyncRegs q :=
  fun a ha => by
    simp only [firstSyncRegs, List.mem_cons] at ha ⊢
    tauto

theorem ptpMessage_firstSync {octets : Nat} {ds : List Nat} (dest : FrameDest) (raw : Int) (hservo : s.servoRuns = true)
    (hrec : s.receives s.ptpPort 0 = true) (hwake : s.wakeOnly = false) (hmin : 64 ≤ octets) (hmax : octets ≤ 9216)
    (hmaster : s.time.master = some ds) (hstate : s.fld .timPtpstatState = 1 ∨ s.fld .timPtpstatState = 2)
    (hfirst : s.time.servoStepped = false) :
    ∃ u, ptpMessage s s.ptpPort octets dest (.sync ds raw) = u ∧ u.time.offset = s.time.offset - s.syncOffset raw ∧
      u.fld .timStepstatResult = 1 ∧ u.time.servoStepped = true ∧
      ChangesOnly (firstSyncRegs s.ptpPort) (linkCounters s.ptpPort 0) s u := by
  obtain ⟨u, htake, hkeep, htime⟩ := ptpMessage_takes dest (.sync ds raw) hservo hrec hwake hmin hmax
  obtain ⟨hruns, hport, hsame⟩ := servo_of_linkRegs hkeep
  have hoffset := syncOffset_of_linkRegs raw hkeep (ptpPort_owner hservo).1
  have hsync := ptpSync_first (s := u) raw (hruns.trans hservo) (htime ▸ hmaster) (hsame ▸ hstate) (htime ▸ hfirst)
  obtain ⟨v, hstep, hv, hstepped, hresult, hchange⟩ := firstStep_facts u (u.syncOffset raw)
  have hcond : (u.servoRuns && u.time.master == some ds) = true := by simp [hruns, hservo, htime, hmaster]
  have heffect : ptpTake u (.sync ds raw) = v.mayMeasure := by
    simp only [ptpTake, hcond, if_true, hsync, hstep]
  have hservo' := sameServo_mayMeasure v
  have hportv : v.ptpPort = s.ptpPort := by
    rw [← hport, State.ptpPort, State.ptpPort, hchange.fld (by decide), hchange.fld (by decide)]
  have hall : ChangesOnly (firstSyncRegs s.ptpPort) (linkCounters s.ptpPort 0) s v :=
    (hkeep.mono (fun a ha => linkRegs_subset_firstSync _ (List.mem_cons_of_mem _ ha)) (List.Subset.refl _)).trans (hchange.mono (by unfold firstSyncRegs; simp) (by simp))
  have hmeasure : ChangesOnly (Fld.addr (.timTxqstatLost s.ptpPort) :: linkRegs s.ptpPort 0) (linkCounters s.ptpPort 0) v v.mayMeasure :=
    .mayMeasure (.refl v) (by rw [hportv]; simp) (by rw [hportv]; simp) (by rw [hportv]; simp)
  refine ⟨_, htake.trans heffect, ?_, ?_, hservo'.stepped.trans hstepped, 
    hall.trans (hmeasure.mono (linkRegs_subset_firstSync _) (List.Subset.refl _))⟩
  · rw [hservo'.offset, hv, htime, hoffset]
  · refine (hmeasure.fld ?_).trans hresult
    have hlow := not_mem_linkRegs s.ptpPort 0 (a := Fld.addr .timStepstatResult) (by decide)
    simp only [List.mem_cons, not_or]
    exact ⟨by simp; omega, hlow⟩

/-- The servo has lost its master (R91). -/
def State.dropMaster (s : State) : State := { s with time.master := none }

theorem ptpHoldover_facts (hservo : s.servoRuns = true) (hstate : s.fld .timPtpstatState = 1 ∨ s.fld .timPtpstatState = 2) :
    ∃ u, ptpHoldover s = u ∧ u.fld .timPtpstatState = 3 ∧ u.time = s.dropMaster.time ∧ u.raised srcTimHoldover ∧
      ChangesOnly [Fld.addr .timPtpstatState] [] s u := by
  have hcond : (s.servoRuns && (s.fld .timPtpstatState == 1 || s.fld .timPtpstatState == 2)) = true := by
    rcases hstate with hstate | hstate <;> simp [hservo, hstate]
  have heffect : ptpHoldover s = (s.dropMaster.setFld .timPtpstatState 3).raise srcTimHoldover := if_pos hcond
  refine ⟨_, heffect, ?_, ?_, State.raise_any _ _, .raise (.setFld (.update (.refl s)))⟩
  · exact (State.fld_raise _ _ _).trans (State.fld_setFld_self _ _ _ (by decide))
  · rw [State.raise_time, State.setFld_time]

end

/-- Settles O19. The offset of a Sync, its timestamps less RXLAT and the path delay, is presumed from IEEE 1588 (log entry 44); that a
Delay_Req may leave after it is the model's choice (log entry 120). -/
theorem ptpServoStepsAndHoldsOver : Obligations.PtpServoStepsAndHoldsOver := by
  refine ⟨fun s port octets dest ds raw hservo hport hrec hwake hmin hmax hmaster hstate _ hfirst => ?_, fun s hservo hstate => ?_⟩
  · subst hport
    obtain ⟨u, heffect, hoffset, hresult, hstepped, hkeep⟩ :=
      ptpMessage_firstSync (s := { s with sent := [], reply := none }) dest raw hservo hrec hwake hmin hmax hmaster hstate hfirst
    exact completes_of_effect (f := (ptpMessage · s.ptpPort octets dest (.sync ds raw))) rfl heffect
      ⟨hoffset, hresult, hstepped, hkeep.registers, hkeep.memories⟩
  · obtain ⟨u, heffect, hholdover, htime, hraised, hkeep⟩ := ptpHoldover_facts (s := { s with sent := [], reply := none }) hservo hstate
    exact completes_of_effect (f := ptpHoldover) rfl heffect
      ⟨hholdover, congrArg (·.master) htime, hraised, hkeep.registers, hkeep.memories⟩

end Sys2Proof.Machine
end

section
/-!
SUPPORT. Cues on the chain (R111, R193, R201): a due cue leaves by its port, and a tile takes a cell addressed to it.
-/

namespace Sys2Proof.Machine

section
variable {s : State}

/-! ### Distribution (R111) -/

/-- A cue leaves the queue for a tile that has credit. -/
def State.spendCue (s : State) (c : Cue) (n p : Nat) : State :=
  { s with cue.queue := s.cue.queue.filter (fun x => x.seq != c.seq), cue.credits := assocPut s.cue.credits (64 * n + p) 0 (s.cueCredit n p - 1),
           cue.held := s.cue.held.filter (· != c.seq) }

/-- The cell in which a cue travels to one tile (R193). -/
def CueEntry.cell (e : CueEntry) : Cell := .cue (e.target % 64) false [{ e with target := 0 }]

/-- A cell waits at a port for a cell boundary (R206). -/
def State.queueCell (s : State) (n k : Nat) (c : Cell) : State := s.onPort n (fun p => { p with queue := p.queue ++ [(k, c)] })

theorem submit_cue (s : State) {n : Nat} (k : Nat) (e : CueEntry) (hn : n < 8) : s.submit n k e.cell = s.queueCell n k e.cell := by
  have hclass : e.cell.cls = 2 := rfl
  have hpath : (n == 8) = false := by simp; omega
  simp [State.submit, hclass, hpath, State.queueCell]

/-- A due cue for one tile with credit is sent by its port. -/
theorem distributeOne_sends {latched : Nat} {c : Cue} (hj : s.journals = false) (htiles : c.entry.toTiles = true)
    (hports : testBit c.entry.target 10 = false) (hall : testBit c.entry.target 11 = false) (htarget : s.cueBadTarget c.entry = false)
    (hdue : strokesAhead c.entry.stroke s.stroke ≤ s.fld .cueCfgDistlead)
    (hcredit : 0 < s.cueCredit (c.entry.target / 4096 % 8) (c.entry.target % 64)) :
    distributeOne latched s c = (s.spendCue c (c.entry.target / 4096 % 8) (c.entry.target % 64)).queueCell (c.entry.target / 4096 % 8)
      (wrap32 c.entry.stroke) c.entry.cell := by
  have htile : s.cueTiles c.entry = [(c.entry.target / 4096 % 8, c.entry.target % 64)] := by
    simp [State.cueTiles, hports, hall, CueEntry.ports]
  have hsubmit := submit_cue (s.spendCue c (c.entry.target / 4096 % 8) (c.entry.target % 64)) (wrap32 c.entry.stroke) c.entry
    (Nat.mod_lt _ (by decide) : c.entry.target / 4096 % 8 < 8)
  have hj' : ((s.spendCue c (c.entry.target / 4096 % 8) (c.entry.target % 64)).queueCell (c.entry.target / 4096 % 8)
      (wrap32 c.entry.stroke) c.entry.cell).journals = false := hj
  rw [← State.journal_of_not_journals _ hj', ← hsubmit]
  simp only [distributeOne, htiles, hdue, htarget, htile, hcredit, hall, decide_true, Bool.true_or, Bool.not_true, Bool.or_self, Bool.false_eq_true, if_false,
    List.all_cons, List.all_nil, Bool.and_self, if_true]
  rfl

/-- The state after a due cue has been sent. -/
theorem distribute_facts {latched : Nat} {c : Cue} (hdrives : s.drives = true) (hj : s.journals = false) (hqueue : s.cue.queue = [c])
    (htiles : c.entry.toTiles = true) (hports : testBit c.entry.target 10 = false) (hall : testBit c.entry.target 11 = false)
    (htarget : s.cueBadTarget c.entry = false) (hdue : strokesAhead c.entry.stroke s.stroke ≤ s.fld .cueCfgDistlead)
    (hcredit : 0 < s.cueCredit (c.entry.target / 4096 % 8) (c.entry.target % 64)) (hport : c.entry.target / 4096 % 8 < s.chain.ports.length) :
    ∃ u, (if s.drives then s.cue.queue.foldl (distributeOne latched) s else s) = u ∧ u.cue.queue = [] ∧
      (u.port (c.entry.target / 4096 % 8)).queue = (s.port (c.entry.target / 4096 % 8)).queue ++ [(wrap32 c.entry.stroke, c.entry.cell)] ∧
      u.cueCredit (c.entry.target / 4096 % 8) (c.entry.target % 64) = s.cueCredit (c.entry.target / 4096 % 8) (c.entry.target % 64) - 1 ∧
      u.sent = s.sent ∧ ChangesOnly [] [] s u := by
  have hone : (if s.drives then s.cue.queue.foldl (distributeOne latched) s else s) = distributeOne latched s c := by
    rw [if_pos hdrives, hqueue]
    rfl
  refine ⟨_, hone.trans (distributeOne_sends hj htiles hports hall htarget hdue hcredit), ?_, ?_, sparseGet_put_self _ _ _ _, rfl, .update (.refl s)⟩
  · simp [State.queueCell, State.spendCue, State.onPort, hqueue]
  · exact congrArg ChainPort.queue (getD_listModify_self _ _ hport)

/-! ### Reception (R111, R201) -/

/-- A cell addressed to this tile on its serving port is taken (R201). -/
theorem route_mine {n : Nat} (l : Nat) {pos : Nat} (c : Cell) (htile : s.isTile = true) (hserves : s.serves n = true) (hrestart : s.restarting = false)
    (hvalid : s.flag .klsTstatPosvalid = true) (hpos : pos = s.fld .klsTstatPos) : s.route n l pos false c = (s, true) := by
  have hmine : s.mine pos = true := by simp [State.mine, hvalid, hpos]
  simp [State.route, htile, hserves, hmine, hrestart]

/-- A sound entry that comes in time enters the queue. -/
theorem cueCell_enters {n l pos : Nat} {e : CueEntry} (htile : s.isTile = true) (hserves : s.serves n = true) (hrestart : s.restarting = false)
    (hvalid : s.flag .klsTstatPosvalid = true) (hpos : pos = s.fld .klsTstatPos) (htest : testBit s.boot.testing 3 = false)
    (htarget : e.target = 0) (haction : e.action ≠ 0) (hsound : e.malformed true = false) (hroom : s.cueFree ≠ 0)
    (htime : s.cueLate e.stroke = false) : cueCell s n l pos false [e] = s.queueCue e := by
  have hself : ({ e with target := 0 } : CueEntry) = e := by rw [← htarget]
  have henter := State.enterCue_in_time (s := s) (e := e) (by simp [htime])
  simp [cueCell, route_mine l _ htile hserves hrestart hvalid hpos, hself, haction, hsound, htest, hroom, henter]

theorem linkPort_of_serves {n : Nat} (hserves : s.serves n = true) : linkPort n = n := by
  have hn : n ≠ 8 := by
    rintro rfl
    unfold State.serves State.serving at hserves
    split at hserves <;> simp at hserves
  simp [linkPort, hn]

/-- A sound cell counts on the path it came by, and the lane's run of damaged ones ends (R186, R189). -/
theorem changesOnly_goodCell (s : State) (n l : Nat) : ChangesOnly [] [Fld.addr (.chpCellsrx n)] s (s.goodCell n l) :=
  .update (.setLive (.refl s))

end

/-- Settles O22. -/
theorem cuesAreDistributedAndReceived : Obligations.CuesAreDistributedAndReceived := by
  refine ⟨fun s latched c hdrives hj hqueue htiles hports hall htarget hdue hcredit hport => ?_,
    fun s port lane pos e htile hserves hrestart hvalid hpos htest htarget haction hsound hroom htime => ?_⟩
  · obtain ⟨u, heffect, hempty, hqueued, hspent, hsent, hkeep⟩ := distribute_facts (s := { s with sent := [], reply := none }) (latched := latched)
      hdrives hj hqueue htiles hports hall htarget hdue hcredit hport
    exact completes_of_effect (f := fun s => if s.drives then s.cue.queue.foldl (distributeOne latched) s else s) rfl heffect
      ⟨hempty, hqueued, hspent, hsent, hkeep.registers, hkeep.memories⟩
  · have hcell := cueCell_enters (s := State.goodCell { s with sent := [], reply := none } port lane) (l := lane)
      htile hserves hrestart hvalid hpos htest htarget haction hsound hroom htime
    have heffect : State.arrive { s with sent := [], reply := none } port lane .none
        (State.through { s with sent := [], reply := none } port pos false) (cueCell · port lane pos false [e]) =
        (State.goodCell { s with sent := [], reply := none } port lane).queueCue e := by
      rw [State.arrive, linkPort_of_serves (s := { s with sent := [], reply := none }) hserves, if_pos rfl, hcell]
    have hkeep : ChangesOnly [] [Fld.addr (.chpCellsrx port)] s ((State.goodCell { s with sent := [], reply := none } port lane).queueCue e) :=
      .update (.trans (.update (.refl s)) (changesOnly_goodCell _ port lane))
    exact completes_of_effect (f := fun s => s.arrive port lane .none (s.through port pos false) (cueCell · port lane pos false [e])) rfl heffect
      ⟨rfl, rfl, hkeep.registers, hkeep.memories⟩

end Sys2Proof.Machine
end

section
/-!
SUPPORT. The catches of a sender (R92 to R96, R100, R113).
-/

namespace Sys2Proof.Machine

/-! ### The generator's catch (R94, R95) -/

/-- The unit and its generator run as they ran, the last catch lies where it lay, and STK.NOW shows the same stroke. -/
structure SameCatch (s t : State) : Prop where
  running : t.time.running = s.time.running
  catchAt : t.time.catchAt = s.time.catchAt
  stroke : t.stroke = s.stroke
  boot : t.boot = s.boot

section
variable {s t : State}

theorem SameCatch.refl (s : State) : SameCatch s s := ⟨rfl, rfl, rfl, rfl⟩

theorem sameCatch_of_eq (htime : t.time = s.time) (hregs : t.regs = s.regs) (hboot : t.boot = s.boot) : SameCatch s t :=
  ⟨congrArg (·.running) htime, congrArg (·.catchAt) htime, State.fld_congr hregs _, hboot⟩

theorem SameCatch.trans {u : State} (h : SameCatch s t) (h' : SameCatch t u) : SameCatch s u :=
  ⟨h'.running.trans h.running, h'.catchAt.trans h.catchAt, h'.stroke.trans h.stroke, h'.boot.trans h.boot⟩

/-- What neither paces strokes nor holds registers has no part in it. -/
theorem SameCatch.update (h : SameCatch s t)
    {counters frc access cue net ing cmp chain scan lamp grain cal dram pairing flt ths bist life upd sent reply free pending} :
    SameCatch s ⟨t.regs, counters, frc, access, t.boot, t.time, cue, net, ing, cmp, chain, scan, lamp, grain, cal, dram, pairing, flt, ths, bist,
      life, upd, sent, reply, free, pending⟩ :=
  ⟨h.running, h.catchAt, h.stroke, h.boot⟩

theorem SameCatch.setFld {f : Fld} {v : Nat} (h : SameCatch s t) (hf : Fld.addr .stkNow ≠ f.addr := by decide) : SameCatch s (t.setFld f v) :=
  h.trans ⟨rfl, rfl, State.fld_setFld_ne t f .stkNow v hf, rfl⟩

theorem SameCatch.raise {i : Nat} (h : SameCatch s t) : SameCatch s (t.raise i) :=
  h.trans (sameCatch_of_eq (State.raise_time t i) (State.raise_regs t i) (State.raise_boot t i))

theorem SameCatch.ite {u : State} {c : Prop} {_ : Decidable c} (ht : SameCatch s t) (hu : SameCatch s u) : SameCatch s (if c then t else u) := by
  split
  · exact ht
  · exact hu

theorem SameCatch.pulseOut (h : SameCatch s t) : SameCatch s t.pulseOut :=
  .ite (h.trans ⟨rfl, rfl, rfl, rfl⟩) h

theorem ChangesOnly.pulseOut {but counters : List Nat} (h : ChangesOnly but counters s t) : ChangesOnly but counters s t.pulseOut :=
  .ite h.update h

/-- The generator runs and its last catch lies at an instant; the unit runs as it ran. -/
structure CaughtAt (at_ : Int) (s t : State) : Prop where
  running : t.time.running = true
  catchAt : t.time.catchAt = at_
  boot : t.boot = s.boot

section
variable {at_ : Int}

theorem CaughtAt.setFld {f : Fld} {v : Nat} (h : CaughtAt at_ s t) : CaughtAt at_ s (t.setFld f v) :=
  ⟨h.running, h.catchAt, h.boot⟩

theorem CaughtAt.raise {i : Nat} (h : CaughtAt at_ s t) : CaughtAt at_ s (t.raise i) :=
  ⟨(congrArg (·.running) (State.raise_time t i)).trans h.running, (congrArg (·.catchAt) (State.raise_time t i)).trans h.catchAt,
    (State.raise_boot t i).trans h.boot⟩

theorem CaughtAt.ite {u : State} {c : Prop} {_ : Decidable c} (ht : CaughtAt at_ s t) (hu : CaughtAt at_ s u) :
    CaughtAt at_ s (if c then t else u) := by
  split
  · exact ht
  · exact hu

theorem CaughtAt.pulseOut (h : CaughtAt at_ s t) : CaughtAt at_ s t.pulseOut :=
  .ite ⟨h.running, h.catchAt, h.boot⟩ h

/-- The generator as a catch in service leaves it. -/
theorem caughtAt_next {k length : Nat} {freq : Int} (hruns : t.time.running = true) (hboot : t.boot = s.boot) :
    CaughtAt at_ s { t with time.frame := k, time.catchAt := at_, time.freq := freq, time.length := length } :=
  ⟨hruns, rfl, hboot⟩

/-- The generator as its first catch leaves it. -/
theorem caughtAt_first {k length : Nat} {freq : Int} :
    CaughtAt at_ s { s with time.running := true, time.frame := k, time.catchAt := at_, time.freq := freq, time.length := length } :=
  ⟨rfl, rfl, rfl⟩

end

theorem State.running_showErr (n : Nat) (err : Int) : ((s.setFld .stkLen n).setSfld .stkPherr err).time.running = s.time.running := by
  rw [State.setSfld_time, State.setFld_time]

theorem State.boot_showErr (s : State) (n : Nat) (err : Int) : ((s.setFld .stkLen n).setSfld .stkPherr err).boot = s.boot := by
  rw [State.setSfld_boot, State.setFld_boot]

theorem caughtAt_placeNext (hruns : s.time.running = true) : CaughtAt s.dueCatch s s.placeNext :=
  have h : CaughtAt s.dueCatch s _ := (caughtAt_next ((State.running_showErr _ _).trans hruns) (State.boot_showErr s _ _)).setFld (f := .stkNow)
  .ite h h.setFld.raise

theorem stroke_of_ite {c : Prop} {_ : Decidable c} {k : Nat} (hs : s.stroke = k) (ht : t.stroke = k) : (if c then s else t).stroke = k := by
  split
  · exact hs
  · exact ht

theorem State.stroke_setFld_now (s : State) (k : Nat) : (s.setFld .stkNow k).stroke = k % 2 ^ 32 :=
  State.fld_setFld_self _ _ _ (by decide)

theorem State.stroke_showSkew (s : State) (skew : Int) : ((s.setSfld .stkNumskew skew).raise srcStkNumskew).stroke = s.stroke :=
  ((SameCatch.refl s).setFld.raise).stroke

theorem stroke_placeNext (s : State) : s.placeNext.stroke = (s.time.frame + 1) % 2 ^ 32 :=
  stroke_of_ite (State.stroke_setFld_now _ _) ((State.stroke_showSkew _ _).trans (State.stroke_setFld_now _ _))

/-- The registers of STK that a catch of a sender changes. -/
def catchRegs : List Nat := [Fld.addr .stkNow, Fld.addr .stkLen, Fld.addr .stkPherr, Fld.addr .stkNumskew, Fld.addr .stkStatLock]

theorem changesOnly_placeNext (s : State) : ChangesOnly catchRegs [] s s.placeNext :=
  have h : ChangesOnly catchRegs [] s _ :=
    .setFld (f := .stkNow) (.update (.setSfld (f := .stkPherr) (.setFld (f := .stkLen) (.refl s) (by decide)) (by decide))) (by decide)
  .ite h (.raise (.setSfld h (by decide)))

theorem caughtAt_placeFirst (s : State) : CaughtAt (s.referenceAt s.dueCatch).1 s s.placeFirst :=
  caughtAt_first.setFld.setFld.setFld

theorem changesOnly_placeFirst (s : State) : ChangesOnly catchRegs [] s s.placeFirst :=
  .setFld (.setFld (.setFld (.update (.refl s)) (by decide)) (by decide)) (by decide)

/-- With source 0 the reference is T(k) of the frame nearest (R92, R94). -/
theorem referenceAt_of_free (at_ : Int) (hsrc : s.prof (·.strokeSrc) = 0) : (s.referenceAt at_).1 = s.catchOf (s.nearestFrame at_) := by
  simp [State.referenceAt, hsrc]

/-! ### What else a catch does (R33, R94, R100, R113) -/

theorem SameCatch.freshAllowances (h : SameCatch s t) : SameCatch s t.freshAllowances :=
  h.update

theorem ChangesOnly.freshAllowances {but counters : List Nat} (h : ChangesOnly but counters s t) : ChangesOnly but counters s t.freshAllowances :=
  h.update

theorem SameCatch.bump {f : Fld} {n : Nat} (h : SameCatch s t) : SameCatch s (t.bump f n) :=
  h.update

/-- What lateness does to the state holds through a whole queue of cues. -/
theorem rejudgeCues_rec {P : State → Prop} (h : P s) (hlate : ∀ t c due, P t → P (t.lateCue c due).1)
    (hqueue : ∀ t q, P t → P { t with cue.queue := q }) : P s.rejudgeCues := by
  refine hqueue _ _ (List.foldlRecOn (motive := fun x : State × List Cue => P x.1) _ _ h fun x hx c _ => ?_)
  dsimp only
  split_ifs
  · exact hlate _ _ s.boundary hx
  · exact hx
  · exact hx

theorem SameCatch.rejudgeCues (h : SameCatch s t) : SameCatch s t.rejudgeCues :=
  rejudgeCues_rec h (fun _ _ _ h => .ite h h.bump) fun _ _ h => h.update

theorem ChangesOnly.rejudgeCues {but : List Nat} (h : ChangesOnly but [Fld.addr .cueLatecnt] s t) :
    ChangesOnly but [Fld.addr .cueLatecnt] s t.rejudgeCues :=
  rejudgeCues_rec h (fun _ _ _ h => .ite h (.setLive h)) fun _ _ h => h.update

theorem pairBoundary_of_unpaired (hpair : s.prof (·.pair) ≠ 1) : s.pairBoundary = s := by
  simp [State.pairBoundary, State.paired, hpair]

section
variable (hsender : s.isSender = true) (hmay : s.mayCatch = true)
include hsender hmay

theorem caughtAt_senderCatch {at_ : Int} (h : CaughtAt at_ s (if s.steady then s.placeNext else s.placeFirst)) : CaughtAt at_ s (senderCatch s) := by
  rw [senderCatch, if_neg (by simp [hsender, hmay])]
  exact .pulseOut (.ite h.setFld.setFld h.setFld)

theorem stroke_senderCatch (hsteady : s.steady = true) : (senderCatch s).stroke = s.placeNext.stroke := by
  rw [senderCatch, if_neg (by simp [hsender, hmay]), if_pos hsteady]
  exact (SameCatch.pulseOut (.ite ((SameCatch.refl _).setFld (f := .stkStatSrc)).setFld (.setFld (.refl _)))).stroke

theorem changesOnly_senderCatch : ChangesOnly catchRegs [] s (senderCatch s) := by
  have h : ChangesOnly catchRegs [] s (if s.steady then s.placeNext else s.placeFirst) :=
    .ite (changesOnly_placeNext s) (changesOnly_placeFirst s)
  rw [senderCatch, if_neg (by simp [hsender, hmay])]
  exact .pulseOut (.ite (.setFld (.setFld h (by decide)) (by decide)) (.setFld h (by decide)))

end

theorem SameCatch.pairBoundary (h : SameCatch s t) (hpair : s.prof (·.pair) ≠ 1) : SameCatch s t.pairBoundary := by
  have hsame : t.pairBoundary = t := pairBoundary_of_unpaired (by rwa [State.prof, h.boot])
  rwa [hsame]

theorem ChangesOnly.pairBoundary {but counters : List Nat} (hkeep : ChangesOnly but counters s t) (h : SameCatch s t)
    (hpair : s.prof (·.pair) ≠ 1) : ChangesOnly but counters s t.pairBoundary := by
  have hsame : t.pairBoundary = t := pairBoundary_of_unpaired (by rwa [State.prof, h.boot])
  rwa [hsame]

section
variable (hgen : s.generates = true) (hmay : s.mayCatch = true) (hpair : (senderCatch s).prof (·.pair) ≠ 1)
include hgen hmay hpair

/-- The boundary of the chains and the judgement of the cues leave the catch where it was placed. -/
theorem sameCatch_senderCatchAll : SameCatch (senderCatch s) (senderCatchAll s) := by
  rw [senderCatchAll, if_neg (by simp [hgen, hmay])]
  exact
    have hturn : SameCatch (senderCatch s) _ := (SameCatch.refl (senderCatch s)).update.freshAllowances
    have hend : SameCatch (senderCatch s) _ := .ite hturn (hturn.pairBoundary hpair)
    .ite hend (.rejudgeCues hend.update)

theorem changesOnly_senderCatchAll : ChangesOnly [] [Fld.addr .cueLatecnt] (senderCatch s) (senderCatchAll s) := by
  rw [senderCatchAll, if_neg (by simp [hgen, hmay])]
  exact
    have hturn : ChangesOnly [] _ (senderCatch s) _ := (ChangesOnly.refl (senderCatch s)).update.freshAllowances
    have hsame : SameCatch (senderCatch s) _ := (SameCatch.refl (senderCatch s)).update.freshAllowances
    have hend : ChangesOnly [] _ (senderCatch s) _ := .ite hturn (hturn.pairBoundary hsame hpair)
    .ite hend (.rejudgeCues hend.update)

end

theorem State.isSender_of_generates (hgen : s.generates = true) : s.isSender = true := by
  simp only [State.generates, Bool.and_eq_true] at hgen
  exact hgen.1.1.1

theorem State.steady_of_service (hruns : s.time.running = true) (hstage : s.fld .devBootstatStage = 7) : s.steady = true := by
  simp [State.steady, hruns, hstage]

theorem State.running_of_steady (hsteady : s.steady = true) : s.time.running = true := by
  simp only [State.steady, Bool.and_eq_true] at hsteady
  exact hsteady.1

theorem State.dueCatch_of_running (hruns : s.time.running = true) : s.dueCatch = s.time.catchAt + s.time.length := if_pos hruns

/-- A catch is placed one stroke on, or at the reference (R94, R95). -/
theorem caughtAt_placed (s : State) :
    CaughtAt (if s.steady then s.dueCatch else (s.referenceAt s.dueCatch).1) s (if s.steady then s.placeNext else s.placeFirst) := by
  split
  case isTrue hsteady => exact caughtAt_placeNext (State.running_of_steady hsteady)
  case isFalse => exact caughtAt_placeFirst s

/-- SENDER_CATCH in an unpaired sender (R94 to R96). -/
theorem senderCatch_facts (hgen : s.generates = true) (hpair : s.prof (·.pair) ≠ 1) (hmay : s.mayCatch = true) :
    (senderCatchAll s).time.running = true ∧
      (senderCatchAll s).time.catchAt = (if s.steady then s.dueCatch else (s.referenceAt s.dueCatch).1) ∧
      (s.steady = true → (senderCatchAll s).stroke = (s.time.frame + 1) % 2 ^ 32) ∧
      ChangesOnly catchRegs [Fld.addr .cueLatecnt] s (senderCatchAll s) := by
  have hsender := State.isSender_of_generates hgen
  obtain ⟨hruns, hat, hboot⟩ := caughtAt_senderCatch hsender hmay (caughtAt_placed s)
  have hunpaired : (senderCatch s).prof (·.pair) ≠ 1 := by rwa [State.prof, hboot]
  obtain ⟨hruns', hat', hstroke', -⟩ := sameCatch_senderCatchAll hgen hmay hunpaired
  refine ⟨hruns'.trans hruns, hat'.trans hat, fun hsteady => ?_, ?_⟩
  · rw [hstroke', stroke_senderCatch hsender hmay hsteady, stroke_placeNext]
  · exact ((changesOnly_senderCatch hsender hmay).mono (List.Subset.refl _) (by simp)).trans
      ((changesOnly_senderCatchAll hgen hmay hunpaired).mono (by simp) (List.Subset.refl _))

end
end Sys2Proof.Machine
end

section
/-!
SUPPORT. The cells that leave by the chain ports (R98, R175, R181, R191), and the markers of a sender (R204).
-/

namespace Sys2Proof.Machine

/-- A change that leaves a projection of every element leaves it of a list's element. -/
theorem getD_listModify_of_keeps {α β : Type} {l : List α} {i j : Nat} {f : α → α} {d : α} (g : α → β) (hf : ∀ x, g (f x) = g x) :
    g ((listModify l i f).getD j d) = g (l.getD j d) := by
  rw [listModify_eq_modify, List.getD_eq_getElem?_getD, List.getD_eq_getElem?_getD, List.getElem?_modify]
  cases l[j]? with
  | none => rfl
  | some x =>
    by_cases hij : i = j
    · simp [hij, hf]
    · simp [hij]

/-- EIDLE of every chain port, with the rest of its STAT register. -/
def chainStats : List Nat := (List.range 8).map (fun n => Fld.addr (.chpStatEidle n))

/-- CELLSTX of every chain port. -/
def chainCellstx : List Nat := (List.range 8).map (fun n => Fld.addr (.chpCellstx n))

theorem mem_chainStats {n : Nat} (hn : n < 8) : Fld.addr (.chpStatEidle n) ∈ chainStats :=
  List.mem_map_of_mem (f := fun n => Fld.addr (.chpStatEidle n)) (List.mem_range.mpr hn)

theorem mem_chainCellstx {n : Nat} (hn : n < 8) : Fld.addr (.chpCellstx n) ∈ chainCellstx :=
  List.mem_map_of_mem (f := fun n => Fld.addr (.chpCellstx n)) (List.mem_range.mpr hn)

/-- Cells have left since `s`: what left before is there, the lanes are up and down as they were, and only electrical idle and CELLSTX changed. -/
structure Emits (s t : State) : Prop where
  sent : s.sent ⊆ t.sent
  lanes : ∀ n l, ((t.port n).lane l).down = ((s.port n).lane l).down
  boot : t.boot = s.boot
  pairing : t.pairing = s.pairing
  keeps : ChangesOnly chainStats chainCellstx s t

section
variable {s t : State}

theorem Emits.refl (s : State) : Emits s s :=
  ⟨List.Subset.refl _, fun _ _ => rfl, rfl, rfl, .refl s⟩

theorem Emits.trans {u : State} (h : Emits s t) (h' : Emits t u) : Emits s u :=
  ⟨List.Subset.trans h.sent h'.sent, fun n l => (h'.lanes n l).trans (h.lanes n l), h'.boot.trans h.boot, h'.pairing.trans h.pairing, h.keeps.trans h'.keeps⟩

theorem Emits.ite {u : State} {c : Prop} {_ : Decidable c} (ht : Emits s t) (hu : Emits s u) : Emits s (if c then t else u) := by
  split
  · exact ht
  · exact hu

theorem Emits.foldl {α : Type} {f : State → α → State} {l : List α} (h : Emits s t)
    (hf : ∀ x ∈ l, ∀ {u : State}, Emits s u → Emits s (f u x)) : Emits s (l.foldl f t) := by
  induction l generalizing t with
  | nil => exact h
  | cons x l ih => exact ih (hf x (by simp) h) fun y hy => hf y (by simp [hy])

theorem Emits.send {x : Sent} (h : Emits s t) : Emits s (t.send x) :=
  h.trans ⟨List.subset_append_left _ _, fun _ _ => rfl, rfl, rfl, (ChangesOnly.refl t).send⟩

theorem Emits.setFldBit {n i : Nat} {b : Bool} (h : Emits s t) (hn : n < 8) : Emits s (t.setFldBit (.chpStatEidle n) i b) :=
  h.trans ⟨List.Subset.refl _, fun _ _ => rfl, rfl, rfl, (ChangesOnly.refl t).setFldBit (mem_chainStats hn)⟩

theorem Emits.bump {n k : Nat} (h : Emits s t) (hn : n < 8) : Emits s (t.bump (.chpCellstx n) k) :=
  h.trans ⟨List.Subset.refl _, fun _ _ => rfl, rfl, rfl, (ChangesOnly.refl t).setLive (mem_chainCellstx hn)⟩

theorem ChainPort.down_onLane_eidle (p : ChainPort) (l m : Nat) (b : Bool) :
    ((p.onLane l (fun x => { x with eidle := b })).lane m).down = (p.lane m).down := by
  unfold ChainPort.onLane ChainPort.lane
  split_ifs <;> rfl

theorem Emits.wakePort {n l : Nat} (h : Emits s t) : Emits s (t.onPort n (·.onLane l (fun x => { x with eidle := false }))) :=
  h.trans ⟨List.Subset.refl _, fun _ m => getD_listModify_of_keeps (fun p : ChainPort => (p.lane m).down) fun p => p.down_onLane_eidle l m false, rfl, rfl,
    (ChangesOnly.refl t).update⟩

theorem Emits.wakeLane {n l : Nat} (h : Emits s t) (hn : n < 8) : Emits s (t.wakeLane n l) :=
  (h.wakePort.setFldBit hn).send

theorem Emits.sendOn {n l : Nat} {c : Cell} (h : Emits s t) (hn : linkPort n < 8) : Emits s (t.sendOn n l c) :=
  (Emits.bump (.ite (h.wakeLane hn) h) hn).send

/-- Class 0 leaves at once, or is withheld (R206). -/
theorem Emits.submit {n k : Nat} {c : Cell} (h : Emits s t) (hn : linkPort n < 8) (hc : c.cls = 0) : Emits s (t.submit n k c) := by
  rw [State.submit, if_pos (by simp [hc])]
  exact .ite h (h.sendOn hn)

theorem mem_sent_sendOn (s : State) (n l : Nat) (c : Cell) : Sent.cell n l c ∈ (s.sendOn n l c).sent :=
  List.mem_append_right _ (List.mem_singleton_self _)

theorem mem_sent_submit {n k : Nat} {c : Cell} (hc : c.cls = 0) (hgoes : s.withholds c = false) :
    Sent.cell n (s.outLane n 0) c ∈ (s.submit n k c).sent := by
  rw [State.submit, if_pos (by simp [hc]), if_neg (by simp [hgoes])]
  exact mem_sent_sendOn s n _ c

theorem Emits.outLane (h : Emits s t) (n l : Nat) : t.outLane n l = s.outLane n l := by
  simp [State.outLane, h.lanes]

theorem not_mem_chainStats {a : Nat} (ha : a / 4096 < 0x140) : a ∉ chainStats := by
  simp only [chainStats, List.mem_map, List.mem_range]
  rintro ⟨n, -, rfl⟩
  have hpage : Fld.addr (.chpStatEidle n) = 4096 * (0x140 + n) + 0x44 := rfl
  omega

theorem Emits.fld (h : Emits s t) {f : Fld} (hf : f.addr / 4096 < 0x140 := by decide) : t.fld f = s.fld f :=
  h.keeps.fld (not_mem_chainStats hf)

theorem Emits.isSender (h : Emits s t) : t.isSender = s.isSender :=
  congrArg (· == 1) h.fld

theorem Emits.withholds (h : Emits s t) (c : Cell) : t.withholds c = s.withholds c := by
  have hprof : t.prof (·.pair) = s.prof (·.pair) := by rw [State.prof, h.boot, State.prof]
  have hpairs : t.onlyPairs = s.onlyPairs := by
    rw [State.onlyPairs, h.isSender, hprof, h.fld, h.pairing, State.onlyPairs]
  have hstage : t.fld .devBootstatStage = s.fld .devBootstatStage := h.fld
  cases c <;> simp only [State.withholds, hpairs, h.isSender, hstage, h.boot]

/-- A marker's cell is not withheld by a unit that drives its chains, in service or holding through (R69, R323). -/
theorem withholds_of_drives {c : Cell} (hdrives : s.drives = true)
    (hserves : s.fld .devBootstatStage = 7 ∨ s.boot.warm = false ∨ s.boot.holdThrough = true)
    (hc : s.withholds c = (s.onlyPairs || (s.isSender && s.fld .devBootstatStage != 7 && s.boot.warm && !s.boot.holdThrough))) :
    s.withholds c = false := by
  simp only [State.drives, Bool.and_eq_true, Bool.or_eq_true, bne_iff_ne] at hdrives
  obtain ⟨-, hcontrol⟩ := hdrives
  have hpairs : s.onlyPairs = false := by
    rcases hcontrol with hpair | hcontrol <;> simp [State.onlyPairs, *]
  rcases hserves with hstage | hwarm | hhold <;> simp [*]

/-! ### Markers (R98, R191, R204) -/

/-- The cell leaves by its path as the state `s` has it. -/
def State.leavesBy (s : State) (c : Cell) (n : Nat) (t : State) : Prop := Sent.cell n (s.outLane n 0) c ∈ t.sent

theorem State.leavesBy.mono {c : Cell} {n : Nat} {u : State} (hleaves : s.leavesBy c n t) (h : Emits t u) : s.leavesBy c n u :=
  h.sent hleaves

theorem Emits.leaves_sendCell {c : Cell} (h : Emits s t) (n : Nat) (hc : c.cls = 0) (hgoes : s.withholds c = false) :
    s.leavesBy c n (t.sendCell n c) := by
  rw [State.leavesBy, ← h.outLane]
  exact mem_sent_submit hc ((h.withholds c).trans hgoes)

theorem Emits.sendCell {n : Nat} {c : Cell} (h : Emits s t) (hn : linkPort n < 8) (hc : c.cls = 0) : Emits s (t.sendCell n c) :=
  h.submit hn hc

theorem linkPort_lt {n : Nat} (hn : n < 9) : linkPort n < 8 := by
  unfold linkPort
  split
  case isTrue => decide
  case isFalse hne =>
    have hcross : n ≠ 8 := by simpa using hne
    omega

theorem Emits.launchOn {m : StrokeCell} {c : CoxCell} {n : Nat} (h : Emits s t) (hn : n < 9) : Emits s (t.launchOn m c n) :=
  (h.sendCell (linkPort_lt hn) rfl).sendCell (linkPort_lt hn) rfl

/-- Both cells of a marker have left by a path. -/
def State.launched (s : State) (m : StrokeCell) (c : CoxCell) (n : Nat) (t : State) : Prop :=
  s.leavesBy (.stroke m) n t ∧ s.leavesBy (.cox { c with stroke := m.stroke, port := n }) n t

theorem State.launched.mono {m : StrokeCell} {c : CoxCell} {n : Nat} {u : State} (hlaunched : s.launched m c n t) (h : Emits t u) :
    s.launched m c n u :=
  ⟨hlaunched.1.mono h, hlaunched.2.mono h⟩

section
variable {m : StrokeCell} {c : CoxCell}

theorem Emits.launched_launchOn {n : Nat} (h : Emits s t) (hn : n < 9) (hstroke : s.withholds (.stroke m) = false)
    (hcox : s.withholds (.cox { c with stroke := m.stroke, port := n }) = false) : s.launched m c n (t.launchOn m c n) :=
  have hfirst : Emits t (t.sendCell n (.stroke m)) := (Emits.refl t).sendCell (linkPort_lt hn) rfl
  ⟨(h.leaves_sendCell n rfl hstroke).mono ((Emits.refl _).sendCell (linkPort_lt hn) rfl), (h.trans hfirst).leaves_sendCell n rfl hcox⟩

theorem Emits.launchAll {l : List Nat} (h : Emits s t) (hl : ∀ n ∈ l, n < 9) : Emits s (l.foldl (State.launchOn m c) t) :=
  h.foldl fun n hn _ h => h.launchOn (hl n hn)

/-- A marker leaves by each path of a list (R98, R191). -/
theorem Emits.launched_launchAll {l : List Nat} (h : Emits s t) (hl : ∀ n ∈ l, n < 9) (hstroke : s.withholds (.stroke m) = false)
    (hcox : ∀ n, s.withholds (.cox { c with stroke := m.stroke, port := n }) = false) :
    ∀ n ∈ l, s.launched m c n (l.foldl (State.launchOn m c) t) := by
  induction l generalizing t with
  | nil => simp
  | cons n l ih =>
    have hn : n < 9 := hl n (by simp)
    have htail : ∀ k ∈ l, k < 9 := fun k hk => hl k (by simp [hk])
    intro k hk
    rcases List.mem_cons.mp hk with rfl | hk
    · exact (h.launched_launchOn hn hstroke (hcox k)).mono ((Emits.refl _).launchAll htail)
    · exact ih (h.launchOn hn) htail k hk

theorem State.lt_of_mem_servicePorts {n : Nat} (hn : n ∈ s.servicePorts) : n < 8 := by
  have hport : n ∈ s.chainPorts := List.mem_of_mem_filter hn
  unfold State.chainPorts at hport
  split_ifs at hport <;> simp at hport <;> omega

/-- The PAIR cells that follow a marker (R321). -/
theorem Emits.sendPair (h : Emits s t) : Emits s t.sendPair := by
  have hcross : Emits s (t.sendCross (.pair t.pairCell)) := .ite (h.sendCell (by decide) rfl) h
  exact .ite h (hcross.foldl fun n hn _ h => h.sendCell (linkPort_lt (Nat.lt_succ_of_lt (State.lt_of_mem_servicePorts hn))) rfl)

theorem markerLaunch_facts (hgen : s.generates = true) (hruns : s.time.running = true) (hdrives : s.drives = true)
    (hserves : s.fld .devBootstatStage = 7 ∨ s.boot.warm = false ∨ s.boot.holdThrough = true) :
    (∀ n ∈ s.servicePorts, s.launched s.nextMarker (s.ownCox 0) n (markerLaunch s)) ∧ Emits s (markerLaunch s) := by
  have hports : ∀ n ∈ s.servicePorts, n < 9 := fun n hn => Nat.lt_succ_of_lt (State.lt_of_mem_servicePorts hn)
  have hlaunch := (Emits.refl s).launched_launchAll (m := s.nextMarker) (c := s.ownCox 0) hports (withholds_of_drives hdrives hserves rfl)
    fun n => withholds_of_drives hdrives hserves rfl
  have hall := (Emits.refl s).launchAll (m := s.nextMarker) (c := s.ownCox 0) hports
  rw [markerLaunch, if_neg (by simp [hgen, hruns])]
  simp only [hdrives, if_true]
  have hpair : ∀ u : State, Emits u (if u.restarting then u else u.sendPair) := fun u => .ite (.refl u) (.sendPair (.refl u))
  exact ⟨fun n hn => (hlaunch n hn).mono (hpair _), hall.trans (hpair _)⟩

end
end
end Sys2Proof.Machine
end

section
/-!
SUPPORT. The lead point of a sender (R97, R102, R156): what its latch and its composition leave as they were.
-/

namespace Sys2Proof.Machine

/-- The unit runs as it ran, the same stroke is prepared, and the same snapshots are requested. -/
structure SameLatch (s t : State) : Prop where
  boot : t.boot = s.boot
  prepared : t.access.prepared = s.access.prepared
  snapReqs : t.access.snapReqs = s.access.snapReqs

section
variable {s t : State}

theorem SameLatch.refl (s : State) : SameLatch s s := ⟨rfl, rfl, rfl⟩

theorem SameLatch.trans {u : State} (h : SameLatch s t) (h' : SameLatch t u) : SameLatch s u :=
  ⟨h'.boot.trans h.boot, h'.prepared.trans h.prepared, h'.snapReqs.trans h.snapReqs⟩

/-- No other component of the state has a part in it. -/
theorem SameLatch.update (h : SameLatch s t)
    {regs counters frc commits captured fences fenceWait sessions queue tunnelled tunnel nextTag time cue net ing cmp chain scan lamp grain cal dram
      pairing flt ths bist life upd sent reply free pending} :
    SameLatch s ⟨regs, counters, frc, ⟨commits, captured, t.access.prepared, t.access.snapReqs, fences, fenceWait, sessions, queue, tunnelled,
      tunnel, nextTag⟩, t.boot, time, cue, net, ing, cmp, chain, scan, lamp, grain, cal, dram, pairing, flt, ths, bist, life, upd, sent, reply, free,
      pending⟩ :=
  ⟨h.boot, h.prepared, h.snapReqs⟩

theorem SameLatch.ite {u : State} {c : Prop} {_ : Decidable c} (ht : SameLatch s t) (hu : SameLatch s u) : SameLatch s (if c then t else u) := by
  split
  · exact ht
  · exact hu

theorem SameLatch.foldl {α : Type} {f : State → α → State} {l : List α} (h : SameLatch s t)
    (hf : ∀ {u : State} {x : α}, SameLatch s u → SameLatch s (f u x)) : SameLatch s (l.foldl f t) :=
  List.foldlRecOn l f h fun _ h _ _ => hf h

theorem SameLatch.foldl_fst {α β : Type} {f : State × β → α → State × β} {l : List α} {x : State × β} (h : SameLatch s x.1)
    (hf : ∀ {y : State × β} {a : α}, SameLatch s y.1 → SameLatch s (f y a).1) : SameLatch s (l.foldl f x).1 :=
  List.foldlRecOn (motive := fun y => SameLatch s y.1) l f h fun _ h _ _ => hf h

theorem SameLatch.setReg {a : Nat} {v : Word} (h : SameLatch s t) : SameLatch s (t.setReg a v) := h.update

theorem SameLatch.setFld {f : Fld} {v : Nat} (h : SameLatch s t) : SameLatch s (t.setFld f v) := h.setReg

theorem SameLatch.setSfld {f : Fld} {v : Int} (h : SameLatch s t) : SameLatch s (t.setSfld f v) := h.setReg

theorem SameLatch.bump {f : Fld} {n : Nat} (h : SameLatch s t) : SameLatch s (t.bump f n) := h.update

theorem SameLatch.setLiveFld {f : Fld} {v : Nat} (h : SameLatch s t) : SameLatch s (t.setLiveFld f v) := h.update

theorem SameLatch.raise {i : Nat} (h : SameLatch s t) : SameLatch s (t.raise i) := .ite h h.update

theorem SameLatch.level {i : Nat} {b : Bool} (h : SameLatch s t) : SameLatch s (t.level i b) := .ite h.raise h.update

/-! ### The boundary of a sender (R41, R291) -/

theorem SameLatch.ite_snd {α : Type} {x y : α × State} {c : Prop} {_ : Decidable c} (hx : SameLatch s x.2) (hy : SameLatch s y.2) :
    SameLatch s (if c then x else y).2 := by
  split
  · exact hx
  · exact hy

theorem SameLatch.capture {e : Nat × Word} (h : SameLatch s t) : SameLatch s (t.capture e) :=
  .setReg (.ite_snd (x := (_, t.draw.2)) h.update h)

theorem SameLatch.snapshot {ended page : Nat} (h : SameLatch s t) : SameLatch s (State.snapshot ended t page) :=
  .setFld (.setFld (h.foldl fun h => h.capture))

theorem SameLatch.startSlack (h : SameLatch s t) : SameLatch s t.startSlack := .setLiveFld h.update

theorem SameLatch.countWindows (h : SameLatch s t) : SameLatch s t.countWindows := h.update

theorem SameLatch.applied {kind set : Nat} (h : SameLatch s t) : SameLatch s (t.applied kind set) :=
  have hshown : SameLatch s _ := SameLatch.bump (.setFld (.setFld (.setSfld (.setFld h.update))))
  .setFld (.setFld hshown)

theorem SameLatch.calCatch (h : SameLatch s t) : SameLatch s t.calCatch := by
  unfold State.calCatch
  extract_lets next kept _ s₁ s₂ _ s₃
  have h₁ : SameLatch s s₁ := h.update
  have h₂ : SameLatch s s₂ := by
    unfold s₂
    clear_value next s₁
    split
    · exact h₁
    · exact .foldl h₁ fun h => h.setSfld.setSfld
  have h₃ : SameLatch s s₃ := h₂.update
  clear_value s₃
  split
  · exact h₃
  · exact .ite h₃ h₃.applied

/-! ### The latch (R33, R37, R38) -/

theorem SameLatch.refuseCommit {page reason : Nat} (h : SameLatch s t) : SameLatch s (t.refuseCommit page reason) :=
  h.update.setFld.setFld

theorem SameLatch.moveLate {m : Nat} {c : Commit} (h : SameLatch s t) : SameLatch s (State.moveLate m t c) :=
  .ite h (.ite h.refuseCommit h.setFld.setFld.update)

theorem SameLatch.advanceRetire (h : SameLatch s t) : SameLatch s t.advanceRetire :=
  .ite h.setFld.raise h

theorem SameLatch.release {p : InUse → Bool} (h : SameLatch s t) : SameLatch s (t.release p) :=
  h.update.advanceRetire

theorem SameLatch.abortBuild {v : Nat} (h : SameLatch s t) : SameLatch s (t.abortBuild v) := by
  unfold State.abortBuild
  split
  · exact h
  · exact .release (.setFld (.setFld (.setFld h.update)))

theorem SameLatch.judgeChain {n : Nat} (h : SameLatch s t) : SameLatch s (t.judgeChain n) :=
  .ite h h.setFld.setFld.level.level

theorem SameLatch.afterSenderTake {canvas : Nat × Nat} {page : Nat} (h : SameLatch s t) : SameLatch s (t.afterSenderTake canvas page) :=
  have htouched : SameLatch s _ := .ite h.update h
  have haborted : SameLatch s _ := .ite (htouched.foldl fun h => h.abortBuild) htouched
  .ite (haborted.foldl fun h => h.judgeChain) haborted

theorem SameLatch.takeCommit {m page : Nat} (h : SameLatch s t) : SameLatch s (State.takeCommit m t page) :=
  have htaken : SameLatch s _ := h.update.setFld.setFld.setFld
  .ite (.afterSenderTake (htaken.foldl fun h => h.setReg)) htaken.update

theorem SameLatch.latchOne {m : Nat} {c : Commit} (h : SameLatch s t) : SameLatch s (State.latchOne m t c) :=
  .ite h.takeCommit h.refuseCommit

theorem SameLatch.latchGroup {m : Nat} {group : List Commit} (h : SameLatch s t) : SameLatch s (t.latchGroup m group) :=
  .ite (h.foldl fun h => h.takeCommit) (h.foldl fun h => h.refuseCommit)

theorem SameLatch.judgeRecorded {c : Commit} (h : SameLatch s t) : SameLatch s (t.judgeRecorded c) := by
  unfold State.judgeRecorded
  split
  · exact h
  · exact .ite h (.ite h h.bump.raise)

/-- A latch prepares its stroke, and neither snapshots nor the unit's running take part in it (R33). -/
theorem sameLatch_latchCommits (s : State) (m : Nat) : SameLatch { s with access.prepared := wrap32 m } (latchCommits s m) :=
  have h : SameLatch { s with access.prepared := wrap32 m } { s with access.prepared := wrap32 m } := .refl _
  .ite h (.foldl (.foldl (.latchGroup (h.foldl fun h => h.moveLate)) fun h => h.latchOne) fun h => h.judgeRecorded)

theorem SameLatch.checkSchedule (h : SameLatch s t) : SameLatch s t.checkSchedule := by
  unfold State.checkSchedule
  split
  · exact h
  · exact .foldl (.ite h.update.raise h.update) fun h => h.setFld.setFld

/-! ### Composition (R156) -/

theorem SameLatch.dramLog {chan local_ kind port syndrome init : Nat} (h : SameLatch s t) :
    SameLatch s (t.dramLog chan local_ kind port syndrome init) :=
  h.setReg.setReg.setReg.setFld.setFld

theorem SameLatch.eccCorrected {chan local_ kind port syndrome init : Nat} (h : SameLatch s t) :
    SameLatch s (t.eccCorrected chan local_ kind port syndrome init) :=
  .raise (.dramLog (.bump h.bump))

theorem SameLatch.eccPoison {a port syndrome init : Nat} (h : SameLatch s t) : SameLatch s (t.eccPoison a port syndrome init) :=
  .raise (.dramLog (.bump (.bump (.ite h (.bump h.update)))))

theorem SameLatch.composeErrors {env : ComposeEnv} (h : SameLatch s t) : SameLatch s (t.composeErrors env) :=
  .foldl (h.foldl fun h => h.eccCorrected) fun h => h.eccPoison

theorem SameLatch.latchFlow {k n : Nat} (h : SameLatch s t) : SameLatch s (State.latchFlow k t n) := by
  unfold State.latchFlow
  dsimp only
  split
  · exact .ite h.bump h
  · exact .setFld (.update (.ite h.bump h))

theorem SameLatch.setRt {v i : Nat} {r : LayerRt} (h : SameLatch s t) : SameLatch s (t.setRt v i r) := h.update

theorem SameLatch.judgeFlip {k v i : Nat} (h : SameLatch s t) : SameLatch s (State.judgeFlip k v t i) := by
  unfold State.judgeFlip
  dsimp only
  split
  · exact .setFld (.setFld (.ite h.setRt h.setRt))
  · exact .ite (.setFld (.setFld (.setRt (.ite h.bump h)))) (.ite h.setRt.bump.raise.setFld.setFld h.setRt.setFld.setFld)

theorem SameLatch.latchUnderlay {k v : Nat} (h : SameLatch s t) : SameLatch s (State.latchUnderlay k v t) := h.update

theorem SameLatch.ite_fst {α : Type} {x y : State × α} {c : Prop} {_ : Decidable c} (hx : SameLatch s x.1) (hy : SameLatch s y.1) :
    SameLatch s (if c then x else y).1 := by
  split
  · exact hx
  · exact hy

theorem SameLatch.pair {α : Type} {x : α} (h : SameLatch s t) : SameLatch s (t, x).1 := h

theorem SameLatch.latchLayer {k v i : Nat} {x : State × List LayerPlan} (h : SameLatch s x.1) : SameLatch s (State.latchLayer k v x i).1 := by
  refine .ite_fst (.pair h.setFld) ?_
  split
  · exact .pair h.setFld
  · exact .ite_fst (.pair h.setFld) (.pair h.setFld.setFld.update)

theorem SameLatch.latchView {k v : Nat} {x : State × List ViewPlan} (h : SameLatch s x.1) : SameLatch s (State.latchView k x v).1 := by
  unfold State.latchView
  extract_lets s₁
  have h₁ : SameLatch s s₁ := (h.foldl fun h => h.judgeFlip).latchUnderlay
  have h₂ : SameLatch s ((List.range 16).foldl (State.latchLayer k v) (s₁, [])).1 := .foldl_fst h₁ fun h => h.latchLayer
  clear_value s₁
  split
  next s₂ layers heq =>
    rw [heq] at h₂
    refine .pair ?_
    dsimp only
    split
    · exact h₂
    · exact h₂.update

/-- Composition of a stroke has begun: it is the newest stroke composed. -/
structure Composes (k : Nat) (s t : State) : Prop where
  latch : SameLatch s t
  newest : t.cmp.newest = k

section
variable {k : Nat}

theorem Composes.ite {u : State} {c : Prop} {_ : Decidable c} (ht : Composes k s t) (hu : Composes k s u) : Composes k s (if c then t else u) := by
  split
  · exact ht
  · exact hu

theorem Composes.setFld {f : Fld} {v : Nat} (h : Composes k s t) : Composes k s (t.setFld f v) := ⟨h.latch.setFld, h.newest⟩

theorem Composes.raise {i : Nat} (h : Composes k s t) : Composes k s (t.raise i) := .ite h ⟨h.latch.update, h.newest⟩

theorem Composes.advanceRetire (h : Composes k s t) : Composes k s t.advanceRetire := .ite h.setFld.raise h

theorem Composes.release {p : InUse → Bool} (h : Composes k s t) : Composes k s (t.release p) :=
  Composes.advanceRetire ⟨h.latch.update, h.newest⟩

theorem Composes.carrySrc {n : Nat} (h : Composes k s t) : Composes k s (t.carrySrc n) := ⟨h.latch.update, h.newest⟩

end

theorem composes_beginCompose (s : State) (k : Nat) : Composes k s (s.beginCompose k) :=
  have hlatched : SameLatch s _ := .foldl_fst (.pair (.foldl (.refl s) fun h => h.latchFlow)) fun h => h.latchView
  have hbegun : Composes k s _ := ⟨hlatched.update, rfl⟩
  have hcarried : Composes k s _ := .ite hbegun.setFld.carrySrc hbegun.setFld
  .ite hcarried.release (.advanceRetire (.setFld ⟨hcarried.latch.update, hcarried.newest⟩))

/-! ### MP.LPMODE stands at a boundary (R41, R125) -/

/-- MP.LPMODE shows what it showed. -/
structure SameLpmode (s t : State) : Prop where
  lpmode : t.reg (Fld.addr .mpLpmodeMode) = s.reg (Fld.addr .mpLpmodeMode)

theorem SameLpmode.refl (s : State) : SameLpmode s s := ⟨rfl⟩

/-- The registers alone have a part in it. -/
theorem SameLpmode.congr {u : State} (h : SameLpmode s t) (hregs : u.regs = t.regs) : SameLpmode s u := ⟨(State.reg_congr hregs _).trans h.lpmode⟩

theorem SameLpmode.setReg {a : Nat} {v : Word} (h : SameLpmode s t) (ha : a ≠ Fld.addr .mpLpmodeMode) : SameLpmode s (t.setReg a v) :=
  ⟨(t.reg_setReg_ne v ha.symm).trans h.lpmode⟩

theorem SameLpmode.setFld {f : Fld} {v : Nat} (h : SameLpmode s t) (hf : f.addr ≠ Fld.addr .mpLpmodeMode := by simp <;> omega) :
    SameLpmode s (t.setFld f v) :=
  h.setReg hf

theorem SameLpmode.foldl {α : Type} {f : State → α → State} {l : List α} (h : SameLpmode s t)
    (hf : ∀ x ∈ l, ∀ {u : State}, SameLpmode s u → SameLpmode s (f u x)) : SameLpmode s (l.foldl f t) :=
  List.foldlRecOn l f h fun _ h x hx => hf x hx h

theorem SameLpmode.capture {e : Nat × Word} (h : SameLpmode s t) (he : e.1 ≠ Fld.addr .mpLpmodeMode) : SameLpmode s (t.capture e) := by
  have hfree : SameLpmode s t.draw.2 := h.congr rfl
  have hvalue : ∀ (c : Bool) (v w : Word), SameLpmode s (if c then (v, t.draw.2) else (w, t)).2 := by
    intro c v w
    cases c
    · exact h
    · exact hfree
  exact .setReg (hvalue _ _ _) he

/-- No snapshot takes MP.LPMODE: it holds no SNP field. -/
theorem lpmode_not_snp : ∀ page ∈ allPages, ∀ e ∈ snpRegs page, e.1 ≠ Fld.addr .mpLpmodeMode := by
  decide

theorem SameLpmode.snapshot {ended page : Nat} (h : SameLpmode s t) (hpage : page ∈ allPages) : SameLpmode s (State.snapshot ended t page) :=
  .setFld (.setFld (h.foldl fun e he _ h => h.capture (lpmode_not_snp page hpage e he)))

theorem SameLpmode.snapshots {ended : Nat} (h : SameLpmode s t) : SameLpmode s (t.snapshots ended) :=
  SameLpmode.foldl (h.congr rfl) fun _ hpage _ h => h.snapshot (List.mem_of_mem_filter hpage)

theorem SameLpmode.bump {f : Fld} {n : Nat} (h : SameLpmode s t) : SameLpmode s (t.bump f n) := h.congr rfl

theorem SameLpmode.setSfld {f : Fld} {v : Int} (h : SameLpmode s t) (hf : f.addr ≠ Fld.addr .mpLpmodeMode := by simp <;> omega) :
    SameLpmode s (t.setSfld f v) :=
  h.setReg hf

theorem SameLpmode.showCal (h : SameLpmode s t) : SameLpmode s t.showCal := h.setFld.setFld

theorem SameLpmode.noApplying (h : SameLpmode s t) : SameLpmode s { t with cal.applying := none } := h.congr rfl

theorem SameLpmode.applied {kind set : Nat} (h : SameLpmode s t) : SameLpmode s (t.applied kind set) :=
  h.noApplying.setFld.setSfld.setFld.setFld.bump.showCal

theorem SameLpmode.calCatch (h : SameLpmode s t) : SameLpmode s t.calCatch := by
  unfold State.calCatch
  extract_lets next kept _ s₁ s₂ _ s₃
  have h₁ : SameLpmode s s₁ := h.congr rfl
  have h₂ : SameLpmode s s₂ := by
    unfold s₂
    clear_value next s₁
    split
    · exact h₁
    · exact .foldl h₁ fun i _ _ h => h.setSfld.setSfld
  have h₃ : SameLpmode s s₃ := h₂.congr rfl
  clear_value s₃
  split
  · exact h₃
  · split
    · exact h₃
    · exact h₃.applied

theorem SameLpmode.setLiveFld {f : Fld} {v : Nat} (h : SameLpmode s t) : SameLpmode s (t.setLiveFld f v) := h.congr rfl

theorem SameLpmode.slack {l : Option Nat} (h : SameLpmode s t) : SameLpmode s { t with ing.slack := l } := h.congr rfl

theorem SameLpmode.startSlack (h : SameLpmode s t) : SameLpmode s t.startSlack := h.slack.setLiveFld

theorem SameLpmode.countWindows (h : SameLpmode s t) : SameLpmode s t.countWindows := h.congr rfl

theorem sameLpmode_senderBoundary (s : State) (k : Nat) : SameLpmode s (s.senderBoundary k) :=
  have hsnap : SameLpmode s (s.snapshots (k + 2 ^ 32 - 1)) := (SameLpmode.refl s).snapshots
  hsnap.setLiveFld.startSlack.countWindows.calCatch

/-- The boundary answers the snapshots requested, and the unit runs as it ran. -/
theorem sameLatch_senderBoundary (s : State) (k : Nat) : SameLatch { s with access.snapReqs := [] } (s.senderBoundary k) :=
  have hsnap : SameLatch { s with access.snapReqs := [] } (s.snapshots (k + 2 ^ 32 - 1)) := .foldl (.refl _) fun h => h.snapshot
  .calCatch (.countWindows (.startSlack (.setLiveFld hsnap)))

/-! ### COMPOSE_LEAD_POINT (R97) -/

theorem wakeDue_of_lpmode (hmode : s.fld .mpLpmodeMode ≠ 2) : s.wakeDue = false := by
  simp [State.wakeDue, hmode]

theorem cold_of_unpaired (hpair : s.prof (·.pair) ≠ 1) : s.cold = false := by
  simp [State.cold, hpair]

/-- The latch and the schedule of a lead point whose unit does not freeze. -/
theorem sameLatch_leadLatch (u : State) (k : Nat) :
    SameLatch { u with boot.resuming := false, access.prepared := wrap32 k } (latchCommits { u with boot.resuming := false } k).checkSchedule :=
  (sameLatch_latchCommits { u with boot.resuming := false } k).checkSchedule

/-- What the lead point of a unit that composes latches, and that it composes (R33, R97, R156). -/
theorem leadPoint_facts {k : Nat} {env : ComposeEnv} (hsender : s.isSender = true) (hrun : s.strokesRun = true) (hpair : s.prof (·.pair) ≠ 1)
    (hwarn : s.boot.warning = false) (hready : testBit s.boot.ready 4 = true) (hmode : s.fld .mpLpmodeMode ≠ 2) :
    (leadPoint s k env).cmp.newest = wrap32 k ∧ (leadPoint s k env).access.snapReqs = [] ∧ (leadPoint s k env).access.prepared = wrap32 k := by
  obtain ⟨hboot, -, hsnap⟩ := sameLatch_senderBoundary s k
  have hlp := sameLpmode_senderBoundary s k
  rw [leadPoint, if_neg (by simp [hsender, hrun])]
  generalize s.senderBoundary k = u at hboot hsnap hlp ⊢
  have hwake : u.wakeDue = false := wakeDue_of_lpmode (by rwa [State.fld, hlp.lpmode])
  have hwarn' : u.boot.warning = false := by rw [hboot]; exact hwarn
  obtain ⟨hboot', hprep, hsnap'⟩ := sameLatch_leadLatch u k
  dsimp only
  rw [if_neg (by simp [hwake]), if_neg (by simp [hwarn'])]
  generalize (latchCommits { u with boot.resuming := false } k).checkSchedule = v at hboot' hprep hsnap' ⊢
  have hpair' : v.prof (·.pair) ≠ 1 := by rw [State.prof, hboot', hboot]; exact hpair
  have hready' : testBit v.boot.ready 4 = true := by rw [hboot', hboot]; exact hready
  obtain ⟨hlatch, hnewest⟩ := composes_beginCompose (v.composeErrors env) (wrap32 k)
  obtain ⟨-, hprep'', hsnap''⟩ := (SameLatch.refl v).composeErrors.trans hlatch
  rw [if_neg (by simp [cold_of_unpaired hpair', hready'])]
  exact ⟨hnewest, hsnap''.trans (hsnap'.trans hsnap), hprep''.trans hprep⟩

end
end Sys2Proof.Machine
end

section
/-!
PROOF. O36, senders pace their strokes.
-/

namespace Sys2Proof.Machine

section
variable {s : State}

theorem senderCatch_completes (hgen : s.generates = true) (hpair : s.prof (·.pair) ≠ 1) (hmay : s.mayCatch = true) :
    Completes .senderCatch s fun t =>
      t.time.running = true ∧
      (s.time.running = true → s.fld .devBootstatStage = 7 →
        t.time.catchAt = s.time.catchAt + s.time.length ∧ t.stroke = (s.time.frame + 1) % 2 ^ 32) ∧
      (s.steady = false → t.time.catchAt = (s.referenceAt s.dueCatch).1 ∧
        (s.prof (·.strokeSrc) = 0 → t.time.catchAt = s.catchOf (s.nearestFrame s.dueCatch))) ∧
      SameRegisters catchRegs [Fld.addr .cueLatecnt] s t ∧ SameMemories s t := by
  obtain ⟨hruns, hat, hstroke, hregs, hmem⟩ := senderCatch_facts (s := { s with sent := [], reply := none }) hgen hpair hmay
  generalize heffect : senderCatchAll { s with sent := [], reply := none } = u at hruns hat hstroke hregs hmem
  refine completes_of_effect rfl heffect ⟨hruns, fun hran hstage => ?_, fun hsteady => ?_, hregs, hmem⟩
  · have hsteady : s.steady = true := State.steady_of_service hran hstage
    exact ⟨hat.trans ((if_pos hsteady).trans (State.dueCatch_of_running hran)), hstroke hsteady⟩
  · have hplaced : u.time.catchAt = (s.referenceAt s.dueCatch).1 := hat.trans (if_neg (ne_true_of_eq_false hsteady))
    exact ⟨hplaced, fun hsrc => hplaced.trans (referenceAt_of_free _ hsrc)⟩

theorem leadPoint_completes {k : Nat} {env : ComposeEnv} (hsender : s.isSender = true) (hrun : s.strokesRun = true) (hpair : s.prof (·.pair) ≠ 1)
    (hwarn : s.boot.warning = false) (hready : testBit s.boot.ready 4 = true) (hmode : s.fld .mpLpmodeMode ≠ 2) :
    Completes (.composeLeadPoint k env) s fun t => t.cmp.newest = wrap32 k ∧ t.access.snapReqs = [] ∧ t.access.prepared = wrap32 k := by
  have hfacts := leadPoint_facts (s := { s with sent := [], reply := none }) (k := k) (env := env) hsender hrun hpair hwarn hready hmode
  generalize heffect : leadPoint { s with sent := [], reply := none } k env = u at hfacts
  exact completes_of_effect (f := (leadPoint · k env)) rfl heffect hfacts

theorem markerLaunch_completes (hgen : s.generates = true) (hruns : s.time.running = true) (hdrives : s.drives = true)
    (hserves : s.fld .devBootstatStage = 7 ∨ s.boot.warm = false ∨ s.boot.holdThrough = true) :
    Completes .strokeMarkerLaunch s fun t =>
      (∀ n ∈ s.servicePorts, s.launched s.nextMarker (s.ownCox 0) n t) ∧ s.nextMarker.stroke = wrap32 (s.stroke + 1) ∧
        SameRegisters chainStats chainCellstx s t ∧ SameMemories s t := by
  obtain ⟨hall, hemits⟩ := markerLaunch_facts (s := { s with sent := [], reply := none }) hgen hruns hdrives hserves
  generalize heffect : markerLaunch { s with sent := [], reply := none } = u at hall hemits
  exact completes_of_effect rfl heffect ⟨hall, rfl, hemits.keeps.registers, hemits.keeps.memories⟩

end

/-- Settles O36. With an edge source the reference lies whole nominal strokes from the last valid edge (log entry 45, deduced). Snapshots belong to
the lead point, and the marker's T(k) is the last catch plus the stroke's length (log entry 42, deduced). A lead point prepares its stroke (log
entry 37, deduced). -/
theorem sendersPaceTheirStrokes : Obligations.SendersPaceTheirStrokes := by
  unfold Obligations.SendersPaceTheirStrokes
  exact ⟨fun _ hgen hpair hmay => senderCatch_completes hgen hpair hmay,
    fun _ _ _ hsender hrun hpair hwarn hready hmode => leadPoint_completes hsender hrun hpair hwarn hready hmode,
    fun _ hgen hruns hdrives hserves => markerLaunch_completes hgen hruns hdrives hserves⟩

end Sys2Proof.Machine
end

section
/-!
SUPPORT. No work of a sample period puts a command in the queue (R349, R206). Each lemma `State.queueEmpty.f` follows the text of `f`.
-/

namespace Sys2Proof.Machine

/-- No command waits. -/
structure State.queueEmpty (s : State) : Prop where
  pending : s.pending = []

section
variable {s : State}

/-- No other component of the state has a part in it. -/
theorem State.queueEmpty.update (h : s.queueEmpty)
    {regs counters frc access boot time cue net ing cmp chain scan lamp grain cal dram pairing flt ths bist life upd sent reply free} :
    State.queueEmpty ⟨regs, counters, frc, access, boot, time, cue, net, ing, cmp, chain, scan, lamp, grain, cal, dram, pairing, flt, ths, bist,
      life, upd, sent, reply, free, s.pending⟩ :=
  ⟨h.pending⟩

theorem State.queueEmpty.setReg {a : Nat} {v : Word} (h : s.queueEmpty) : (s.setReg a v).queueEmpty :=
  h.update

theorem State.queueEmpty.setLive {a : Nat} {v : Word} (h : s.queueEmpty) : (s.setLive a v).queueEmpty :=
  h.update

theorem State.queueEmpty.pair {α : Type} {x : α} (h : s.queueEmpty) : (s, x).1.queueEmpty := h

theorem State.queueEmpty.ite {a b : State} {c : Prop} {_ : Decidable c} (ha : a.queueEmpty) (hb : b.queueEmpty) :
    (if c then a else b).queueEmpty := by
  split
  · exact ha
  · exact hb

theorem State.queueEmpty.ite_fst {α : Type} {a b : State × α} {c : Prop} {_ : Decidable c} (ha : a.1.queueEmpty) (hb : b.1.queueEmpty) :
    (if c then a else b).1.queueEmpty := by
  split
  · exact ha
  · exact hb

theorem State.queueEmpty.foldl {α : Type} {f : State → α → State} {l : List α} (h : s.queueEmpty)
    (hf : ∀ {t : State} {a : α}, t.queueEmpty → (f t a).queueEmpty) : (l.foldl f s).queueEmpty :=
  List.foldlRecOn l f h fun _ h _ _ => hf h

theorem State.queueEmpty.setFld {f : Fld} {v : Nat} (h : s.queueEmpty) : (s.setFld f v).queueEmpty :=
  h.setReg

theorem State.queueEmpty.setSfld {f : Fld} {v : Int} (h : s.queueEmpty) : (s.setSfld f v).queueEmpty :=
  h.setFld

theorem State.queueEmpty.setFldBit {f : Fld} {i : Nat} {b : Bool} (h : s.queueEmpty) : (s.setFldBit f i b).queueEmpty :=
  h.setFld

theorem State.queueEmpty.advance {f : Fld} (h : s.queueEmpty) : (s.advance f).queueEmpty :=
  h.setFld

theorem State.queueEmpty.bump {f : Fld} {n : Nat} (h : s.queueEmpty) : (s.bump f n).queueEmpty :=
  h.setLive

theorem State.queueEmpty.raise {idx : Nat} (h : s.queueEmpty) : (s.raise idx).queueEmpty :=
  .ite h h.update

theorem State.queueEmpty.level {idx : Nat} {b : Bool} (h : s.queueEmpty) : (s.level idx b).queueEmpty :=
  .ite h.raise h.update

theorem State.queueEmpty.doNvWrite {x1 : NvWrite} (h : s.queueEmpty) : (s.doNvWrite x1).queueEmpty := by
  unfold State.doNvWrite
  split
  · exact h.update
  · exact h.update
  · exact h.update

theorem State.queueEmpty.nvWrite {w : NvWrite} (h : s.queueEmpty) : (s.nvWrite w).queueEmpty :=
  .ite (.ite h.update.setFld h.update.bump) h.doNvWrite

theorem State.queueEmpty.logEvent {kind index vmin duration : Nat} (h : s.queueEmpty) : (s.logEvent kind index vmin duration).queueEmpty :=
  h.nvWrite

theorem State.queueEmpty.iterate {n : Nat} {f : State → Nat → State} (h : s.queueEmpty) (hf : ∀ {t : State} {a : Nat}, t.queueEmpty → (f t a).queueEmpty) :
    (iterate n f s).queueEmpty :=
  h.foldl hf

theorem State.queueEmpty.setSticky {idx : Nat} (h : s.queueEmpty) : (s.setSticky idx).queueEmpty :=
  h.setFldBit

theorem State.queueEmpty.logFault {idx : Nat} {real proof sec bw : Bool} {cls : Nat} (h : s.queueEmpty) :
    (s.logFault idx real proof sec bw cls).queueEmpty :=
  h.setReg.setReg.setFld.setFld.bump

theorem State.queueEmpty.judgeChain {n : Nat} (h : s.queueEmpty) : (s.judgeChain n).queueEmpty :=
  .ite h h.setFld.setFld.level.level

theorem State.queueEmpty.takeRate {rate : Int} (h : s.queueEmpty) : (s.takeRate rate).queueEmpty :=
  h.update.setSfld

theorem State.queueEmpty.takeTxStamp {q : Nat} (h : s.queueEmpty) : (takeTxStamp s q).queueEmpty :=
  .ite h.update (.ite h.update.advance.raise h.update)

theorem State.queueEmpty.bringUpPort {q : Nat} (h : s.queueEmpty) : (s.bringUpPort q).queueEmpty :=
  h.setReg

theorem State.queueEmpty.count {q l i n : Nat} (h : s.queueEmpty) : (s.count q l i n).queueEmpty :=
  .ite h.setLive.setFldBit.raise h.setLive

theorem State.queueEmpty.emit {q l : Nat} {x : Sent} {stamp : Bool} (h : s.queueEmpty) : (s.emit q l x stamp).queueEmpty :=
  have h₁ : State.queueEmpty _ := h.count.count.update
  .ite h₁.takeTxStamp.update h₁

theorem State.queueEmpty.handOver {q l : Nat} {x : Sent} {stamp : Bool} (h : s.queueEmpty) : (s.handOver q l x stamp).queueEmpty :=
  .ite h.update h.setFldBit.emit

theorem State.queueEmpty.transmit {q l kind octets : Nat} {data : List Nat} (h : s.queueEmpty) : (s.transmit q l kind octets data).queueEmpty :=
  h.handOver

theorem State.queueEmpty.sendDap {r : DapReply} (h : s.queueEmpty) : (s.sendDap r).queueEmpty :=
  h.handOver

theorem State.queueEmpty.igmpSend {q l mode group source : Nat} (h : s.queueEmpty) : (s.igmpSend q l mode group source).queueEmpty :=
  .ite h h.transmit

theorem State.queueEmpty.wakeLane {n l : Nat} (h : s.queueEmpty) : (s.wakeLane n l).queueEmpty :=
  h.update.setFldBit.update

theorem State.queueEmpty.emitOn {n l : Nat} {x : Sent} (h : s.queueEmpty) : (s.emitOn n l x).queueEmpty :=
  .update (.bump (.ite h.wakeLane h))

theorem State.queueEmpty.sendOn {n l : Nat} {c : Cell} (h : s.queueEmpty) : (s.sendOn n l c).queueEmpty :=
  h.emitOn

theorem State.queueEmpty.sendLink {n l : Nat} {c : LinkCell} (h : s.queueEmpty) : (s.sendLink n l c).queueEmpty :=
  h.update.sendOn

theorem State.queueEmpty.submit {n k : Nat} {c : Cell} (h : s.queueEmpty) : (s.submit n k c).queueEmpty :=
  .ite (.ite h h.sendOn) h.update

theorem State.queueEmpty.sendCell {n : Nat} {c : Cell} (h : s.queueEmpty) : (s.sendCell n c).queueEmpty :=
  h.submit

theorem State.queueEmpty.sendCross {c : Cell} (h : s.queueEmpty) : (s.sendCross c).queueEmpty :=
  .ite h.sendCell h

theorem State.queueEmpty.sendNext {n l : Nat} (h : s.queueEmpty) : (s.sendNext n l).queueEmpty := by
  refine .ite h ?_
  split
  · exact h
  · exact h.update.sendOn

theorem State.queueEmpty.cellBoundary (h : s.queueEmpty) : s.cellBoundary.queueEmpty :=
  h.foldl (fun h => .ite h.sendNext.sendNext h)

theorem State.queueEmpty.presetTaps {n code : Nat} (h : s.queueEmpty) : (s.presetTaps n code).queueEmpty :=
  h.iterate (fun h => h.setFld.setFld.setFld)

theorem State.queueEmpty.showChainRate {n : Nat} (h : s.queueEmpty) : (s.showChainRate n).queueEmpty :=
  h.setFld

theorem State.queueEmpty.startHop {n code : Nat} (h : s.queueEmpty) : (s.startHop n code).queueEmpty :=
  .judgeChain (.showChainRate (h.presetTaps.update.setFld.setFld.setFld.setFld.sendLink.iterate (fun h => h.sendLink)))

theorem State.queueEmpty.hopDown {n : Nat} (h : s.queueEmpty) : (s.hopDown n).queueEmpty :=
  .judgeChain (.setFld (.setFld (.setFld (.update (.ite h.update h)))))

theorem State.queueEmpty.restartHop {n : Nat} (h : s.queueEmpty) : (s.restartHop n).queueEmpty :=
  have h₁ : State.queueEmpty _ := h.hopDown.update
  .ite h₁.update.startHop h₁.update

theorem State.queueEmpty.sendTunreq {t : TunnelReq} (h : s.queueEmpty) : (s.sendTunreq t).queueEmpty :=
  .ite h.sendCross h.sendCell

theorem State.queueEmpty.sendTunnel {t : TunnelReq} (h : s.queueEmpty) : (s.sendTunnel t).queueEmpty :=
  .ite h h.update.update.sendTunreq

theorem State.queueEmpty.sendTunnels (h : s.queueEmpty) : s.sendTunnels.queueEmpty :=
  h.foldl (fun h => h.sendTunnel)

theorem State.queueEmpty.answerTunnel {session seq : Nat} (h : s.queueEmpty) : (s.answerTunnel session seq).queueEmpty := by
  unfold State.answerTunnel
  split
  · exact h
  · exact h.update.foldl (fun h => h.sendDap)

theorem State.queueEmpty.endTunnel {t : TunnelReq} {rs : List OpResult} (h : s.queueEmpty) : (s.endTunnel t rs).queueEmpty :=
  have h₁ : State.queueEmpty _ := .update (.update (.ite h.update h))
  .ite h₁.sendTunnels.answerTunnel h₁.sendTunnels

theorem State.queueEmpty.setStep {n : Nat} (h : s.queueEmpty) : (s.setStep n).queueEmpty :=
  .ite h
    (have h₁ : State.queueEmpty _ := h.update.setFld.setFld.logEvent
     .ite h₁.bump h₁.bump)

theorem State.queueEmpty.afterThrcfg (h : s.queueEmpty) : (afterThrcfg s).queueEmpty :=
  .ite h.setStep (.ite h.setStep h)

theorem State.queueEmpty.advanceRetire (h : s.queueEmpty) : s.advanceRetire.queueEmpty :=
  .ite h.setFld.raise h

theorem State.queueEmpty.release {p : InUse → Bool} (h : s.queueEmpty) : (s.release p).queueEmpty :=
  h.update.advanceRetire

theorem State.queueEmpty.abandonStrokes (h : s.queueEmpty) : s.abandonStrokes.queueEmpty :=
  h.update.setFld.release

theorem State.queueEmpty.setUnderlay {v b : Nat} {on : Bool} (h : s.queueEmpty) : (s.setUnderlay v b on).queueEmpty :=
  h.setFld

theorem State.queueEmpty.abortBuild {v : Nat} (h : s.queueEmpty) : (s.abortBuild v).queueEmpty := by
  unfold State.abortBuild
  split
  · exact h
  · exact h.update.setUnderlay.setFld.setFld.release

theorem State.queueEmpty.abortBuilds (h : s.queueEmpty) : s.abortBuilds.queueEmpty :=
  h.iterate (fun h => h.abortBuild)

theorem State.queueEmpty.igmp {n k : Nat} {leave : Bool} (h : s.queueEmpty) : (s.igmp n k leave).queueEmpty :=
  .ite h h.igmpSend

theorem State.queueEmpty.igmpAll {n : Nat} {leave : Bool} (h : s.queueEmpty) : (s.igmpAll n leave).queueEmpty :=
  h.foldl (fun h => h.igmp)

theorem State.queueEmpty.freeSurfaces {n : Nat} (h : s.queueEmpty) : (s.freeSurfaces n).queueEmpty :=
  h.iterate (fun h => h.update)

theorem State.queueEmpty.flowStop {n : Nat} (h : s.queueEmpty) : (flowStop s n).queueEmpty :=
  .ite h.setFld.setFld h.igmpAll.freeSurfaces.setFld.setFld.setFldBit.setFld.setFld.update.setFldBit.setFld.update.update

theorem State.queueEmpty.resetCompose (h : s.queueEmpty) : s.resetCompose.queueEmpty :=
  .setFld (.setFld (h.abortBuilds.update.iterate (fun h => h.setUnderlay.setUnderlay)))

theorem State.queueEmpty.checkMap (h : s.queueEmpty) : s.checkMap.queueEmpty := by
  unfold State.checkMap
  split
  · exact h.setFld.setFld.setFld.setFld.update
  · exact h.setFld.setFld.setFld.setFld.raise

theorem State.queueEmpty.showFlags (h : s.queueEmpty) : s.showFlags.queueEmpty :=
  h.setFld.setFld

theorem State.queueEmpty.showCurves (h : s.queueEmpty) : s.showCurves.queueEmpty := by
  unfold State.showCurves
  split
  · exact h.setFld.setFld.setFld.setFld
  · exact h.setFld.setFld.setFld.setFld

theorem State.queueEmpty.endBurnish {stepped : Bool} (h : s.queueEmpty) : (s.endBurnish stepped).queueEmpty :=
  have h₁ : State.queueEmpty _ := h.update.setFld.setFld
  .ite h₁.bump.raise h₁

theorem State.queueEmpty.stepBurnish (h : s.queueEmpty) : s.stepBurnish.queueEmpty :=
  .ite h.endBurnish h

theorem State.queueEmpty.refuseCommit {page reason : Nat} (h : s.queueEmpty) : (s.refuseCommit page reason).queueEmpty :=
  h.update.setFld.setFld

theorem State.queueEmpty.dropCommit {page reason : Nat} (h : s.queueEmpty) : (s.dropCommit page reason).queueEmpty :=
  .ite h.update.refuseCommit h

theorem State.queueEmpty.retain (h : s.queueEmpty) : s.retain.queueEmpty :=
  .setFld (h.update.abandonStrokes.foldl (fun h => h.setFld.setFld))

theorem State.queueEmpty.setPairState {n : Nat} (h : s.queueEmpty) : (s.setPairState n).queueEmpty :=
  have h₁ : State.queueEmpty _ := h.setFld.setFld
  .ite h₁.retain h₁

theorem State.queueEmpty.timeOutTunnel (h : s.queueEmpty) : s.timeOutTunnel.queueEmpty :=
  h.foldl (fun h => h.endTunnel)

theorem State.queueEmpty.leaveControl (h : s.queueEmpty) : s.leaveControl.queueEmpty :=
  .timeOutTunnel (.ite (h.update.iterate (fun h => .ite h.setFld h)) h.update)

theorem State.queueEmpty.takeYield {source : Nat} (h : s.queueEmpty) : (s.takeYield source).queueEmpty :=
  .ite h (.ite h.raise (.bump (.setPairState (.leaveControl (.foldl (.sendCross (.update (.ite h.setFld h))) (fun h => h.sendCell))))))

theorem State.queueEmpty.dropSwitch (h : s.queueEmpty) : s.dropSwitch.queueEmpty :=
  .ite h h.update.setFld

theorem State.queueEmpty.afterBlockReset {b : Nat} (h : s.queueEmpty) : (s.afterBlockReset b).queueEmpty := by
  unfold State.afterBlockReset
  split
  · exact h.update
  · exact h.update
  · exact h.resetCompose
  · exact h.iterate (fun h => .ite h.restartHop h)
  · exact h.update.iterate (fun h => .ite h.restartHop h)
  · exact h.update
  · exact h.stepBurnish.showCurves
  · exact h.checkMap
  · exact h.checkMap.showFlags
  · exact h.afterThrcfg
  · exact h

theorem State.queueEmpty.unitDefaults {pages : Nat → Bool} (h : s.queueEmpty) : (s.unitDefaults pages).queueEmpty :=
  have h₁ : State.queueEmpty _ := .ite (.iterate (h.foldl (fun h => .ite h.setFld.setFld h)) (fun h => h.bringUpPort))
      (h.foldl (fun h => .ite h.setFld.setFld h))
  .foldl (.ite h₁.setFld.setFld h₁) (fun h => .ite (.setFld (.ite h.setFld h)) h)

theorem State.queueEmpty.resetRegisters {pages : List Nat} (h : s.queueEmpty) : (s.resetRegisters pages).queueEmpty :=
  .unitDefaults (.update (h.dropSwitch.update.foldl (fun h => h.dropCommit)))

theorem State.queueEmpty.resetBlock {b : Nat} (h : s.queueEmpty) : (s.resetBlock b).queueEmpty :=
  have h₁ : State.queueEmpty _ := .ite h.takeRate h
  have h₂ : State.queueEmpty _ := .afterBlockReset (.resetRegisters (.ite (.update (h₁.iterate (fun h => .ite h.flowStop h))) h₁))
  .ite h₂.setFld.setFld h₂

theorem State.queueEmpty.resetLoop {b : Nat} (h : s.queueEmpty) : (s.resetLoop b).queueEmpty :=
  .raise (h.foldl (fun h => .ite h.update h))

theorem State.queueEmpty.reactReset {page b : Nat} (h : s.queueEmpty) : (s.reactReset page b).queueEmpty :=
  .ite h.resetRegisters.bump (.ite h (.ite h.resetLoop h.update.resetBlock.update.bump))

theorem State.queueEmpty.reactTo {idx : Nat} (h : s.queueEmpty) : (s.reactTo idx).queueEmpty := by
  unfold State.reactTo
  split
  · exact h.reactReset
  · exact .ite h.update h
  · exact h.takeYield
  · exact h

theorem State.queueEmpty.acknowledge {idx : Nat} (h : s.queueEmpty) : (s.acknowledge idx).queueEmpty :=
  .ite h.update h.update

theorem State.queueEmpty.recognise {idx : Nat} {proof : Bool} (h : s.queueEmpty) : (s.recognise idx proof).queueEmpty :=
  .ite h.update.bump.logFault.acknowledge h.setSticky.logFault.acknowledge.reactTo

theorem State.queueEmpty.proofPasses {idx : Nat} {real : Bool} (h : s.queueEmpty) : (s.proofPasses idx real).queueEmpty :=
  have h₁ : State.queueEmpty _ := h.update.setFld.setFld.setFld.setFld.bump
  .ite h₁ h₁.logFault

theorem State.queueEmpty.brokenWire {idx : Nat} (h : s.queueEmpty) : (brokenWire s idx).queueEmpty :=
  .ite h h.update.update.setFld.raise.setSticky.logFault.reactTo

theorem State.queueEmpty.injectAt {idx : Nat} (h : s.queueEmpty) : (s.injectAt idx).queueEmpty :=
  h.setFld.setFld.setFld.update

theorem State.queueEmpty.moveSweep (h : s.queueEmpty) : s.moveSweep.queueEmpty := by
  unfold State.moveSweep
  split
  · exact h
  · exact .ite h.update h
  · exact .ite h.injectAt.update h.update

theorem State.queueEmpty.samplePairs (h : s.queueEmpty) : s.samplePairs.queueEmpty :=
  h.update

theorem State.queueEmpty.sampleProof (h : s.queueEmpty) : s.sampleProof.1.queueEmpty := by
  unfold State.sampleProof
  split
  · exact .pair h
  · exact .ite_fst (.pair h) (.pair h.update)

theorem State.queueEmpty.tick (h : s.queueEmpty) : s.tick.queueEmpty := by
  have hcells : State.queueEmpty (State.cellBoundary { s with frc := (s.frc + 10) % 2 ^ 64, sent := [], reply := none }) := .cellBoundary h.update
  refine .ite hcells (.foldl ?_ fun h => h.brokenWire)
  have hproof := hcells.samplePairs.moveSweep.sampleProof
  split
  · exact .proofPasses (.foldl hproof fun h => h.recognise)
  · exact .foldl hproof fun h => h.recognise

end
end Sys2Proof.Machine
end

section
/-!
PROOF. An idle step is one sample period (O2).
-/

namespace Sys2Proof.Machine

section
variable {s : State}

/-! ### A cell boundary and the collector (R206, R349) -/

theorem State.sendOn_flt (s : State) (n l : Nat) (c : Cell) : (s.sendOn n l c).flt = s.flt := by
  simp only [State.sendOn, State.emitOn]
  split <;> rfl

theorem State.sendNext_flt (s : State) (n l : Nat) : (s.sendNext n l).flt = s.flt := by
  unfold State.sendNext
  split
  · rfl
  · split
    · rfl
    · exact State.sendOn_flt _ _ _ _

/-- Cells that leave have no part in the collector. -/
theorem State.cellBoundary_flt (s : State) : s.cellBoundary.flt = s.flt := by
  refine List.foldlRecOn (motive := fun t : State => t.flt = s.flt) _ _ rfl fun t ht n _ => ?_
  split
  · rw [State.sendNext_flt, State.sendNext_flt, ht]
  · exact ht

/-! ### A cell boundary at which no cell waits (R206) -/

theorem State.queue_of_noCellWaits (hnone : s.noCellWaits) (n : Nat) : (s.port n).queue = [] := by
  rw [State.port, List.getD_eq_getElem?_getD]
  cases hport : s.chain.ports[n]? with
  | none => rfl
  | some p => exact hnone p (List.mem_of_getElem? hport)

theorem State.sendNext_of_queue_nil {n : Nat} (l : Nat) (hqueue : (s.port n).queue = []) : s.sendNext n l = s := by
  have hcell : s.nextCell n l = none := by
    simp [State.nextCell, State.nextOf, hqueue]
  simp [State.sendNext, hcell]

theorem State.cellBoundary_of_noCellWaits (hnone : s.noCellWaits) : s.cellBoundary = s := by
  refine List.foldlRecOn (motive := fun t : State => t = s) _ _ rfl fun t ht n _ => ?_
  have hqueue := State.queue_of_noCellWaits hnone n
  rw [ht, State.sendNext_of_queue_nil 0 hqueue, State.sendNext_of_queue_nil 1 hqueue, ite_self]

/-! ### The idle step -/

theorem step_of_empty (hempty : s.pending = []) : step s = .next s.tick := by
  rw [step, hempty]

theorem State.tick_of_not_sampling (hsampling : s.flt.sampling = false) :
    s.tick = ({ s with frc := (s.frc + 10) % 2 ^ 64, sent := [], reply := none } : State).cellBoundary := by
  have hoff : (State.cellBoundary { s with frc := (s.frc + 10) % 2 ^ 64, sent := [], reply := none }).flt.sampling = false := by
    rw [State.cellBoundary_flt]
    exact hsampling
  exact if_pos (by rw [hoff, Bool.not_false, Bool.true_or])

end

/-- Settles O2. That an idle step is one sample period and one cell boundary is the model's choice (log entry 2). -/
theorem idleStepIsOneSamplePeriod : Obligations.IdleStepIsOneSamplePeriod := by
  intro s hempty
  have hstep := step_of_empty hempty
  refine ⟨⟨_, hstep, (State.queueEmpty.tick ⟨hempty⟩).pending⟩, fun hsampling => ?_, fun hsampling hnone => ?_⟩
  · rw [hstep, State.tick_of_not_sampling hsampling]
  · rw [hstep, State.tick_of_not_sampling hsampling]
    exact congrArg _ (State.cellBoundary_of_noCellWaits hnone)

end Sys2Proof.Machine
end

section
/-!
SUPPORT. What the traffic of the network ports leaves as it was (R117 to R122, R128): counting, sending, and the frames that reach a consumer.
-/

namespace Sys2Proof.Machine

/-! ### Bits of a field -/

theorem testBit_eq (n i : Nat) : testBit n i = n.testBit i := by
  rw [testBit, Nat.testBit_eq_decide_div_mod_eq, beq_eq_decide]

theorem testBit_setBit_self (n i : Nat) (b : Bool) : testBit (setBit n i b) i = b := by
  have hpos : 0 < 2 ^ i := Nat.two_pow_pos i
  have hset : (n + 2 ^ i) / 2 ^ i = n / 2 ^ i + 1 := Nat.add_div_right n hpos
  have hclear : (n - 2 ^ i) / 2 ^ i = n / 2 ^ i - 1 := by
    simpa using Nat.sub_mul_div n (2 ^ i) 1
  unfold setBit
  cases b <;> by_cases h : testBit n i = true <;> simp only [h] <;> simp [testBit] at h ⊢ <;> omega

theorem testBit_mod_two_pow (n : Nat) {i w : Nat} (hi : i < w) : testBit (n % 2 ^ w) i = testBit n i := by
  rw [testBit_eq, testBit_eq, Nat.testBit_mod_two_pow]
  simp [hi]

/-- A bit of a field reads what was set. -/
theorem State.testBit_setFldBit (s : State) {f : Fld} {i : Nat} (b : Bool) (hf : f.lo + f.width ≤ 32) (hi : i < f.width) :
    testBit ((s.setFldBit f i b).fld f) i = b := by
  rw [State.setFldBit, State.fld_setFld_self s f _ hf, testBit_mod_two_pow _ hi, testBit_setBit_self]

/-! ### Components that the traffic leaves -/

/-- `t` differs from `s` in the registers and running counters listed, in TXLPI of the ports' STATUS, and outside BOOT, DRAM, CMP and ING; no detector
pair is lowered. -/
structure NetEffect (but counters : List Nat) (s t : State) : Prop where
  registers : SameRegisters but counters s t
  status : ∀ f : Fld, f.addr % 4096 = 0x44 → f.lo + f.width ≤ 8 ∨ 12 ≤ f.lo → t.fld f = s.fld f
  raised : ∀ i, s.raised i → t.raised i
  boot : t.boot = s.boot
  dram : t.dram = s.dram
  cmp : t.cmp = s.cmp
  ing : t.ing = s.ing

section
variable {but counters : List Nat} {s t u : State} {q l : Nat}

theorem NetEffect.refl (s : State) : NetEffect but counters s s :=
  ⟨⟨fun _ _ => rfl, fun _ _ => rfl⟩, fun _ _ _ => rfl, fun _ h => h, rfl, rfl, rfl, rfl⟩

theorem NetEffect.trans (h : NetEffect but counters s t) (h' : NetEffect but counters t u) : NetEffect but counters s u :=
  ⟨⟨fun a ha => (h'.registers.1 a ha).trans (h.registers.1 a ha), fun a ha => (h'.registers.2 a ha).trans (h.registers.2 a ha)⟩,
    fun f hf hd => (h'.status f hf hd).trans (h.status f hf hd), fun i hi => h'.raised i (h.raised i hi), h'.boot.trans h.boot,
    h'.dram.trans h.dram, h'.cmp.trans h.cmp, h'.ing.trans h.ing⟩

theorem NetEffect.mono {but' counters' : List Nat} (h : NetEffect but counters s t) (hbut : but ⊆ but') (hcounters : counters ⊆ counters') :
    NetEffect but' counters' s t :=
  { h with registers := ⟨fun a ha => h.registers.1 a fun hin => ha (hbut hin), fun a ha => h.registers.2 a fun hin => ha (hcounters hin)⟩ }

theorem NetEffect.update (h : NetEffect but counters s t)
    {frc access time cue net chain scan lamp grain cal pairing ths bist life upd sent reply free pending} :
    NetEffect but counters s ⟨t.regs, t.counters, frc, access, t.boot, time, cue, net, t.ing, t.cmp, chain, scan, lamp, grain, cal, t.dram,
      pairing, t.flt, ths, bist, life, upd, sent, reply, free, pending⟩ :=
  ⟨h.registers, h.status, h.raised, h.boot, h.dram, h.cmp, h.ing⟩

theorem NetEffect.ite {c : Prop} {_ : Decidable c} (ht : NetEffect but counters s t) (hu : NetEffect but counters s u) :
    NetEffect but counters s (if c then t else u) := by
  split
  · exact ht
  · exact hu

theorem NetEffect.foldl {α : Type} {f : State → α → State} {l : List α} (h : NetEffect but counters s t)
    (hf : ∀ x ∈ l, ∀ {v : State}, NetEffect but counters s v → NetEffect but counters s (f v x)) : NetEffect but counters s (l.foldl f t) := by
  induction l generalizing t with
  | nil => exact h
  | cons x l ih => exact ih (hf x (by simp) h) fun y hy => hf y (by simp [hy])

/-- A register that is no STATUS changes. -/
theorem NetEffect.setFld {f : Fld} {v : Nat} (h : NetEffect but counters s t) (hf : f.addr ∈ but) (hoff : f.addr % 4096 ≠ 0x44) :
    NetEffect but counters s (t.setFld f v) :=
  h.trans ⟨⟨fun _ ha => t.reg_setFld_ne _ _ (ne_of_mem_of_not_mem hf ha).symm, fun _ _ => rfl⟩,
    fun g hg _ => t.fld_setFld_ne f g v fun heq => hoff (heq ▸ hg), fun _ h => h, rfl, rfl, rfl, rfl⟩

/-- A transmitter enters or leaves low-power idle. -/
theorem NetEffect.setTxlpi {p v : Nat} (h : NetEffect but counters s t) (hf : Fld.addr (.netStatusTxlpi p) ∈ but) :
    NetEffect but counters s (t.setFld (.netStatusTxlpi p) v) :=
  h.trans ⟨⟨fun _ ha => t.reg_setFld_ne _ _ (ne_of_mem_of_not_mem hf ha).symm, fun _ _ => rfl⟩,
    fun g _ hd => t.fld_setFld_disjoint _ g v (by simp) hd, fun _ h => h, rfl, rfl, rfl, rfl⟩

theorem NetEffect.setLive {a : Nat} {v : Word} (h : NetEffect but counters s t) (ha : a ∈ counters) : NetEffect but counters s (t.setLive a v) :=
  h.trans ⟨⟨fun _ _ => rfl, fun _ hc => t.live_setLive_ne v (ne_of_mem_of_not_mem ha hc).symm⟩, fun _ _ _ => rfl, fun _ h => h, rfl, rfl, rfl, rfl⟩

theorem State.raised_raise (s : State) (i j : Nat) (h : s.raised j) : (s.raise i).raised j := by
  unfold State.raise
  split
  · exact h
  · unfold State.raised at h ⊢
    simp only [List.any_append, h, Bool.true_or]

theorem NetEffect.raise {i : Nat} (h : NetEffect but counters s t) : NetEffect but counters s (t.raise i) :=
  h.trans ⟨⟨fun _ _ => by simp, fun _ _ => by simp⟩, fun _ _ _ => by simp, t.raised_raise i, by simp, by simp, by simp, by simp⟩

theorem NetEffect.fld (h : NetEffect but counters s t) {f : Fld} (hf : f.addr ∉ but) : t.fld f = s.fld f :=
  congrArg f.get (h.registers.1 _ hf)

theorem NetEffect.flag (h : NetEffect but counters s t) {f : Fld} (hf : f.addr ∉ but) : t.flag f = s.flag f :=
  congrArg (· != 0) (h.fld hf)

/-! ### Counting and sending -/

theorem mem_linkRegs {a : Nat} : a ∈ linkRegs q l ↔ a = 4096 * netPage q + 0x44 ∨ a = 4096 * netPage q + 0x64 + 4 * l := by
  simp [linkRegs]

theorem NetEffect.count {i n : Nat} (h : NetEffect but counters s t) (hl : l < 4) (hbut : linkRegs q l ⊆ but) (hcounters : linkCounters q l ⊆ counters)
    (hi : i < 24 := by decide) : NetEffect but counters s (t.count q l i n) :=
  .ite (.raise (.setFld (h.setLive (hcounters (linkCounter_mem q l hi))) (hbut (by simp [linkRegs])) (by simp; omega)))
    (h.setLive (hcounters (linkCounter_mem q l hi)))

/-- A frame's own timestamp, where it takes one (R88). -/
theorem NetEffect.takeTxStamp (h : NetEffect but counters s t) (_hq : q < 5) (hlost : Fld.addr (.timTxqstatLost q) ∈ but) :
    NetEffect but counters s (takeTxStamp t q) :=
  have hoff : Fld.addr (.timTxqstatLost q) % 4096 ≠ 0x44 := by simp; omega
  .ite h.update (.ite (.raise (.setFld h.update hlost hoff)) h.update)

theorem NetEffect.send {x : Sent} (h : NetEffect but counters s t) : NetEffect but counters s (t.send x) := h.update

theorem NetEffect.emit {x : Sent} {stamp : Bool} (h : NetEffect but counters s t) (hl : l < 4) (hbut : linkRegs q l ⊆ but)
    (hcounters : linkCounters q l ⊆ counters) (hstamp : stamp = true → q < 5 ∧ Fld.addr (.timTxqstatLost q) ∈ but) :
    NetEffect but counters s (t.emit q l x stamp) := by
  have hcount : NetEffect but counters s (((t.count q l 16 1).count q l 15 x.octets).send x) :=
    ((h.count hl hbut hcounters).count hl hbut hcounters).send
  cases stamp with
  | false => exact hcount
  | true =>
    obtain ⟨hq, hlost⟩ := hstamp rfl
    exact .update (hcount.takeTxStamp hq hlost)

/-! ### Frames that the device sends -/

/-- The effect of frames, which touch no more of NET than what waits on its links: the memory of MP, the groups joined and the transmit ring stay. -/
structure FrameEffect (but counters : List Nat) (s t : State) : Prop extends NetEffect but counters s t where
  net : t.net = { s.net with links := t.net.links }

theorem FrameEffect.of_net (h : NetEffect but counters s t) (hnet : t.net = s.net) : FrameEffect but counters s t :=
  ⟨h, by rw [hnet]⟩

theorem FrameEffect.refl (s : State) : FrameEffect but counters s s := .of_net (.refl s) rfl

theorem FrameEffect.trans (h : FrameEffect but counters s t) (h' : FrameEffect but counters t u) : FrameEffect but counters s u :=
  ⟨h.toNetEffect.trans h'.toNetEffect, by rw [h'.net, h.net]⟩

theorem FrameEffect.ite {c : Prop} {_ : Decidable c} (ht : FrameEffect but counters s t) (hu : FrameEffect but counters s u) :
    FrameEffect but counters s (if c then t else u) := by
  split
  · exact ht
  · exact hu

theorem FrameEffect.foldl {α : Type} {f : State → α → State} {l : List α} (h : FrameEffect but counters s t)
    (hf : ∀ x ∈ l, ∀ {v : State}, FrameEffect but counters s v → FrameEffect but counters s (f v x)) :
    FrameEffect but counters s (l.foldl f t) := by
  induction l generalizing t with
  | nil => exact h
  | cons x l ih => exact ih (hf x (by simp) h) fun y hy => hf y (by simp [hy])

theorem FrameEffect.mpMem (h : FrameEffect but counters s t) : t.net.mpMem = s.net.mpMem := by
  rw [h.net]

theorem FrameEffect.memories (h : FrameEffect but counters s t) : SameMemories s t := by
  simp [SameMemories, h.boot, h.dram, h.mpMem, h.cmp]

theorem State.count_net (s : State) (q l i n : Nat) : (s.count q l i n).net = s.net := by
  simp only [State.count]
  split
  · rw [State.raise_net, State.setFldBit_net, State.setLive_net]
  · rw [State.setLive_net]

theorem State.count_sent (s : State) (q l i n : Nat) : (s.count q l i n).sent = s.sent := by
  simp only [State.count]
  split
  · rw [State.raise_sent, State.setFldBit_sent, State.setLive_sent]
  · rw [State.setLive_sent]

theorem State.ite_eq {α : Type} {g : State → α} {x : α} {c : Prop} {_ : Decidable c} (ht : g t = x) (hu : g u = x) :
    g (if c then t else u) = x := by
  split
  · exact ht
  · exact hu

theorem takeTxStamp_net (s : State) (q : Nat) : (takeTxStamp s q).net = s.net :=
  have hconsume : (s.consumeTxId q).net = s.net := rfl
  have hlost : (((s.consumeTxId q).advance (.timTxqstatLost q)).raise srcTimTxtsovf).net = s.net :=
    (State.raise_net _ _).trans (State.setFld_net _ _ _)
  State.ite_eq (g := State.net) hconsume (State.ite_eq (g := State.net) hlost hconsume)

theorem takeTxStamp_sent (s : State) (q : Nat) : (takeTxStamp s q).sent = s.sent :=
  have hconsume : (s.consumeTxId q).sent = s.sent := rfl
  have hlost : (((s.consumeTxId q).advance (.timTxqstatLost q)).raise srcTimTxtsovf).sent = s.sent :=
    (State.raise_sent _ _).trans (State.setFld_sent _ _ _)
  State.ite_eq (g := State.sent) hconsume (State.ite_eq (g := State.sent) hlost hconsume)

theorem State.emit_net (s : State) (q l : Nat) (x : Sent) (stamp : Bool) : (s.emit q l x stamp).net = s.net := by
  have hsend : (((s.count q l 16 1).count q l 15 x.octets).send x).net = s.net := by
    rw [State.send_net, State.count_net, State.count_net]
  cases stamp with
  | false => exact hsend
  | true => exact (takeTxStamp_net _ q).trans hsend

theorem State.emit_sent (s : State) (q l : Nat) (x : Sent) (stamp : Bool) : (s.emit q l x stamp).sent = s.sent ++ [x] := by
  have hsend : (((s.count q l 16 1).count q l 15 x.octets).send x).sent = s.sent ++ [x] := by
    rw [State.send, State.count_sent, State.count_sent]
  cases stamp with
  | false => exact hsend
  | true => exact (takeTxStamp_sent _ q).trans hsend

/-- Whatever a frame counts: its sub-link's STATHALF and counters (R128). -/
theorem FrameEffect.count {i n : Nat} (h : FrameEffect but counters s t) (hl : l < 4) (hbut : linkRegs q l ⊆ but)
    (hcounters : linkCounters q l ⊆ counters) (hi : i < 24 := by decide) : FrameEffect but counters s (t.count q l i n) :=
  h.trans (.of_net (.count (.refl t) hl hbut hcounters hi) (t.count_net q l i n))

theorem FrameEffect.onLink {f : Sublink → Sublink} (h : FrameEffect but counters s t) : FrameEffect but counters s (t.onLink q l f) :=
  ⟨h.update, by rw [State.onLink, h.net]⟩

theorem FrameEffect.handOver {x : Sent} {stamp : Bool} (h : FrameEffect but counters s t) (hl : l < 4) (hbut : linkRegs q l ⊆ but)
    (hcounters : linkCounters q l ⊆ counters) (hstamp : stamp = true → q < 5 ∧ Fld.addr (.timTxqstatLost q) ∈ but) :
    FrameEffect but counters s (t.handOver q l x stamp) :=
  .ite h.onLink (h.trans (.of_net (.emit (.setTxlpi (.refl t) (hbut (by simp [linkRegs]))) hl hbut hcounters hstamp)
    (State.emit_net _ q l x stamp)))

/-- A frame handed to a sub-link that pause does not stop leaves at once. -/
theorem State.handOver_leaves {x : Sent} {stamp : Bool} (hpause : s.paused q l = false) :
    (s.handOver q l x stamp).sent = s.sent ++ [x] ∧ (s.handOver q l x stamp).net = s.net := by
  have hemit : s.handOver q l x stamp = (s.setFldBit (.netStatusTxlpi (netPage q)) l false).emit q l x stamp := by
    rw [State.handOver, hpause, if_neg Bool.false_ne_true]
  rw [hemit]
  exact ⟨State.emit_sent _ q l x stamp, State.emit_net _ q l x stamp⟩

theorem FrameEffect.transmit {kind octets : Nat} {data : List Nat} (h : FrameEffect but counters s t) (hl : l < 4) (hbut : linkRegs q l ⊆ but)
    (hcounters : linkCounters q l ⊆ counters) : FrameEffect but counters s (t.transmit q l kind octets data) :=
  h.handOver hl hbut hcounters (by simp)

theorem FrameEffect.igmpSend {mode group source : Nat} (h : FrameEffect but counters s t) (hl : l < 4) (hbut : linkRegs q l ⊆ but)
    (hcounters : linkCounters q l ⊆ counters) : FrameEffect but counters s (t.igmpSend q l mode group source) :=
  .ite h (h.transmit hl hbut hcounters)

/-- The frames of a sub-link read neither STATUS nor STATHALF of their port. -/
theorem ownFrame_congr (h : NetEffect (linkRegs q l) counters s t) (m kind octets : Nat) (data : List Nat) :
    t.ownFrame q m kind octets data = s.ownFrame q m kind octets data := by
  have hread : ∀ off : Nat, off < 0x44 ∨ off = 0x48 ∨ off = 0x4C → 4096 * netPage q + off ∉ linkRegs q l := fun off hoff => by
    rw [mem_linkRegs]
    omega
  have htag : t.txTag q = s.txTag q := by
    rw [State.txTag, State.txTag, h.flag (hread 0x40 (by decide)), h.fld (f := .netCtrlVid (netPage q)) (hread 0x40 (by decide))]
  have hmac : t.linkMac q m = s.linkMac q m := by
    rw [State.linkMac, State.linkMac, h.fld (f := .netMaclo (netPage q)) (hread 0x48 (by decide)),
      h.fld (f := .netMachiAddr (netPage q)) (hread 0x4C (by decide))]
  rw [State.ownFrame, State.ownFrame, State.txOctets, State.txOctets, htag, hmac]

/-! ### Frames that arrive -/

/-- What counting leaves: frames received change nothing of NET and send nothing. -/
structure CountEffect (q l : Nat) (s t : State) : Prop extends NetEffect (linkRegs q l) (linkCounters q l) s t where
  net : t.net = s.net
  sent : t.sent = s.sent

theorem CountEffect.refl (s : State) : CountEffect q l s s := ⟨.refl s, rfl, rfl⟩

theorem CountEffect.count {i n : Nat} (h : CountEffect q l s t) (hl : l < 4) (hi : i < 24 := by decide) : CountEffect q l s (t.count q l i n) :=
  ⟨h.toNetEffect.count hl (List.Subset.refl _) (List.Subset.refl _) hi, (t.count_net q l i n).trans h.net, (t.count_sent q l i n).trans h.sent⟩

theorem CountEffect.toFrame (h : CountEffect q l s t) : FrameEffect (linkRegs q l) (linkCounters q l) s t := .of_net h.toNetEffect h.net

theorem CountEffect.paused (h : CountEffect q l s t) (m k : Nat) : t.paused m k = s.paused m k := by
  unfold State.paused State.link
  rw [h.net]

/-- A register below the pages of the network ports, or on another page than that of the sub-link's port. -/
theorem CountEffect.wakeOnly (h : CountEffect q l s t) : t.wakeOnly = s.wakeOnly := h.flag (not_mem_linkRegs q l (by decide))

/-- A sound frame of a length that goes on reaches its consumer, outside wake-pattern-only mode. -/
theorem frameIn_goes {octets : Nat} (dest : FrameDest) (hl : l < 4) (hwake : s.wakeOnly = false) (hmin : 64 ≤ octets) (hmax : octets ≤ 9216) :
    ∃ u, s.frameIn q l octets dest true = (u, true) ∧ CountEffect q l s u := by
  have hboth : CountEffect q l s ((s.count q l 1 1).count q l 0 octets) := ((CountEffect.refl s).count hl).count hl
  have hgoes : ∀ {u : State}, CountEffect q l s u → u.wakeOnly = false := fun h => h.wakeOnly.trans hwake
  cases dest with
  | unicast => exact ⟨_, by simp [State.frameIn, Nat.not_lt.mpr hmin, Nat.not_lt.mpr hmax, hgoes hboth], hboth⟩
  | multicast =>
    have hdest := hboth.count (i := 2) (n := 1) hl
    exact ⟨_, by simp [State.frameIn, Nat.not_lt.mpr hmin, Nat.not_lt.mpr hmax, hgoes hdest], hdest⟩
  | broadcast =>
    have hdest := hboth.count (i := 3) (n := 1) hl
    exact ⟨_, by simp [State.frameIn, Nat.not_lt.mpr hmin, Nat.not_lt.mpr hmax, hgoes hdest], hdest⟩

theorem takeFrame_reaches {octets : Nat} (dest : FrameDest) (f : State → State) (hl : l < 4) (hrec : s.receives q l = true)
    (hwake : s.wakeOnly = false) (hmin : 64 ≤ octets) (hmax : octets ≤ 9216) :
    ∃ u, s.takeFrame q l octets dest f = f u ∧ CountEffect q l s u := by
  obtain ⟨u, hin, hcount⟩ := frameIn_goes (q := q) (l := l) dest hl hwake hmin hmax
  exact ⟨u, by simp [State.takeFrame, hrec, hin], hcount⟩

/-- No port has more than four sub-links (R115). -/
theorem State.lt_of_hasSublink (h : s.hasSublink q l = true) : l < 4 := by
  have hlt : l < s.sublinks q := of_decide_eq_true h
  have hle : s.sublinks q ≤ 4 := by
    unfold State.sublinks
    split_ifs
    · decide
    · split <;> decide
  omega

end

end Sys2Proof.Machine
end

section
/-!
SUPPORT. Pause, low-power idle, LLDP, ARP and links (R118 to R124, R141).
-/

namespace Sys2Proof.Machine

section
variable {but counters : List Nat} {s t u : State} {q l : Nat}

theorem SameRegisters.trans (h : SameRegisters but counters s t) (h' : SameRegisters but counters t u) : SameRegisters but counters s u :=
  ⟨fun a ha => (h'.1 a ha).trans (h.1 a ha), fun a ha => (h'.2 a ha).trans (h.2 a ha)⟩

theorem SameRegisters.mono {but' counters' : List Nat} (h : SameRegisters but counters s t) (hbut : but ⊆ but') (hcounters : counters ⊆ counters') :
    SameRegisters but' counters' s t :=
  ⟨fun a ha => h.1 a fun hin => ha (hbut hin), fun a ha => h.2 a fun hin => ha (hcounters hin)⟩

theorem FrameEffect.changesOnly (h : FrameEffect but counters s t) : ChangesOnly but counters s t := ⟨h.registers, h.memories⟩

/-! ### A sub-link and what waits on it -/

/-- Element `i` of a modified list is the old one modified, or the list is shorter. -/
theorem getD_listModify {α : Type} (f : α → α) (d : α) : ∀ (xs : List α) (i : Nat),
    (listModify xs i f).getD i d = if i < xs.length then f (xs.getD i d) else d
  | [], _ => rfl
  | _ :: _, 0 => rfl
  | x :: xs, i + 1 => by
    have ih := getD_listModify f d xs i
    simpa [listModify] using ih

theorem State.link_onLink (s : State) (q l : Nat) (f : Sublink → Sublink) :
    (s.onLink q l f).link q l = if l < (s.net.links.getD q []).length then f (s.link q l) else Sublink.reset := by
  unfold State.link State.onLink
  rw [getD_listModify]
  split_ifs with hq hl hl
  · rw [getD_listModify, if_pos hl]
  · rw [getD_listModify, if_neg hl]
  · have hnone : s.net.links.getD q [] = [] := by simp [Nat.not_lt.mp hq]
    rw [hnone] at hl
    exact absurd hl (Nat.not_lt_zero l)
  · rfl

theorem State.link_congr (h : t.net = s.net) (q l : Nat) : t.link q l = s.link q l := by
  unfold State.link
  rw [h]

theorem State.onLink_sent (s : State) (q l : Nat) (f : Sublink → Sublink) : (s.onLink q l f).sent = s.sent := rfl

theorem State.paused_eq_false (h : (s.link q l).pause = 0) : s.paused q l = false := by
  rw [State.paused, h]
  rfl

/-- What is known of a frame of the device's own that leaves at once. -/
theorem transmit_leaves {kind octets : Nat} {data : List Nat} (h : CountEffect q l s u) (hl : l < 4) (hpause : s.paused q l = false) :
    (u.transmit q l kind octets data).sent = s.sent ++ [s.ownFrame q l kind octets data] ∧ (u.transmit q l kind octets data).net = s.net ∧
      FrameEffect (linkRegs q l) (linkCounters q l) s (u.transmit q l kind octets data) := by
  obtain ⟨hsent, hnet⟩ := State.handOver_leaves (x := u.ownFrame q l kind octets data) (stamp := false) ((h.paused q l).trans hpause)
  refine ⟨?_, hnet.trans h.net, h.toFrame.transmit hl (List.Subset.refl _) (List.Subset.refl _)⟩
  rw [State.transmit, hsent, h.sent, ownFrame_congr h.toNetEffect]

/-! ### Pause frames (R119) -/

theorem pauseFrame_stops {quanta : Nat} (hsub : s.hasSublink q l = true) (htest : s.netTested q = false) (hwake : s.wakeOnly = false)
    (hrx : s.flag (.netCtrlPauserx (netPage q)) = true) (hquanta : quanta ≠ 0) :
    ∃ u, pauseFrame s q l 1 quanta = u ∧ testBit (u.fld (.netStatusPaused (netPage q))) l = true ∧ u.sent = s.sent ∧
      ChangesOnly (linkRegs q l) (linkCounters q l) s u := by
  have hl := State.lt_of_hasSublink hsub
  have hrec : s.receives q l = true := by simp [State.receives, hsub, htest]
  obtain ⟨u, hreach, hu⟩ := takeFrame_reaches .multicast (fun s => if (1 : Nat) != 1 then s.count q l 10 1 else
      let s := s.count q l 9 1
      if !s.flag (.netCtrlPauserx (netPage q)) then s
      else if quanta == 0 then s.resumeLink q l
      else (s.onLink q l (fun k => { k with pause := quanta })).setFldBit (.netStatusPaused (netPage q)) l true)
    hl hrec hwake (octets := 64) (by decide) (by decide)
  have hcount := hu.count (i := 9) (n := 1) hl
  have hflag : (u.count q l 9 1).flag (.netCtrlPauserx (netPage q)) = true :=
    (hcount.flag (by rw [mem_linkRegs]; simp; omega)).trans hrx
  refine ⟨_, hreach, ?_⟩
  simp only [bne_self_eq_false, Bool.false_eq_true, if_false, hflag, Bool.not_true, beq_iff_eq, hquanta]
  generalize u.count q l 9 1 = v at hcount
  refine ⟨State.testBit_setFldBit _ true (by simp) hl, ?_, hcount.toFrame.changesOnly.onLink.setFldBit (by simp [linkRegs])⟩
  rw [State.setFldBit_sent, State.onLink_sent, hcount.sent]

/-! ### The transmitter resumes (R119, R135) -/

theorem foldl_handOver_leaves (ws : List (Sent × Bool)) (hpause : s.paused q l = false) :
    (ws.foldl (fun s x => s.handOver q l x.1 x.2) s).sent = s.sent ++ ws.map (·.1) ∧
      (ws.foldl (fun s x => s.handOver q l x.1 x.2) s).net = s.net := by
  induction ws generalizing s with
  | nil => exact ⟨(List.append_nil _).symm, rfl⟩
  | cons x ws ih =>
    obtain ⟨hsent, hnet⟩ := State.handOver_leaves (x := x.1) (stamp := x.2) hpause
    have hpause' : (s.handOver q l x.1 x.2).paused q l = false := by
      rw [State.paused, State.link, hnet]
      exact hpause
    obtain ⟨hrest, hsame⟩ := ih hpause'
    exact ⟨by rw [List.foldl_cons, hrest, hsent, List.append_assoc, List.map_cons, List.singleton_append], hsame.trans hnet⟩

theorem NetEffect.returnTx {i n done tsid : Nat} (h : NetEffect but counters s t) : NetEffect but counters s (t.returnTx i n done tsid) :=
  h.foldl fun _ _ _ h => h.update

/-- The transmit ring's run: frames in error return, and the next frame begins (R135). -/
theorem NetEffect.startTx {fuel : Nat} (h : NetEffect but counters s t) (hnext : Fld.addr .mpRingstatTxnext ∈ but) (hbut : linkRegs 4 0 ⊆ but)
    (hcounters : linkCounters 4 0 ⊆ counters) : NetEffect but counters s (State.startTx fuel t) := by
  induction fuel generalizing t with
  | zero => exact h
  | succ fuel ih =>
    exact .ite h (.ite h.update (.ite h.update (.ite (ih ((h.returnTx.setFld hnext (by decide)).count (by decide) hbut hcounters))
      (.setTxlpi (p := 4) h.update (hbut (by decide))))))

theorem State.returnTx_sent (s : State) (i n done tsid : Nat) : (s.returnTx i n done tsid).sent = s.sent :=
  List.foldlRecOn (motive := fun t : State => t.sent = s.sent) _ _ rfl fun _ ht _ _ => ht

theorem State.startTx_sent (fuel : Nat) (s : State) : (State.startTx fuel s).sent = s.sent := by
  induction fuel generalizing s with
  | zero => rfl
  | succ fuel ih =>
    unfold State.startTx
    refine State.ite_eq (g := State.sent) rfl (State.ite_eq (g := State.sent) rfl (State.ite_eq (g := State.sent) rfl
      (State.ite_eq (g := State.sent) ((ih _).trans ?_) rfl)))
    rw [State.count_sent, State.setFld_sent, State.returnTx_sent]

/-- The registers that a transmitter changes as it resumes, with those of the transmit ring's run. -/
def resumeRegs (q l : Nat) : List Nat :=
  Fld.addr .mpRingstatTxnext :: Fld.addr (.timTxqstatLost q) :: Fld.addr (.netStatusTxlpi 4) :: Fld.addr (.netStathalfHalf 4 0) :: linkRegs q l

/-- A sub-link whose pause has run out, with nothing left waiting on it. -/
def State.unpause (s : State) (q l : Nat) : State :=
  (s.onLink q l (fun k => { k with pause := 0, waiting := [] })).setFldBit (.netStatusPaused (netPage q)) l false

theorem State.paused_unpause (s : State) (q l : Nat) : (s.unpause q l).paused q l = false := by
  refine State.paused_eq_false (s := s.unpause q l) ?_
  rw [State.unpause, State.link_congr (State.setFldBit_net _ _ _ _), State.link_onLink]
  split
  · rfl
  · rfl

/-- The frames that waited leave, and where the port is MP the doorbell's run goes on. -/
theorem State.resumeLink_eq {w : State} (hw : (s.link q l).waiting.foldl (fun s x => s.handOver q l x.1 x.2) (s.unpause q l) = w) :
    s.resumeLink q l = if q == 4 && w.net.txRun && w.net.txNow.isNone then State.startTx w.txRing w else w := by
  subst hw
  rfl

theorem State.unpause_bit (s : State) (q : Nat) (hl : l < 4) : testBit ((s.unpause q l).fld (.netStatusPaused (netPage q))) l = false :=
  State.testBit_setFldBit _ false (by simp) hl

theorem State.unpause_changes (s : State) (q l : Nat) : ChangesOnly (linkRegs q l) [] s (s.unpause q l) :=
  (ChangesOnly.refl s).onLink.setFldBit (by simp [linkRegs])

theorem State.unpause_txRun (s : State) (q l : Nat) : (s.unpause q l).net.txRun = s.net.txRun := by
  rw [State.unpause, State.setFldBit_net]
  rfl

theorem State.unpause_sent (s : State) (q l : Nat) : (s.unpause q l).sent = s.sent := by
  rw [State.unpause, State.setFldBit_sent, State.onLink_sent]

theorem mem_resumeRegs : Fld.addr .mpRingstatTxnext ∈ resumeRegs q l ∧ Fld.addr (.timTxqstatLost q) ∈ resumeRegs q l ∧
    linkRegs 4 0 ⊆ resumeRegs q l ∧ linkRegs q l ⊆ resumeRegs q l := by
  have hmp : resumeRegs q l = Fld.addr .mpRingstatTxnext :: Fld.addr (.timTxqstatLost q) :: (linkRegs 4 0 ++ linkRegs q l) := rfl
  rw [hmp]
  refine ⟨by simp, by simp, fun a ha => ?_, fun a ha => ?_⟩
  · exact List.mem_cons_of_mem _ (List.mem_cons_of_mem _ (List.mem_append_left _ ha))
  · exact List.mem_cons_of_mem _ (List.mem_cons_of_mem _ (List.mem_append_right _ ha))

theorem resumeLink_facts (hq : q < 5) (hl : l < 4) :
    ∃ u, s.resumeLink q l = u ∧ testBit (u.fld (.netStatusPaused (netPage q))) l = false ∧
      u.sent = s.sent ++ (s.link q l).waiting.map (·.1) ∧
      SameRegisters (resumeRegs q l) (linkCounters q l ++ linkCounters 4 0) s u ∧ (q ≠ 4 ∨ s.net.txRun = false → SameMemories s u) := by
  obtain ⟨hnext, hlost, hmp, hlink⟩ := mem_resumeRegs (q := q) (l := l)
  have hcnt : linkCounters q l ⊆ linkCounters q l ++ linkCounters 4 0 := List.subset_append_left _ _
  have hbit := s.unpause_bit q hl
  have hkeep := (s.unpause_changes q l).mono hlink (List.nil_subset (linkCounters q l ++ linkCounters 4 0))
  have hrun := s.unpause_txRun q l
  have hout := s.unpause_sent q l
  obtain ⟨hsent, hnet⟩ := foldl_handOver_leaves (s.link q l).waiting (s.paused_unpause q l)
  obtain ⟨w, hw⟩ : ∃ w, (s.link q l).waiting.foldl (fun s x => s.handOver q l x.1 x.2) (s.unpause q l) = w := ⟨_, rfl⟩
  have heffect := State.resumeLink_eq hw
  have hframe : FrameEffect (resumeRegs q l) (linkCounters q l ++ linkCounters 4 0) (s.unpause q l) w :=
    hw ▸ .foldl (.refl _) fun _ _ _ h => h.handOver hl hlink hcnt fun _ => ⟨hq, hlost⟩
  rw [hw] at hsent hnet
  rw [hout] at hsent
  generalize s.unpause q l = v at hbit hkeep hrun hnet hframe
  have hpaused : ∀ {x : State}, NetEffect (resumeRegs q l) (linkCounters q l ++ linkCounters 4 0) v x →
      testBit (x.fld (.netStatusPaused (netPage q))) l = false := fun h => by
    rw [h.status _ (by simp) (by simp), hbit]
  refine ⟨_, heffect, ?_⟩
  split
  next hcond =>
    have hstart := NetEffect.startTx (fuel := w.txRing) hframe.toNetEffect hnext hmp (List.subset_append_right _ _)
    refine ⟨hpaused hstart, (State.startTx_sent _ _).trans hsent, SameRegisters.trans hkeep.registers hstart.registers, fun hidle => ?_⟩
    simp only [Bool.and_eq_true, beq_iff_eq] at hcond
    obtain ⟨⟨hport, htx⟩, -⟩ := hcond
    rw [hnet, hrun] at htx
    rcases hidle with hne | hidle
    · exact absurd hport hne
    · exact absurd (htx.symm.trans hidle) (by decide)
  next => exact ⟨hpaused hframe.toNetEffect, hsent, SameRegisters.trans hkeep.registers hframe.registers,
    fun _ => (hkeep.trans hframe.changesOnly).memories⟩

/-! ### Pause frames of MP (R120) -/

theorem mpPauseRepeat_sends (hxoff : s.net.xoff = true) (htx : s.flag (.netCtrlPausetx 4) = true) (hfree : s.rxFree ≤ s.fld .mpPausecfgXoff)
    (hpause : (s.link 4 0).pause = 0) :
    ∃ u, mpPauseRepeat s = u ∧ u.sent = s.sent ++ [s.ownFrame 4 0 0 64 [s.fld .mpPausecfgQuanta]] ∧
      ChangesOnly (linkRegs 4 0) (linkCounters 4 0) s u := by
  have heffect : mpPauseRepeat s = (s.count 4 0 17 1).transmit 4 0 0 64 [s.fld .mpPausecfgQuanta] := by
    rw [mpPauseRepeat, hxoff, htx, decide_eq_true hfree]
    rfl
  obtain ⟨hsent, -, hframe⟩ := transmit_leaves (kind := 0) (octets := 64) (data := [s.fld .mpPausecfgQuanta])
    ((CountEffect.refl s).count (i := 17) (n := 1) (q := 4) (l := 0) (by decide)) (by decide) (State.paused_eq_false hpause)
  exact ⟨_, heffect, hsent, hframe.changesOnly⟩

/-! ### Low-power idle (R122) -/

theorem State.reg_count_ne (s : State) (q l i n : Nat) {a : Nat} (ha : a ≠ Fld.addr (.netStathalfHalf (netPage q) l)) :
    (s.count q l i n).reg a = s.reg a := by
  simp only [State.count]
  split
  · rw [State.reg_raise, State.setFldBit, State.reg_setFld_ne _ _ _ ha, State.reg_setLive]
  · rw [State.reg_setLive]

theorem State.live_count_ne (s : State) (q l i n : Nat) {a : Nat} (ha : a ≠ 4096 * netPage q + 0x200 + 0x80 * l + 4 * i) :
    (s.count q l i n).live a = s.live a := by
  simp only [State.count]
  split
  · rw [State.live_raise, State.setFldBit, State.live_setFld, State.live_setLive_ne _ _ ha]
  · rw [State.live_setLive_ne _ _ ha]

theorem lpiEnter_facts (hl : l < 4) (hrec : s.receives q l = true) (hwake : s.wakeOnly = false) (hpermitted : s.lpiPermitted q = true)
    (hquiet : s.quiet q l = true) (hout : testBit (s.fld (.netStatusTxlpi (netPage q))) l = false) :
    ∃ u, lpiEnter s q l = u ∧ testBit (u.fld (.netStatusTxlpi (netPage q))) l = true ∧
      SameRegisters (linkRegs q l) [4096 * netPage q + 0x258 + 0x80 * l] s u ∧ SameMemories s u := by
  have heffect : lpiEnter s q l = (s.setFldBit (.netStatusTxlpi (netPage q)) l true).count q l 22 1 := by
    simp [lpiEnter, hrec, hwake, hpermitted, hquiet, hout]
  have hmem : FrameEffect (linkRegs q l) (linkCounters q l) s ((s.setFldBit (.netStatusTxlpi (netPage q)) l true).count q l 22 1) :=
    .count (.of_net (.setTxlpi (.refl s) (by simp [linkRegs])) rfl) hl (List.Subset.refl _) (List.Subset.refl _)
  refine ⟨_, heffect, ?_, ⟨hmem.registers.1, fun a ha => ?_⟩, hmem.memories⟩
  · rw [State.fld, State.reg_count_ne _ _ _ _ _ (by simp; omega)]
    exact State.testBit_setFldBit s true (by simp) hl
  · exact State.live_count_ne _ _ _ _ _ fun heq => ha (by rw [heq, List.mem_singleton]; omega)

/-! ### LLDP (R123) -/

theorem lldpTx_negotiates {partner : Option (Nat × Nat)} (hsub : s.hasSublink q l = true) (hpause : (s.link q l).pause = 0)
    (hlink : l < (s.net.links.getD q []).length) (hnegotiates : s.negotiates q l = true) :
    let times := match partner with
      | some x => (x.1 % 65536, x.2 % 65536)
      | none => s.wakeTimes q l
    ∃ n, (lldpTx s q l partner).sent = s.sent ++ [.frame q l 1 n (s.txTag q) (some (s.linkMac q l)) [times.1, times.2]] ∧
      ChangesOnly (linkRegs q l) (linkCounters q l) s (lldpTx s q l partner) := by
  have hl := State.lt_of_hasSublink hsub
  have hsend : ∀ {v : State} {x : Nat × Nat}, FrameEffect (linkRegs q l) (linkCounters q l) s v → v.sent = s.sent → (v.link q l).pause = 0 →
      v.wakeTimes q l = x → ∃ n, (v.transmit q l 1 (Config.freeNat s.free) [(v.wakeTimes q l).1, (v.wakeTimes q l).2]).sent =
        s.sent ++ [.frame q l 1 n (s.txTag q) (some (s.linkMac q l)) [x.1, x.2]] ∧
      ChangesOnly (linkRegs q l) (linkCounters q l) s
        (v.transmit q l 1 (Config.freeNat s.free) [(v.wakeTimes q l).1, (v.wakeTimes q l).2]) := fun {v x} h hsent hpause htimes => by
    obtain ⟨hout, -, hframe⟩ := transmit_leaves (kind := 1) (octets := Config.freeNat s.free) (data := [(v.wakeTimes q l).1, (v.wakeTimes q l).2])
      (CountEffect.refl v) hl (State.paused_eq_false hpause)
    rw [ownFrame_congr h.toNetEffect, hsent, htimes] at hout
    exact ⟨_, by rw [htimes]; exact hout, (h.trans hframe).changesOnly⟩
  unfold lldpTx
  rw [if_pos hnegotiates]
  cases partner with
  | none => exact hsend (v := { s with free := s.free + 1 }) ⟨(NetEffect.refl s).update, rfl⟩ rfl hpause rfl
  | some x =>
    have hset := State.link_onLink s q l (fun k => { k with wake := some (x.1 % 65536, x.2 % 65536) })
    rw [if_pos hlink] at hset
    refine hsend (v := { s.onLink q l (fun k => { k with wake := some (x.1 % 65536, x.2 % 65536) }) with free := s.free + 1 })
      ⟨(NetEffect.refl s).update, rfl⟩ rfl ?_ ?_
    · exact (congrArg Sublink.pause hset).trans hpause
    · unfold State.wakeTimes
      have hwake : (State.link { s.onLink q l (fun k => { k with wake := some (x.1 % 65536, x.2 % 65536) }) with free := s.free + 1 } q l).wake =
          some (x.1 % 65536, x.2 % 65536) := congrArg Sublink.wake hset
      rw [hwake]

/-! ### ARP and ICMP (R118) -/

theorem arpIcmp_answers {mac ip octets : Nat} (dest : FrameDest) (hsub : s.hasSublink q l = true) (htest : s.netTested q = false)
    (hwake : s.wakeOnly = false) (hmin : 64 ≤ octets) (hmax : octets ≤ 9216) (hip : s.fld (.netIpaddr (netPage q) l) ≠ 0)
    (hpause : (s.link q l).pause = 0) :
    ∃ u, arpIcmp s q l (s.fld (.netIpaddr (netPage q) l)) mac ip octets dest = u ∧
      u.sent = s.sent ++ [s.ownFrame q l 2 octets [mac, ip, s.fld (.netIpaddr (netPage q) l)]] ∧
      ChangesOnly (linkRegs q l) (linkCounters q l) s u := by
  have hl := State.lt_of_hasSublink hsub
  have hrec : s.receives q l = true := by simp [State.receives, hsub, htest]
  obtain ⟨u, hreach, hu⟩ := takeFrame_reaches dest (fun t => if s.fld (.netIpaddr (netPage q) l) != 0 &&
      t.fld (.netIpaddr (netPage q) l) == s.fld (.netIpaddr (netPage q) l) then
        t.transmit q l 2 octets [mac, ip, s.fld (.netIpaddr (netPage q) l)] else t) hl hrec hwake hmin hmax
  have haddr : u.fld (.netIpaddr (netPage q) l) = s.fld (.netIpaddr (netPage q) l) := hu.fld (by rw [mem_linkRegs]; simp; omega)
  obtain ⟨hsent, -, hframe⟩ := transmit_leaves (kind := 2) (octets := octets) (data := [mac, ip, s.fld (.netIpaddr (netPage q) l)]) hu hl
    (State.paused_eq_false hpause)
  refine ⟨_, hreach.trans (if_pos ?_), hsent, hframe.changesOnly⟩
  rw [haddr, beq_self_eq_true, Bool.and_true, bne_iff_ne]
  exact hip

/-! ### Links (R90, R141, R365) -/

/-- The registers and the counters of the sub-links on which the PTP group may be joined. -/
def ptpRegs : List Nat := (List.range 4).flatMap (fun x => linkRegs x 0)

def ptpCounters : List Nat := (List.range 4).flatMap (fun x => linkCounters x 0)

theorem FrameEffect.ptpSend {mode group source : Nat} (h : FrameEffect but counters s t) (hq : q < 4) (hbut : ptpRegs ⊆ but)
    (hcounters : ptpCounters ⊆ counters) : FrameEffect but counters s (t.igmpSend q 0 mode group source) :=
  h.igmpSend (by decide) (fun a ha => hbut (List.mem_flatMap.mpr ⟨q, List.mem_range.mpr hq, ha⟩))
    (fun a ha => hcounters (List.mem_flatMap.mpr ⟨q, List.mem_range.mpr hq, ha⟩))

theorem State.ptpGroupPort_lt (h : s.ptpGroupPort = some q) : q < 4 := by
  simp only [State.ptpGroupPort, Option.ite_none_right_eq_some, Option.some.injEq] at h
  obtain ⟨-, rfl⟩ := h
  exact s.fld_lt .timPtpcfgPort

/-- The PTP group is left and joined by frames of the ports' first sub-links. -/
theorem judgePtpJoin_effect (hjoin : s.net.ptpJoin.all (fun x => decide (x < 4)) = true) :
    NetEffect ptpRegs ptpCounters s s.judgePtpJoin ∧ s.judgePtpJoin.net.mpMem = s.net.mpMem := by
  unfold State.judgePtpJoin
  extract_lets want left _ v
  have hleft : FrameEffect ptpRegs ptpCounters s left := by
    unfold left
    split
    · next q hq =>
      rw [hq] at hjoin
      exact .ite (.ptpSend (.refl s) (of_decide_eq_true hjoin) (List.Subset.refl _) (List.Subset.refl _)) (.refl s)
    · exact .refl s
  have hv : NetEffect ptpRegs ptpCounters s v ∧ v.net.mpMem = s.net.mpMem := ⟨hleft.update, hleft.mpMem⟩
  have hwant : want = s.ptpGroupPort := rfl
  clear_value v want
  split
  · exact ⟨.refl s, rfl⟩
  · cases want with
    | none => exact hv
    | some q =>
      have hsend : FrameEffect ptpRegs ptpCounters v (v.igmpSend q 0 2 ptpGroup 0) :=
        .ptpSend (.refl v) (State.ptpGroupPort_lt hwant.symm) (List.Subset.refl _) (List.Subset.refl _)
      exact ⟨hv.1.trans hsend.toNetEffect, hsend.mpMem.trans hv.2⟩

/-- A mask of `n` ones has bit `l` set. -/
theorem ne_ones_of_testBit {m n : Nat} (hl : l < n) (hbit : testBit m l = false) : m ≠ 2 ^ n - 1 := by
  rintro rfl
  rw [testBit_eq, Nat.testBit_two_pow_sub_one] at hbit
  simp [hl] at hbit

/-- STATUS of a port as a sub-link's link has changed, before LINKDOWN and the PTP group follow. -/
def State.showLink (s : State) (q l : Nat) (up : Bool) : State :=
  let s := s.setFldBit (.netStatusLink (netPage q)) l up
  let s := if q != 4 && decide (s.portCode q ≤ 3) then s.setFld (.netStatusFecalign (netPage q)) (bit up) else s
  if up then s else
    (((s.onLink q l (fun _ => Sublink.reset)).setFldBit (.netStatusPaused (netPage q)) l false).setFldBit
      (.netStatusTxlpi (netPage q)) l false).setFldBit (.netStatusRxlpi (netPage q)) l false

theorem State.showLink_link (s : State) (hl : l < 4) (up : Bool) : testBit ((s.showLink q l up).fld (.netStatusLink (netPage q))) l = up := by
  have hfirst : testBit ((s.setFldBit (.netStatusLink (netPage q)) l up).fld (.netStatusLink (netPage q))) l = up :=
    State.testBit_setFldBit s up (by simp) hl
  have hkeep : ∀ (v : State) (f : Fld) (x : Nat), f.lo + f.width ≤ 32 → 4 ≤ f.lo →
      (v.setFld f x).fld (.netStatusLink (netPage q)) = v.fld (.netStatusLink (netPage q)) := fun v f x hf hlo =>
    v.fld_setFld_disjoint f _ x hf (.inl hlo)
  have hfec : ∀ {v : State} {c : Bool}, testBit (v.fld (.netStatusLink (netPage q))) l = up →
      testBit ((if c = true then v.setFld (.netStatusFecalign (netPage q)) (bit up) else v).fld (.netStatusLink (netPage q))) l = up := by
    intro v c hv
    split
    · rwa [hkeep v _ _ (by simp) (by simp)]
    · exact hv
  unfold State.showLink
  extract_lets v w
  have hw : testBit (w.fld (.netStatusLink (netPage q))) l = up := hfec hfirst
  clear_value w
  split
  · exact hw
  · rw [State.setFldBit, hkeep _ _ _ (by simp) (by simp), State.setFldBit, hkeep _ _ _ (by simp) (by simp), State.setFldBit,
      hkeep _ _ _ (by simp) (by simp)]
    exact hw

theorem State.showLink_changes (s : State) (q l : Nat) (up : Bool) :
    ChangesOnly [Fld.addr (.netStatusLink (netPage q))] [] s (s.showLink q l up) :=
  have hfec : ∀ {v : State} {c : Bool}, ChangesOnly [Fld.addr (.netStatusLink (netPage q))] [] s v →
      ChangesOnly [Fld.addr (.netStatusLink (netPage q))] [] s (if c = true then v.setFld (.netStatusFecalign (netPage q)) (bit up) else v) :=
    fun h => .ite (h.setFld (by simp)) h
  have hboth := hfec (ChangesOnly.refl s).setFldBit
  .ite hboth (((hboth.onLink.setFldBit (by simp)).setFldBit (by simp)).setFldBit (by simp))

theorem State.showLink_net (s : State) (q l : Nat) (up : Bool) : (s.showLink q l up).net.ptpJoin = s.net.ptpJoin := by
  have hfec : ∀ {v : State} {c : Bool}, (if c = true then v.setFld (.netStatusFecalign (netPage q)) (bit up) else v).net = v.net := fun {v c} => by
    cases c with
    | false => rfl
    | true => exact State.setFld_net _ _ _
  unfold State.showLink
  extract_lets v w
  have hw : w.net = s.net := hfec.trans (State.setFldBit_net _ _ _ _)
  clear_value w
  split
  · rw [hw]
  · rw [State.setFldBit_net, State.setFldBit_net, State.setFldBit_net, State.onLink, hw]

/-- LINKDOWN stands while a sub-link is down (R365). -/
theorem State.judgeLink_raises (hl : l < s.sublinks q) (hdown : testBit (s.fld (.netStatusLink (netPage q))) l = false) :
    (s.judgeLink q).raised (srcNetLinkdown (netPage q)) := by
  have hne : (s.fld (.netStatusLink (netPage q)) != 2 ^ s.sublinks q - 1) = true := bne_iff_ne.mpr (ne_ones_of_testBit hl hdown)
  rw [State.judgeLink, hne]
  exact State.raise_any _ _

theorem State.sublinks_congr (h : ChangesOnly [Fld.addr (.netStatusLink (netPage q))] counters s t) (hboot : t.boot = s.boot) :
    t.sublinks q = s.sublinks q := by
  have hpage := four_le_netPage q
  have hrole : t.fld .devRolestatRole = s.fld .devRolestatRole := h.fld (by simp; omega)
  have hcode : t.portCode q = s.portCode q := by rw [State.portCode, State.portCode, State.isSender, State.isSender, hrole, State.prof, State.prof, hboot]
  rw [State.sublinks, State.sublinks, hcode]

theorem State.showLink_boot (s : State) (q l : Nat) (up : Bool) : (s.showLink q l up).boot = s.boot := by
  unfold State.showLink
  extract_lets v w
  have hw : w.boot = s.boot := State.ite_eq (g := State.boot) ((State.setFld_boot _ _ _).trans (State.setFldBit_boot _ _ _ _)) (State.setFldBit_boot _ _ _ _)
  clear_value w
  split
  · exact hw
  · rw [State.setFldBit_boot, State.setFldBit_boot, State.setFldBit_boot, State.onLink, hw]

theorem linkChange_facts (up : Bool) (hsub : s.hasSublink q l = true) (hjoin : s.net.ptpJoin.all (fun x => decide (x < 4)) = true) :
    ∃ u, linkChange s q l up = u ∧ testBit (u.fld (.netStatusLink (netPage q))) l = up ∧ (up = false → u.raised (srcNetLinkdown (netPage q))) ∧
      ChangesOnly (Fld.addr (.netStatusLink (netPage q)) :: ptpRegs) ptpCounters s u := by
  have heffect : linkChange s q l up = ((s.showLink q l up).judgeLink q).judgePtpJoin := by
    rw [linkChange, hsub]
    rfl
  have hbit := s.showLink_link (q := q) (State.lt_of_hasSublink hsub) up
  have hkeep := s.showLink_changes q l up
  have hports := State.sublinks_congr hkeep (s.showLink_boot q l up)
  rw [← s.showLink_net q l up] at hjoin
  refine ⟨_, heffect, ?_⟩
  generalize s.showLink q l up = v at hbit hkeep hports hjoin
  have hlevel : ChangesOnly [Fld.addr (.netStatusLink (netPage q))] [] s (v.judgeLink q) := hkeep.level
  have hdown : up = false → (v.judgeLink q).raised (srcNetLinkdown (netPage q)) := fun hup =>
    State.judgeLink_raises (by rw [hports]; exact of_decide_eq_true hsub) (hbit.trans hup)
  have hsame : (v.judgeLink q).fld (.netStatusLink (netPage q)) = v.fld (.netStatusLink (netPage q)) := State.fld_level _ _ _ _
  have hjoin' : (v.judgeLink q).net.ptpJoin.all (fun x => decide (x < 4)) = true := by rwa [State.judgeLink, State.level_net]
  generalize v.judgeLink q = w at hlevel hdown hsame hjoin'
  obtain ⟨hjoined, hmem⟩ := judgePtpJoin_effect hjoin'
  refine ⟨?_, fun hup => hjoined.raised _ (hdown hup), ?_⟩
  · rw [hjoined.status _ (by simp) (by simp), hsame, hbit]
  · have hmemories : SameMemories w w.judgePtpJoin := by
      simp [SameMemories, hjoined.boot, hjoined.dram, hjoined.cmp, hmem]
    exact (hlevel.mono (by simp) (List.nil_subset _)).trans
      ⟨SameRegisters.mono hjoined.registers (List.subset_cons_self _ _) (List.Subset.refl _), hmemories⟩

end

/-- Settles O29. That a type may define LPI and that LLDP runs there is log entry 100; that pause frames are of 64 octets is log entry 121; that the
PTP group is joined and left as the link of its port changes is log entry 120. -/
theorem pauseAndLowPowerIdle : Obligations.PauseAndLowPowerIdle := by
  refine ⟨fun s q l quanta _ hsub htest hwake hrx hquanta => ?_, fun s q l hq hl => ?_, fun s hxoff htx hfree hpause => ?_,
    fun s q l _ hsub htest hwake hlpien htype hinhibited hmode hup hwaiting hidle hout => ?_,
    fun s q l partner _ hsub hpause hlink => ?_, fun s q l mac ip octets dest _ hsub htest hwake hmin hmax hip hpause => ?_,
    fun s q l up _ hsub hjoin => ?_⟩
  · obtain ⟨u, heffect, hpaused, hsent, hkeep⟩ :=
      pauseFrame_stops (s := { s with sent := [], reply := none }) hsub htest hwake hrx hquanta
    exact completes_of_effect (f := (pauseFrame · q l 1 quanta)) rfl heffect ⟨hpaused, hsent, hkeep.registers, hkeep.memories⟩
  · obtain ⟨u, heffect, hpaused, hsent, hregs, hmem⟩ := resumeLink_facts (s := { s with sent := [], reply := none }) hq hl
    exact completes_of_effect (f := (State.resumeLink · q l)) rfl heffect ⟨hpaused, hsent, hregs, hmem⟩
  · obtain ⟨u, heffect, hsent, hkeep⟩ := mpPauseRepeat_sends (s := { s with sent := [], reply := none }) hxoff htx hfree hpause
    exact completes_of_effect (f := mpPauseRepeat) rfl heffect ⟨hsent, hkeep.registers, hkeep.memories⟩
  · have hrec : s.receives q l = true := by simp [State.receives, hsub, htest]
    have hpermitted : s.lpiPermitted q = true := by
      by_cases hmp : q = 4
      · simp [State.lpiPermitted, hlpien, htype, hinhibited, hmode hmp]
      · simp [State.lpiPermitted, hlpien, htype, hinhibited, hmp]
    have hquiet : s.quiet q l = true := by
      by_cases hmp : q = 4
      · simp [State.quiet, hup, hwaiting, hidle hmp]
      · simp [State.quiet, hup, hwaiting, hmp]
    obtain ⟨u, heffect, hlpi, hregs, hmem⟩ := lpiEnter_facts (s := { s with sent := [], reply := none }) (State.lt_of_hasSublink hsub) hrec hwake
      hpermitted hquiet hout
    exact completes_of_effect (f := (lpiEnter · q l)) rfl heffect ⟨hlpi, hregs, hmem⟩
  · refine completes_of_effect (f := (lldpTx · q l partner)) rfl rfl ?_
    by_cases hneg : s.negotiates q l = true
    · have hboth : s.flag (.netCtrlLpien (netPage q)) = true ∧ s.lpiType q = true := by
        simpa [State.negotiates, hsub] using hneg
      obtain ⟨n, hsent, hkeep⟩ := lldpTx_negotiates (s := { s with sent := [], reply := none }) (partner := partner) hsub hpause hlink hneg
      refine ⟨fun _ _ => ⟨⟨n, hsent⟩, hkeep.registers⟩, fun hoff => ?_, hkeep.memories⟩
      rcases hoff with hoff | hoff
      · exact absurd (hboth.1.symm.trans hoff) (by decide)
      · exact absurd (hboth.2.symm.trans hoff) (by decide)
    · have hidle : lldpTx { s with sent := [], reply := none } q l partner = { s with sent := [], reply := none } := if_neg hneg
      rw [hidle]
      refine ⟨fun hlpien htype => absurd ?_ hneg, fun _ => ⟨rfl, fun _ _ => rfl, fun _ _ => rfl⟩, sameMemories_of_eq rfl rfl rfl rfl⟩
      simp [State.negotiates, hsub, hlpien, htype]
  · obtain ⟨u, heffect, hsent, hkeep⟩ :=
      arpIcmp_answers (s := { s with sent := [], reply := none }) (mac := mac) (ip := ip) dest hsub htest hwake hmin hmax hip hpause
    exact completes_of_effect (f := (arpIcmp · q l _ mac ip octets dest)) rfl heffect ⟨hsent, hkeep.registers, hkeep.memories⟩
  · obtain ⟨u, heffect, hlink, hdown, hkeep⟩ := linkChange_facts (s := { s with sent := [], reply := none }) up hsub hjoin
    exact completes_of_effect (f := (linkChange · q l up)) rfl heffect ⟨hlink, hdown, hkeep.registers, hkeep.memories⟩

end Sys2Proof.Machine
end

section
/-!
SUPPORT. Writes that set or clear the ENABLE bit of a flow and of the monitor, with the other fields written as they stand (R136, R146).
-/

namespace Sys2Proof.Machine

/-! ### Bit 0 of a word written -/

theorem or_one_toNat (w : Word) : (w ||| 1#32).toNat = 2 * (w.toNat / 2) + 1 := by
  have hhalf : (w.toNat ||| 1) / 2 = w.toNat / 2 := by rw [Nat.or_div_two]; simp
  have hodd : (w.toNat ||| 1) % 2 = 1 := by
    rw [Nat.or_mod_two_eq_one]
    exact .inr rfl
  rw [BitVec.toNat_or, show (1#32).toNat = 1 from rfl]
  omega

theorem and_not_one_toNat (w : Word) : (w &&& ~~~1#32).toNat = 2 * (w.toNat / 2) := by
  have hlt := w.isLt
  have hmask : (~~~1#32).toNat = 2 ^ 32 - 2 := rfl
  have hhalf : (w.toNat &&& (2 ^ 32 - 2)) / 2 = w.toNat / 2 := by
    rw [Nat.and_div_two, show (2 ^ 32 - 2) / 2 = 2 ^ 31 - 1 from rfl, Nat.and_two_pow_sub_one_eq_mod]
    exact Nat.mod_eq_of_lt (by omega)
  have heven : (w.toNat &&& (2 ^ 32 - 2)) % 2 = 0 := by
    rcases Nat.mod_two_eq_zero_or_one (w.toNat &&& (2 ^ 32 - 2)) with h | h
    · exact h
    · rw [Nat.and_mod_two_eq_one] at h
      omega
  rw [BitVec.toNat_and, hmask]
  omega

theorem getLsbD_zero_eq (w : Word) : w.getLsbD 0 = decide (w.toNat % 2 = 1) := by
  rw [BitVec.getLsbD, Nat.testBit_zero]

/-- A field that is bit 0 of its register. -/
def Fld.isBit0 (f : Fld) : Prop := f.lo = 0 ∧ f.width = 1

theorem Fld.isBit0.put_toNat {f : Fld} (hf : f.isBit0) (w : Word) (v : Nat) : (f.put w v).toNat = 2 * (w.toNat / 2) + v % 2 := by
  obtain ⟨hlo, hwidth⟩ := hf
  have h := Fld.put_toNat f w v (by omega)
  rw [hlo, hwidth] at h
  simpa [Nat.mod_one] using h

theorem Fld.isBit0.get_eq {f : Fld} (hf : f.isBit0) (w : Word) : f.get w = w.toNat % 2 := by
  obtain ⟨hlo, hwidth⟩ := hf
  rw [Fld.get, hlo, hwidth]
  simp

/-- A field above bit 0 does not read it. -/
theorem Fld.get_of_half {f : Fld} {w v : Word} (hlo : 1 ≤ f.lo) (h : w.toNat / 2 = v.toNat / 2) : f.get w = f.get v := by
  have hpow : 2 ^ f.lo = 2 * 2 ^ (f.lo - 1) := by rw [← Nat.pow_succ', Nat.succ_eq_add_one, Nat.sub_add_cancel hlo]
  rw [Fld.get, Fld.get, hpow, ← Nat.div_div_eq_div_mul, ← Nat.div_div_eq_div_mul, h]

theorem Fld.put_get_self (f : Fld) (w : Word) (h : f.lo + f.width ≤ 32) : f.put w (f.get w) = w := by
  refine BitVec.eq_of_toNat_eq ?_
  rw [Fld.put_toNat f w _ h, Fld.get, Nat.mod_mod, Nat.pow_add, ← Nat.div_div_eq_div_mul, Nat.div_add_mod, Nat.div_add_mod]

/-! ### A register whose other fields are written as they stand -/

/-- Fields that a write stores as it finds them. -/
def Plain (f : FieldSpec) : Prop := f.access = .rw ∧ f.limit = .free ∧ f.lo + f.width ≤ 32

/-- The register with no fields but those given. -/
def RegSpec.only (r : RegSpec) (fields : List FieldSpec) : RegSpec := { r with fields := fields }

theorem RegSpec.store_cons {r : RegSpec} {f : FieldSpec} {fs : List FieldSpec} (old data : Word) (hf : Plain f) :
    (r.only (f :: fs)).store old data = (r.only fs).store (f.fld.put old (f.fld.get data)) data := by
  obtain ⟨haccess, hlimit, -⟩ := hf
  simp [RegSpec.store, RegSpec.only, haccess, hlimit, FieldSpec.take]

/-- A word that differs from the register's in bit 0 alone leaves the fields above it. -/
theorem RegSpec.store_above (r : RegSpec) {fields : List FieldSpec} {w data : Word} (hfields : ∀ f ∈ fields, Plain f ∧ 1 ≤ f.lo)
    (hhalf : data.toNat / 2 = w.toNat / 2) : (r.only fields).store w data = w := by
  induction fields with
  | nil => rfl
  | cons f fs ih =>
    obtain ⟨hf, hlo⟩ := hfields f (by simp)
    have hget : f.fld.get data = f.fld.get w := Fld.get_of_half hlo hhalf
    rw [RegSpec.store_cons w data hf, hget, Fld.put_get_self f.fld w hf.2.2]
    exact ih fun g hg => hfields g (by simp [hg])

variable {s : State} {f : Fld}

/-- The write of a register whose bit 0 is the field `f`, with a word that differs from the register's in that bit alone. -/
theorem State.store_bit0 {r : RegSpec} {p : PageInfo} {e : FieldSpec} {fs : List FieldSpec} {data : Word}
    (hpage : pageInfo (f.addr / 4096) = some p) (hoff : f.addr % 4096 < 0x840) (hreg : findReg p.type (f.addr % 4096) = some r)
    (hr : r = r.only (e :: fs)) (he : Plain e) (hbit : e.lo = f.lo ∧ e.width = f.width) (hf : f.isBit0)
    (hfs : ∀ g ∈ fs, Plain g ∧ 1 ≤ g.lo) (hhalf : data.toNat / 2 = (s.reg f.addr).toNat / 2) :
    s.store f.addr data = s.setFld f (data.toNat % 2) := by
  obtain ⟨hlo, hwidth⟩ := hbit
  have hput : ∀ w v, e.fld.put w v = f.put w v := fun w v => by rw [Fld.put, Fld.put, FieldSpec.fld, hlo, hwidth]
  have hget : e.fld.get data = data.toNat % 2 := by
    have hsame : e.fld.get data = f.get data := by rw [Fld.get, Fld.get, FieldSpec.fld, hlo, hwidth]
    rw [hsame, hf.get_eq]
  have hkeep : data.toNat / 2 = (f.put (s.reg f.addr) (data.toNat % 2)).toNat / 2 := by
    rw [hf.put_toNat, hhalf]
    omega
  have hword : r.store (s.reg f.addr) data = f.put (s.reg f.addr) (data.toNat % 2) := by
    rw [hr, RegSpec.store_cons _ _ he, hput, hget, RegSpec.store_above _ hfs hkeep]
  simp [State.store, hpage, Nat.not_le.mpr hoff, hreg, hword, State.setFld]

/-- Bit 0 set and cleared again: every register reads as before. -/
theorem State.reg_setFld_back (hf : f.isBit0) (v : Nat) (hzero : s.fld f = 0) (a : Nat) : ((s.setFld f v).setFld f 0).reg a = s.reg a := by
  by_cases ha : a = f.addr
  · subst ha
    have hword : (s.reg f.addr).toNat % 2 = 0 := by rwa [State.fld, hf.get_eq] at hzero
    refine BitVec.eq_of_toNat_eq ?_
    rw [State.setFld, State.setFld, State.reg_setReg_self, State.reg_setReg_self, hf.put_toNat, hf.put_toNat]
    omega
  · rw [State.reg_setFld_ne _ _ _ ha, State.reg_setFld_ne _ _ _ ha]

/-- A flag is set as its field is not 0. -/
theorem State.fld_eq_zero (h : s.flag f = false) : s.fld f = 0 := by
  simpa [State.flag] using h

theorem State.flag_eq_false (h : s.fld f = 0) : s.flag f = false := by
  simp [State.flag, h]

theorem State.flag_eq_true (h : s.fld f = 1) : s.flag f = true := by
  simp [State.flag, h]

/-- A command that writes one register with a word that depends on the state. -/
theorem completes_writeOf {c : Instr} {u : State} {g : State → State} {init addr : Nat} {data : Word} {P : State → Prop}
    (hrun : exec c s = run s g) (hwrite : g { s with sent := [], reply := none } = State.writeAs { s with sent := [], reply := none } init addr data none)
    (hperf : s.performs init addr) (heffect : State.writeUnit { s with sent := [], reply := none } init addr data none = (u, 0))
    (hsrcmd : u.reg 0x9054 = s.reg 0x9054) (hpost : P { u with reply := some ⟨0, 1, []⟩, pending := s.pending }) : Completes c s P :=
  completes_unitWrite (by rw [hrun, run_next, run_next, hwrite]) hperf heffect hsrcmd hpost

/-- A page of one type but for the four registers that act on the whole unit. -/
theorem State.writeUnit_of_type (init : Nat) {addr : Nat} (data : Word) (env : Option CalEnv)
    (haddr : addr ≠ 0x9054 ∧ addr ≠ 0x12040 ∧ addr ≠ 0x4088 ∧ addr ≠ 0x14048) : s.writeUnit init addr data env = s.writeBase init addr data env := by
  obtain ⟨hsrcmd, hcfg, hlp, hupd⟩ := haddr
  simp [State.writeUnit, hsrcmd, hcfg, hlp, hupd]

end Sys2Proof.Machine
end

section
/-!
SUPPORT. The monitor flow (R146, R147).
-/

namespace Sys2Proof.Machine

section
variable {s t u v : State} {q l : Nat}

/-! ### The monitor is enabled or refused (R146) -/

theorem monCtrlEnable_isBit0 : Fld.isBit0 .monCtrlEnable := ⟨rfl, rfl⟩

theorem State.store_monCtrl {data : Word} (hhalf : data.toNat / 2 = (s.reg 0x6040).toNat / 2) :
    s.store 0x6040 data = s.setFld .monCtrlEnable (data.toNat % 2) :=
  State.store_bit0 (f := .monCtrlEnable) (p := ⟨.mon, 0x6, 1, 0x7, .sender, false, true, 1, 0⟩)
    (r := ⟨0x040, 4096, 1, 4, 1, false, [⟨0, 1, .rw, 0, false, .free⟩, ⟨1, 2, .rw, 0, false, .free⟩, ⟨3, 2, .rw, 0, false, .free⟩,
      ⟨5, 1, .rw, 0, false, .free⟩, ⟨6, 2, .rw, 0, false, .free⟩, ⟨8, 2, .rw, 0, false, .free⟩, ⟨16, 16, .rw, 0, false, .free⟩]⟩)
    (by decide) (by decide) (by decide) rfl ⟨rfl, rfl, by decide⟩ ⟨rfl, rfl⟩ monCtrlEnable_isBit0 (by unfold Plain; decide) hhalf

section
variable (hregs : ∀ a, t.reg a = s.reg a) (hboot : t.boot = s.boot)
include hregs hboot

/-- What the type of a port depends on: the registers, and the profile. -/
theorem State.portCode_congr (q : Nat) : t.portCode q = s.portCode q := by
  have hrole : t.isSender = s.isSender := by
    unfold State.isSender State.fld
    rw [hregs]
  unfold State.portCode State.prof
  rw [hrole, hboot]

theorem State.hasSublink_congr (q l : Nat) : t.hasSublink q l = s.hasSublink q l := by
  unfold State.hasSublink State.sublinks
  rw [State.portCode_congr hregs hboot]

/-- What REASON depends on: the registers, and the profile. -/
theorem State.monReason_congr : t.monReason = s.monReason := by
  have hfld : ∀ f : Fld, t.fld f = s.fld f := fun f => congrArg f.get (hregs f.addr)
  unfold State.monReason State.lineMbps State.prof
  rw [hfld, hfld, hfld, hfld, hfld, hfld, hfld, hfld, hfld, hfld, hboot, State.portCode_congr hregs hboot, State.hasSublink_congr hregs hboot]

end

theorem State.monReason_lt (s : State) : s.monReason < 3 := by
  unfold State.monReason
  split
  · decide
  · dsimp only
    split_ifs <;> omega

/-- The registers that enabling the monitor may change. -/
def monStartRegs (q : Nat) : List Nat := [0x6040, Fld.addr .monStatActive, Fld.addr (.netStatusTxlpi (netPage q))]

theorem netStatus_ne {a : Nat} (q : Nat) (ha : a < 0x4000 ∨ (0x5000 ≤ a ∧ a < 0x100000)) (hq : q < 5) : a ≠ Fld.addr (.netStatusTxlpi (netPage q)) := by
  unfold netPage
  split <;> simp <;> omega

theorem monStart_refused (hoff : s.flag .monCtrlEnable = false) (hreason : s.monReason ≠ 0) :
    ∃ u, monStart s = u ∧ u.flag .monCtrlEnable = false ∧ u.fld .monStatRefused = 1 ∧ u.fld .monStatReason = s.monReason ∧
      ChangesOnly [Fld.addr .monStatActive] [] s u := by
  have heffect : monStart s = (s.setFld .monStatRefused 1).setFld .monStatReason s.monReason := by
    simp [monStart, hoff, hreason]
  have hlt := s.monReason_lt
  generalize s.monReason = r at heffect hlt
  have hkeep : ChangesOnly [Fld.addr .monStatActive] [] s ((s.setFld .monStatRefused 1).setFld .monStatReason r) :=
    .setFld (.setFld (.refl s))
  refine ⟨_, heffect, (hkeep.flag (by decide)).trans hoff, ?_, ?_, hkeep⟩
  · rw [State.fld_setFld_disjoint _ _ _ _ (by decide) (by decide), State.fld_setFld_self _ _ _ (by decide)]
    rfl
  · rw [State.fld_setFld_self _ _ _ (by decide)]
    exact Nat.mod_eq_of_lt (by simp; omega)

theorem ChangesOnly.judgeLpi {but counters : List Nat} (h : ChangesOnly but counters s t) (hbut : Fld.addr (.netStatusTxlpi (netPage q)) ∈ but) :
    ChangesOnly but counters s (t.judgeLpi q) :=
  .ite h (h.setFld hbut)

/-- LPI that is judged anew changes STATUS of that port alone (R122). -/
theorem State.fld_judgeLpi (s : State) (q : Nat) {f : Fld} (hf : f.addr ≠ Fld.addr (.netStatusTxlpi (netPage q))) : (s.judgeLpi q).fld f = s.fld f :=
  State.ite_eq (g := (·.fld f)) rfl (State.fld_setFld_ne _ _ _ _ hf)

/-- The monitor's run as it begins: no frame has been counted, and none is in progress. -/
def State.monReset (s : State) : State := { s with ing.monCount := 0, ing.monNow := none }

theorem monStart_accepted (hoff : s.flag .monCtrlEnable = false) (hreason : s.monReason = 0) :
    ∃ u, monStart s = u ∧ u.flag .monCtrlEnable = true ∧ u.fld .monStatActive = 1 ∧ u.fld .monStatRefused = 0 ∧
      ChangesOnly (monStartRegs (s.fld .monCtrlPort)) [] s u := by
  let v := ((s.setFld .monStatRefused 0).setFld .monStatReason 0).setFld .monCtrlEnable 1
  have heffect : monStart s = (v.monReset.setFld .monStatActive 1).judgeLpi (v.fld .monCtrlPort) := by
    simp only [monStart, hoff, hreason]
    rfl
  have hport : v.fld .monCtrlPort = s.fld .monCtrlPort := by
    rw [State.fld_setFld_disjoint _ _ _ _ (by decide) (by decide), State.fld_setFld_ne _ _ _ _ (by decide), State.fld_setFld_ne _ _ _ _ (by decide)]
  have hv : ChangesOnly (monStartRegs (s.fld .monCtrlPort)) [] s v :=
    .setFld (.setFld (.setFld (.refl s) (by simp [monStartRegs])) (by simp [monStartRegs])) (by simp [monStartRegs])
  have henable : v.fld .monCtrlEnable = 1 := State.fld_setFld_self _ _ _ (by decide)
  have hrefused : v.fld .monStatRefused = 0 := by
    rw [State.fld_setFld_ne _ _ _ _ (by decide), State.fld_setFld_disjoint _ _ _ _ (by decide) (by decide), State.fld_setFld_self _ _ _ (by decide)]
    rfl
  rw [hport] at heffect
  have hlt : s.fld .monCtrlPort < 4 := s.fld_lt .monCtrlPort
  generalize s.fld .monCtrlPort = q at heffect hv hlt
  clear_value v
  have hne : ∀ f : Fld, 0x6000 ≤ f.addr → f.addr < 0x7000 → ((v.monReset.setFld .monStatActive 1).judgeLpi q).fld f =
      (v.monReset.setFld .monStatActive 1).fld f := fun f hlo hhi => State.fld_judgeLpi _ q (netStatus_ne q (by omega) (by omega))
  refine ⟨_, heffect, State.flag_eq_true ?_, ?_, ?_, .judgeLpi (.setFld (ChangesOnly.update hv) (by simp [monStartRegs])) (by simp [monStartRegs])⟩
  · rw [hne _ (by decide) (by decide), State.fld_setFld_ne _ _ _ _ (by decide)]
    exact henable
  · rw [hne _ (by decide) (by decide), State.fld_setFld_self _ _ _ (by decide)]
    rfl
  · rw [hne _ (by decide) (by decide), State.fld_setFld_disjoint _ _ _ _ (by decide) (by decide)]
    exact hrefused

/-- A write that sets ENABLE of a monitor that is off is judged with ENABLE as it was. -/
theorem writeMon_enable {data : Word} (hset : data.getLsbD 0 = true) (hoff : s.flag .monCtrlEnable = false) :
    writeMon s 0x40 data = monStart ((s.store 0x6040 data).setFld .monCtrlEnable 0) := by
  unfold writeMon
  rw [hset, hoff]
  exact (if_pos rfl).trans ((if_pos rfl).trans (if_neg Bool.false_ne_true))

theorem State.writeUnit_mon (init : Nat) (data : Word) (hrole : s.answers 6 = true) : s.writeUnit init 0x6040 data none = (writeMon s 0x40 data, 0) := by
  have hinfo : pageInfo 6 = some ⟨.mon, 0x6, 1, 0x7, .sender, false, true, 1, 0⟩ := by decide
  rw [State.writeUnit_of_type init _ _ (by decide)]
  simp [State.writeBase, hinfo, hrole]

/-- The checks of a write that sets ENABLE of a monitor that is off are made on the registers as they stand. -/
theorem State.writeUnit_monEnable (init : Nat) (hrole : s.answers 6 = true) (hoff : s.flag .monCtrlEnable = false) :
    ∃ v, s.writeUnit init 0x6040 (s.reg 0x6040 ||| 1) none = (monStart v, 0) ∧ v.flag .monCtrlEnable = false ∧ (∀ a, v.reg a = s.reg a) ∧
      v.boot = s.boot ∧ ChangesOnly [] [] s v := by
  have hnat : (s.reg 0x6040 ||| 1).toNat = 2 * ((s.reg 0x6040).toNat / 2) + 1 := or_one_toNat _
  rw [State.writeUnit_mon init _ hrole]
  generalize s.reg 0x6040 ||| 1 = data at hnat
  have hset : data.getLsbD 0 = true := by
    rw [getLsbD_zero_eq, decide_eq_true_eq]
    omega
  have hback := State.reg_setFld_back monCtrlEnable_isBit0 (data.toNat % 2) (State.fld_eq_zero hoff)
  refine ⟨(s.setFld .monCtrlEnable (data.toNat % 2)).setFld .monCtrlEnable 0, ?_, ?_, hback, ?_, ⟨⟨fun a _ => hback a, fun _ _ => ?_⟩, ?_⟩⟩
  · rw [writeMon_enable hset hoff, State.store_monCtrl (by omega)]
  · exact State.flag_eq_false (State.fld_setFld_self _ _ _ (by decide))
  · rw [State.setFld_boot, State.setFld_boot]
  · rw [State.live_setFld, State.live_setFld]
  · exact sameMemories_of_eq (by rw [State.setFld_boot, State.setFld_boot]) (by rw [State.setFld_dram, State.setFld_dram])
      (by rw [State.setFld_net, State.setFld_net]) (by rw [State.setFld_cmp, State.setFld_cmp])

theorem monEnable_effect (init : Nat) (hrole : s.answers 6 = true) (hoff : s.flag .monCtrlEnable = false) :
    ∃ u, s.writeUnit init 0x6040 (s.reg 0x6040 ||| 1) none = (u, 0) ∧
      (s.monReason = 0 → u.flag .monCtrlEnable = true ∧ u.fld .monStatActive = 1 ∧ u.fld .monStatRefused = 0) ∧
      (s.monReason ≠ 0 → u.flag .monCtrlEnable = false ∧ u.fld .monStatRefused = 1 ∧ u.fld .monStatReason = s.monReason) ∧
      ChangesOnly (monStartRegs (s.fld .monCtrlPort)) [] s u := by
  obtain ⟨v, hwrite, hvoff, hregs, hboot, hv⟩ := State.writeUnit_monEnable init hrole hoff
  have hreason : v.monReason = s.monReason := State.monReason_congr hregs hboot
  have hport : v.fld .monCtrlPort = s.fld .monCtrlPort := congrArg (Fld.get .monCtrlPort) (hregs _)
  have hv' : ChangesOnly (monStartRegs (s.fld .monCtrlPort)) [] s v := hv.mono (List.nil_subset _) (List.Subset.refl _)
  by_cases hzero : s.monReason = 0
  · obtain ⟨u, heffect, henable, hactive, hrefused, hkeep⟩ := monStart_accepted hvoff (hreason.trans hzero)
    rw [hport] at hkeep
    exact ⟨u, by rw [hwrite, heffect], fun _ => ⟨henable, hactive, hrefused⟩, fun h => absurd hzero h, hv'.trans hkeep⟩
  · obtain ⟨u, heffect, henable, hrefused, hshown, hkeep⟩ := monStart_refused hvoff (hreason ▸ hzero)
    exact ⟨u, by rw [hwrite, heffect], fun h => absurd h hzero, fun _ => ⟨henable, hrefused, hshown.trans hreason⟩,
      hv'.trans (hkeep.mono (by simp [monStartRegs]) (List.Subset.refl _))⟩

theorem monEnable_completes {init : Nat} (hperf : s.performs init 0x6040) (hoff : s.flag .monCtrlEnable = false) :
    Completes (.monEnable init) s fun t =>
      t.answeredOk ∧
      (s.monReason = 0 → t.flag .monCtrlEnable = true ∧ t.fld .monStatActive = 1 ∧ t.fld .monStatRefused = 0) ∧
      (s.monReason ≠ 0 → t.flag .monCtrlEnable = false ∧ t.fld .monStatRefused = 1 ∧ t.fld .monStatReason = s.monReason) ∧
      SameRegisters (monStartRegs (s.fld .monCtrlPort)) [] s t ∧ SameMemories s t := by
  obtain ⟨-, -, hrole, -⟩ := (s.performs_iff init _).mp hperf
  obtain ⟨u, heffect, haccepted, hrefused, hkeep⟩ := monEnable_effect (s := { s with sent := [], reply := none }) init hrole hoff
  have hsrcmd : 0x9054 ∉ monStartRegs (s.fld .monCtrlPort) := by
    have hlt : s.fld .monCtrlPort < 4 := s.fld_lt .monCtrlPort
    have hne := netStatus_ne (a := 0x9054) (s.fld .monCtrlPort) (by decide) (by omega)
    simp only [monStartRegs, List.mem_cons, List.not_mem_nil, or_false, not_or]
    exact ⟨by decide, by decide, hne⟩
  exact completes_writeOf (g := fun s => s.writeAs init 0x6040 (s.reg 0x6040 ||| 1) none) rfl rfl hperf heffect (hkeep.registers.1 _ hsrcmd)
    ⟨rfl, haccepted, hrefused, hkeep.registers, hkeep.memories⟩

/-! ### A frame is sent (R146) -/

/-- The packets of the monitor are frames of kind 6 on its sub-link. -/
theorem foldl_transmit_monitor (ps : List (Nat × List Nat)) (hq : q < 4) (hl : l < 4) (hport : s.fld .monCtrlPort = q)
    (hsub : s.fld .monCtrlSublink = l) (hpause : s.paused q l = false) :
    ∃ u, ps.foldl (fun s x => s.transmit (s.fld .monCtrlPort) (s.fld .monCtrlSublink) 6 x.1 x.2) s = u ∧
      u.sent = s.sent ++ ps.map (fun x => s.ownFrame q l 6 x.1 x.2) ∧ FrameEffect (linkRegs q l) (linkCounters q l) s u := by
  induction ps generalizing s with
  | nil => exact ⟨_, rfl, (List.append_nil _).symm, .refl s⟩
  | cons x ps ih =>
    obtain ⟨hsent, hnet, hframe⟩ := transmit_leaves (kind := 6) (octets := x.1) (data := x.2) (CountEffect.refl s) hl hpause
    rw [List.foldl_cons, hport, hsub]
    generalize s.transmit q l 6 x.1 x.2 = v at hsent hnet hframe
    have hmon : Fld.addr .monCtrlPort ∉ linkRegs q l := by
      have hpage : netPage q = 0x100 + q := if_neg (by simp; omega)
      rw [mem_linkRegs, hpage]
      simp
      omega
    obtain ⟨u, hfold, hrest, hframe'⟩ := ih (s := v) ((hframe.fld hmon).trans hport) ((hframe.fld (f := .monCtrlSublink) hmon).trans hsub)
      (by rw [State.paused, State.link_congr hnet]; exact hpause)
    refine ⟨u, hfold, ?_, hframe.trans hframe'⟩
    have hown : (fun x : Nat × List Nat => v.ownFrame q l 6 x.1 x.2) = fun x => s.ownFrame q l 6 x.1 x.2 :=
      funext fun x => ownFrame_congr hframe.toNetEffect l 6 x.1 x.2
    rw [hrest, hsent, hown, List.map_cons, List.append_assoc, List.singleton_append]

theorem monFrameStart_sends {k : Nat} (hon : s.flag .monCtrlEnable = true) (hnone : s.ing.monNow = none)
    (hdue : s.ing.monCount % (s.fld .monCtrlDiv + 1) = 0) (hpause : s.paused (s.fld .monCtrlPort) (s.fld .monCtrlSublink) = false) :
    ∃ u, monFrameStart s k = u ∧ u.ing.monNow = some k ∧ u.ing.monCount = s.ing.monCount + 1 ∧
      u.sent = s.sent ++ (s.monFrame k).map (fun x => s.ownFrame (s.fld .monCtrlPort) (s.fld .monCtrlSublink) 6 x.1 x.2) ∧
      ChangesOnly (linkRegs (s.fld .monCtrlPort) (s.fld .monCtrlSublink)) (linkCounters (s.fld .monCtrlPort) (s.fld .monCtrlSublink)) s u := by
  have hdone : s.monDone = s := by simp [State.monDone, hnone]
  let v : State := { s with ing.monCount := s.ing.monCount + 1, ing.monNow := some k,
                            ing.monSeq := (s.ing.monSeq + (s.monFrame k).length) % 65536 }
  have heffect : monFrameStart s k =
      (s.monFrame k).foldl (fun s x => s.transmit (s.fld .monCtrlPort) (s.fld .monCtrlSublink) 6 x.1 x.2) v := by
    unfold monFrameStart
    rw [hon, hdone]
    refine (if_neg (by decide)).trans (if_neg ?_)
    rw [bne_iff_ne, not_not]
    exact hdue
  obtain ⟨u, hfold, hsent, hframe⟩ := foldl_transmit_monitor (s := v) (s.monFrame k) (s.fld_lt .monCtrlPort) (s.fld_lt .monCtrlSublink) rfl rfl hpause
  have hkeep : ChangesOnly (linkRegs (s.fld .monCtrlPort) (s.fld .monCtrlSublink)) (linkCounters (s.fld .monCtrlPort) (s.fld .monCtrlSublink)) s v :=
    .update (.refl s)
  exact ⟨u, heffect.trans hfold, by rw [hframe.ing], by rw [hframe.ing], hsent, hkeep.trans hframe.changesOnly⟩

/-! ### A frame is cut (R147) -/

theorem State.release_changes (s : State) (p : InUse → Bool) :
    ChangesOnly [Fld.addr .cmpRetire] [] s (s.release p) ∧ (s.release p).ing = s.ing ∧ ∀ i, s.raised i → (s.release p).raised i := by
  let v : State := { s with cmp.inUse := s.cmp.inUse.filter (fun e => !p e) }
  have hv : ChangesOnly [Fld.addr .cmpRetire] [] s v := ⟨⟨fun _ _ => rfl, fun _ _ => rfl⟩, fun _ => rfl, fun _ => rfl, fun _ => rfl, fun _ => rfl,
    fun _ => rfl, fun _ => rfl, fun _ => rfl⟩
  have hing : v.ing = s.ing := rfl
  have hraised : ∀ i, s.raised i → v.raised i := fun _ h => h
  change ChangesOnly _ _ s v.advanceRetire ∧ v.advanceRetire.ing = s.ing ∧ ∀ i, s.raised i → v.advanceRetire.raised i
  clear_value v
  unfold State.advanceRetire
  extract_lets k
  split
  · refine ⟨.raise (hv.setFld (by simp)), by rw [State.raise_ing, State.setFld_ing, hing], fun i hi => State.raised_raise _ _ _ ?_⟩
    unfold State.raised
    rw [State.setFld_flt]
    exact hraised i hi
  · exact ⟨hv, hing, hraised⟩

/-- The frame in progress is given up: its packets that wait are dropped, SKIPPED advances and MONSKIP is raised. -/
def State.skipFrame (s : State) : State :=
  let s := s.onLink (s.fld .monCtrlPort) (s.fld .monCtrlSublink) (fun l => { l with waiting := l.waiting.filter (fun x => !x.1.isMonitor) })
  (({ s with ing.monNow := none } : State).bump .monSkipped 1).raise srcMonMonskip

theorem State.skipFrame_facts (s : State) :
    s.skipFrame.ing.monNow = none ∧ s.skipFrame.live (Fld.addr .monSkipped) = s.live (Fld.addr .monSkipped) + 1 ∧ s.skipFrame.raised srcMonMonskip ∧
      ChangesOnly [Fld.addr .cmpRetire] [Fld.addr .monSkipped] s s.skipFrame := by
  let w : State := s.onLink (s.fld .monCtrlPort) (s.fld .monCtrlSublink) (fun l => { l with waiting := l.waiting.filter (fun x => !x.1.isMonitor) })
  let v : State := { w with ing.monNow := none }
  have hv : ChangesOnly [Fld.addr .cmpRetire] [Fld.addr .monSkipped] s v := .update (.onLink (.refl s))
  have hnow : v.ing.monNow = none := rfl
  have hlive : v.live (Fld.addr .monSkipped) = s.live (Fld.addr .monSkipped) := rfl
  change ((v.bump .monSkipped 1).raise srcMonMonskip).ing.monNow = none ∧
    ((v.bump .monSkipped 1).raise srcMonMonskip).live (Fld.addr .monSkipped) = s.live (Fld.addr .monSkipped) + 1 ∧
    ((v.bump .monSkipped 1).raise srcMonMonskip).raised srcMonMonskip ∧
    ChangesOnly [Fld.addr .cmpRetire] [Fld.addr .monSkipped] s ((v.bump .monSkipped 1).raise srcMonMonskip)
  clear_value v
  refine ⟨?_, ?_, State.raise_any _ _, .raise (.setLive hv)⟩
  · rw [State.raise_ing, State.bump, State.setLive_ing, hnow]
  · rw [State.live_raise, State.live_bump_self, hlive]
    rfl

theorem monFrameCut_cuts {k : Nat} (hnow : s.ing.monNow = some k) :
    ∃ u, monFrameCut s = u ∧ u.ing.monNow = none ∧ u.live (Fld.addr .monSkipped) = s.live (Fld.addr .monSkipped) + 1 ∧ u.raised srcMonMonskip ∧
      ChangesOnly [Fld.addr .cmpRetire] [Fld.addr .monSkipped] s u := by
  have heffect : monFrameCut s = s.skipFrame.release (fun e => e.kind == 2 && e.stroke == k) := by
    unfold monFrameCut
    rw [hnow]
    rfl
  obtain ⟨hnone, hlive, hraised, hkeep⟩ := s.skipFrame_facts
  refine ⟨_, heffect, ?_⟩
  generalize s.skipFrame = v at *
  obtain ⟨hrelease, hing, hstill⟩ := v.release_changes (fun e => e.kind == 2 && e.stroke == k)
  exact ⟨by rw [hing, hnone], (hrelease.registers.2 _ (by simp)).trans hlive, hstill _ hraised,
    hkeep.trans (hrelease.mono (List.Subset.refl _) (List.nil_subset _))⟩

end

/-- Settles O33. That the packets of a frame leave together as it starts, and that what their lines carry is left open, is the model's choice
(log entry 104). -/
theorem monitorFramesStartAndAreCut : Obligations.MonitorFramesStartAndAreCut := by
  refine ⟨fun s init hperf hoff => monEnable_completes hperf hoff, fun s k hon hnone hdue hpause => ?_, fun s k hnow => ?_⟩
  · obtain ⟨u, heffect, hcut, hcount, hsent, hkeep⟩ := monFrameStart_sends (s := { s with sent := [], reply := none }) (k := k) hon hnone hdue hpause
    exact completes_of_effect (f := (monFrameStart · k)) rfl heffect ⟨hcut, hcount, hsent, hkeep.registers, hkeep.memories⟩
  · obtain ⟨u, heffect, hnone, hlive, hraised, hkeep⟩ := monFrameCut_cuts (s := { s with sent := [], reply := none }) hnow
    exact completes_of_effect (f := monFrameCut) rfl heffect ⟨hnone, hlive, hraised, hkeep.registers, hkeep.memories⟩

end Sys2Proof.Machine
end

section
/-!
SUPPORT. What a flow's checks and legs depend on, and what enabling and disabling a flow leaves as it was (R136, R137, R150).
-/

namespace Sys2Proof.Machine

section
variable {but counters : List Nat} {s t u : State} {q l : Nat}

/-! ### What a flow reads -/

section
variable (hflw : ∀ f : Fld, 0x110000 ≤ f.addr → t.fld f = s.fld f)
include hflw

theorem State.flag_congr {f : Fld} (hf : 0x110000 ≤ f.addr) : t.flag f = s.flag f :=
  congrArg (· != 0) (hflw f hf)

theorem State.flowOn_congr (n : Nat) : t.flowOn n = s.flowOn n :=
  State.flag_congr hflw (by simp; omega)

theorem State.legs_congr (n : Nat) : t.legs n = s.legs n := by
  unfold State.legs
  rw [State.flag_congr hflw (by simp; omega)]

theorem State.leg_congr (n k : Nat) : t.leg n k = s.leg n k := by
  have hread : ∀ f : Fld, 0x110040 + 4096 * n ≤ f.addr → t.fld f = s.fld f := fun f hf => hflw f (by omega)
  unfold State.leg
  rw [hread (.flwLegaPort n), hread (.flwLegaSublink n), hread (.flwLegaUdpport n), hread (.flwGrpa n), hread (.flwSrca n),
    hread (.flwLegbPort n), hread (.flwLegbSublink n), hread (.flwLegbUdpport n), hread (.flwGrpb n), hread (.flwSrcb n)] <;> (simp; omega)

theorem State.flowsOn_congr (q l : Nat) : t.flowsOn q l = s.flowsOn q l := by
  have hlegs : t.legs = s.legs := funext (State.legs_congr hflw)
  have hleg : t.leg = s.leg := funext fun n => funext (State.leg_congr hflw n)
  have hon : t.flowOn = s.flowOn := funext (State.flowOn_congr hflw)
  unfold State.flowsOn
  rw [hlegs, hleg, hon]

end

section
variable (hregs : ∀ a, t.reg a = s.reg a)
include hregs

theorem State.fld_of_reg (f : Fld) : t.fld f = s.fld f := congrArg f.get (hregs f.addr)

theorem State.legLoad_congr (n q l : Nat) : t.legLoad n q l = s.legLoad n q l := by
  have hflw : ∀ f : Fld, 0x110000 ≤ f.addr → t.fld f = s.fld f := fun f _ => State.fld_of_reg hregs f
  have hlegs : t.legs = s.legs := funext (State.legs_congr hflw)
  have hleg : t.leg = s.leg := funext fun n => funext (State.leg_congr hflw n)
  have hon : t.flowOn = s.flowOn := funext (State.flowOn_congr hflw)
  have hrate : (fun m => t.fld (.flwRateMbps m)) = fun m => s.fld (.flwRateMbps m) := funext fun m => State.fld_of_reg hregs _
  unfold State.legLoad
  rw [hlegs, hleg, hon]
  simp only [congrFun hrate]

theorem State.formatFails_congr (n : Nat) : t.formatFails n = s.formatFails n := by
  unfold State.formatFails
  simp only [State.fld_of_reg hregs]

theorem State.surfacesFail_congr (hcmp : t.cmp = s.cmp) (n : Nat) : t.surfacesFail n = s.surfacesFail n := by
  have hsurface : t.surface = s.surface := by
    unfold State.surface
    rw [hcmp]
  have hsurf : t.flowSurf n = s.flowSurf n := by
    unfold State.flowSurf
    rw [State.fld_of_reg hregs]
  have hstride : t.flowStrideOf n = s.flowStrideOf n := by
    unfold State.flowStrideOf
    simp only [State.fld_of_reg hregs]
  have huser : t.inUser = s.inUser := by
    unfold State.inUser State.userBytes
    rw [State.fld_of_reg hregs]
  unfold State.surfacesFail
  rw [hsurface, hsurf, hstride, huser, State.fld_of_reg hregs (.flwSurfNbuf n), State.fld_of_reg hregs (.flwSizeHeight n)]

variable (hboot : t.boot = s.boot)
include hboot

theorem State.rateFails_congr (n : Nat) : t.rateFails n = s.rateFails n := by
  have hflw : ∀ f : Fld, 0x110000 ≤ f.addr → t.fld f = s.fld f := fun f _ => State.fld_of_reg hregs f
  have hleg : t.leg = s.leg := funext fun n => funext (State.leg_congr hflw n)
  have hsub : t.hasSublink = s.hasSublink := funext fun q => funext (State.hasSublink_congr hregs hboot q)
  have hload : t.legLoad n = s.legLoad n := funext fun q => funext (State.legLoad_congr hregs n q)
  have hline : t.lineMbps = s.lineMbps := funext fun q => by rw [State.lineMbps, State.lineMbps, State.portCode_congr hregs hboot]
  unfold State.rateFails
  rw [State.legs_congr hflw, hleg, hsub, hload, hline]

theorem State.minBuffers_congr (n : Nat) : t.minBuffers n = s.minBuffers n := by
  have hsync : t.flag (.flwCtrlSyncmode n) = s.flag (.flwCtrlSyncmode n) := congrArg (· != 0) (State.fld_of_reg hregs _)
  unfold State.minBuffers State.prof
  rw [hsync, hboot]
  simp only [State.fld_of_reg hregs]

/-- What the REASON of a flow depends on: the registers, the profile and the surface table. -/
theorem State.flowReason_congr (hcmp : t.cmp = s.cmp) (n : Nat) : t.flowReason n = s.flowReason n := by
  have hflw : ∀ f : Fld, 0x110000 ≤ f.addr → t.fld f = s.fld f := fun f _ => State.fld_of_reg hregs f
  have hleg : t.leg = s.leg := funext fun n => funext (State.leg_congr hflw n)
  have hsub : t.hasSublink = s.hasSublink := funext fun q => funext (State.hasSublink_congr hregs hboot q)
  unfold State.flowReason
  rw [State.rateFails_congr hregs hboot, State.formatFails_congr hregs, State.surfacesFail_congr hregs hcmp, State.minBuffers_congr hregs hboot,
    State.fld_of_reg hregs, State.legs_congr hflw, hleg, hsub]

end

theorem State.flowReason_lt (s : State) (n : Nat) : s.flowReason n < 6 := by
  unfold State.flowReason
  split_ifs <;> decide

/-! ### What a flow's start and end leave -/

/-- `t` differs from `s` in the registers listed, and not in DRAM. -/
structure FlowEffect (but : List Nat) (s t : State) : Prop where
  registers : ∀ a, a ∉ but → t.reg a = s.reg a
  dram : t.dram = s.dram

theorem FlowEffect.refl (s : State) : FlowEffect but s s := ⟨fun _ _ => rfl, rfl⟩

theorem FlowEffect.trans (h : FlowEffect but s t) (h' : FlowEffect but t u) : FlowEffect but s u :=
  ⟨fun a ha => (h'.registers a ha).trans (h.registers a ha), h'.dram.trans h.dram⟩

theorem FlowEffect.setFld {f : Fld} {v : Nat} (h : FlowEffect but s t) (hf : f.addr ∈ but := by simp) : FlowEffect but s (t.setFld f v) :=
  h.trans ⟨fun _ ha => t.reg_setFld_ne _ _ (ne_of_mem_of_not_mem hf ha).symm, t.setFld_dram f v⟩

theorem FlowEffect.mono {but' : List Nat} (h : FlowEffect but s t) (hbut : but ⊆ but') : FlowEffect but' s t :=
  ⟨fun a ha => h.registers a fun hin => ha (hbut hin), h.dram⟩

theorem FlowEffect.fld (h : FlowEffect but s t) {f : Fld} (hf : f.addr ∉ but) : t.fld f = s.fld f := congrArg f.get (h.registers _ hf)

theorem FlowEffect.foldl {α : Type} {f : State → α → State} {l : List α} (h : FlowEffect but s t)
    (hf : ∀ x ∈ l, ∀ v : State, FlowEffect but v (f v x)) : FlowEffect but s (l.foldl f t) :=
  List.foldlRecOn (motive := FlowEffect but s) l f h fun v hv x hx => hv.trans (hf x hx v)

theorem NetEffect.flowEffect (h : NetEffect but counters s t) : FlowEffect but s t := ⟨h.registers.1, h.dram⟩

/-- A change of the flows, of the surface table and of the running counters. -/
theorem FlowEffect.of_eq (hregs : t.regs = s.regs) (hdram : t.dram = s.dram) : FlowEffect but s t :=
  ⟨fun a _ => by rw [State.reg, State.reg, hregs], hdram⟩

theorem State.dropBuf_effect (s : State) (n b : Nat) : FlowEffect but s (s.dropBuf n b) := by
  unfold State.dropBuf
  split
  · split
    · exact .of_eq rfl rfl
    · exact .refl s
  · exact .refl s

theorem State.ownSurfaces_effect (s : State) (n : Nat) : FlowEffect but s (s.ownSurfaces n) :=
  .foldl (.refl s) fun _ _ _ => .of_eq rfl rfl

theorem State.freeSurfaces_effect (s : State) (n : Nat) : FlowEffect but s (s.freeSurfaces n) :=
  .foldl (.refl s) fun _ _ _ => .of_eq rfl rfl

/-- The registers that frames of the ports' sub-links may change. -/
def portRegs : List Nat := (List.range 5).flatMap (fun q => (List.range 4).flatMap (linkRegs q))

/-- The counters of the ports' sub-links. -/
def portCounters : List Nat := (List.range 5).flatMap (fun q => (List.range 4).flatMap (linkCounters q))

theorem linkRegs_subset (hq : q < 5) (hl : l < 4) : linkRegs q l ⊆ portRegs := fun _ ha =>
  List.mem_flatMap.mpr ⟨q, List.mem_range.mpr hq, List.mem_flatMap.mpr ⟨l, List.mem_range.mpr hl, ha⟩⟩

theorem linkCounters_subset (hq : q < 5) (hl : l < 4) : linkCounters q l ⊆ portCounters := fun _ ha =>
  List.mem_flatMap.mpr ⟨q, List.mem_range.mpr hq, List.mem_flatMap.mpr ⟨l, List.mem_range.mpr hl, ha⟩⟩

/-- The flows, the streams' page and all pages between stand apart from the ports. -/
theorem not_mem_portRegs {a : Nat} (ha : (0x5000 ≤ a ∧ a < 0x100000) ∨ 0x105000 ≤ a) : a ∉ portRegs := by
  have hbounds : ∀ a ∈ portRegs, a < 0x5000 ∨ (0x100000 ≤ a ∧ a < 0x105000) := by decide
  intro hin
  have := hbounds a hin
  omega

theorem State.leg_lt (s : State) (n k : Nat) : (s.leg n k).port < 4 ∧ (s.leg n k).sublink < 4 := by
  unfold State.leg
  split
  · exact ⟨s.fld_lt (.flwLegaPort n), s.fld_lt (.flwLegaSublink n)⟩
  · exact ⟨s.fld_lt (.flwLegbPort n), s.fld_lt (.flwLegbSublink n)⟩

theorem FrameEffect.igmp {n k : Nat} {leave : Bool} (h : FrameEffect but counters s t)
    (hbut : linkRegs (t.leg n k).port (t.leg n k).sublink ⊆ but) (hcounters : linkCounters (t.leg n k).port (t.leg n k).sublink ⊆ counters) :
    FrameEffect but counters s (t.igmp n k leave) :=
  .ite h (h.igmpSend (t.leg_lt n k).2 hbut hcounters)

theorem State.igmpAll_effect (s : State) (n : Nat) (leave : Bool) : FlowEffect portRegs s (s.igmpAll n leave) :=
  .foldl (.refl s) fun k _ v =>
    have ⟨hq, hl⟩ := v.leg_lt n k
    (FrameEffect.igmp (counters := portCounters) (.refl v) (linkRegs_subset (by omega) hl) (linkCounters_subset (by omega) hl)).toNetEffect.flowEffect

/-! ### A flow's start and end (R136) -/

/-- The registers of flow `n` that its start and end change, with those of the streams' page and of the ports. -/
def flowRegs (n : Nat) : List Nat :=
  Fld.addr (.flwCtrlEnable n) :: Fld.addr (.flwStatState n) :: Fld.addr .ingStatActive :: portRegs

theorem flowOn_apart {n m : Nat} (hne : m ≠ n) : Fld.addr (.flwCtrlEnable m) ∉ flowRegs n := by
  have hport : Fld.addr (.flwCtrlEnable m) ∉ portRegs := not_mem_portRegs (by simp; omega)
  simp only [flowRegs, List.mem_cons, not_or]
  refine ⟨?_, ?_, ?_, hport⟩ <;> (simp; omega)

theorem srcmd_apart {n : Nat} : 0x9054 ∉ flowRegs n := by
  have hport : 0x9054 ∉ portRegs := not_mem_portRegs (by decide)
  simp only [flowRegs, List.mem_cons, not_or]
  refine ⟨?_, ?_, ?_, hport⟩ <;> (simp; try omega)

/-- Other flows stay as they were. -/
theorem FlowEffect.others {n : Nat} (h : FlowEffect (flowRegs n) s t) : ∀ m ∈ List.range 16, m ≠ n → t.flowOn m = s.flowOn m :=
  fun _ _ hne => congrArg (· != 0) (h.fld (flowOn_apart hne))

theorem flowStart_refused {n : Nat} (hoff : s.flowOn n = false) (hreason : s.flowReason n ≠ 0) :
    ∃ u, flowStart s n = u ∧ u.flowOn n = false ∧ u.fld (.flwStatState n) = 3 ∧ u.fld (.flwStatReason n) = s.flowReason n ∧
      ChangesOnly [Fld.addr (.flwStatState n)] [] s u := by
  have heffect : flowStart s n = (s.setFld (.flwStatState n) 3).setFld (.flwStatReason n) (s.flowReason n) := by
    simp [flowStart, hoff, hreason]
  have hlt := s.flowReason_lt n
  generalize s.flowReason n = r at heffect hlt
  have hkeep : ChangesOnly [Fld.addr (.flwStatState n)] [] s ((s.setFld (.flwStatState n) 3).setFld (.flwStatReason n) r) :=
    .setFld (.setFld (.refl s))
  refine ⟨_, heffect, (hkeep.flag (f := .flwCtrlEnable n) (by simp)).trans hoff, ?_, ?_, hkeep⟩
  · rw [State.fld_setFld_disjoint _ _ _ _ (by simp) (by simp), State.fld_setFld_self _ _ _ (by simp)]
    simp
  · rw [State.fld_setFld_self _ _ _ (by simp)]
    exact Nat.mod_eq_of_lt (by simp; omega)

theorem flowStart_accepted {n : Nat} (hoff : s.flowOn n = false) (hreason : s.flowReason n = 0) :
    ∃ u, flowStart s n = u ∧ u.flowOn n = true ∧ u.fld (.flwStatState n) = 1 ∧ u.fld (.flwStatReason n) = 0 ∧ FlowEffect (flowRegs n) s u := by
  let v := ((s.setFld (.flwCtrlEnable n) 1).setFld (.flwStatState n) 1).setFld (.flwStatReason n) 0
  have heffect : flowStart s n = (((iterate 8 (fun s b => s.dropBuf n b) v).onFlow n
      (fun f => { FlowState.reset with reportDue := true, latched := f.latched })).ownSurfaces n).igmpAll n false := by
    unfold flowStart
    rw [hoff, hreason]
    rfl
  have hv : FlowEffect (flowRegs n) s v := .setFld (.setFld (.setFld (.refl s) (by simp [flowRegs])) (by simp [flowRegs])) (by simp [flowRegs])
  have henable : v.fld (.flwCtrlEnable n) = 1 := by
    rw [State.fld_setFld_ne _ _ _ _ (by simp), State.fld_setFld_ne _ _ _ _ (by simp), State.fld_setFld_self _ _ _ (by simp)]
    simp
  have hstate : v.fld (.flwStatState n) = 1 := by
    rw [State.fld_setFld_disjoint _ _ _ _ (by simp) (by simp), State.fld_setFld_self _ _ _ (by simp)]
    simp
  have hshown : v.fld (.flwStatReason n) = 0 := by
    rw [State.fld_setFld_self _ _ _ (by simp)]
    simp
  clear_value v
  have hrest : FlowEffect portRegs v ((((iterate 8 (fun s b => s.dropBuf n b) v).onFlow n
      (fun f => { FlowState.reset with reportDue := true, latched := f.latched })).ownSurfaces n).igmpAll n false) := by
    have hdrop : FlowEffect portRegs v (iterate 8 (fun s b => s.dropBuf n b) v) := .foldl (.refl v) fun b _ w => w.dropBuf_effect n b
    generalize iterate 8 (fun s b => s.dropBuf n b) v = w at hdrop
    have hflow : FlowEffect portRegs w (w.onFlow n (fun f => { FlowState.reset with reportDue := true, latched := f.latched })) := .of_eq rfl rfl
    generalize w.onFlow n (fun f => { FlowState.reset with reportDue := true, latched := f.latched }) = x at hflow
    exact (hdrop.trans hflow).trans ((x.ownSurfaces_effect n).trans (State.igmpAll_effect _ n false))
  have hfld : ∀ f : Fld, 0x105000 ≤ f.addr → _ = v.fld f := fun f hf => hrest.fld (not_mem_portRegs (.inr hf))
  exact ⟨_, heffect, State.flag_eq_true ((hfld _ (by simp; omega)).trans henable), (hfld _ (by simp; omega)).trans hstate,
    (hfld _ (by simp; omega)).trans hshown, hv.trans (hrest.mono fun a ha => by simp [flowRegs, ha])⟩

/-- ENABLE and STATE of a flow that ends (R136). -/
def State.disableFlow (s : State) (n : Nat) : State :=
  ((s.setFld (.flwCtrlEnable n) 0).setFld (.flwStatState n) 0).setFldBit .ingStatActive n false

/-- Both legs of a flow are down, and neither is missed. -/
def State.clearLegs (s : State) (n : Nat) : State :=
  ((s.setFld (.flwStatLegaup n) 0).setFld (.flwStatLegbup n) 0).lower (srcFlwLeglost n)

/-- A flow leaves the shedding list. -/
def State.dropShed (s : State) (n : Nat) : State := { s with ing.shed := s.ing.shed.filter (· != n) }

/-- A flow sheds no more. -/
def State.unshed (s : State) (n : Nat) : State :=
  ((s.setFldBit .ingStatShedding n false).setFld (.flwStatShedding n) 0).dropShed n

/-- What is left of a flow as it ends: neither the frame it has open nor a report. -/
def FlowState.ended (f : FlowState) : FlowState := { f with open_ := none, reportDue := false }

theorem flowStop_eq {n : Nat} (hon : s.flowOn n = true) : flowStop s n =
    (((((s.igmpAll n true).freeSurfaces n).disableFlow n).clearLegs n).unshed n).onFlow n FlowState.ended := by
  unfold flowStop
  rw [hon]
  rfl

theorem State.disableFlow_facts (s : State) (n : Nat) :
    (s.disableFlow n).fld (.flwCtrlEnable n) = 0 ∧ (s.disableFlow n).fld (.flwStatState n) = 0 ∧
      ((s.disableFlow n).reg (Fld.addr (.flwCtrlEnable n))).toNat / 2 = (s.reg (Fld.addr (.flwCtrlEnable n))).toNat / 2 ∧
      FlowEffect (flowRegs n) s (s.disableFlow n) := by
  have hreg : (s.disableFlow n).reg (Fld.addr (.flwCtrlEnable n)) = (s.setFld (.flwCtrlEnable n) 0).reg (Fld.addr (.flwCtrlEnable n)) := by
    unfold State.disableFlow State.setFldBit
    rw [State.reg_setFld_ne _ _ _ (by simp; omega), State.reg_setFld_ne _ _ _ (by simp)]
  refine ⟨?_, ?_, ?_, .setFld (.setFld (.setFld (.refl s) (by simp [flowRegs])) (by simp [flowRegs])) (by simp [flowRegs])⟩
  · rw [State.fld, hreg]
    exact State.fld_setFld_self s _ _ (by simp)
  · unfold State.disableFlow State.setFldBit
    rw [State.fld_setFld_ne _ _ _ _ (by simp; omega), State.fld_setFld_self _ _ _ (by simp)]
    simp
  · rw [hreg, State.setFld, State.reg_setReg_self, Fld.isBit0.put_toNat ⟨rfl, rfl⟩]
    omega

/-- The bits of STAT and of the streams' page that a flow's end clears leave STATE. -/
theorem State.clearLegs_keeps (s : State) (n : Nat) :
    (s.clearLegs n).fld (.flwStatState n) = s.fld (.flwStatState n) ∧ FlowEffect [Fld.addr (.flwStatState n)] s (s.clearLegs n) := by
  have hlower : ∀ v : State, FlowEffect [Fld.addr (.flwStatState n)] v (v.lower (srcFlwLeglost n)) := fun v => .of_eq rfl rfl
  refine ⟨?_, (FlowEffect.setFld (.setFld (.refl s))).trans (hlower _)⟩
  unfold State.clearLegs
  generalize hv : (s.setFld (.flwStatLegaup n) 0).setFld (.flwStatLegbup n) 0 = v
  have hstate : v.fld (.flwStatState n) = s.fld (.flwStatState n) := by
    rw [← hv, State.fld_setFld_disjoint _ _ _ _ (by simp) (by simp), State.fld_setFld_disjoint _ _ _ _ (by simp) (by simp)]
  exact hstate

theorem State.unshed_keeps (s : State) (n : Nat) :
    (s.unshed n).fld (.flwStatState n) = s.fld (.flwStatState n) ∧
      FlowEffect [Fld.addr (.flwStatState n), Fld.addr .ingStatShedding] s (s.unshed n) := by
  have hdrop : ∀ v : State, (v.dropShed n).fld (.flwStatState n) = v.fld (.flwStatState n) ∧
      FlowEffect [Fld.addr (.flwStatState n), Fld.addr .ingStatShedding] v (v.dropShed n) := fun v => ⟨rfl, .of_eq rfl rfl⟩
  refine ⟨?_, (FlowEffect.setFld (.setFld (.refl s))).trans (hdrop _).2⟩
  unfold State.unshed State.setFldBit
  rw [(hdrop _).1, State.fld_setFld_disjoint _ _ _ _ (by simp) (by simp), State.fld_setFld_ne _ _ _ _ (by simp; omega)]

theorem flowEnd_keeps (s : State) (n : Nat) :
    (((s.clearLegs n).unshed n).onFlow n FlowState.ended).fld (.flwStatState n) = s.fld (.flwStatState n) ∧
      FlowEffect [Fld.addr (.flwStatState n), Fld.addr .ingStatShedding] s (((s.clearLegs n).unshed n).onFlow n FlowState.ended) := by
  have hflow : ∀ v : State, (v.onFlow n FlowState.ended).fld (.flwStatState n) = v.fld (.flwStatState n) ∧
      FlowEffect [Fld.addr (.flwStatState n), Fld.addr .ingStatShedding] v (v.onFlow n FlowState.ended) := fun v => ⟨rfl, .of_eq rfl rfl⟩
  obtain ⟨hlegsState, hlegs⟩ := s.clearLegs_keeps n
  obtain ⟨hshedState, hshed⟩ := (s.clearLegs n).unshed_keeps n
  obtain ⟨hflowState, hflow⟩ := hflow ((s.clearLegs n).unshed n)
  exact ⟨hflowState.trans (hshedState.trans hlegsState), (hlegs.mono (by simp)).trans (hshed.trans hflow)⟩

theorem flowStop_ends {n : Nat} (hon : s.flowOn n = true) :
    ∃ u, flowStop s n = u ∧ u.fld (.flwCtrlEnable n) = 0 ∧ u.fld (.flwStatState n) = 0 ∧
      (u.reg (Fld.addr (.flwCtrlEnable n))).toNat / 2 = (s.reg (Fld.addr (.flwCtrlEnable n))).toNat / 2 ∧ FlowEffect (flowRegs n) s u := by
  have hports : portRegs ⊆ flowRegs n := fun a ha => by simp [flowRegs, ha]
  have hstat : [Fld.addr (.flwStatState n), Fld.addr .ingStatShedding] ⊆ flowRegs n := by simp [flowRegs]
  have hctrl : Fld.addr (.flwCtrlEnable n) ∉ [Fld.addr (.flwStatState n), Fld.addr .ingStatShedding] := by simp; omega
  obtain ⟨v, hv⟩ : ∃ v, (s.igmpAll n true).freeSurfaces n = v := ⟨_, rfl⟩
  have hleft : FlowEffect portRegs s v := hv ▸ (s.igmpAll_effect n true).trans (State.freeSurfaces_effect _ n)
  have hword : v.reg (Fld.addr (.flwCtrlEnable n)) = s.reg (Fld.addr (.flwCtrlEnable n)) := hleft.registers _ (not_mem_portRegs (by simp; omega))
  obtain ⟨henable, hstate, hhalf, hdisable⟩ := v.disableFlow_facts n
  obtain ⟨w, hw⟩ : ∃ w, v.disableFlow n = w := ⟨_, rfl⟩
  rw [hw] at henable hstate hhalf hdisable
  obtain ⟨hendState, hend⟩ := flowEnd_keeps w n
  refine ⟨_, by rw [flowStop_eq hon, hv, hw], (hend.fld hctrl).trans henable, hendState.trans hstate, ?_,
    (hleft.mono hports).trans (hdisable.trans (hend.mono hstat))⟩
  rw [hend.registers _ hctrl, hhalf, hword]

end

end Sys2Proof.Machine
end

section
/-!
SUPPORT. Flows are enabled and disabled by writes of CTRL, report their groups, answer queries, and lose a leg (R136, R137, R141).
-/

namespace Sys2Proof.Machine

section
variable {s t u : State} {q l n k : Nat}

/-! ### Writes of a flow's CTRL (R136) -/

theorem flwCtrl_addr (n : Nat) : 0x110040 + 0x1000 * n = Fld.addr (.flwCtrlEnable n) := by
  simp
  omega

theorem flwCtrl_page (n : Nat) : Fld.addr (.flwCtrlEnable n) / 4096 = 0x110 + n ∧ Fld.addr (.flwCtrlEnable n) % 4096 = 0x40 := by
  rw [← flwCtrl_addr]
  omega

theorem pageInfo_flw (hn : n < 16) : pageInfo (0x110 + n) = some ⟨.flw, 0x110, 16, 0x21, .sender, false, true, 3, 1⟩ := by
  have hall : ∀ m < 16, pageInfo (0x110 + m) = some ⟨.flw, 0x110, 16, 0x21, .sender, false, true, 3, 1⟩ := by decide
  exact hall n hn

theorem State.store_flwCtrl {data : Word} (hn : n < 16) (hhalf : data.toNat / 2 = (s.reg (Fld.addr (.flwCtrlEnable n))).toNat / 2) :
    s.store (Fld.addr (.flwCtrlEnable n)) data = s.setFld (.flwCtrlEnable n) (data.toNat % 2) := by
  obtain ⟨hpage, hoff⟩ := flwCtrl_page n
  refine State.store_bit0 (p := ⟨.flw, 0x110, 16, 0x21, .sender, false, true, 3, 1⟩)
    (r := ⟨0x040, 4096, 1, 4, 1, false, [⟨0, 1, .rw, 0, false, .free⟩, ⟨1, 1, .rw, 0, false, .free⟩, ⟨2, 1, .rw, 0, false, .free⟩,
      ⟨3, 1, .rw, 1, false, .free⟩, ⟨4, 4, .rw, 8, false, .free⟩]⟩)
    (by rw [hpage]; exact pageInfo_flw hn) (by rw [hoff]; decide) ?_ rfl ⟨rfl, rfl, by decide⟩ ⟨rfl, rfl⟩ ⟨rfl, rfl⟩ (by unfold Plain; decide) hhalf
  rw [hoff]
  decide

theorem State.writeUnit_flw (init : Nat) (data : Word) (hn : n < 16) (hrole : s.answers (0x110 + n) = true) :
    s.writeUnit init (Fld.addr (.flwCtrlEnable n)) data none = (writeFlw s n 0x40 data, 0) := by
  obtain ⟨hpage, hoff⟩ := flwCtrl_page n
  have hindex : 0x110 + n - 0x110 = n := Nat.add_sub_cancel_left _ _
  rw [State.writeUnit_of_type init _ _ (by rw [← flwCtrl_addr]; omega)]
  simp [State.writeBase, hpage, hoff, pageInfo_flw hn, hrole]

theorem writeFlw_enable {data : Word} (hset : data.getLsbD 0 = true) (hoff : s.flowOn n = false) :
    writeFlw s n 0x40 data = flowStart ((s.store (Fld.addr (.flwCtrlEnable n)) data).setFld (.flwCtrlEnable n) 0) n := by
  have haddr : 4096 * (0x110 + n) + 0x40 = Fld.addr (.flwCtrlEnable n) := by simp
  unfold writeFlw
  rw [hset, hoff, haddr]
  exact (if_pos rfl).trans (if_pos rfl)

theorem writeFlw_disable {data : Word} (hset : data.getLsbD 0 = false) :
    writeFlw s n 0x40 data = (flowStop s n).store (Fld.addr (.flwCtrlEnable n)) data := by
  have haddr : 4096 * (0x110 + n) + 0x40 = Fld.addr (.flwCtrlEnable n) := by simp
  unfold writeFlw
  rw [hset, haddr]
  exact (if_pos rfl).trans (if_neg Bool.false_ne_true)

/-- The checks of a write that sets ENABLE of a flow that is off are made on the registers as they stand. -/
theorem State.writeUnit_flowEnable (init : Nat) (hn : n < 16) (hrole : s.answers (0x110 + n) = true) (hoff : s.flowOn n = false) :
    ∃ v, s.writeUnit init (Fld.addr (.flwCtrlEnable n)) (s.reg (Fld.addr (.flwCtrlEnable n)) ||| 1) none = (flowStart v n, 0) ∧
      v.flowOn n = false ∧ (∀ a, v.reg a = s.reg a) ∧ v.flowReason n = s.flowReason n ∧ v.dram = s.dram ∧ ChangesOnly [] [] s v := by
  have hnat : (s.reg (Fld.addr (.flwCtrlEnable n)) ||| 1).toNat = 2 * ((s.reg (Fld.addr (.flwCtrlEnable n))).toNat / 2) + 1 := or_one_toNat _
  rw [State.writeUnit_flw init _ hn hrole]
  generalize s.reg (Fld.addr (.flwCtrlEnable n)) ||| 1 = data at hnat
  have hset : data.getLsbD 0 = true := by
    rw [getLsbD_zero_eq, decide_eq_true_eq]
    omega
  have hback := State.reg_setFld_back (f := .flwCtrlEnable n) ⟨rfl, rfl⟩ (data.toNat % 2) (State.fld_eq_zero hoff)
  have hwrite : writeFlw s n 0x40 data = flowStart ((s.setFld (.flwCtrlEnable n) (data.toNat % 2)).setFld (.flwCtrlEnable n) 0) n := by
    rw [writeFlw_enable hset hoff, State.store_flwCtrl hn (by omega)]
  have henable : ((s.setFld (.flwCtrlEnable n) (data.toNat % 2)).setFld (.flwCtrlEnable n) 0).fld (.flwCtrlEnable n) = 0 := by
    rw [State.fld_setFld_self _ _ _ (by simp)]
    exact Nat.zero_mod _
  have hboot : ((s.setFld (.flwCtrlEnable n) (data.toNat % 2)).setFld (.flwCtrlEnable n) 0).boot = s.boot := by
    rw [State.setFld_boot, State.setFld_boot]
  have hcmp : ((s.setFld (.flwCtrlEnable n) (data.toNat % 2)).setFld (.flwCtrlEnable n) 0).cmp = s.cmp := by
    rw [State.setFld_cmp, State.setFld_cmp]
  have hdram : ((s.setFld (.flwCtrlEnable n) (data.toNat % 2)).setFld (.flwCtrlEnable n) 0).dram = s.dram := by
    rw [State.setFld_dram, State.setFld_dram]
  have hnet : ((s.setFld (.flwCtrlEnable n) (data.toNat % 2)).setFld (.flwCtrlEnable n) 0).net = s.net := by
    rw [State.setFld_net, State.setFld_net]
  have hlive : ∀ a, ((s.setFld (.flwCtrlEnable n) (data.toNat % 2)).setFld (.flwCtrlEnable n) 0).live a = s.live a := fun a => by
    rw [State.live_setFld, State.live_setFld]
  generalize (s.setFld (.flwCtrlEnable n) (data.toNat % 2)).setFld (.flwCtrlEnable n) 0 = v at *
  exact ⟨v, by rw [hwrite], State.flag_eq_false henable, hback, State.flowReason_congr hback hboot hcmp n, hdram,
    ⟨fun a _ => hback a, fun a _ => hlive a⟩, sameMemories_of_eq hboot hdram hnet hcmp⟩

/-- What a write of a flow's CTRL finds out from its permission. -/
theorem State.answers_flw {init : Nat} (hperf : s.performs init (0x110040 + 0x1000 * n)) : s.answers (0x110 + n) = true := by
  obtain ⟨-, -, hrole, -⟩ := (s.performs_iff init _).mp hperf
  rwa [flwCtrl_addr, (flwCtrl_page n).1] at hrole

/-- A command on the CTRL register of a flow is a write of it. -/
theorem State.writeNth_of_lt {count i init addr : Nat} {data : Word} (hi : i < count) :
    s.writeNth count i init addr data = s.writeAs init addr data none := if_pos hi

theorem flowEnable_accepted {init : Nat} (hn : n < 16) (hperf : s.performs init (0x110040 + 0x1000 * n)) (hoff : s.flowOn n = false)
    (hreason : s.flowReason n = 0) :
    Completes (.flowEnable init n) s fun t =>
      t.answeredOk ∧ t.flowOn n = true ∧ t.fld (.flwStatState n) = 1 ∧ t.fld (.flwStatReason n) = 0 ∧
        (∀ m ∈ List.range 16, m ≠ n → t.flowOn m = s.flowOn m) ∧ t.dram = s.dram := by
  obtain ⟨v, hwrite, hvoff, hregs, hvreason, hdram, -⟩ :=
    State.writeUnit_flowEnable (s := { s with sent := [], reply := none }) init hn (State.answers_flw hperf) hoff
  obtain ⟨u, heffect, hon, hstate, hshown, hkeep⟩ := flowStart_accepted hvoff (hvreason.trans hreason)
  have hall : FlowEffect (flowRegs n) s u := FlowEffect.trans ⟨fun a _ => hregs a, hdram⟩ hkeep
  rw [← flwCtrl_addr, heffect] at hwrite
  exact completes_writeOf (g := fun s => s.writeNth 16 n init (0x110040 + 0x1000 * n) (s.reg (0x110040 + 0x1000 * n) ||| 1)) rfl
    (State.writeNth_of_lt hn) hperf hwrite (hall.registers _ srcmd_apart) ⟨rfl, hon, hstate, hshown, hall.others, hall.dram⟩

theorem flowEnable_refused {init : Nat} (hn : n < 16) (hperf : s.performs init (0x110040 + 0x1000 * n)) (hoff : s.flowOn n = false)
    (hreason : s.flowReason n ≠ 0) :
    Completes (.flowEnable init n) s fun t =>
      t.answeredOk ∧ t.flowOn n = false ∧ t.fld (.flwStatState n) = 3 ∧ t.fld (.flwStatReason n) = s.flowReason n ∧
        SameRegisters [Fld.addr (.flwStatState n)] [] s t ∧ SameMemories s t := by
  obtain ⟨v, hwrite, hvoff, -, hvreason, -, hv⟩ :=
    State.writeUnit_flowEnable (s := { s with sent := [], reply := none }) init hn (State.answers_flw hperf) hoff
  have hvreason' : v.flowReason n = s.flowReason n := hvreason
  obtain ⟨u, heffect, hstill, hstate, hshown, hkeep⟩ := flowStart_refused hvoff (by rw [hvreason']; exact hreason)
  have hall : ChangesOnly [Fld.addr (.flwStatState n)] [] s u :=
    (ChangesOnly.update (.refl s)).trans ((hv.mono (List.nil_subset _) (List.Subset.refl _)).trans hkeep)
  rw [← flwCtrl_addr, heffect] at hwrite
  exact completes_writeOf (g := fun s => s.writeNth 16 n init (0x110040 + 0x1000 * n) (s.reg (0x110040 + 0x1000 * n) ||| 1)) rfl
    (State.writeNth_of_lt hn) hperf hwrite (hall.registers.1 _ (by simp; omega))
    ⟨rfl, hstill, hstate, hshown.trans hvreason', hall.registers, hall.memories⟩

theorem State.writeUnit_flowDisable (init : Nat) (hn : n < 16) (hrole : s.answers (0x110 + n) = true) (hon : s.flowOn n = true) :
    ∃ u, s.writeUnit init (Fld.addr (.flwCtrlEnable n)) (s.reg (Fld.addr (.flwCtrlEnable n)) &&& ~~~1#32) none = (u, 0) ∧ u.flowOn n = false ∧
      u.fld (.flwStatState n) = 0 ∧ FlowEffect (flowRegs n) s u := by
  have hnat := and_not_one_toNat (s.reg (Fld.addr (.flwCtrlEnable n)))
  rw [State.writeUnit_flw init _ hn hrole]
  generalize s.reg (Fld.addr (.flwCtrlEnable n)) &&& ~~~1#32 = data at hnat
  have hclear : data.getLsbD 0 = false := by
    rw [getLsbD_zero_eq, decide_eq_false_iff_not]
    omega
  obtain ⟨v, hstop, -, hstate, hhalf, hkeep⟩ := flowStop_ends hon
  have hwrite : writeFlw s n 0x40 data = v.setFld (.flwCtrlEnable n) (data.toNat % 2) := by
    rw [writeFlw_disable hclear, hstop, State.store_flwCtrl hn (by omega)]
  refine ⟨_, by rw [hwrite], State.flag_eq_false ?_, ?_, hkeep.setFld (by simp [flowRegs])⟩
  · rw [State.fld_setFld_self _ _ _ (by simp), hnat, Nat.mul_mod_right]
    exact Nat.zero_mod _
  · rw [State.fld_setFld_ne _ _ _ _ (by simp), hstate]

theorem flowDisable_completes {init : Nat} (hn : n < 16) (hperf : s.performs init (0x110040 + 0x1000 * n)) (hon : s.flowOn n = true) :
    Completes (.flowDisable init n) s fun t =>
      t.answeredOk ∧ t.flowOn n = false ∧ t.fld (.flwStatState n) = 0 ∧ (∀ m ∈ List.range 16, m ≠ n → t.flowOn m = s.flowOn m) ∧
        t.dram = s.dram := by
  obtain ⟨u, hwrite, hoff, hstate, hkeep⟩ :=
    State.writeUnit_flowDisable (s := { s with sent := [], reply := none }) init hn (State.answers_flw hperf) hon
  have hall : FlowEffect (flowRegs n) s u := ⟨hkeep.registers, hkeep.dram⟩
  rw [← flwCtrl_addr] at hwrite
  exact completes_writeOf (g := fun s => s.writeNth 16 n init (0x110040 + 0x1000 * n) (s.reg (0x110040 + 0x1000 * n) &&& ~~~1#32)) rfl
    (State.writeNth_of_lt hn) hperf hwrite (hall.registers _ srcmd_apart) ⟨rfl, hoff, hstate, hall.others, hall.dram⟩

/-! ### Reports (R137) -/

/-- The second report of a flow has been sent. -/
def FlowState.reported (f : FlowState) : FlowState := { f with reportDue := false }

theorem State.flow_onFlow (s : State) (n : Nat) (f : FlowState → FlowState) :
    (s.onFlow n f).flow n = if n < s.ing.flows.length then f (s.flow n) else FlowState.reset := by
  unfold State.flow State.onFlow
  exact getD_listModify f FlowState.reset s.ing.flows n

/-- A report of an any-source group carries no source. -/
theorem State.igmp_report (s : State) (hssm : s.flag (.flwCtrlSsm n) = false) (hmulti : isMulticast (s.leg n k).group = true) :
    s.igmp n k false = s.transmit (s.leg n k).port (s.leg n k).sublink 3 64
      [s.igmpVersion (s.leg n k).port (s.leg n k).sublink, 2, (s.leg n k).group, 0] := by
  unfold State.igmp State.igmpSend
  simp [hssm, hmulti]

theorem igmpRepeat_reports (hdue : (s.flow n).reportDue = true) (hon : s.flowOn n = true) (hdual : s.flag (.flwCtrlDual n) = false)
    (hssm : s.flag (.flwCtrlSsm n) = false) (hmulti : isMulticast (s.leg n 0).group = true)
    (hpause : (s.link (s.leg n 0).port (s.leg n 0).sublink).pause = 0) :
    ∃ u, igmpRepeat s n = u ∧
      u.sent = s.sent ++ [s.ownFrame (s.leg n 0).port (s.leg n 0).sublink 3 64
        [s.igmpVersion (s.leg n 0).port (s.leg n 0).sublink, 2, (s.leg n 0).group, 0]] ∧
      (u.flow n).reportDue = false ∧
      ChangesOnly (linkRegs (s.leg n 0).port (s.leg n 0).sublink) (linkCounters (s.leg n 0).port (s.leg n 0).sublink) s u := by
  let v := s.onFlow n FlowState.reported
  have hreported : (v.flow n).reportDue = false := by
    rw [State.flow_onFlow]
    split
    · rfl
    · rfl
  have hlegs : s.legs n = [0] := by simp [State.legs, hdual]
  have heffect : igmpRepeat s n = v.igmp n 0 false := by
    have hall : igmpRepeat s n = (s.legs n).foldl (fun s k => s.igmp n k false) v := by
      unfold igmpRepeat
      rw [hdue, hon]
      rfl
    rw [hall, hlegs]
    rfl
  have hreport := v.igmp_report (k := 0) hssm hmulti
  obtain ⟨hsent, -, hframe⟩ := transmit_leaves (kind := 3) (octets := 64)
    (data := [v.igmpVersion (s.leg n 0).port (s.leg n 0).sublink, 2, (s.leg n 0).group, 0]) (CountEffect.refl v) (s.leg_lt n 0).2
    (State.paused_eq_false (s := v) hpause)
  have hkeep : ChangesOnly (linkRegs (s.leg n 0).port (s.leg n 0).sublink) (linkCounters (s.leg n 0).port (s.leg n 0).sublink) s v :=
    .update (.refl s)
  refine ⟨_, heffect.trans hreport, hsent, ?_, hkeep.trans hframe.changesOnly⟩
  have hflow : ∀ {x : State}, x.ing = v.ing → (x.flow n).reportDue = false := fun h => by rwa [State.flow, h]
  exact hflow hframe.ing

/-! ### Queries (R137) -/

/-- A query of an old version is noted. -/
def State.fallBack (s : State) (q l version : Nat) (aged : List Nat) : State :=
  { s with net.compat := s.net.compat.filter (fun c => !(c.1 == q && c.2.1 == l && (aged.contains c.2.2 || c.2.2 == version))) ++ [(q, l, version)] }

theorem foldl_raise_effect (f : Nat × Nat → Nat) (xs : List (Nat × Nat)) (s : State) :
    NetEffect but counters s (xs.foldl (fun s x => s.raise (f x)) s) ∧ (xs.foldl (fun s x => s.raise (f x)) s).net = s.net ∧
      ∀ x ∈ xs, (xs.foldl (fun s x => s.raise (f x)) s).raised (f x) := by
  induction xs generalizing s with
  | nil => exact ⟨.refl s, rfl, by simp⟩
  | cons y ys ih =>
    obtain ⟨heffect, hnet, hraised⟩ := ih (s.raise (f y))
    refine ⟨(NetEffect.raise (.refl s)).trans heffect, hnet.trans (s.raise_net _), fun x hx => ?_⟩
    rcases List.mem_cons.mp hx with rfl | hx
    · exact heffect.raised _ (State.raise_any _ _)
    · exact hraised x hx

theorem mem_flowsOn {x : Nat × Nat} (hx : x ∈ s.flowsOn q l) : (s.leg x.1 x.2).port = q ∧ (s.leg x.1 x.2).sublink = l := by
  unfold State.flowsOn at hx
  obtain ⟨n, -, hx⟩ := List.mem_flatMap.mp hx
  split at hx
  · obtain ⟨k, hk, rfl⟩ := List.mem_map.mp hx
    have hleg := (List.mem_filter.mp hk).2
    simp only [Bool.and_eq_true, beq_iff_eq] at hleg
    exact hleg.1
  · exact absurd hx List.not_mem_nil

/-- The registers of the flows stand apart from those of a port's sub-link. -/
theorem NetEffect.flw (h : NetEffect (linkRegs q l) counters s t) (hq : q < 5) (hl : l < 4) : ∀ f : Fld, 0x110000 ≤ f.addr → t.fld f = s.fld f :=
  fun _ hf => h.fld fun hin => not_mem_portRegs (.inr (by omega)) (linkRegs_subset hq hl hin)

theorem State.answerQuery_effect (s : State) (group : Nat) (hq : q < 5) (hl : l < 4) :
    FrameEffect (linkRegs q l) (linkCounters q l) s (s.answerQuery q l group) := by
  unfold State.answerQuery
  extract_lets v
  have hv : FrameEffect (linkRegs q l) (linkCounters q l) s v := by
    unfold v
    split
    next hjoin =>
      simp only [Bool.and_eq_true, beq_iff_eq] at hjoin
      obtain ⟨⟨-, rfl⟩, -⟩ := hjoin
      exact .igmpSend (.refl s) (by decide) (List.Subset.refl _) (List.Subset.refl _)
    next => exact .refl s
  clear_value v
  refine .foldl hv fun x hx w hw => .ite (.igmp hw ?_ ?_) hw
  all_goals
    rw [State.flowsOn_congr (hv.flw hq hl)] at hx
    rw [State.leg_congr (hw.flw hq hl), (mem_flowsOn hx).1, (mem_flowsOn hx).2]
    exact List.Subset.refl _

theorem igmpQuery_fallsBack {version group octets : Nat} {aged : List Nat} (hq : q < 5) (hsub : s.hasSublink q l = true)
    (htest : s.netTested q = false) (hwake : s.wakeOnly = false) (hmin : 64 ≤ octets) (hmax : octets ≤ 9216) (hversion : version < 3) :
    ∃ u, igmpQuery s q l version group octets aged = u ∧ u.net.compat.contains (q, l, version) = true ∧
      (∀ x ∈ s.flowsOn q l, u.raised (srcFlwIgmpcompat x.1)) ∧ ChangesOnly (linkRegs q l) (linkCounters q l) s u := by
  have hl := State.lt_of_hasSublink hsub
  have hrec : s.receives q l = true := by simp [State.receives, hsub, htest]
  obtain ⟨u, hreach, hu⟩ := takeFrame_reaches .multicast (fun s =>
    let s := { s with net.compat := s.net.compat.filter (fun c => !(c.1 == q && c.2.1 == l && (aged.contains c.2.2 || c.2.2 == version))) }
    let s := if 3 ≤ version then s
      else (s.flowsOn q l).foldl (fun s x => s.raise (srcFlwIgmpcompat x.1)) { s with net.compat := s.net.compat ++ [(q, l, version)] }
    s.answerQuery q l group) hl hrec hwake hmin hmax
  obtain ⟨v, hv⟩ : ∃ v, u.fallBack q l version aged = v := ⟨_, rfl⟩
  have hold : NetEffect (linkRegs q l) (linkCounters q l) s v := hv ▸ hu.toNetEffect.update
  have hmp : v.net.mpMem = s.net.mpMem := by
    rw [← hv, ← hu.net]
    rfl
  have hcompat : v.net.compat.contains (q, l, version) = true := by
    rw [← hv]
    simp [State.fallBack]
  have hflows : u.flowsOn q l = s.flowsOn q l := State.flowsOn_congr (hu.flw hq hl) q l
  have heffect : igmpQuery s q l version group octets aged =
      ((s.flowsOn q l).foldl (fun s x => s.raise (srcFlwIgmpcompat x.1)) v).answerQuery q l group := by
    refine hreach.trans ?_
    rw [← hflows, ← hv]
    exact congrArg (fun s : State => s.answerQuery q l group) (if_neg (by omega))
  obtain ⟨hraise, hnet, hraised⟩ := foldl_raise_effect (but := linkRegs q l) (counters := linkCounters q l) (fun x => srcFlwIgmpcompat x.1)
    (s.flowsOn q l) v
  generalize (s.flowsOn q l).foldl (fun s x => s.raise (srcFlwIgmpcompat x.1)) v = w at *
  have hanswer := w.answerQuery_effect group hq hl
  have hall : NetEffect (linkRegs q l) (linkCounters q l) s (w.answerQuery q l group) := hold.trans (hraise.trans hanswer.toNetEffect)
  refine ⟨_, heffect, ?_, fun x hx => hanswer.raised _ (hraised x hx), hall.registers, ?_⟩
  · rw [hanswer.net, hnet]
    exact hcompat
  · simp [SameMemories, hall.boot, hall.dram, hall.cmp, hanswer.mpMem, hnet, hmp]

/-! ### Legs (R141) -/

/-- The field that shows a leg up. -/
def legUpFld (n k : Nat) : Fld := if k == 0 then .flwStatLegaup n else .flwStatLegbup n

theorem legUpFld_facts (n k : Nat) : (legUpFld n k).addr = Fld.addr (.flwStatState n) ∧ (legUpFld n k).lo + (legUpFld n k).width ≤ 32 := by
  unfold legUpFld
  split <;> simp

/-- A flow with neither leg up is not active (R141). -/
def State.judgeActive (s : State) (n : Nat) : State :=
  if s.flag (.flwStatLegaup n) || s.flag (.flwStatLegbup n) then s else s.setFldBit .ingStatActive n false

theorem legDown_eq (s : State) (n k : Nat) : legDown s n k =
    if s.flowOn n && (s.legs n).contains k then ((s.setFld (legUpFld n k) 0).raise (srcFlwLeglost n)).judgeActive n else s := rfl

theorem State.judgeActive_keeps (s : State) (n : Nat) :
    (∀ f : Fld, f.addr ≠ 0x5040 → (s.judgeActive n).fld f = s.fld f) ∧ (∀ i, s.raised i → (s.judgeActive n).raised i) ∧
      ChangesOnly [Fld.addr .ingStatActive] [] s (s.judgeActive n) := by
  unfold State.judgeActive
  split
  · exact ⟨fun _ _ => rfl, fun _ h => h, .refl s⟩
  · refine ⟨fun f hf => State.fld_setFld_ne _ _ _ _ hf, fun i h => ?_, (ChangesOnly.refl s).setFldBit⟩
    unfold State.raised
    rw [State.setFldBit_flt]
    exact h

theorem legDown_clears (hon : s.flowOn n = true) (hleg : (s.legs n).contains k = true) :
    ∃ u, legDown s n k = u ∧ u.flag (legUpFld n k) = false ∧ u.raised (srcFlwLeglost n) ∧
      ChangesOnly [Fld.addr (.flwStatLegaup n), Fld.addr .ingStatActive] [] s u := by
  obtain ⟨haddr, hbits⟩ := legUpFld_facts n k
  obtain ⟨v, hv⟩ : ∃ v, s.setFld (legUpFld n k) 0 = v := ⟨_, rfl⟩
  have hdown : v.fld (legUpFld n k) = 0 := by
    rw [← hv, State.fld_setFld_self _ _ _ hbits]
    exact Nat.zero_mod _
  have hset : ChangesOnly [Fld.addr (.flwStatLegaup n), Fld.addr .ingStatActive] [] s v := hv ▸ .setFld (.refl s) (by rw [haddr]; simp)
  obtain ⟨hfld, hraised, hkeep⟩ := (v.raise (srcFlwLeglost n)).judgeActive_keeps n
  refine ⟨_, by rw [legDown_eq, hon, hleg, hv]; exact if_pos rfl, State.flag_eq_false ?_, hraised _ (State.raise_any _ _),
    (ChangesOnly.raise hset).trans (hkeep.mono (by simp) (List.Subset.refl _))⟩
  rw [hfld _ (by rw [haddr]; simp; omega), State.fld, State.reg_raise]
  exact hdown

end

/-- Settles O31. That a refused ENABLE leaves the bit clear and shows the first REASON of the table that holds is the model's reading
(log entry 56). -/
theorem flowsAreEnabledAndJoined : Obligations.FlowsAreEnabledAndJoined := by
  refine ⟨fun s init n hn => flowEnable_accepted hn, fun s init n hn => flowEnable_refused hn, fun s init n hn => flowDisable_completes hn,
    fun s n hn hdue hon hdual hssm hmulti hpause => ?_, fun s q l version group octets aged hq hsub htest hwake hmin hmax hversion => ?_,
    fun s n k hn hon hleg => ?_⟩
  · obtain ⟨u, heffect, hsent, hreported, hkeep⟩ :=
      igmpRepeat_reports (s := { s with sent := [], reply := none }) hdue hon hdual hssm hmulti hpause
    exact completes_of_effect (f := (igmpRepeat · n)) rfl heffect ⟨hsent, hreported, hkeep.registers, hkeep.memories⟩
  · obtain ⟨u, heffect, hcompat, hraised, hkeep⟩ :=
      igmpQuery_fallsBack (s := { s with sent := [], reply := none }) hq hsub htest hwake hmin hmax hversion
    exact completes_of_effect (f := (igmpQuery · q l version group octets aged)) rfl heffect
      ⟨hcompat, hraised, hkeep.registers, hkeep.memories⟩
  · obtain ⟨u, heffect, hdown, hraised, hkeep⟩ := legDown_clears (s := { s with sent := [], reply := none }) hon hleg
    exact completes_of_effect (f := (legDown · n k)) rfl heffect ⟨hdown, hraised, hkeep.registers, hkeep.memories⟩

end Sys2Proof.Machine
end

section
/-!
SUPPORT. What a video packet leaves as it was besides its flow's counts (R139 to R141), and the bytes of an SRD in DRAM (R315, R318).
-/

namespace Sys2Proof.Machine

/-! ### Components that a packet leaves -/

/-- `t` differs from `s` in no register of a flow but LASTRTP and, of STAT, the fields NEWEST and LATCHED of flow `n`; PKTS and the surface table
are those of `s`. -/
structure PacketEffect (n : Nat) (s t : State) : Prop where
  config : ∀ a, 0x110000 ≤ a → a ≠ Fld.addr (.flwStatState n) → a ≠ Fld.addr (.flwLastrtp n) → t.reg a = s.reg a
  status : ∀ f : Fld, f.addr = Fld.addr (.flwStatState n) → f.lo + f.width ≤ 12 → t.fld f = s.fld f
  packets : t.live (Fld.addr .ingPkts) = s.live (Fld.addr .ingPkts)
  table : t.cmp.table = s.cmp.table

section
variable {s t u : State} {n m k : Nat}

theorem PacketEffect.refl (s : State) : PacketEffect n s s := ⟨fun _ _ _ _ => rfl, fun _ _ _ => rfl, rfl, rfl⟩

theorem PacketEffect.trans (h : PacketEffect n s t) (h' : PacketEffect n t u) : PacketEffect n s u :=
  ⟨fun a ha hs hr => (h'.config a ha hs hr).trans (h.config a ha hs hr), fun f hf hd => (h'.status f hf hd).trans (h.status f hf hd),
    h'.packets.trans h.packets, h'.table.trans h.table⟩

theorem PacketEffect.ite {c : Prop} {_ : Decidable c} (ht : PacketEffect n s t) (hu : PacketEffect n s u) :
    PacketEffect n s (if c then t else u) := by
  split
  · exact ht
  · exact hu

theorem PacketEffect.foldl {α : Type} {f : State → α → State} {l : List α} (h : PacketEffect n s t)
    (hf : ∀ x ∈ l, ∀ v : State, PacketEffect n v (f v x)) : PacketEffect n s (l.foldl f t) :=
  List.foldlRecOn (motive := PacketEffect n s) l f h fun v hv x hx => hv.trans (hf x hx v)

/-- Nothing changes that the flows' registers, the counters or the surface table show. -/
theorem PacketEffect.of_eq (h : PacketEffect n s t) (hregs : u.regs = t.regs) (hcounters : u.counters = t.counters) (hcmp : u.cmp.table = t.cmp.table) :
    PacketEffect n s u :=
  h.trans ⟨fun a _ _ _ => State.reg_congr hregs a, fun f _ _ => State.fld_congr hregs f, State.live_congr hcounters _, hcmp⟩

theorem PacketEffect.setReg {a : Nat} {v : Word} (h : PacketEffect n s t) (ha : a < 0x110000) : PacketEffect n s (t.setReg a v) :=
  h.trans ⟨fun c hc _ _ => t.reg_setReg_ne v (by omega), fun f hf _ => congrArg f.get (t.reg_setReg_ne v (by rw [hf]; simp; omega)), rfl, rfl⟩

theorem PacketEffect.setFld {f : Fld} {v : Nat} (h : PacketEffect n s t) (hf : f.addr < 0x110000 := by simp) : PacketEffect n s (t.setFld f v) :=
  h.setReg hf

theorem PacketEffect.bump {f : Fld} {v : Nat} (h : PacketEffect n s t) (hf : f.addr ≠ 0x504C := by simp; omega) : PacketEffect n s (t.bump f v) :=
  h.trans ⟨fun _ _ _ _ => rfl, fun _ _ _ => rfl, t.live_bump_ne f v hf.symm, rfl⟩

theorem PacketEffect.raise {i : Nat} (h : PacketEffect n s t) : PacketEffect n s (t.raise i) :=
  h.of_eq (State.raise_regs _ _) (State.raise_counters _ _) (by rw [State.raise_cmp])

theorem PacketEffect.onFlow {f : FlowState → FlowState} (h : PacketEffect n s t) : PacketEffect n s (t.onFlow m f) := h.of_eq rfl rfl rfl

theorem PacketEffect.lastRtp {v : Nat} (h : PacketEffect n s t) : PacketEffect n s (t.setFld (.flwLastrtp n) v) := by
  refine h.trans ⟨fun _ _ _ hr => t.reg_setFld_ne _ _ hr, fun f hf _ => ?_, t.live_setFld _ _ _, by rw [State.setFld_cmp]⟩
  have hne : Fld.addr (.flwStatState n) ≠ Fld.addr (.flwLastrtp n) := by simp
  exact t.fld_setFld_ne _ f v (hf ▸ hne)

theorem PacketEffect.newest {v : Nat} (h : PacketEffect n s t) : PacketEffect n s (t.setFld (.flwStatNewest n) v) :=
  h.trans ⟨fun _ _ hs _ => t.reg_setFld_ne _ _ hs, fun f _ hd => t.fld_setFld_disjoint _ f v (by simp) (.inl hd), t.live_setFld _ _ _,
    by rw [State.setFld_cmp]⟩

theorem PacketEffect.fld (h : PacketEffect n s t) {f : Fld} (hf : 0x110000 ≤ f.addr) (hstat : f.addr ≠ Fld.addr (.flwStatState n))
    (hrtp : f.addr ≠ Fld.addr (.flwLastrtp n)) : t.fld f = s.fld f := congrArg f.get (h.config _ hf hstat hrtp)

/-! ### DRAM writes (R167, R315 to R318) -/

theorem PacketEffect.dramLog {chan local_ kind port syndrome init : Nat} (h : PacketEffect n s t) :
    PacketEffect n s (t.dramLog chan local_ kind port syndrome init) := by
  unfold State.dramLog
  extract_lets i a b c
  have hi : i < 16 := t.fld_lt .drcLogstatNext
  have ha : PacketEffect n s a := h.setReg (by simp; omega)
  have hb : PacketEffect n s b := ha.setReg (by simp; omega)
  have hc : PacketEffect n s c := hb.setReg (by simp; omega)
  exact .setFld (.setFld hc)

theorem PacketEffect.mendBlock {port init addr len b : Nat} (h : PacketEffect n s t) : PacketEffect n s (t.mendBlock port init addr len b) :=
  .ite (.ite (h.of_eq rfl rfl rfl) (PacketEffect.dramLog (h.of_eq rfl rfl rfl))) h

theorem PacketEffect.dramWrite {port init addr : Nat} {bs : List Byte} (h : PacketEffect n s t) : PacketEffect n s (t.dramWrite port init addr bs) :=
  .ite h (.of_eq (h.foldl fun _ _ v => .mendBlock (.refl v)) rfl rfl rfl)

theorem PacketEffect.unmark (h : PacketEffect n s t) : PacketEffect n s (t.unmark k) := by
  unfold State.unmark
  extract_lets here _ v
  have hv : PacketEffect n s v := h.of_eq rfl rfl rfl
  exact .ite hv.setFld hv

theorem PacketEffect.mar (h : PacketEffect n s t) : PacketEffect n s (t.mar k) := .unmark (.unmark (h.of_eq rfl rfl rfl))

theorem PacketEffect.checkReuse {own : InUse → Bool} {writer flow init lo len : Nat} (h : PacketEffect n s t) :
    PacketEffect n s (t.checkReuse own writer flow init lo len) := by
  unfold State.checkReuse
  split
  · exact h
  · exact .raise (.setFld (.setFld (.setFld (.setFld (.setFld (.setFld (.setFld (.bump (.foldl h fun _ _ v => .mar (.refl v)) (by simp))))))) ))

theorem PacketEffect.userWrite {port writer flow init addr : Nat} {bs : List Byte} (h : PacketEffect n s t) :
    PacketEffect n s (t.userWrite port writer flow init addr bs) := .dramWrite h.checkReuse

/-- The bytes of a DRAM write stand where they were written. -/
theorem memRead_dramWrite (s : State) (port init addr : Nat) (bs : List Byte) :
    memRead (s.dramWrite port init addr bs).dram.mem addr bs.length = bs := by
  unfold State.dramWrite
  split
  next hempty =>
    rw [List.isEmpty_iff.mp hempty]
    rfl
  next => exact memRead_write_self bs _ addr

/-! ### The parts of a packet's effect (R139 to R141) -/

theorem PacketEffect.writeSrd {b : Nat} {r : Srd} (h : PacketEffect n s t) : PacketEffect n s (State.writeSrd m b t r) := by
  unfold State.writeSrd
  split
  · exact h
  · exact h.userWrite

theorem PacketEffect.dropBuf {b : Nat} (h : PacketEffect n s t) : PacketEffect n s (t.dropBuf m b) := by
  unfold State.dropBuf
  split
  · exact .ite h.bump h
  · exact h

theorem PacketEffect.closeFrame (h : PacketEffect n s t) : PacketEffect n s (t.closeFrame m) := by
  unfold State.closeFrame
  split
  · exact h
  · exact .onFlow (.ite h.bump h)

theorem PacketEffect.openFrame {rtp : Nat} (h : PacketEffect n s t) : PacketEffect n s (t.openFrame m rtp) := by
  have hclosed := (h.closeFrame (m := m)).onFlow (m := m) (f := fun f => { f with lastRtp := some rtp })
  refine .ite hclosed.bump.onFlow ?_
  split
  · exact hclosed.bump.raise.onFlow
  · exact hclosed.dropBuf.onFlow

theorem PacketEffect.checkComplete (h : PacketEffect n s t) : PacketEffect n s (t.checkComplete n) := by
  unfold State.checkComplete
  dsimp only
  split
  · split_ifs
    · exact .newest (.lastRtp h.onFlow.bump)
    · exact h
  · exact h

theorem PacketEffect.judgeMisses (h : PacketEffect n s t) : PacketEffect n s (t.judgeMisses m) := .onFlow h.bump.bump

theorem PacketEffect.placePacket {p : VideoPacket} (h : PacketEffect n s t) : PacketEffect n s (t.placePacket n p) := by
  have hopened : ∀ opens : Bool, PacketEffect n s ((if opens then t.openFrame n p.rtp else t).onFlow n (fun f => f.receive p.ext)) :=
    fun _ => .onFlow (.ite h.openFrame h)
  unfold State.placePacket
  extract_lets f newest opens v
  have hv : PacketEffect n s v := hopened opens
  clear_value v
  split
  · exact hv
  · next o _ =>
    refine .ite (.ite hv.onFlow.checkComplete hv) (.checkComplete ?_)
    have hwritten : PacketEffect n s (match o.buf with
        | none => v
        | some b => p.srds.foldl (State.writeSrd n b) v) := by
      split
      · exact hv
      · exact hv.foldl fun _ _ w => .writeSrd (.refl w)
    exact .ite hwritten.onFlow hwritten

end

end Sys2Proof.Machine
end

section
/-!
SUPPORT. Video packets, and the flows that shed (R139 to R142, R145).
-/

namespace Sys2Proof.Machine

section
variable {s t u v : State} {n k q l : Nat} {p : VideoPacket} {r : Srd} {o : OpenFrame} {b bytes px : Nat}

/-! ### What a packet's acceptance and place depend on -/

theorem State.acceptLeg_congr (hflw : ∀ f : Fld, 0x110000 ≤ f.addr → t.fld f = s.fld f) (n : Nat) (p : VideoPacket) :
    t.acceptLeg n p = s.acceptLeg n p := by
  have haccepts : (fun k => t.acceptsPacket n k p) = fun k => s.acceptsPacket n k p := funext fun k => by
    unfold State.acceptsPacket
    rw [State.leg_congr hflw, State.flag_congr hflw (by simp; omega), hflw (.flwFmtPt n) (by simp; omega)]
  unfold State.acceptLeg
  rw [State.flowOn_congr hflw, State.legs_congr hflw, haccepts]

/-- The address of an SRD in buffer `b` of flow `n` (R139). -/
def State.srdAddr (s : State) (n b px bytes : Nat) (r : Srd) : Nat :=
  (s.surface (s.flowSurf n b)).base + r.row * s.flowStrideOf n + r.offset / px * bytes

/-- A flow's registers but STAT and LASTRTP read alike. -/
def SameConfig (n : Nat) (s t : State) : Prop :=
  ∀ f : Fld, 0x110000 ≤ f.addr → f.addr ≠ Fld.addr (.flwStatState n) → f.addr ≠ Fld.addr (.flwLastrtp n) → t.fld f = s.fld f

theorem PacketEffect.sameConfig (h : PacketEffect n s t) : SameConfig n s t := fun _ hf hs hr => h.fld hf hs hr

section
variable (h : SameConfig n s t)
include h

theorem SameConfig.pgroup : pgroup (t.fld (.flwFmtSampling n)) (t.fld (.flwFmtDepth n)) =
    pgroup (s.fld (.flwFmtSampling n)) (s.fld (.flwFmtDepth n)) := by
  rw [h (.flwFmtSampling n), h (.flwFmtDepth n)] <;> (simp; try omega)

theorem SameConfig.dual : t.flag (.flwCtrlDual n) = s.flag (.flwCtrlDual n) :=
  congrArg (· != 0) (h _ (by simp; omega) (by simp) (by simp))

theorem SameConfig.stride : t.flowStrideOf n = s.flowStrideOf n := by
  unfold State.flowStrideOf
  rw [h (.flwFmtSampling n), h (.flwFmtDepth n), h (.flwSizeWidth n)] <;> (simp; try omega)

theorem SameConfig.srdBad (r : Srd) : t.srdBad n r = s.srdBad n r := by
  have hheight : t.fld (.flwSizeHeight n) = s.fld (.flwSizeHeight n) := h _ (by simp; omega) (by simp) (by simp)
  unfold State.srdBad
  rw [h.pgroup, h.stride, hheight]

theorem SameConfig.srdAddr (htable : t.cmp.table = s.cmp.table) : t.srdAddr n b px bytes r = s.srdAddr n b px bytes r := by
  have hfirst : t.fld (.flwSurfFirst n) = s.fld (.flwSurfFirst n) := h _ (by simp; omega) (by simp) (by simp)
  unfold State.srdAddr State.surface State.flowSurf
  rw [h.stride, hfirst, htable]

end

/-! ### A packet of the open frame (R139, R140) -/

theorem FlowState.absorb_open (fuel : Nat) (f : FlowState) : (f.absorb fuel).open_ = f.open_ := by
  induction fuel generalizing f with
  | zero => rfl
  | succ fuel ih =>
    unfold FlowState.absorb
    split
    · rfl
    · dsimp only
      split
      · exact ih _
      · rfl

theorem FlowState.receive_open (f : FlowState) (ext : Nat) : (f.receive ext).open_ = f.open_ := by
  unfold FlowState.receive
  dsimp only
  split_ifs
  · rfl
  · exact FlowState.absorb_open _ _

theorem State.checkComplete_dram (s : State) (n : Nat) : (s.checkComplete n).dram = s.dram := by
  unfold State.checkComplete
  dsimp only
  split
  · split_ifs
    · rw [State.setFld_dram, State.setFld_dram, State.bump_dram]
      rfl
    · rfl
  · rfl

/-- A sound SRD of a packet stands in its buffer. -/
theorem memRead_writeSrd (s : State) (b : Nat) (r : Srd)
    (hgroup : pgroup (s.fld (.flwFmtSampling n)) (s.fld (.flwFmtDepth n)) = some (bytes, px)) :
    memRead (State.writeSrd n b s r).dram.mem (s.srdAddr n b px bytes r) r.data.length = r.data := by
  have hwrite : State.writeSrd n b s r = s.userWrite 0 0 n 0 (s.srdAddr n b px bytes r) r.data := by
    unfold State.writeSrd
    rw [hgroup]
    rfl
  rw [hwrite, State.userWrite]
  exact memRead_dramWrite _ 0 0 _ r.data

/-- A marker packet's number is noted in the open frame. -/
def FlowState.noteMarker (f : FlowState) (ext : Nat) : FlowState := { f with open_ := f.open_.map (fun o => { o with marker := some ext }) }

/-- A packet of the open frame closes none and opens none: its SRDs are written. -/
theorem State.placePacket_open (hopen : ((s.onFlow n (fun f => f.receive p.ext)).flow n).open_ = some o) (hrtp : o.rtp = p.rtp)
    (hbuf : o.buf = some b) (hlast : (s.flow n).lastRtp = some p.rtp) (hsrds : p.srds = [r])
    (hv : State.writeSrd n b (s.onFlow n (fun f => f.receive p.ext)) r = v) :
    s.placePacket n p = (if p.marker then v.onFlow n (FlowState.noteMarker · p.ext) else v).checkComplete n := by
  have hsame : (o.rtp != p.rtp) = false := by simp [hrtp]
  subst hv
  unfold State.placePacket
  simp only [hlast, bne_self_eq_false, Bool.false_and, Bool.false_eq_true, if_false, hopen, hsame, hbuf, hsrds]
  rfl

theorem placePacket_writes (hlen : n < s.ing.flows.length) (hopen : (s.flow n).open_ = some o) (hrtp : o.rtp = p.rtp) (hbuf : o.buf = some b)
    (hlast : (s.flow n).lastRtp = some p.rtp) (hsrds : p.srds = [r])
    (hgroup : pgroup (s.fld (.flwFmtSampling n)) (s.fld (.flwFmtDepth n)) = some (bytes, px)) :
    memRead (s.placePacket n p).dram.mem (s.srdAddr n b px bytes r) r.data.length = r.data := by
  have hreceived : ((s.onFlow n (fun f => f.receive p.ext)).flow n).open_ = some o := by
    rw [State.flow_onFlow, if_pos hlen, FlowState.receive_open, hopen]
  have hwritten := memRead_writeSrd (s.onFlow n (fun f => f.receive p.ext)) b r hgroup
  have hdram : ∀ w : State, ((if p.marker then w.onFlow n (FlowState.noteMarker · p.ext) else w).checkComplete n).dram = w.dram := fun w =>
    (State.checkComplete_dram _ n).trans (State.ite_eq (g := State.dram) rfl rfl)
  rw [State.placePacket_open hreceived hrtp hbuf hlast hsrds rfl, hdram]
  exact hwritten

/-! ### A packet that a flow takes (R139, R141) -/

/-- What a flow does with a packet once its leg is up: the SRDs are judged, later copies are counted, and the first copy is placed. -/
def State.takePacket (s : State) (n k : Nat) (p : VideoPacket) : State :=
  if p.srds.any (s.srdBad n) then s.bump (.flwMalformed n) 1
  else
    let f := s.flow n
    if s.flag (.flwCtrlDual n) && f.tooOld p.ext then s.bump (.flwLatedup n) 1
    else match f.seqs.find? (fun x => x.ext == p.ext) with
      | some x =>
        let win := s.fld (.flwSyncMergewin n) * 10 ^ 6
        let seen := s.onFlow n (fun f => { f with seqs := f.seqs.map (fun (y : SeqRec) =>
          if y.ext == p.ext && !testBit y.legs k then { y with legs := y.legs + 2 ^ k } else y) })
        if s.flag (.flwCtrlDual n) then
          (if s.frc ≤ x.at_ + win then seen.bump (.flwDuplicate n) 1 else seen.bump (.flwLatedup n) 1)
        else s.placePacket n p
      | none => (s.onFlow n (fun f => f.record p.ext k s.frc)).placePacket n p

theorem takePacket_effect (s : State) (n k : Nat) (p : VideoPacket) : PacketEffect n s (s.takePacket n k p) := by
  have hrefl := PacketEffect.refl (n := n) s
  unfold State.takePacket
  dsimp only
  refine .ite hrefl.bump (.ite hrefl.bump ?_)
  split
  · exact .ite (.ite hrefl.onFlow.bump hrefl.onFlow.bump) hrefl.placePacket
  · exact hrefl.onFlow.placePacket

/-- With DUAL a packet's number is new: it lies in the record's span, and no copy has come. -/
def FlowState.fresh (f : FlowState) (ext : Nat) : Prop := f.tooOld ext = false ∧ f.seqs.find? (fun x => x.ext == ext) = none

theorem takePacket_writes (hlen : n < s.ing.flows.length) (hbad : s.srdBad n r = false) (hopen : (s.flow n).open_ = some o) (hrtp : o.rtp = p.rtp)
    (hbuf : o.buf = some b) (hlast : (s.flow n).lastRtp = some p.rtp) (hsrds : p.srds = [r])
    (hgroup : pgroup (s.fld (.flwFmtSampling n)) (s.fld (.flwFmtDepth n)) = some (bytes, px))
    (hfresh : s.flag (.flwCtrlDual n) = true → (s.flow n).fresh p.ext) :
    memRead (s.takePacket n k p).dram.mem (s.srdAddr n b px bytes r) r.data.length = r.data := by
  have hsound : (p.srds.any (s.srdBad n)) = false := by simp [hsrds, hbad]
  have hspan : (s.flag (.flwCtrlDual n) && (s.flow n).tooOld p.ext) = false := by
    by_cases hdual : s.flag (.flwCtrlDual n) = true
    · simp [(hfresh hdual).1]
    · simp [hdual]
  have hrecord : ((s.onFlow n (fun f => f.record p.ext k s.frc)).flow n) = (s.flow n).record p.ext k s.frc := by
    rw [State.flow_onFlow, if_pos hlen]
  have hplaced : s.takePacket n k p = s.placePacket n p ∨
      s.takePacket n k p = (s.onFlow n (fun f => f.record p.ext k s.frc)).placePacket n p := by
    unfold State.takePacket
    dsimp only
    rw [hsound, hspan, if_neg Bool.false_ne_true, if_neg Bool.false_ne_true]
    split
    next x hfound =>
      have hsingle : s.flag (.flwCtrlDual n) = false := by
        by_contra hdual
        rw [(hfresh (by simpa using hdual)).2] at hfound
        exact absurd hfound (by simp)
      rw [hsingle]
      exact .inl rfl
    next => exact .inr rfl
  rcases hplaced with h | h
  · rw [h]
    exact placePacket_writes hlen hopen hrtp hbuf hlast hsrds hgroup
  · rw [h]
    exact placePacket_writes (s := s.onFlow n (fun f => f.record p.ext k s.frc)) (by simpa [State.onFlow, listModify_eq_modify] using hlen)
      (by rw [hrecord]; exact hopen) hrtp hbuf (by rw [hrecord]; exact hlast) hsrds hgroup

/-! ### A packet's leg (R141) -/

/-- The counter of the packets that a leg accepted. -/
def legPacketFld (n k : Nat) : Fld := if k == 0 then .flwLegapkt n else .flwLegbpkt n

/-- A flow receives. -/
def State.receiving (s : State) (n : Nat) : State := (s.setFld (.flwStatState n) 2).setFldBit .ingStatActive n true

/-- With every leg of a flow up, none is missed. -/
def State.judgeLegs (s : State) (n : Nat) : State :=
  if (s.legs n).all (fun k => s.flag (legUpFld n k)) then s.lower (srcFlwLeglost n) else s

theorem State.legUp_eq (s : State) (n k : Nat) :
    s.legUp n k = ((((s.setFld (legUpFld n k) 1).bump (legPacketFld n k) 1).receiving n).judgeLegs n) := by
  unfold State.legUp legPacketFld
  cases hk : k == 0 <;> simp only [legUpFld, hk] <;> rfl

/-- `t` differs from `s` in STAT of flow `n` and in the streams' STAT, and not in PKTS, CMP or the flows. -/
structure LegEffect (n : Nat) (s t : State) : Prop where
  registers : ∀ a, a ≠ Fld.addr (.flwStatState n) → a ≠ Fld.addr .ingStatActive → t.reg a = s.reg a
  packets : t.live (Fld.addr .ingPkts) = s.live (Fld.addr .ingPkts)
  cmp : t.cmp = s.cmp
  ing : t.ing = s.ing

theorem LegEffect.refl (s : State) : LegEffect n s s := ⟨fun _ _ _ => rfl, rfl, rfl, rfl⟩

theorem LegEffect.setFld {f : Fld} {v : Nat} (h : LegEffect n s t) (hf : f.addr = Fld.addr (.flwStatState n) ∨ f.addr = Fld.addr .ingStatActive) :
    LegEffect n s (t.setFld f v) :=
  ⟨fun a hs hi => (t.reg_setFld_ne f v (by rcases hf with h | h <;> rw [h] <;> assumption)).trans (h.registers a hs hi),
    (t.live_setFld _ _ _).trans h.packets, (State.setFld_cmp _ _ _).trans h.cmp, (State.setFld_ing _ _ _).trans h.ing⟩

theorem LegEffect.bump {f : Fld} {v : Nat} (h : LegEffect n s t) (hf : f.addr ≠ Fld.addr .ingPkts) : LegEffect n s (t.bump f v) :=
  ⟨h.registers, (t.live_bump_ne f v hf.symm).trans h.packets, h.cmp, h.ing⟩

theorem LegEffect.lower {i : Nat} (h : LegEffect n s t) : LegEffect n s (t.lower i) := ⟨h.registers, h.packets, h.cmp, h.ing⟩

theorem legPacketFld_ne (n k : Nat) : (legPacketFld n k).addr ≠ Fld.addr .ingPkts := by
  unfold legPacketFld
  split <;> (simp; omega)

theorem legUpFld_disjoint (n k : Nat) : 9 ≤ (legUpFld n k).lo ∧ (legUpFld n k).lo + (legUpFld n k).width ≤ 12 := by
  unfold legUpFld
  split <;> simp

theorem State.receiving_facts (s : State) (n k : Nat) :
    (s.receiving n).fld (.flwStatState n) = 2 ∧ (s.receiving n).fld (legUpFld n k) = s.fld (legUpFld n k) ∧ LegEffect n s (s.receiving n) := by
  obtain ⟨haddr, -⟩ := legUpFld_facts n k
  obtain ⟨hlo, -⟩ := legUpFld_disjoint n k
  have hactive : ∀ f : Fld, f.addr = Fld.addr (.flwStatState n) → (s.receiving n).fld f = (s.setFld (.flwStatState n) 2).fld f := fun f hf =>
    State.fld_setFld_ne _ _ _ _ (by rw [hf]; simp; omega)
  refine ⟨?_, ?_, .setFld (.setFld (.refl s) (.inl rfl)) (.inr rfl)⟩
  · rw [hactive _ rfl, State.fld_setFld_self _ _ _ (by simp)]
    simp
  · rw [hactive _ haddr]
    exact State.fld_setFld_disjoint _ _ _ _ (by simp) (.inr (by simp; omega))

theorem State.judgeLegs_facts (s : State) (n : Nat) : (∀ f, (s.judgeLegs n).fld f = s.fld f) ∧ LegEffect n s (s.judgeLegs n) := by
  unfold State.judgeLegs
  split
  · exact ⟨fun f => s.fld_lower _ f, .lower (.refl s)⟩
  · exact ⟨fun _ => rfl, .refl s⟩

theorem LegEffect.trans (h : LegEffect n s t) (h' : LegEffect n t u) : LegEffect n s u :=
  ⟨fun a hs hi => (h'.registers a hs hi).trans (h.registers a hs hi), h'.packets.trans h.packets, h'.cmp.trans h.cmp, h'.ing.trans h.ing⟩

/-- A leg comes up: its flow receives. -/
theorem State.legUp_facts (s : State) (n k : Nat) :
    (s.legUp n k).fld (.flwStatState n) = 2 ∧ (s.legUp n k).flag (legUpFld n k) = true ∧ LegEffect n s (s.legUp n k) := by
  obtain ⟨haddr, hbits⟩ := legUpFld_facts n k
  have hleg : LegEffect n s ((s.setFld (legUpFld n k) 1).bump (legPacketFld n k) 1) := .bump (.setFld (.refl s) (.inl haddr)) (legPacketFld_ne n k)
  have hone : ((s.setFld (legUpFld n k) 1).bump (legPacketFld n k) 1).fld (legUpFld n k) = 1 := by
    rw [State.fld_bump, State.fld_setFld_self _ _ _ hbits]
    unfold legUpFld
    split <;> simp
  obtain ⟨w, hw⟩ : ∃ w, (s.setFld (legUpFld n k) 1).bump (legPacketFld n k) 1 = w := ⟨_, rfl⟩
  rw [hw] at hleg hone
  obtain ⟨hstate, hup, hreceiving⟩ := w.receiving_facts n k
  obtain ⟨hfld, hlegs⟩ := (w.receiving n).judgeLegs_facts n
  rw [State.legUp_eq, hw]
  exact ⟨(hfld _).trans hstate, State.flag_eq_true ((hfld _).trans (hup.trans hone)), hleg.trans (hreceiving.trans hlegs)⟩

end

end Sys2Proof.Machine
end

section
/-!
SUPPORT. A video packet from its arrival to its flow, and the list of the flows that shed (R139 to R142, R145).
-/

namespace Sys2Proof.Machine

section
variable {s t u v : State} {n k q l held : Nat} {p : VideoPacket} {r : Srd} {o : OpenFrame} {b bytes px : Nat}

/-! ### The merge window (R141) -/

/-- The record with the numbers that `late` holds of judged. -/
def FlowState.judge (f : FlowState) (late : SeqRec → Bool) : FlowState :=
  { f with seqs := f.seqs.map fun (x : SeqRec) => if late x then { x with judged := true } else x }

/-- A record judged holds the same numbers. -/
theorem FlowState.judge_fresh {f : FlowState} {ext : Nat} (late : SeqRec → Bool) (h : f.fresh ext) : (f.judge late).fresh ext := by
  obtain ⟨hold, hnone⟩ := h
  have hext : ∀ x : SeqRec, (if late x then { x with judged := true } else x : SeqRec).ext = x.ext := fun x => by split <;> rfl
  refine ⟨?_, ?_⟩
  · unfold FlowState.tooOld FlowState.judge at *
    cases hseqs : f.seqs with
    | nil => rfl
    | cons x xs =>
      rw [hseqs] at hold
      simp only [List.map_cons, hext]
      exact hold
  · unfold FlowState.judge
    rw [List.find?_map, Option.map_eq_none_iff]
    have hsame : (fun x : SeqRec => x.ext == ext) ∘ (fun x => if late x then { x with judged := true } else x) = fun x => x.ext == ext :=
      funext fun x => congrArg (· == ext) (hext x)
    rw [hsame]
    exact hnone

/-- What judging leaves of flow `n`: its record changes in marks alone. -/
theorem State.judgeMisses_flow (s : State) (hlen : n < s.ing.flows.length) :
    n < (s.judgeMisses n).ing.flows.length ∧ ∃ late, (s.judgeMisses n).flow n = (s.flow n).judge late := by
  refine ⟨by simpa [State.judgeMisses, State.onFlow, listModify_eq_modify] using hlen, ?_⟩
  refine ⟨fun x => decide (x.at_ + s.fld (.flwSyncMergewin n) * 10 ^ 6 < s.frc), ?_⟩
  unfold State.judgeMisses
  dsimp only
  rw [State.flow_onFlow, if_pos (by simpa using hlen)]
  rfl

/-! ### From the leg to the flow -/

/-- A flow takes a packet with its leg up and the packet counted, and with DUAL the merge window judged. -/
theorem State.flowPacket_eq (s : State) (n k : Nat) (p : VideoPacket) : s.flowPacket n k p =
    State.takePacket (if ((s.legUp n k).bump .ingPkts 1).flag (.flwCtrlDual n) then ((s.legUp n k).bump .ingPkts 1).judgeMisses n
      else (s.legUp n k).bump .ingPkts 1) n k p := rfl

/-- The state in which a flow takes a packet. -/
theorem flowPacket_takes (s : State) (n k : Nat) (p : VideoPacket) :
    ∃ v, s.flowPacket n k p = v.takePacket n k p ∧ v.fld (.flwStatState n) = 2 ∧ v.flag (legUpFld n k) = true ∧
      v.live (Fld.addr .ingPkts) = s.live (Fld.addr .ingPkts) + 1 ∧ SameConfig n s v ∧ v.cmp.table = s.cmp.table ∧
      (n < s.ing.flows.length → n < v.ing.flows.length ∧ ∃ late, v.flow n = s.flow n ∨ v.flow n = (s.flow n).judge late) := by
  obtain ⟨hstate, hup, hleg⟩ := s.legUp_facts n k
  obtain ⟨haddr, -⟩ := legUpFld_facts n k
  obtain ⟨-, hbits⟩ := legUpFld_disjoint n k
  obtain ⟨w, hw⟩ : ∃ w, (s.legUp n k).bump .ingPkts 1 = w := ⟨_, rfl⟩
  have hwing : w.ing = s.ing := by rw [← hw, State.bump_ing, hleg.ing]
  have hwcmp : w.cmp = s.cmp := by rw [← hw, State.bump_cmp, hleg.cmp]
  have hwlive : w.live (Fld.addr .ingPkts) = s.live (Fld.addr .ingPkts) + 1 := by
    rw [← hw, State.live_bump_self, hleg.packets]
    rfl
  have hwstate : w.fld (.flwStatState n) = 2 := by rw [← hw, State.fld_bump, hstate]
  have hwup : w.fld (legUpFld n k) ≠ 0 := by
    rw [← hw, State.fld_bump]
    simpa [State.flag] using hup
  have hwconfig : SameConfig n s w := fun f hf hs _ => by
    rw [← hw, State.fld_bump]
    exact congrArg f.get (hleg.registers _ hs (by simp; omega))
  have heffect := s.flowPacket_eq n k p
  rw [hw] at heffect
  have hjudged : ∀ {x : State}, PacketEffect n w x → x.fld (.flwStatState n) = 2 ∧ x.flag (legUpFld n k) = true ∧
      x.live (Fld.addr .ingPkts) = s.live (Fld.addr .ingPkts) + 1 ∧ SameConfig n s x ∧ x.cmp.table = s.cmp.table := fun {x} h =>
    ⟨(h.status _ rfl (by simp)).trans hwstate, by
        rw [State.flag, h.status _ haddr hbits]
        simpa using hwup,
      h.packets.trans hwlive, fun f hf hs hr => (h.sameConfig f hf hs hr).trans (hwconfig f hf hs hr), by rw [h.table, hwcmp]⟩
  have hflow : w.flow n = s.flow n := by rw [State.flow, State.flow, hwing]
  split at heffect
  · obtain ⟨h1, h2, h3, h4, h5⟩ := hjudged (.judgeMisses (.refl w) (m := n))
    refine ⟨_, heffect, h1, h2, h3, h4, h5, fun hlen => ?_⟩
    obtain ⟨hlen', late, hlate⟩ := w.judgeMisses_flow (n := n) (by rwa [hwing])
    exact ⟨hlen', late, .inr (by rw [hlate, hflow])⟩
  · obtain ⟨h1, h2, h3, h4, h5⟩ := hjudged (.refl w)
    exact ⟨_, heffect, h1, h2, h3, h4, h5, fun hlen => ⟨by rwa [hwing], fun _ => false, .inl hflow⟩⟩

/-- A flow with a frame open is one of the list. -/
theorem State.lt_of_open (h : (s.flow n).open_ = some o) : n < s.ing.flows.length := by
  by_contra hge
  have hreset : s.flow n = FlowState.reset := by simp [State.flow, Nat.not_lt.mp hge]
  rw [hreset] at h
  exact absurd h (by simp [FlowState.reset])

theorem flowPacket_writes (hbad : s.srdBad n r = false) (hopen : (s.flow n).open_ = some o) (hrtp : o.rtp = p.rtp) (hbuf : o.buf = some b)
    (hlast : (s.flow n).lastRtp = some p.rtp) (hsrds : p.srds = [r])
    (hgroup : pgroup (s.fld (.flwFmtSampling n)) (s.fld (.flwFmtDepth n)) = some (bytes, px))
    (hfresh : s.flag (.flwCtrlDual n) = true → (s.flow n).fresh p.ext) :
    memRead (s.flowPacket n k p).dram.mem (s.srdAddr n b px bytes r) r.data.length = r.data := by
  obtain ⟨v, heffect, -, -, -, hconfig, htable, hflow⟩ := flowPacket_takes s n k p
  obtain ⟨hlen, late, hflow⟩ := hflow (State.lt_of_open hopen)
  rw [heffect, ← hconfig.srdAddr htable]
  have hkept : (v.flow n).open_ = (s.flow n).open_ ∧ (v.flow n).lastRtp = (s.flow n).lastRtp := by
    rcases hflow with h | h <;> rw [h] <;> exact ⟨rfl, rfl⟩
  have hnew : (s.flow n).fresh p.ext → (v.flow n).fresh p.ext := fun h => by
    rcases hflow with h' | h' <;> rw [h']
    · exact h
    · exact FlowState.judge_fresh late h
  exact takePacket_writes hlen ((hconfig.srdBad r).trans hbad) (hkept.1.trans hopen) hrtp hbuf (hkept.2.trans hlast) hsrds
    (hconfig.pgroup.trans hgroup) fun hdual => hnew (hfresh (hconfig.dual.symm.trans hdual))

/-! ### A packet's arrival (R117, R139, R142) -/

/-- The flow that alone is enabled is the only taker. -/
theorem takers_eq (hn : n < 16) (hothers : ∀ m ∈ List.range 16, m ≠ n → s.flowOn m = false) (haccept : s.acceptLeg n p = some k) :
    (List.range 16).filterMap (fun n => (s.acceptLeg n p).map (fun k => (n, k))) = [(n, k)] := by
  have honly : ∀ m ∈ List.range 16, (s.acceptLeg m p).map (fun k => (m, k)) = if m = n then some (n, k) else none := fun m hm => by
    by_cases h : m = n
    · rw [h, haccept, if_pos rfl]
      rfl
    · rw [State.acceptLeg, hothers m hm h, if_neg h]
      rfl
  rw [List.filterMap_congr honly]
  interval_cases n <;> rfl

/-- The least slack of a stroke is taken (R142). -/
def State.withSlack (s : State) (least : Nat) : State := { s with ing.slack := some least }

theorem State.takeSlack_eq (s : State) (q held : Nat) : ∃ least w, s.takeSlack q held = (s.withSlack least).setLive (Fld.addr .ingSlack) w :=
  ⟨_, _, rfl⟩

/-- What the least slack leaves: all but its own register's value. -/
theorem State.takeSlack_facts (s : State) (q held : Nat) :
    (∀ a, (s.takeSlack q held).reg a = s.reg a) ∧ (s.takeSlack q held).live (Fld.addr .ingPkts) = s.live (Fld.addr .ingPkts) ∧
      (s.takeSlack q held).cmp = s.cmp ∧ (s.takeSlack q held).ing.flows = s.ing.flows := by
  obtain ⟨least, w, heffect⟩ := s.takeSlack_eq q held
  have hleast : (∀ a, (s.withSlack least).reg a = s.reg a) ∧ (s.withSlack least).live (Fld.addr .ingPkts) = s.live (Fld.addr .ingPkts) ∧
      (s.withSlack least).cmp = s.cmp ∧ (s.withSlack least).ing.flows = s.ing.flows := ⟨fun _ => rfl, rfl, rfl, rfl⟩
  obtain ⟨hregs, hlive, hcmp, hflows⟩ := hleast
  rw [heffect]
  exact ⟨fun a => by rw [State.reg_setLive, hregs], by rw [State.live_setLive_ne _ _ (by simp), hlive], by rw [State.setLive_cmp, hcmp],
    by rw [State.setLive_ing, hflows]⟩

/-- A packet that one flow alone accepts reaches it. -/
theorem videoPacket_reaches (hn : n < 16) (hsub : s.hasSublink p.port p.sublink = true) (htest : s.netTested p.port = false)
    (hwake : s.wakeOnly = false) (hfcs : p.fcsOk = true) (hmin : 64 ≤ p.octets) (hmax : p.octets ≤ 9216) (hheld : held ≤ rxBuffer)
    (hhigh : s.aboveHigh held = false) (hport : p.port < 4) (hothers : ∀ m ∈ List.range 16, m ≠ n → s.flowOn m = false)
    (haccept : s.acceptLeg n p = some k) :
    ∃ u : State, videoPacket s p held = u.flowPacket n k p ∧ (∀ f : Fld, 0x110000 ≤ f.addr → u.fld f = s.fld f) ∧
      u.live (Fld.addr .ingPkts) = s.live (Fld.addr .ingPkts) ∧ u.cmp = s.cmp ∧ u.ing.flows = s.ing.flows := by
  have hl := State.lt_of_hasSublink hsub
  have hrec : s.receives p.port p.sublink = true := by simp [State.receives, hsub, htest]
  obtain ⟨w, hin, hw⟩ := frameIn_goes (q := p.port) (l := p.sublink) (if isMulticast p.dst then .multicast else .unicast) hl hwake hmin hmax
  obtain ⟨hregs, hlive, hcmp, hflows⟩ := w.takeSlack_facts p.port (min held rxBuffer)
  obtain ⟨u, hu⟩ : ∃ u, w.takeSlack p.port (min held rxBuffer) = u := ⟨_, rfl⟩
  rw [hu] at hregs hlive hcmp hflows
  have hapart : ∀ {a : Nat}, (0x5000 ≤ a ∧ a < 0x100000) ∨ 0x105000 ≤ a → a ∉ linkRegs p.port p.sublink := fun ha hmem =>
    not_mem_portRegs ha (linkRegs_subset (by omega) hl hmem)
  have hflw : ∀ f : Fld, 0x110000 ≤ f.addr → u.fld f = s.fld f := fun f hf =>
    (State.fld_of_reg hregs f).trans (hw.fld (hapart (by omega)))
  have hbelow : u.aboveHigh held = false := by
    rw [State.aboveHigh, State.fld_of_reg hregs, hw.fld (hapart (by simp))]
    exact hhigh
  have htakers := takers_eq (s := u) (p := p) (k := k) hn (fun m hm hne => (State.flowOn_congr hflw m).trans (hothers m hm hne))
    ((State.acceptLeg_congr hflw n p).trans haccept)
  have hpkts : Fld.addr .ingPkts ∉ linkCounters p.port p.sublink := by
    have hpage : netPage p.port = 0x100 + p.port := if_neg (by simp; omega)
    simp [linkCounters, hpage]
    omega
  refine ⟨u, ?_, hflw, hlive.trans (hw.registers.2 _ hpkts), hcmp.trans hw.cmp, by rw [hflows, hw.ing]⟩
  unfold videoPacket
  rw [hfcs, hrec, hin]
  dsimp only
  rw [hu, hbelow, Bool.false_and, if_neg Bool.false_ne_true, htakers]
  simp [Nat.not_lt.mpr hheld]

/-! ### Shedding (R145) -/

/-- The frame in progress of a flow is given up. -/
def FlowState.abandon (f : FlowState) : FlowState := { f with open_ := f.open_.map (fun o => { o with buf := none }) }

/-- The frame that a flow writes as it begins to shed is abandoned and counted. -/
def State.abandonFrame (s : State) (n : Nat) : State :=
  if (match (s.flow n).open_ with
    | some o => o.buf.isSome
    | none => false) then (s.bump (.flwShed n) 1).onFlow n FlowState.abandon
  else s

/-- A flow stands at the end of the list of those that shed. -/
def State.listShed (s : State) (n : Nat) : State := { s with ing.shed := s.ing.shed ++ [n] }

theorem State.beginShed_eq (hnext : s.nextShed = some n) : s.beginShed =
    ((((s.abandonFrame n).setFldBit .ingStatShedding n true).setFld (.flwStatShedding n) 1).listShed n).raise srcIngShed := by
  unfold State.beginShed
  rw [hnext]
  rfl

theorem State.abandonFrame_keeps (s : State) (n : Nat) :
    (s.abandonFrame n).ing.shed = s.ing.shed ∧ ChangesOnly [] [Fld.addr (.flwShed n)] s (s.abandonFrame n) := by
  have hdrop : ∀ v : State, (v.onFlow n FlowState.abandon).ing.shed = v.ing.shed ∧ ∀ {w : State}, ChangesOnly [] [Fld.addr (.flwShed n)] w v →
      ChangesOnly [] [Fld.addr (.flwShed n)] w (v.onFlow n FlowState.abandon) := fun v => ⟨rfl, fun h => h.update⟩
  obtain ⟨hshed, hkeep⟩ := hdrop (s.bump (.flwShed n) 1)
  exact ⟨State.ite_eq (g := fun s : State => s.ing.shed) (by rw [hshed, State.bump_ing]) rfl, .ite (hkeep (.setLive (.refl s))) (.refl s)⟩

/-- The registers that a flow changes as it begins or ends to shed. -/
def shedRegs (n : Nat) : List Nat := [Fld.addr (.flwStatShedding n), Fld.addr .ingStatShedding]

theorem beginShed_sheds (hnext : s.nextShed = some n) :
    ∃ u, s.beginShed = u ∧ u.ing.shed = s.ing.shed ++ [n] ∧ u.fld (.flwStatShedding n) = 1 ∧ u.raised srcIngShed ∧ SameMemories s u := by
  obtain ⟨hshed, hkeep⟩ := s.abandonFrame_keeps n
  obtain ⟨v, hv⟩ : ∃ v, ((s.abandonFrame n).setFldBit .ingStatShedding n true).setFld (.flwStatShedding n) 1 = v := ⟨_, rfl⟩
  have hvshed : v.ing.shed = s.ing.shed := by rw [← hv, State.setFld_ing, State.setFldBit_ing, hshed]
  have hvfld : v.fld (.flwStatShedding n) = 1 := by
    rw [← hv, State.fld_setFld_self _ _ _ (by simp)]
    simp
  have hvkeep : ChangesOnly (shedRegs n) [Fld.addr (.flwShed n)] s v := by
    rw [← hv]
    exact .setFld (.setFldBit (hkeep.mono (List.nil_subset _) (List.Subset.refl _)) (by simp [shedRegs])) (by simp [shedRegs])
  have hlist : (v.listShed n).ing.shed = v.ing.shed ++ [n] ∧ (v.listShed n).fld (.flwStatShedding n) = v.fld (.flwStatShedding n) ∧
      ChangesOnly (shedRegs n) [Fld.addr (.flwShed n)] s (v.listShed n) := ⟨rfl, rfl, hvkeep.update⟩
  obtain ⟨hlisted, hfld, hall⟩ := hlist
  exact ⟨_, by rw [State.beginShed_eq hnext, hv], by rw [State.raise_ing, hlisted, hvshed], by rw [State.fld_raise, hfld, hvfld],
    State.raise_any _ _, hall.raise.memories⟩

/-- The last flow of the list leaves it. -/
def State.unlistShed (s : State) : State := { s with ing.shed := s.ing.shed.dropLast }

theorem shedEnd_eq {xs : List Nat} (hshed : s.ing.shed = xs ++ [n]) (hv : (s.unlistShed.setFldBit .ingStatShedding n false).setFld (.flwStatShedding n) 0 = v) :
    shedEnd s = if v.ing.shed.isEmpty then v.lower srcIngShed else v := by
  subst hv
  have hlast : s.ing.shed.getLast? = some n := by simp [hshed]
  unfold shedEnd
  rw [hlast]
  rfl

theorem shedEnd_ends {xs : List Nat} (hshed : s.ing.shed = xs ++ [n]) :
    ∃ u, shedEnd s = u ∧ u.ing.shed = xs ∧ u.fld (.flwStatShedding n) = 0 ∧ ChangesOnly (shedRegs n) [] s u := by
  obtain ⟨v, hv⟩ : ∃ v, (s.unlistShed.setFldBit .ingStatShedding n false).setFld (.flwStatShedding n) 0 = v := ⟨_, rfl⟩
  have hunlist : s.unlistShed.ing.shed = s.ing.shed.dropLast ∧ ChangesOnly (shedRegs n) [] s s.unlistShed := ⟨rfl, (ChangesOnly.refl s).update⟩
  have hvshed : v.ing.shed = xs := by
    rw [← hv, State.setFld_ing, State.setFldBit_ing, hunlist.1, hshed, List.dropLast_concat]
  have hvfld : v.fld (.flwStatShedding n) = 0 := by
    rw [← hv, State.fld_setFld_self _ _ _ (by simp)]
    exact Nat.zero_mod _
  have hvkeep : ChangesOnly (shedRegs n) [] s v := by
    rw [← hv]
    exact .setFld (.setFldBit hunlist.2 (by simp [shedRegs])) (by simp [shedRegs])
  refine ⟨_, shedEnd_eq hshed hv, ?_⟩
  split
  · exact ⟨hvshed, hvfld, hvkeep.lower⟩
  · exact ⟨hvshed, hvfld, hvkeep⟩

end

theorem videoPacketRx_completes {s : State} {p : VideoPacket} {held n k : Nat} (hn : n < 16) (hsub : s.hasSublink p.port p.sublink = true)
    (htest : s.netTested p.port = false) (hwake : s.wakeOnly = false) (hfcs : p.fcsOk = true) (hmin : 64 ≤ p.octets) (hmax : p.octets ≤ 9216)
    (hheld : held ≤ rxBuffer) (hhigh : s.aboveHigh held = false) (hport : p.port < 4)
    (hothers : ∀ m ∈ List.range 16, m ≠ n → s.flowOn m = false) (haccept : s.acceptLeg n p = some k) :
    Completes (.videoPacketRx p held) s fun t =>
      t.fld (.flwStatState n) = 2 ∧ t.flag (legUpFld n k) = true ∧ t.live (Fld.addr .ingPkts) = s.live (Fld.addr .ingPkts) + 1 ∧
        ∀ (r : Srd) (b bytes px : Nat) (o : OpenFrame), p.srds = [r] → s.srdBad n r = false →
          pgroup (s.fld (.flwFmtSampling n)) (s.fld (.flwFmtDepth n)) = some (bytes, px) →
          (s.flow n).open_ = some o → o.rtp = p.rtp → o.buf = some b → (s.flow n).lastRtp = some p.rtp →
          (s.flag (.flwCtrlDual n) = true → (s.flow n).fresh p.ext) →
          memRead t.dram.mem (s.srdAddr n b px bytes r) r.data.length = r.data := by
  obtain ⟨u, hreach, hflw, hlive, hcmp, hflows⟩ := videoPacket_reaches (s := { s with sent := [], reply := none }) hn hsub htest hwake hfcs hmin hmax
    hheld hhigh hport hothers haccept
  obtain ⟨v, htakes, hstate, hup, hpkts, -, -, -⟩ := flowPacket_takes u n k p
  have htake := takePacket_effect v n k p
  obtain ⟨haddr, -⟩ := legUpFld_facts n k
  obtain ⟨-, hbits⟩ := legUpFld_disjoint n k
  have hconfig : SameConfig n s u := fun f hf _ _ => hflw f hf
  have hflow : u.flow n = s.flow n := by rw [State.flow, State.flow, hflows]
  refine completes_of_effect (f := (videoPacket · p held)) rfl (hreach.trans htakes) ⟨?_, ?_, ?_, ?_⟩
  · exact (htake.status _ rfl (by simp)).trans hstate
  · exact (congrArg (· != 0) (htake.status _ haddr hbits)).trans hup
  · exact htake.packets.trans (hpkts.trans (congrArg (· + 1) hlive))
  · intro r b bytes px o hsrds hbad hgroup hopen hrtp hbuf hlast hfresh
    have hwritten := flowPacket_writes (s := u) (k := k) ((hconfig.srdBad r).trans hbad) (hflow ▸ hopen) hrtp hbuf (hflow ▸ hlast) hsrds
      (hconfig.pgroup.trans hgroup) (fun hdual => hflow ▸ hfresh (hconfig.dual.symm.trans hdual))
    rw [htakes, hconfig.srdAddr (by rw [hcmp])] at hwritten
    exact hwritten

/-- Settles O32. -/
theorem videoPacketsAreWrittenAndShed : Obligations.VideoPacketsAreWrittenAndShed := by
  refine ⟨fun s p held n k hn hsub htest hwake hfcs hmin hmax hheld hhigh hport _ hothers haccept =>
    videoPacketRx_completes hn hsub htest hwake hfcs hmin hmax hheld hhigh hport hothers haccept,
    fun s held n hhigh hsheds hnext => ?_, fun s xs n _ hshed => ?_⟩
  · obtain ⟨u, heffect, hlisted, hfld, hraised, hkeep⟩ := beginShed_sheds (s := { s with sent := [], reply := none }) hnext
    have hescalates : s.aboveHigh held && !s.ing.shed.isEmpty := by simp [hhigh, hsheds]
    exact completes_of_effect (f := fun s => if s.aboveHigh held && !s.ing.shed.isEmpty then s.beginShed else s) rfl
      ((if_pos hescalates).trans heffect) ⟨hlisted, hfld, hraised, hkeep⟩
  · obtain ⟨u, heffect, hlisted, hfld, hkeep⟩ := shedEnd_ends (s := { s with sent := [], reply := none }) hshed
    exact completes_of_effect (f := shedEnd) rfl heffect ⟨hlisted, hfld, hkeep.registers, hkeep.memories⟩

end Sys2Proof.Machine
end

section
/-!
SUPPORT. The exit of wake-pattern-only mode with a profile whose record runs on from the page of CUE into that of MP, which the exit keeps (R59, R127):
what the start of the blocks leaves of MP's WAKESTAT, in a unit that is neither a sender nor a tile, so that no block of a role starts.
-/

namespace Sys2Proof.Machine

/-- A profile, of a kind that R60 refuses, with one record of five words from the last word of CUE's page: the fifth is PAGE_CTRL of MP, with BLKRESET. -/
def crossingProfile : Profile :=
  { seq := 1, role := 3, pair := 0, flags := 0, laneRate := 0, netPorts := 0, dramPop := 1, dramOp := 0, mpCfg := 1, rateNum := 60,
    rateDen := 1, views := 1, rows := 32, subfr := 1, pwmBits := 13, feather := 0, holdLim := 1000, sinkRange := 0, pmbusAdr := 0,
    strokeSrc := 0, sections := [(0x3FFC, [0, 0, 0, 0, 1])] }

/-- What the exit starts from and keeps: the role, WAKESTAT, the profile, no settings record, no test, the life cycle and the update record. -/
structure Waking (w : Word) (s : State) : Prop where
  role : s.fld .devRolestatRole = 3
  wakestat : s.reg (Fld.addr .mpWakestatMagic) = w
  profile : s.boot.profile = some crossingProfile
  flash : s.boot.flash = []
  testing : s.boot.testing = 0
  blown : s.life.blown = stateCopies 2
  upd : s.upd = State.reset.upd

section
variable {s t u : State} {w : Word}

/-! ### The operations of the state -/

theorem Waking.of_eq (h : Waking w s) (hregs : t.regs = s.regs) (hboot : t.boot = s.boot) (hlife : t.life = s.life) (hupd : t.upd = s.upd) :
    Waking w t :=
  ⟨(State.fld_congr hregs _).trans h.role, (State.reg_congr hregs _).trans h.wakestat, by rw [hboot, h.profile], by rw [hboot, h.flash],
    by rw [hboot, h.testing], by rw [hlife, h.blown], by rw [hupd, h.upd]⟩

theorem Waking.setReg {a : Nat} {v : Word} (h : Waking w s) (ha : a ≠ 0x60 ∧ a ≠ 0x4090) : Waking w (s.setReg a v) :=
  ⟨(congrArg (Fld.get _) (s.reg_setReg_ne v ha.1.symm)).trans h.role, (s.reg_setReg_ne v ha.2.symm).trans h.wakestat, h.profile, h.flash,
    h.testing, h.blown, h.upd⟩

theorem Waking.setFld {f : Fld} {v : Nat} (h : Waking w s) (hf : f.addr ≠ 0x60 ∧ f.addr ≠ 0x4090 := by simp; try omega) : Waking w (s.setFld f v) :=
  h.setReg hf

theorem Waking.setFldBit {f : Fld} {i : Nat} {b : Bool} (h : Waking w s) (hf : f.addr ≠ 0x60 ∧ f.addr ≠ 0x4090 := by simp; try omega) :
    Waking w (s.setFldBit f i b) := h.setFld hf

theorem Waking.raise {i : Nat} (h : Waking w s) : Waking w (s.raise i) :=
  h.of_eq (State.raise_regs _ _) (State.raise_boot _ _) (State.raise_life _ _) (State.raise_upd _ _)

theorem Waking.level {i : Nat} {b : Bool} (h : Waking w s) : Waking w (s.level i b) := by
  unfold State.level
  cases b with
  | false => exact h.of_eq rfl rfl rfl rfl
  | true => exact h.raise

theorem Waking.ite {c : Prop} {_ : Decidable c} (ht : Waking w t) (hu : Waking w u) : Waking w (if c then t else u) := by
  split
  · exact ht
  · exact hu

theorem Waking.foldl {α : Type} {f : State → α → State} {l : List α} (h : Waking w s) (hf : ∀ x ∈ l, ∀ v : State, Waking w v → Waking w (f v x)) :
    Waking w (l.foldl f s) :=
  List.foldlRecOn (motive := Waking w) l f h fun v hv x hx => hf x hx v hv

theorem Waking.count {q l i n : Nat} (h : Waking w s) (haddr : Fld.addr (.netStathalfHalf (netPage q) l) ≠ 0x60 ∧
    Fld.addr (.netStathalfHalf (netPage q) l) ≠ 0x4090) : Waking w (s.count q l i n) := by
  have hlive : ∀ (a : Nat) (v : Word), Waking w (s.setLive a v) := fun a v => h.of_eq rfl rfl rfl rfl
  exact .ite (.raise (.setFld (hlive _ _) haddr)) (hlive _ _)

/-- The unit is neither a sender nor a tile. -/
theorem Waking.isSender (h : Waking w s) : s.isSender = false := by rw [State.isSender, h.role]; rfl

theorem Waking.isTile (h : Waking w s) : s.isTile = false := by rw [State.isTile, h.role]; rfl

theorem Waking.lcs (h : Waking w s) : s.lcs = 2 := by
  unfold State.lcs
  rw [h.blown]
  decide

/-! ### The records of the profile (R59) -/

theorem Waking.unitDefaults {pages : Nat → Bool} (h : Waking w s) : Waking w (s.unitDefaults pages) := by
  have hmac : ∀ (q : Nat) (v : State) (m : Nat), Waking w v →
      Waking w ((v.setFld (.netMaclo (netPage q)) m).setFld (.netMachiAddr (netPage q)) (m / 2 ^ 32)) := fun q v m hv =>
    .setFld (.setFld hv)
  have hport : ∀ (q : Nat) (v : State), q < 5 → Waking w v → Waking w (v.bringUpPort q) := fun q v hq hv =>
    hv.setReg (a := Fld.addr (.timPortlatRxlat q)) (by simp; omega)
  unfold State.unitDefaults
  extract_lets mac v1 v2 v3 port
  have h1 : Waking w v1 := h.foldl fun q _ v hv => .ite (hmac q v _ hv) hv
  have h2 : Waking w v2 := .ite (h1.foldl fun q hq v hv => hport q v (List.mem_range.mp hq) hv) h1
  have h3 : Waking w v3 := .ite (.setFld (.setFld h2) (by decide)) h2
  exact h3.foldl fun n _ v hv => .ite (.setFld (.ite hv.setFld hv)) hv

theorem Waking.store {a : Nat} {v : Word} (h : Waking w s) (ha : a ≠ 0x60 ∧ a ≠ 0x4090) : Waking w (s.store a v) := by
  unfold State.store
  split
  · exact h
  · dsimp only
    split
    · split
      · exact .ite (h.setReg ha) h
      · exact h
    · split
      · exact h.setReg ha
      · exact h

/-- Every entry at an address whose page resets it whole is dropped. -/
theorem sparseGet_reset (p : Nat → Bool) (a : Nat) (hpage : p (pageOf a) = true) (hreset : ∀ v, resetWordOf a v = regReset a)
    (m : List (Nat × Word)) : sparseGet regReset (m.filterMap (fun e =>
      if p (pageOf e.1) then
        let w := resetWordOf e.1 e.2
        if w = regReset e.1 then none else some (e.1, w)
      else some e)) a = regReset a := by
  induction m with
  | nil => rfl
  | cons e m ih =>
    obtain ⟨c, v⟩ := e
    rw [List.filterMap_cons]
    by_cases hc : c = a
    · subst hc
      simp only [hpage, if_true, hreset]
      exact ih
    · dsimp only
      split_ifs
      · exact ih
      · simpa [sparseGet, hc] using ih
      · simpa [sparseGet, hc] using ih

/-- Entries of the pages that stay are kept. -/
theorem sparseGet_stay (p : Nat → Bool) (a : Nat) (hpage : p (pageOf a) = false) (m : List (Nat × Word)) :
    sparseGet regReset (m.filterMap (fun e =>
      if p (pageOf e.1) then
        let w := resetWordOf e.1 e.2
        if w = regReset e.1 then none else some (e.1, w)
      else some e)) a = sparseGet regReset m a := by
  induction m with
  | nil => rfl
  | cons e m ih =>
    obtain ⟨c, v⟩ := e
    rw [List.filterMap_cons]
    by_cases hc : c = a
    · subst hc
      simp [hpage, sparseGet]
    · dsimp only
      split_ifs
      · simpa [sparseGet, hc] using ih
      · simpa [sparseGet, hc] using ih
      · simpa [sparseGet, hc] using ih

/-- WAKESTAT has no field that a reset keeps. -/
theorem resetWordOf_wakestat (v : Word) : resetWordOf 0x4090 v = regReset 0x4090 := by
  have hmask : liveMask 0x4090 = 0 := by decide
  have hzero : regReset 0x4090 = 0 := by decide
  unfold resetWordOf
  rw [hmask, hzero]
  simp

theorem Waking.resetPages (h : Waking w s) : Waking 0 (s.resetPages [4].contains) :=
  ⟨(congrArg (Fld.get _) (sparseGet_stay [4].contains 0x60 (by decide) s.regs)).trans h.role,
    (sparseGet_reset [4].contains 0x4090 (by decide) resetWordOf_wakestat s.regs).trans (by decide),
    h.profile, h.flash, h.testing, h.blown, h.upd⟩

theorem Waking.dropSwitch (h : Waking w s) : Waking w s.dropSwitch := by
  have hnone : Waking w { s with boot.switch := none } := ⟨h.role, h.wakestat, h.profile, h.flash, h.testing, h.blown, h.upd⟩
  exact .ite h hnone.setFld

theorem Waking.dropCommit (h : Waking w s) : Waking w (s.dropCommit 4 6) := by
  have hrefuse : ∀ v : State, Waking w v → Waking w (v.refuseCommit 4 6) := fun v hv =>
    Waking.setFld (Waking.setFld (hv.of_eq rfl rfl rfl rfl) (by simp)) (by simp)
  exact .ite (hrefuse _ (h.of_eq rfl rfl rfl rfl)) h

/-- BLKRESET of MP clears WAKESTAT (R39). -/
theorem Waking.blockReset (h : Waking w s) : Waking 0 (Machine.blockReset s 4) := by
  have hdropped : Waking w { s.dropSwitch with access.snapReqs := s.dropSwitch.access.snapReqs.filter (fun p => !([4].contains p)),
                                                access.fences := if [4].contains 0 then [] else s.dropSwitch.access.fences } :=
    h.dropSwitch.of_eq rfl rfl rfl rfl
  exact hdropped.dropCommit.resetPages.unitDefaults

theorem pageInfo_mp : pageInfo 4 = some ⟨.mp, 0x4, 1, 0x5, .both, false, true, 4, 15⟩ := by decide

theorem Waking.gate (h : Waking w s) : s.gate 2 0x400C true = 0 := by
  have hpage : s.noPage 4 = false := by
    simp [State.noPage, h.lcs, h.role, vendorPage, lifePage, pageInfo_mp]
  have hopen : s.denied 2 4 true = false := by simp [State.denied, h.lcs, vendorPage]
  have htest : s.testing 15 = false := by simp [State.testing, h.testing, testBit]
  simp [State.gate, hpage, hopen, htest, pageInfo_mp]

end

end Sys2Proof.Machine
end

section
/-!
SUPPORT. The blocks that start as wake-pattern-only mode ends, with the profile of `crossingProfile` (R127), and the wake frame that ends it.
-/

namespace Sys2Proof.Machine

section
variable {s t u : State} {w : Word} {skip : Nat → Bool}

/-! ### The words of the record (R59) -/

/-- A word of the firmware's for a page that answers and whose register is not shadowed is a plain write. -/
theorem State.writeInit_plain {a : Nat} {v : Word} {p : PageInfo} (hgate : s.gate 2 a true = 0) (hpage : pageInfo (a / 4096) = some p)
    (hanswers : s.answers (a / 4096) = true) (hlive : a % 4096 < 0x40) : s.writeInit a v = headerWrite s (a / 4096) (a % 4096) v := by
  have hbase : s.writeBase 2 a v none = (headerWrite s (a / 4096) (a % 4096) v, 0) := by
    simp [State.writeBase, hpage, hanswers, hlive]
  unfold State.writeInit
  rw [hgate, hanswers, hbase, hpage]
  dsimp only
  rw [if_neg (by simp)]
  split
  · rfl
  · simp [Nat.not_le.mpr hlive]

/-- Whatever a write to the header of MP does, one to an identity register does nothing. -/
theorem Waking.writeIdentity {a : Nat} {v : Word} (h : Waking w s) (ha : a = 0x4000 ∨ a = 0x4004 ∨ a = 0x4008) : Waking w (s.writeInit a v) := by
  have hanswers : s.answers 4 = true := by simp [State.answers, pageInfo_mp]
  by_cases hgate : s.gate 2 a true = 0
  · rcases ha with rfl | rfl | rfl <;> rw [State.writeInit_plain hgate pageInfo_mp hanswers (by decide)] <;> exact h
  · have hrefused : s.writeInit a v = s := if_pos (by simp [hgate])
    rw [hrefused]
    exact h

/-- The last word of CUE's page names no register. -/
theorem Waking.writeLast {v : Word} (h : Waking w s) : Waking w (s.writeInit 0x3FFC v) := by
  have hcue : pageInfo (0x3FFC / 4096) = some ⟨.cue, 0x3, 1, 0x4, .both, false, true, 3, 3⟩ := by decide
  have hnone : findReg .cue (0x3FFC % 4096) = none := by decide
  have hbase : Waking w (s.writeBase 2 0x3FFC v none).1 := by
    have hanswers : s.answers (0x3FFC / 4096) = true := by simp [State.answers, hcue]
    simp only [State.writeBase, hcue, hanswers]
    exact h.store (a := 0x3FFC) (v := v) (by decide)
  unfold State.writeInit
  rw [hcue]
  refine .ite h ?_
  dsimp only
  rw [hnone]
  exact hbase

/-- The word that resets MP clears WAKESTAT. -/
theorem Waking.writeReset (h : Waking w s) : Waking 0 (s.writeInit 0x400C 1) := by
  have hanswers : s.answers 4 = true := by simp [State.answers, pageInfo_mp]
  rw [State.writeInit_plain h.gate pageInfo_mp hanswers (by decide)]
  have heffect : headerWrite s (0x400C / 4096) (0x400C % 4096) 1 = Machine.blockReset (s.store 0x400C 1) 4 := rfl
  rw [heffect]
  exact Waking.blockReset (h.store (by decide))

/-- One record of five words. -/
theorem State.writeRecords_five (s : State) (skip : Nat → Bool) (a : Nat) (w0 w1 w2 w3 w4 : Word) : s.writeRecords skip [(a, [w0, w1, w2, w3, w4])] =
    if skip (a / 4096) then s
    else ((((s.writeInit a w0).writeInit (a + 4) w1).writeInit (a + 8) w2).writeInit (a + 12) w3).writeInit (a + 16) w4 := rfl

theorem Waking.crossing_skipped (h : Waking w s) (hskip : skip 3 = true) : Waking w (s.writeRecords skip crossingProfile.sections) := by
  rw [crossingProfile, State.writeRecords_five, if_pos hskip]
  exact h

theorem Waking.crossing_taken (h : Waking w s) (hskip : skip 3 = false) : Waking 0 (s.writeRecords skip crossingProfile.sections) := by
  have htaken : ¬ skip (0x3FFC / 4096) = true := fun hpage => Bool.false_ne_true (hskip.symm.trans hpage)
  rw [crossingProfile, State.writeRecords_five, if_neg htaken]
  exact (((h.writeLast.writeIdentity (.inl rfl)).writeIdentity (.inr (.inl rfl))).writeIdentity (.inr (.inr rfl))).writeReset

/-! ### STAGE 5 and STAGE 6 (R72, R127) -/

theorem Waking.selfRefresh {sr : Nat} (h : Waking w s) : Waking w (s.selfRefresh sr) :=
  .setFld (h.foldl fun c _ v hv => .setFld (.setFld hv))

theorem Waking.setRefresh {c : Nat} (h : Waking w s) : Waking w (s.setRefresh c) := .setFld (.setFld h)

theorem Waking.setReady {n : Nat} (h : Waking w s) : Waking w { s with boot.ready := n } :=
  ⟨h.role, h.wakestat, h.profile, h.flash, h.testing, h.blown, h.upd⟩

theorem Waking.blocksReady {ltb : Bool} (h : Waking w s) : Waking w (s.blocksReady ltb) := h.setReady

theorem Waking.setBlockpwr {v : Nat} (h : Waking w s) : Waking w (s.setFld .devRolestatBlockpwr v) := by
  have hrole : (s.setFld .devRolestatBlockpwr v).fld .devRolestatRole = 3 := by
    rw [State.fld_setFld_disjoint _ _ _ _ (by decide) (by decide), h.role]
  have hwake : (s.setFld .devRolestatBlockpwr v).reg (Fld.addr .mpWakestatMagic) = w := by
    rw [State.reg_setFld_ne _ _ _ (by decide), h.wakestat]
  exact ⟨hrole, hwake, by rw [State.setFld_boot, h.profile], by rw [State.setFld_boot, h.flash], by rw [State.setFld_boot, h.testing],
    by rw [State.setFld_life, h.blown], by rw [State.setFld_upd, h.upd]⟩

theorem Waking.afterRecords (h : Waking w s) : s.afterRecords = s := by
  simp [State.afterRecords, h.isTile, h.isSender]

theorem Waking.showSets (h : Waking w s) : Waking w s.showSets :=
  .setFld (.setFld (h.foldl fun r hr v hv => by
    have hlt := List.mem_range.mp hr
    exact .setFldBit (.setFld hv)))

theorem Waking.setUpdState {n : Nat} (h : Waking w s) : Waking w (s.setUpdState n) := .setFld (.setFld h)

theorem Waking.startUpdate (h : Waking w s) : Waking w s.startUpdate := by
  have hshow : Waking w s.showUpd := .setFld (.setFld (.setFld (.setFld (.setFld (.setFld (.setFld h))))))
  have hstart : s.startUpdate = s.showUpd.setUpdState 0 := by
    unfold State.startUpdate
    rw [h.upd]
    rfl
  rw [hstart]
  exact hshow.setUpdState

/-- No settings record stands in an erased flash. -/
theorem Waking.settingsFile (h : Waking w s) (prior : Bool) : s.settingsFile prior = none := by
  have hseq : ∀ i, s.settingsSeq prior i = none := fun i => by
    have hmagic : memNat [] (settingsSlot prior i) 4 ≠ 0x53544553 := by
      simp [memNat, memRead, memByte, sparseGet, freshByte]
      decide
    unfold State.settingsSeq
    rw [h.flash]
    simp [settingsOk, TableFile.num, hmagic]
  unfold State.settingsFile State.settingsInForce
  rw [hseq, hseq]
  rfl

/-- The settings of a unit without a settings record are the defaults (R422). -/
theorem Waking.startSettings (h : Waking w s) :
    s.startSettings skip = ((((((s.setFld .devBootstatStage 6).storeSettings false (s.setFld .devBootstatStage 6).defaultSettings none none).setFld
      .devBootstatFail 6).raise srcDevSettingsdef).setFld .updSetstatFormat ((((s.setFld .devBootstatStage 6).storeSettings false
        (s.setFld .devBootstatStage 6).defaultSettings none none).setFld .devBootstatFail 6).raise srcDevSettingsdef).setFmt).setFld
      .updSetstatSource 3) := by
  unfold State.startSettings
  rw [h.settingsFile, h.settingsFile]

theorem Waking.startSettings_reg (h : Waking w s) {a : Nat} (ha : a = 0x60 ∨ a = 0x4090) : (s.startSettings skip).reg a = s.reg a := by
  rw [h.startSettings]
  generalize (s.setFld .devBootstatStage 6).defaultSettings = body
  rcases ha with rfl | rfl <;>
    rw [State.reg_setFld_ne _ _ _ (by decide), State.reg_setFld_ne _ _ _ (by decide), State.reg_raise, State.reg_setFld_ne _ _ _ (by decide),
      State.storeSettings, State.reg_nvWrite _ _ (by decide), State.reg_setFld_ne _ _ _ (by decide)]

/-- The settings and what the fields in force show, at the end of a start. -/
theorem Waking.settled (h : Waking w s) : ((s.startSettings skip).afterRecords).reg (Fld.addr .mpWakestatMagic) = w := by
  have hrole : (s.startSettings skip).fld .devRolestatRole = 3 :=
    (congrArg (Fld.get .devRolestatRole) (h.startSettings_reg (.inl rfl))).trans h.role
  have hsame : (s.startSettings skip).afterRecords = s.startSettings skip := by
    simp [State.afterRecords, State.isTile, State.isSender, hrole]
  rw [hsame, h.startSettings_reg (.inr rfl)]
  exact h.wakestat

/-- STAGE 5 up to the records: DRAM leaves self-refresh and the blocks are powered. -/
theorem Waking.restored {l : List Nat} (h : Waking w s) : Waking w (l.foldl State.setRefresh (s.selfRefresh 0)) :=
  h.selfRefresh.foldl fun _ _ _ hv => hv.setRefresh

/-- What a tile, or a sender, alone does at the start is left out. -/
theorem Waking.no_tile {α : Type} (h : Waking w s) (x y : α) : (if s.isTile then x else y) = y := if_neg (by simp [h.isTile])

theorem Waking.no_sender {α : Type} (h : Waking w s) (x y : α) : (if s.isSender then x else y) = y := if_neg (by simp [h.isSender])

theorem Waking.forceCal (h : Waking w s) : s.forceCal = s := h.no_tile _ _

/-- Neither grain, ports nor a pair start. -/
theorem Waking.startRoles (h : Waking w s) : ((s.startGrain false).startPorts false).startPair false = s := by
  have hgrain : s.startGrain false = s := by simp [State.startGrain, h.isTile]
  have hports : s.startPorts false = s := by simp [State.startPorts, h.isTile, State.crossPort, h.isSender]
  have hpair : s.startPair false = s := by simp [State.startPair, h.isSender]
  rw [hgrain, hports, hpair]

theorem Waking.judgeLinks (h : Waking w s) : Waking w (iterate 5 State.judgeLink { s with flt.sampling := true }) :=
  .foldl (h.of_eq rfl rfl rfl rfl) fun _ _ _ hv => hv.level

/-- The start of the blocks with the exit's kept pages ends with WAKESTAT clear. -/
theorem Waking.startBlocks (h : Waking w s) : (s.startBlocks false false wakeKeeps ⟨[], []⟩).reg (Fld.addr .mpWakestatMagic) = 0 := by
  unfold State.startBlocks
  rw [h.profile]
  split
  next hnone => exact absurd hnone (by simp)
  next p hp =>
    obtain rfl : crossingProfile = p := Option.some.inj hp
    extract_lets skip s0 s1 s2 dram s3 s4 r v0 _ v1 v2 v3 v4 v5 v6 v7 v8 v9 v10 v11 v12 v13
    -- up to DRAM the record of CUE's page is not written
    have h0 : Waking w s0 := h.unitDefaults
    have h1 : Waking w s1 := by rwa [show s1 = s0 from if_neg Bool.false_ne_true]
    have h2 : Waking w s2 := by rwa [show s2 = s1 from if_neg Bool.false_ne_true]
    have h3 : Waking w s3 := h2.crossing_skipped (by decide)
    have h4 : Waking w s4 := h3.setFld
    have hr : r = (s4.channels.foldl State.setRefresh (s4.selfRefresh 0), true) := if_neg Bool.false_ne_true
    have hw0 : Waking w v0 := by
      have hdram : Waking w r.1 := by rw [hr]; exact h4.restored
      exact hdram.blocksReady.setBlockpwr
    have hw1 : Waking w v1 := hw0.judgeLinks
    have hw2 : Waking w v2 := by rwa [show v2 = v1 from if_neg (by simp [hw1.isSender])]
    -- then it is, and the page of CUE is not kept
    have hw3 : Waking 0 v3 := hw2.crossing_taken rfl
    have hw4 : Waking 0 v4 := hw3.setFld
    have hw5 : Waking 0 v5 := by rwa [show v5 = v4 from hw4.no_tile _ _]
    have hw6 : Waking 0 v6 := by rwa [show v6 = v5 from hw5.afterRecords]
    have hw7 : Waking 0 v7 := by rwa [show v7 = v6 from hw6.no_tile _ _]
    have hw8 : Waking 0 v8 := by
      rw [show v8 = v7.showSets from if_neg Bool.false_ne_true]
      exact hw7.showSets
    have hw9 : Waking 0 v9 := by rwa [show v9 = v8 from (if_neg Bool.false_ne_true).trans hw8.forceCal]
    have hw10 : Waking 0 v10 := by rwa [show v10 = v9 from if_neg Bool.false_ne_true]
    have hw11 : Waking 0 v11 := by rwa [show v11 = v10 from if_neg (by simp [hw10.isTile])]
    have hw12 : Waking 0 v12 := by rwa [show v12 = v11 from hw11.startRoles]
    have hw13 : Waking 0 v13 := by rwa [show v13 = v12 from hw12.no_sender _ _]
    have hdone : r.2 = true := by rw [hr]
    rw [if_neg (by simp [hdone])]
    exact hw13.startUpdate.settled

/-- As the mode ends, the record of the profile clears the wake bits. -/
theorem Waking.leaveWake (h : Waking w s) : s.leaveWake.reg (Fld.addr .mpWakestatMagic) = 0 := by
  have hstart : Waking w ((s.setFld .devModestatWakeonly 0).setFld .devBootstatStage 5) := h.setFld.setFld
  unfold State.leaveWake
  rw [State.reg_setFld_ne _ _ _ (by decide)]
  exact hstart.startBlocks

/-- The wake bits are set as the mode ends, and cleared again by the record. -/
theorem Waking.wakeUp (h : Waking w s) (hits : Nat) : (s.wakeUp hits).reg (Fld.addr .mpWakestatMagic) = 0 := by
  have hset : ∀ v, Waking v (s.setReg (Fld.addr .mpWakestatMagic) v) := fun v =>
    ⟨(congrArg (Fld.get _) (s.reg_setReg_ne v (by decide))).trans h.role, s.reg_setReg_self _ v, h.profile, h.flash, h.testing, h.blown, h.upd⟩
  exact (hset _).leaveWake

end

/-- A unit in wake-pattern-only mode with `crossingProfile` in force, set to wake at a magic packet. -/
def wakingState : State :=
  [(Fld.devRolestatRole, 3), (.devModestatWakeonly, 1), (.mpWakecfgMagic, 1)].foldl (fun s x => s.setFld x.1 x.2)
    { State.reset with boot.inReset := false, boot.profile := some crossingProfile, life.blown := stateCopies 2 }

theorem wakingState_waking : Waking 0 wakingState :=
  ⟨by decide, by decide, rfl, rfl, rfl, rfl, rfl⟩

/-- A magic packet: broadcast, with sixteen times the address of a part whose fuses hold 0. -/
def magicFrame : List Byte := List.replicate 12 0xFF ++ List.replicate 102 0

theorem wakeBits_magicFrame : wakingState.wakeBits magicFrame = 1 := by decide

/-- In the mode a wake frame is counted and ends it. -/
theorem wakeFrame_wakes {s : State} {frame : List Byte} (hmode : s.wakeOnly = true) (hhits : s.wakeBits frame ≠ 0) :
    wakeFrame s frame true = ((s.count 4 0 1 1).count 4 0 0 (frame.length + 4)).wakeUp (s.wakeBits frame) := by
  have hdue : s.wakeDue = false := by simp [State.wakeDue, hmode]
  simp [wakeFrame, hmode, hdue, hhits]

/-- The magic packet leaves WAKESTAT clear in the unit with `crossingProfile`. -/
theorem wakeFrameRx_clears {t : State} (hexec : exec (.wakeFrameRx magicFrame true) wakingState = .next t) :
    t.reg (Fld.addr .mpWakestatMagic) = 0 := by
  obtain ⟨s, hs⟩ : ∃ s : State, { wakingState with sent := [], reply := none } = s := ⟨_, rfl⟩
  have hwaking : Waking 0 s := hs ▸ wakingState_waking.of_eq rfl rfl rfl rfl
  have hmode : s.wakeOnly = true := hs ▸ (show wakingState.wakeOnly = true by decide)
  have hbits : s.wakeBits magicFrame = 1 := hs ▸ wakeBits_magicFrame
  have hcounted : Waking 0 ((s.count 4 0 1 1).count 4 0 0 (magicFrame.length + 4)) := (hwaking.count (by decide)).count (by decide)
  have hwakes := wakeFrame_wakes (frame := magicFrame) hmode (by rw [hbits]; decide)
  have hrun : exec (.wakeFrameRx magicFrame true) wakingState = run wakingState (wakeFrame · magicFrame true) := rfl
  rw [hrun, run_next, hs, hwakes] at hexec
  obtain rfl := Host.Outcome.next.inj hexec
  exact hcounted.wakeUp _

/-- Refutes O30: its clause on a wake frame fails in a state that no profile of a file gives. The clause speaks of every state, and the exit of the mode
writes SECTIONS again but for the pages that have stayed powered (R127), where the model judges a record by the page of its first word. The one record
of `crossingProfile` begins in the last word of CUE's page and ends with BLKRESET of MP, so that WAKESTAT reads 0 after the magic packet, and not its
bit. R59 and R60 refuse a record that crosses the end of its page, and a ROLE of 3: the clause lacks the premise that the profile in force has
passed them. -/
theorem not_mpTakesModesAndFrames : ¬ Obligations.MpTakesModesAndFrames := by
  intro h
  obtain ⟨-, -, -, hwake, -⟩ := h
  obtain ⟨t, hexec, -, -, hstat, -⟩ := hwake wakingState magicFrame (by decide) (by rw [wakeBits_magicFrame]; decide)
  have hbits : (Word.ofNat (wakingState.wakeBits magicFrame)) = 1 := by rw [wakeBits_magicFrame]; rfl
  rw [wakeFrameRx_clears hexec, hbits, wakingState_waking.wakestat] at hstat
  exact absurd hstat (by decide)

end Sys2Proof.Machine
end
